-- ==== Sys2Proof/Word.lean ====
section
/-!
DEFINITION. The word and byte types of the KT-3128 and their plainest arithmetic: little-endian bytes (R7, R17),
bit ranges (R4), saturating counters and the range of a signed 32-bit word.
-/
namespace Sys2Proof

/-- One byte. -/
abbrev Byte := BitVec 8

/-- A 32-bit register word (R7), or the raw 32-bit pattern of a signal. -/
abbrev Word := BitVec 32

/-- A byte string, lowest address first. -/
abbrev Bytes := List Byte

/-- The byte at position `i` of a byte string; 0 beyond its end. -/
def byteAt (bs : Bytes) (i : Nat) : Nat := (bs.getD i 0).toNat

/-- Little-endian unsigned 16-bit field at byte `i` (R17). -/
def u16At (bs : Bytes) (i : Nat) : Nat := byteAt bs i + 256 * byteAt bs (i + 1)

/-- Little-endian unsigned 24-bit field at byte `i`. -/
def u24At (bs : Bytes) (i : Nat) : Nat := u16At bs i + 65536 * byteAt bs (i + 2)

/-- Little-endian unsigned 32-bit field at byte `i` (R17). -/
def u32At (bs : Bytes) (i : Nat) : Nat := u16At bs i + 65536 * u16At bs (i + 2)

/-- The two's-complement reading of an `n`-bit pattern. -/
def toSigned (n : Nat) (v : Nat) : Int :=
  if v % 2 ^ n < 2 ^ (n - 1) then (v % 2 ^ n : Nat) else (v % 2 ^ n : Nat) - (2 ^ n : Nat)

/-- The `n`-bit two's-complement pattern of an integer. -/
def ofSigned (n : Nat) (v : Int) : Nat := (v % (2 ^ n : Nat)).toNat

/-- Signed 32-bit field at byte `i`. -/
def i32At (bs : Bytes) (i : Nat) : Int := toSigned 32 (u32At bs i)

/-- Signed 16-bit field at byte `i`. -/
def i16At (bs : Bytes) (i : Nat) : Int := toSigned 16 (u16At bs i)

/-- The bit range [hi:lo] of a number (R4). -/
def bitsOf (v hi lo : Nat) : Nat := (v >>> lo) % 2 ^ (hi + 1 - lo)

/-- Bit `i` of a number, as 0 or 1. -/
def bitNat (v i : Nat) : Nat := if v.testBit i then 1 else 0

/-- 0 or 1 for a flag. -/
def b2n (b : Bool) : Nat := if b then 1 else 0

/-- A number with bit `i` set. -/
def setBit (v i : Nat) : Nat := v ||| (1 <<< i)

/-- A number with bit `i` cleared. -/
def clearBit (v i : Nat) : Nat := (v ||| 2 ^ i) ^^^ 2 ^ i

/-- A number without the bits that are set in `m`. -/
def clearMask (v m : Nat) : Nat := v ^^^ (v &&& m)

/-- The `n` little-endian bytes of a number. -/
def leBytes : Nat → Nat → Bytes
  | 0, _ => []
  | n + 1, v => BitVec.ofNat 8 v :: leBytes n (v / 256)

/-- The `n` little-endian bytes of an integer in two's complement. -/
def leBytesI (n : Nat) (v : Int) : Bytes := leBytes n (ofSigned (8 * n) v)

/-- `n` zero bytes. -/
def zeros (n : Nat) : Bytes := List.replicate n 0

/-- The number a little-endian byte string stands for. -/
def leNat : Bytes → Nat
  | [] => 0
  | b :: bs => b.toNat + 256 * leNat bs

/-- The number a byte string stands for, most significant byte first (R80). -/
def beNat (bs : Bytes) : Nat := bs.foldl (fun a b => 256 * a + b.toNat) 0

/-- The `n` bytes of a number, most significant byte first (R80, R250). -/
def beBytes (n v : Nat) : Bytes := (leBytes n v).reverse

/-- `n` bytes of a byte string from byte `i`. -/
def slice (bs : Bytes) (i n : Nat) : Bytes := (bs.drop i).take n

/-- A saturating counter of `n` bits counting up by `k`. -/
def satAdd (n v k : Nat) : Nat := min (v + k) (2 ^ n - 1)

/-- Clamp of an integer to [lo, hi]. -/
def clampI (lo hi v : Int) : Int := max lo (min hi v)

/-- An integer held in the range of a signed 32-bit word (R24). -/
def clamp32 (v : Int) : Int := clampI (-2147483648) 2147483647 v

/-- Half-away-from-zero rounding of the quotient `a / b` for `b > 0`. -/
def divRound (a : Int) (b : Nat) : Int :=
  if a < 0 then -(((2 * a.natAbs + b) / (2 * b) : Nat) : Int) else (((2 * a.natAbs + b) / (2 * b) : Nat) : Int)

/-- Quotient `a / b` rounded toward zero. -/
def divTrunc (a : Int) (b : Nat) : Int := Int.tdiv a b

/-- A list with the element at `i` replaced by its image; unchanged when `i` is beyond the end. -/
def updAt {α : Type} : List α → Nat → (α → α) → List α
  | [], _, _ => []
  | x :: xs, 0, f => f x :: xs
  | x :: xs, n + 1, f => x :: updAt xs n f

/-- The value under a key in an association list, if any. -/
def assocGet {α : Type} : List (Nat × α) → Nat → Option α
  | [], _ => none
  | (k, v) :: r, n => if k = n then some v else assocGet r n

/-- An association list in rising key order with the value under `n` set. -/
def assocPut {α : Type} : List (Nat × α) → Nat → α → List (Nat × α)
  | [], n, v => [(n, v)]
  | (k, w) :: r, n, v =>
    if n < k then (n, v) :: (k, w) :: r else if n = k then (n, v) :: r else (k, w) :: assocPut r n v

/-- An association list without the key `n`. -/
def assocDel {α : Type} (m : List (Nat × α)) (n : Nat) : List (Nat × α) := m.filter (fun e => e.1 ≠ n)

end Sys2Proof
end

