-- ==== Sys2Proof/Parts.lean ====
section
/-!
DEFINITION. The parts of the KT-3128 by name (lanes, units, islands: R2, R8), containers with one entry per part, and the
types of the commands' operands: what crosses into the block from outside it.
-/
namespace Sys2Proof

/-- The three lanes (R2); also the three planes, one per lane (R245). -/
inductive LaneId where
  | a | b | c
  deriving DecidableEq, Repr

/-- The 10BASE-T1S segments of a plane (R2): 8 on planes A and B, 4 on plane C. -/
def planeSegs (l : LaneId) : Nat := if l = .c then 4 else 8

/-- The six power islands (R185). -/
inductive IslandId where
  | i1 | i2 | i3 | i4 | i5 | i6
  deriving DecidableEq, Repr

/-- The two feedback units (R212). -/
inductive FbId where
  | fb1 | fb2
  deriving DecidableEq, Repr

/-- The two safety-I/O units (R229). -/
inductive SioId where
  | sio1 | sio2
  deriving DecidableEq, Repr

/-- The ten units (R2). -/
inductive UnitId where
  | isl (i : IslandId)
  | fb (f : FbId)
  | sio (x : SioId)
  deriving DecidableEq, Repr

/-- The two power buses (R384). -/
inductive BusId where
  | vp1 | vp2
  deriving DecidableEq, Repr

/-- An agent with a tick of its own (R52). -/
inductive Agent where
  | lane (l : LaneId)
  | unit (u : UnitId)
  deriving DecidableEq, Repr

/-- A block with event sources of its own (R363). -/
inductive Holder where
  | lane (l : LaneId)
  | unit (u : UnitId)
  | polvin
  deriving DecidableEq, Repr

/-- One value per lane. -/
structure Tri (α : Type) where
  a : α
  b : α
  c : α
  deriving DecidableEq, Repr

/-- One value per island. -/
structure Six (α : Type) where
  i1 : α
  i2 : α
  i3 : α
  i4 : α
  i5 : α
  i6 : α
  deriving DecidableEq, Repr

/-- One value for each of two like units. -/
structure Two (α : Type) where
  p : α
  q : α
  deriving DecidableEq, Repr

/-- One value per unit. -/
structure Ten (α : Type) where
  isl : Six α
  fb : Two α
  sio : Two α
  deriving DecidableEq, Repr

namespace Tri
variable {α : Type}
/-- The entry of a lane. -/
def get (t : Tri α) : LaneId → α
  | .a => t.a | .b => t.b | .c => t.c
/-- The entries with one lane's replaced. -/
def set (t : Tri α) (l : LaneId) (v : α) : Tri α :=
  match l with
  | .a => { t with a := v } | .b => { t with b := v } | .c => { t with c := v }
/-- The same value for every lane. -/
def all (v : α) : Tri α := ⟨v, v, v⟩
/-- Every entry mapped. -/
def map {β : Type} (t : Tri α) (f : α → β) : Tri β := ⟨f t.a, f t.b, f t.c⟩
/-- The entries in lane order. -/
def toList (t : Tri α) : List α := [t.a, t.b, t.c]
end Tri

namespace Six
variable {α : Type}
/-- The entry of an island. -/
def get (t : Six α) : IslandId → α
  | .i1 => t.i1 | .i2 => t.i2 | .i3 => t.i3 | .i4 => t.i4 | .i5 => t.i5 | .i6 => t.i6
/-- The entries with one island's replaced. -/
def set (t : Six α) (i : IslandId) (v : α) : Six α :=
  match i with
  | .i1 => { t with i1 := v } | .i2 => { t with i2 := v } | .i3 => { t with i3 := v }
  | .i4 => { t with i4 := v } | .i5 => { t with i5 := v } | .i6 => { t with i6 := v }
/-- The same value for every island. -/
def all (v : α) : Six α := ⟨v, v, v, v, v, v⟩
/-- The entries in island order. -/
def toList (t : Six α) : List α := [t.i1, t.i2, t.i3, t.i4, t.i5, t.i6]
end Six

namespace Two
variable {α : Type}
/-- The same value for both. -/
def all (v : α) : Two α := ⟨v, v⟩
/-- The entry of a feedback unit. -/
def getF (t : Two α) : FbId → α
  | .fb1 => t.p | .fb2 => t.q
/-- The entries with one feedback unit's replaced. -/
def setF (t : Two α) (f : FbId) (v : α) : Two α :=
  match f with
  | .fb1 => { t with p := v } | .fb2 => { t with q := v }
/-- The entry of a safety-I/O unit. -/
def getS (t : Two α) : SioId → α
  | .sio1 => t.p | .sio2 => t.q
/-- The entries with one safety-I/O unit's replaced. -/
def setS (t : Two α) (x : SioId) (v : α) : Two α :=
  match x with
  | .sio1 => { t with p := v } | .sio2 => { t with q := v }
/-- The entry of a power bus. -/
def getB (t : Two α) : BusId → α
  | .vp1 => t.p | .vp2 => t.q
/-- The entries with one power bus's replaced. -/
def setB (t : Two α) (b : BusId) (v : α) : Two α :=
  match b with
  | .vp1 => { t with p := v } | .vp2 => { t with q := v }
end Two

namespace Ten
variable {α : Type}
/-- The entry of a unit. -/
def get (t : Ten α) : UnitId → α
  | .isl i => t.isl.get i | .fb f => t.fb.getF f | .sio x => t.sio.getS x
/-- The entries with one unit's replaced. -/
def set (t : Ten α) (u : UnitId) (v : α) : Ten α :=
  match u with
  | .isl i => { t with isl := t.isl.set i v }
  | .fb f => { t with fb := t.fb.setF f v }
  | .sio x => { t with sio := t.sio.setS x v }
/-- The same value for every unit. -/
def all (v : α) : Ten α := ⟨Six.all v, Two.all v, Two.all v⟩
/-- The entries in unit order 0x4 to 0xD. -/
def toList (t : Ten α) : List α := t.isl.toList ++ [t.fb.p, t.fb.q, t.sio.p, t.sio.q]
end Ten

/-- The lanes in order. -/
def allLanes : List LaneId := [.a, .b, .c]

/-- The islands in order. -/
def allIslands : List IslandId := [.i1, .i2, .i3, .i4, .i5, .i6]

/-- The units in the order of their codes 0x4 to 0xD (R8). -/
def allUnits : List UnitId :=
  [.isl .i1, .isl .i2, .isl .i3, .isl .i4, .isl .i5, .isl .i6, .fb .fb1, .fb .fb2, .sio .sio1, .sio .sio2]

/-- Lane number 0 (A), 1 (B), 2 (C). -/
def LaneId.idx : LaneId → Nat
  | .a => 0 | .b => 1 | .c => 2

/-- Unit code of a lane, 0x1 to 0x3 (R8); also its LANE code of R18. -/
def LaneId.code (l : LaneId) : Nat := l.idx + 1

/-- The lane of a unit code, or of the LANE field of R18. -/
def LaneId.ofCode : Nat → Option LaneId
  | 1 => some .a | 2 => some .b | 3 => some .c | _ => none

/-- Island number 0 to 5. -/
def IslandId.idx : IslandId → Nat
  | .i1 => 0 | .i2 => 1 | .i3 => 2 | .i4 => 3 | .i5 => 4 | .i6 => 5

/-- The power bus of an island (R185). -/
def IslandId.bus : IslandId → BusId
  | .i1 | .i3 | .i5 => .vp1
  | .i2 | .i4 | .i6 => .vp2

/-- 1 for I5 and I6, the valve islands (R185). -/
def IslandId.isValve : IslandId → Bool
  | .i5 | .i6 => true
  | _ => false

/-- Half-bridges of an island: 3 in a motor island, 6 in a valve island (R185). -/
def IslandId.legs (i : IslandId) : Nat := if i.isValve then 6 else 3

/-- The island that takes over the load (R32). -/
def IslandId.sibling : IslandId → IslandId
  | .i1 => .i2 | .i2 => .i1 | .i3 => .i4 | .i4 => .i3 | .i5 => .i6 | .i6 => .i5

/-- Number 0 or 1 of a feedback unit. -/
def FbId.idx : FbId → Nat
  | .fb1 => 0 | .fb2 => 1

/-- Number 0 or 1 of a safety-I/O unit. -/
def SioId.idx : SioId → Nat
  | .sio1 => 0 | .sio2 => 1

/-- Unit number u = unit code - 0x4 (R74). -/
def UnitId.idx : UnitId → Nat
  | .isl i => i.idx
  | .fb f => 6 + f.idx
  | .sio x => 8 + x.idx

/-- Unit code 0x4 to 0xD (R8). -/
def UnitId.code (u : UnitId) : Nat := u.idx + 4

/-- The unit of a unit code (R8). -/
def UnitId.ofCode : Nat → Option UnitId
  | 4 => some (.isl .i1) | 5 => some (.isl .i2) | 6 => some (.isl .i3) | 7 => some (.isl .i4)
  | 8 => some (.isl .i5) | 9 => some (.isl .i6) | 10 => some (.fb .fb1) | 11 => some (.fb .fb2)
  | 12 => some (.sio .sio1) | 13 => some (.sio .sio2) | _ => none

/-- How a register-service frame arrived (R403): an SREQ slot of a plane, or the service port. -/
inductive Via where
  | plane (p : LaneId)
  | port
  deriving DecidableEq, Repr

/-- The writer of a register: its partner ID and the path its frame took (R411). -/
structure Writer where
  id : Nat
  via : Via
  deriving DecidableEq, Repr

/-- What an island samples at the PWM trough (R57, R188, R192): leg currents in 10 mA or coil currents in mA, bus voltage
and DC-link current in 10 mV and 10 mA, bridge temperature in 0.1 °C, chopper current in 10 mA, the chopper energy of its
model in 10 J, and the legs whose bootstrap stands below 10.5 V and below 8.5 V. -/
structure IslandSample where
  m : List Int
  vbus : Nat
  ibus : Int
  tbr : Int
  ich : Nat
  energy : Nat
  bsuv : Nat
  bslo : Nat
  deriving DecidableEq, Repr

/-- What a safety-I/O unit samples at a tick boundary (R57, R233, R238, R402): the 12-bit codes of its 24 inputs, and per
supply its output voltage in mV, its current in mA and whether it is in current limit. -/
structure SioSample where
  codes : List Nat
  vout : List Nat
  iout : List Nat
  limit : Nat
  feed : Nat
  pathL : Bool
  pathC : Bool
  deriving DecidableEq, Repr

/-- The agent at whose tick boundary TICK_BOUNDARY falls, with what it samples there. A lane samples its own input voltage
in 10 mV and the level of its wake input. -/
inductive TickSample where
  | lane (l : LaneId) (vl : Nat) (wakePin : Bool)
  | island (i : IslandId) (smp : IslandSample)
  | fb (f : FbId) (feed : Nat)
  | sio (x : SioId) (smp : SioSample)
  deriving DecidableEq, Repr

/-- One access carried by a register symbol (R404). -/
structure RegAcc where
  addr : Nat
  isWrite : Bool
  value : Word
  mask : Word
  deriving DecidableEq, Repr

/-- An error found as a memory is read (R322, R324): the memory, the byte address or 64-bit word address, and the bits that came out turned,
each with its position and whether it is a check bit. -/
structure MemErr where
  m : Nat
  addr : Nat
  bits : List (Nat × Bool)
  deriving DecidableEq, Repr

/-- A fault of the lane's own hardware found in its tick work (R312 to R325): a command block or payload whose mirror
differs, a block or a payload's mirror copy not posted in time, a round-rate cell that has not run at +49.0 µs of the tick (R305), a cell output with
a bit turned, a bit of a core's register that turns in all it holds (R309), and the memory errors of one clock. -/
inductive Upset where
  | mirrorBlock (u : UnitId)
  | mirrorSlot (plane slot : Nat)
  | late (u : UnitId)
  | lateSlot (slot : Nat)
  | cut (i : Nat)
  | cell (i : Nat) (mirror : Bool) (out bit : Nat)
  | reg (core r bit : Nat)
  | mem (errs : List MemErr)
  deriving DecidableEq, Repr

/-- What a verdict check comes upon (R29, R317): the upsets of its recomputations (in lane C the second engine is the mirror run) and the
blocks of canvas memory that read other than written. -/
structure CheckFinds where
  upsets : List Upset
  read : List (Nat × Bytes)
  deriving DecidableEq, Repr

/-- What a lane reads back of stored code (R94): none where it is what was stored. -/
structure CodeRead where
  lane : LaneId
  code : Option Bytes
  deriving DecidableEq, Repr

/-- A lane, and whether what the command brings met an error on its way. -/
structure LaneErr where
  lane : LaneId
  err : Bool
  deriving DecidableEq, Repr

/-- A request payload and the ns after the lane's tick boundary at which it was there (R70, R408). -/
structure ReqFrame where
  payload : Bytes
  arrive : Nat
  deriving DecidableEq, Repr

/-- What the peer sends in the join exchange on the service port (R338, R348): its ID, MSG1 and MSG3. -/
structure SessionMsgs where
  peer : Nat
  msg1 : Bytes
  msg3 : Bytes
  deriving DecidableEq, Repr

/-- A frame as a lane receives it (R250, R254): plane and medium of arrival, whether its FCS was right and no collision
occurred, its bytes from the destination address to the end of the padding, and its arrival in ns from the cycle start. -/
structure RxFrame where
  plane : LaneId
  medium : Nat
  fcsOk : Bool
  bytes : Bytes
  arrive : Int
  deriving DecidableEq, Repr

/-- A SENT frame as received (R223): calibration pulse and nibble pulses in units of 0.1 clock tick of STK, and the µs
before the coming tick boundary at which it ended. -/
structure SentRx where
  cal : Nat
  nibbles : List Nat
  before : Nat
  deriving DecidableEq, Repr

/-- What a resolver's windings show at consecutive updates of its tracking converter (R220): the electrical angle in 1/65 536 turn, the winding
voltage at its peak for the excitation voltage, in 1/1024, the phase shift of resolver and cable in 1/65 536 excitation period, the 160 MHz
timestamp of the first update from the start of the tick, and the number of updates, 200 ns apart. -/
structure ConvUpdate where
  angle : Nat
  ratio : Nat
  shift : Nat
  time : Nat
  reps : Nat
  deriving DecidableEq, Repr

/-- A wake source of R393. -/
inductive WakeSource where
  | pin | can | timer | link | supply
  deriving DecidableEq, Repr

/-- A power domain of R385. -/
inductive Domain where
  | laneMain (l : LaneId)
  | unit (u : UnitId)
  | plane (p : LaneId)
  | polvin
  deriving DecidableEq, Repr

/-- A domain's state (R385). -/
inductive DomState where
  | on | retention | off
  deriving DecidableEq, Repr

end Sys2Proof
end

