-- ==== Sys2Proof/Syntax.lean ====
section
/-!
DEFINITION. The commands of the KT-3128, one constructor per row of spec/opcode_table.json. An operand carries what crosses
into the block from outside it at that step: samples, received bytes, the outcome of a physical process. A received block or
symbol that is `none` is the one its sender posted, as the state holds it.
-/
namespace Sys2Proof

/-- The commands. Times are in ns where no unit is named; register words are raw 32-bit values. -/
inductive Instr where
  -- ticks, rounds and crossings
  /-- TICK_BOUNDARY (R57): the tick boundary of one lane or unit, with what it samples. -/
  | tickBoundary (smp : TickSample)
  /-- TICK_MARK_ARRIVAL (R58): lane l's mark reaches unit u with its TICK, at a time in ns by the unit's reference. -/
  | tickMarkArrival (u : UnitId) (l : LaneId) (rx : Option Nat) (arrival : Int)
  /-- ROUND_BOUNDARY (R52): the round boundary of one agent; `turned`: the tasks, by core and number, whose primary signature an upset
  turned in a lane A or B (R314). -/
  | roundBoundary (ag : Agent) (turned : List (Nat × Nat))
  /-- MEASUREMENT_BLOCK (R19): lane l receives unit u's block; complete after +3.0 µs (late); a field STALE. -/
  | measurementBlock (l : LaneId) (u : UnitId) (rx : Option Bytes) (late stale : Bool)
  /-- COMMAND_BLOCK (R18): unit u receives lane l's block; `stale` has one bit per word still STALE (R65). -/
  | commandBlock (u : UnitId) (l : LaneId) (rx : Option Bytes) (stale : Nat)
  /-- REGISTER_SYMBOL (R404): the register accesses lane l forwards reach unit u. -/
  | registerSymbol (u : UnitId) (l : LaneId) (rx : Option (List RegAcc))
  /-- EVENT_SYMBOL (R373): unit u's event symbol reaches lane l: `rx` its nine bytes and `crc` its CRC-16, each as it arrived or as the unit
  sends it. -/
  | eventSymbol (l : LaneId) (u : UnitId) (rx : Option Bytes) (crc : Option Nat)
  /-- COMMAND_DEADLINE (R25): +36 µs in unit u. -/
  | commandDeadline (u : UnitId)
  /-- VOTER_SELF_TEST (R31): the voter's test in unit u, and whether the result was right. -/
  | voterSelfTest (u : UnitId) (ok : Bool)
  /-- MISSING_WITHDRAWAL (R27): unit u withdraws the lanes that were missing for 8 consecutive ticks. -/
  | missingWithdrawal (u : UnitId)
  -- tick work and self-checks
  /-- TICK_WORK_START (R305): +3.0 µs in lane l, with the upsets of its hardware in this tick. -/
  | tickWorkStart (l : LaneId) (upsets : List Upset)
  /-- POSTING_DEADLINE (R312): +35.0 µs in lane l; `miss`: one bit per engine of lane C that counted one entry too many (R319). -/
  | postingDeadline (l : LaneId) (miss : Nat)
  /-- ROUND_OVERRUN (R305): round work of lane l not complete. -/
  | roundOverrun (l : LaneId)
  /-- VERDICT_CHECK (R29, R317): lane l's check of a disputed tick, with what it comes upon. -/
  | verdictCheck (l : LaneId) (finds : CheckFinds)
  /-- ENGINE_TEST (R320): lane C's engine self-test, with the engines that failed. -/
  | engineTest (failed : Nat)
  /-- READBACK_CRC (R321): one block of lane C's canvas memory read back: the bytes read, or as they were written. -/
  | readbackCrc (read : Option Bytes)
  -- modes and stops
  | tightropeLimit (l : LaneId)
  | standstill (l : LaneId)
  | backstop (i : IslandId)
  | startupTimeout (l : LaneId)
  -- lane life and the canvas
  | suppliesGood (l : LaneId)
  | laneReset (l : LaneId)
  | clockSwitch (l : LaneId)
  | signatureVerdict (l : LaneId)
  | polvinTimeout (l : LaneId)
  /-- TRANSLATION_DONE (R84): what is read back of the cached code (R94), and of the code kept through RETENTION (R390), where it is not what
  was stored. -/
  | translationDone (l : LaneId) (cached kept : Option Bytes)
  | retryingEntry (l : LaneId)
  /-- RESTART_DONE (R96): with what is read back of the cached code. -/
  | restartDone (rd : CodeRead)
  | restartTimeout (l : LaneId)
  /-- RETIREMENT_RECORD_WRITE (R378): `answered`: the Polvin core confirmed the record. -/
  | retirementRecordWrite (l : LaneId) (answered : Bool)
  | commitTarget (l : LaneId)
  -- the register service
  /-- SERVICE_REQUEST (R408): a request payload of a partner, as it reached lane l. -/
  | serviceRequest (l : LaneId) (sender : Nat) (via : Via) (req : ReqFrame)
  /-- STREAM_FRAME (R407). -/
  | streamFrame (l : LaneId) (sender : Nat) (via : Via) (payload : Bytes)
  | serviceReply (l : LaneId) (via : Via)
  /-- REGISTER_WRITE (R13): at a lane's round boundary. `err`: what the lane asks of the Polvin core arrives malformed (R367). -/
  | registerWrite (m : LaneErr)
  -- registers with a row of their own
  | go (ag : Agent)
  | abort (ag : Agent)
  | start (l : LaneId)
  | slotErased (l : LaneId)
  /-- CNV_WIN_WRITE (R106): a word at a byte offset of the mapped page. -/
  | cnvWinWrite (l : LaneId) (offset : Nat) (value : Word)
  | check (l : LaneId)
  /-- CHECK_DONE (R98): the check of a pending image; `vectorsOk` as in TRANSLATION_DONE. -/
  | checkDone (l : LaneId) (code : Option Bytes)
  | loadAbort (l : LaneId)
  /-- CNV_CMT (R99): HASH, the first 16 bits of the pending hash, and DELAY, the rounds until the target; `logOk`: the
  provenance log entry could be written (R355). -/
  | cnvCmt (l : LaneId) (hash delay : Nat) (logOk : Bool)
  | svcreq (l : LaneId) (sender : Nat)
  | svcexit (l : LaneId) (sender : Nat)
  | spclaim (l : LaneId)
  | sprel (l : LaneId) (succ : Nat)
  | sketch (l : LaneId) (sender : Nat)
  -- ceremonies: commands of SEC_CTRL with their writer (R342)
  | newchal (w : Writer)
  | enrol (w : Writer)
  | rotate (w : Writer)
  | passwd (w : Writer)
  | unlock (w : Writer)
  | lockoutEnd
  | unlockExpiry
  | challengeExpiry
  | lock (w : Writer)
  | varnish (w : Writer)
  | strip (w : Writer)
  | cert (w : Writer)
  | bkey (w : Writer)
  | ceremonyDone (logOk : Bool)
  /-- UNRETIRE (R359): SEC_RETIRE.CLR with one bit per lane. -/
  | unretire (w : Writer) (mask : Nat)
  /-- ATTESTATION_REQUEST (R357): one word of the nonce, the fourth starting the report. -/
  | attestationRequest (index : Nat) (value : Word)
  | reportReady
  -- island and unit registers
  | clrbf (i : IslandId)
  | clrcf (i : IslandId)
  | clrlatch (i : IslandId)
  | rearmRequest (i : IslandId)
  | supplyRestart (x : SioId) (p : Nat)
  | compareArm (f : FbId) (c e : Nat) (ctl : Word)
  | comparePositionWrite (f : FbId) (c e : Nat) (p : Word)
  -- data movers and events
  | ringStart (l : LaneId) (r : Nat)
  | ringStop (l : LaneId) (r : Nat)
  | ringClr (l : LaneId) (r : Nat)
  | force (h : Holder) (src : Nat)
  | severeClear (h : Holder) (src : Nat)
  | clrce (l : LaneId)
  | windowExpiry (h : Holder) (src : Nat)
  -- the Carousel
  | frameReceive (l : LaneId) (f : RxFrame)
  | beaconReceive (l : LaneId) (f : RxFrame)
  | listenExpiry (l : LaneId)
  | beaconLost (l : LaneId)
  /-- SLOT_TRANSMIT (R258): `depart`: ns into the cycle, as the plane's guardian times it (R259). -/
  | slotTransmit (l : LaneId) (slot : Nat) (depart : Int)
  | joinMsg1 (l : LaneId) (f : RxFrame)
  | joinMsg3 (l : LaneId) (f : RxFrame)
  | joinMsg2 (l : LaneId) (peer : Nat)
  | joinMsg4 (l : LaneId) (peer : Nat)
  | keyEpochAdvance
  | cyclePoint (l : LaneId) (k : Nat)
  | rmVacant (l : LaneId)
  /-- SESSION_OPEN (R338): the join exchange on the service port, as the peer conducts it. -/
  | sessionOpen (msgs : SessionMsgs)
  | sessionEnd
  /-- GUIDANCE_SYSTEM_COMMAND (R278): source address, eight data bytes, none where the frame met a bus error. -/
  | guidanceSystemCommand (l : LaneId) (sa : Nat) (data : Option Bytes)
  /-- ADDRESS_CLAIM (R277): the port of a lane claims its address. `err`: the frame met a bus error. -/
  | addressClaim (m : LaneErr)
  /-- REQUEST_FOR_ADDRESS_CLAIMED (R277): `err` as in ADDRESS_CLAIM. -/
  | requestForAddressClaimed (m : LaneErr)
  | canBusoff (l : LaneId)
  /-- FD_FRAME (R276): identifier and data as the port received them, no data where the frame met a bus error. -/
  | fdFrame (l : LaneId) (ident : Nat) (data : Option Bytes)
  -- islands
  | desat (i : IslandId) (leg : Nat) (high : Bool)
  | slp (i : IslandId) (leg : Nat) (high : Bool)
  | comparatorTest (i : IslandId) (responded : Bool)
  | ov1 (i : IslandId)
  | ov1Release (i : IslandId)
  | ov2 (i : IslandId)
  | ov2Release (i : IslandId)
  | busUv (i : IslandId)
  | busUvRelease (i : IslandId)
  | chopperFault (i : IslandId)
  /-- CHOPPER_TEST_PULSE (R199): the current measured in 10 mA. -/
  | chopperTestPulse (i : IslandId) (current : Nat)
  /-- HOT (R200): the model's energy in 10 J. -/
  | hot (i : IslandId) (energy : Nat)
  | chopperLimit (b : BusId) (on : Bool)
  | regenTrip (i : IslandId)
  | regenTripEnd (i : IslandId)
  | speedCrossing (i : IslandId) (rpm : Nat)
  | islandClockLoss (i : IslandId)
  -- feedback
  /-- QUAD_EDGE (R218): a valid edge of channel c, its direction, its time within the tick in 6.25 ns. -/
  | quadEdge (f : FbId) (c : Nat) (up : Bool) (offset : Nat)
  | indexPulse (f : FbId) (c : Nat)
  /-- CONVERTER_UPDATE (R220): consecutive updates of a resolver channel's converter, with what its windings show. -/
  | converterUpdate (f : FbId) (c : Nat) (u : ConvUpdate)
  | reacq (f : FbId) (c : Nat) (offset : Nat)
  /-- SENT_FRAME (R223): a SENT frame as received. -/
  | sentFrame (f : FbId) (c : Nat) (rx : SentRx)
  | comparePulseEnd (f : FbId) (c : Nat)
  | zero (f : FbId) (c : Nat)
  -- safety inputs and supplies
  | testPulseOff (x : SioId) (p : Nat)
  | testPulseOn (x : SioId) (p : Nat)
  | xsClear (x : SioId) (i : Nat)
  | psupOc (x : SioId) (p : Nat)
  | pgood (x : SioId) (p : Nat)
  | oredFeedLow (x : SioId)
  | oredFeedReturn (x : SioId)
  -- power
  | laneShed (l : LaneId) (mv : Nat)
  | shedRelease (l : LaneId) (mv : Nat)
  | dropOut (l : LaneId)
  | mainOff (l : LaneId)
  | alwaysOnOff (l : LaneId)
  | retentionReturn (l : LaneId)
  | sleep (u : UnitId)
  | sleepAck (l : LaneId)
  | cancel (l : LaneId)
  /-- SLEEP_REFUSAL (R396): the member that has work outstanding at its stop point. -/
  | sleepRefusal (h : Holder)
  | wake (l : LaneId) (src : WakeSource)
  | wakeReplay (l : LaneId)
  /-- DOMAIN_REQUEST (R398): an on, retention or off request for a domain. -/
  | domainRequest (d : Domain) (target : DomState)
  | wakeRequest (d : Domain)
  | linkTraining (l : LaneId) (u : UnitId) (delay : Nat)
  | linkDown (l : LaneId) (u : UnitId)
  | deviceKeyGeneration
  | polvinPowerUp
  -- data movers
  /-- REQUEST_LINE (R291): line `line` of lane l's movers requests. -/
  | requestLine (l : LaneId) (line : Nat)
  | mark (l : LaneId) (m : Nat)
  | descriptorFetch (l : LaneId) (r : Nat)
  | burst (l : LaneId) (r : Nat)
  | dmaEnd (l : LaneId) (r : Nat)
  | buserr (l : LaneId) (r : Nat) (addr : Nat)
  | acceptanceWindowClose (l : LaneId) (slot : Nat)
  -- start and links
  | unitPowerUp (u : UnitId)
  | alwaysOnPowerUp (l : LaneId)
  /-- TRUNK_LINK (R282): medium 0 the trunk, k the segment k - 1 of the lane's plane. -/
  | trunkLink (l : LaneId) (medium : Nat) (up : Bool)
  | unitRetentionLimit (u : UnitId)
  /-- ADDRESS_CLAIM_LOST (R277): a claim of the port's address with a lower NAME. -/
  | addressClaimLost (l : LaneId)
  deriving DecidableEq, Repr

end Sys2Proof
end

