-- ==== Sys2Proof/Decode.lean ====
section
/-!
DEFINITION. Decoding. No row of spec/opcode_table.json gives its command any bits: commands reach the block as events and
register accesses, not as words, so no word spells one.
-/
namespace Sys2Proof

/-- The command a word spells by the table's bits: none, because the table gives no bits. -/
def decodeTableWord (_nbits _w : Nat) : Option Instr := none

end Sys2Proof
end

