-- ==== Sys2Proof/Machine/UnitState.lean ====
section
/-!
DEFINITION. The state of the ten units as plain data: event blocks (R363-R383), link and crossing state (R58-R74), the vote
(R22-R33), the configuration being assembled and loaded (R91-R93, R107), and what islands (R185-R211), feedback units
(R212-R228) and safety-I/O units (R229-R244) hold beside it. Every `reset` is the state after the power-up of the domain.
-/
namespace Sys2Proof.Machine
open Sys2Proof

/-- EVT_FIRST and EVT_FTICK (R372, R383). `setV` and `setO`: VALID, OVF set since the last tick boundary (R10). -/
structure EvtFirst where
  src : Nat := 0
  valid : Bool := false
  ovf : Bool := false
  forced : Bool := false
  ftick : Nat := 0
  setV : Bool := false
  setO : Bool := false
  deriving DecidableEq, Repr

/-- The open window of one source (R368): COUNT, START, OPEN, and the last tick and round an occurrence was counted in. -/
structure EvtCount where
  count : Nat := 0
  start : Nat := 0
  isOpen : Bool := false
  lastTick : Option Nat := none
  lastRound : Option Nat := none
  deriving DecidableEq, Repr

/-- WINDOW, THRESH and CUNIT of a source whose settings differ from the default (R368, R370). -/
structure EvtCfg where
  window : Nat
  thresh : Nat
  cunit : Nat
  deriving DecidableEq, Repr

/-- One block's event sources (R363, R364): bit s of a mask is source s. `now` and `sevNow` mark the STATUS and
SEVERE bits set since the last tick boundary, which a W1C of the same boundary leaves set (R10, R382); `loaded` that its settings are taken from a canvas (R12, R370). -/
structure EvtBlock where
  status : Nat := 0
  now : Nat := 0
  sevNow : Nat := 0
  severe : Nat := 0
  mask : Nat := 0
  counts : List (Nat × EvtCount) := []
  cfg : List (Nat × EvtCfg) := []
  loaded : Bool := false
  first : EvtFirst := {}
  deriving DecidableEq, Repr

/-- A command block as a unit received it (R18): the fields, the words that are still STALE, and whether the CRC was
right. -/
structure CmdRx where
  tick : Nat
  lane : Nat
  mode : Nat
  state : Nat
  verdict : Nat
  vtick : Nat
  withdraw : Bool
  words : List Int
  stale : Nat
  crcOk : Bool
  deriving DecidableEq, Repr

/-- The record set a lane is sending a unit (R91, R92): whether its last block carried STATE = TRANSLATE, the number of
records it announces, and the records received by index. -/
structure RecSet where
  active : Bool := false
  total : Nat := 0
  recs : List (Nat × Bytes) := []
  deriving DecidableEq, Repr

/-- A unit's end of one lane link (R58-R60, R74) with what the vote keeps per lane (R23-R28, R208). `synctk` counts the
consecutive ticks of STATE = SYNC with SYNCOK, `verdict` is the verdict posted in the running resolution, `writes` the
register writes forwarded by the lane, `next` those that landed in the hand-over cycle (R70), `answers` the reads answered in the
last register symbol (R404), and `evPend` the events pending on the crossing to the lane, by source (R66); `gone` that the lane, admitted, was
missing in eight consecutive ticks (R27). -/
structure LinkState where
  up : Bool := false
  delay : Nat := 0
  adm : Bool := false
  inwin : Bool := false
  stat : Nat := 3
  miss : Nat := 0
  crcerr : Nat := 0
  mark : Option (Nat × Int) := none
  arr : Int := 0
  arrValid : Bool := false
  rx : Option CmdRx := none
  synctk : Nat := 0
  syncok : Bool := false
  verdict : Nat := 0
  against : Nat := 0
  missing : Nat := 0
  recs : RecSet := {}
  agree : Bool := false
  writes : List RegAcc := []
  next : List RegAcc := []
  answers : List (Nat × Nat) := []
  evPend : Nat := 0
  gone : Bool := false
  deriving DecidableEq, Repr

/-- A unit's vote (R24-R33): the window of each voted word, the last voted words and the
words in effect since the boundary, the held words, the disputed tick of the
running resolution, the ticks without a valid block, whether the deadline of this tick has passed, and the self-test. -/
structure VoteState where
  windows : List (Option Nat) := []
  out : List Int := List.replicate 13 0
  act : List Int := List.replicate 13 0
  held : Nat := 0
  dispute : Option Nat := none
  noBlock : Nat := 0
  done : Bool := false
  fresh : Bool := false
  lastPat : Nat := 0
  fault : Bool := false
  passes : Nat := 0
  holds : Nat := 0
  tfail : Nat := 0
  deriving DecidableEq, Repr

/-- A unit's configuration (R91-R93, R107): the records accepted from two lanes under one hash, and the loaded set. -/
structure UnitCfg where
  loaded : Bool := false
  recs : List Bytes := []
  asmHash : Bytes := []
  asmTotal : Nat := 0
  asm : List (Nat × Bytes) := []
  noAdmit : Nat := 0
  admitted : Bool := false
  deriving DecidableEq, Repr

/-- The settings of a unit that its canvas gives beside the records its chapter lays out (R24, R43, R71, R370): the window of each voted
word, the backstop limit in ticks, the ranges of its COMMIT group and its event entries. -/
structure UnitSettings where
  windows : List (Option Nat)
  backLim : Nat
  ranges : List (Nat × Nat)
  events : List (Nat × EvtCfg × Bool)
  deriving DecidableEq, Repr

/-- An accepted write that awaits its boundary (R69-R73, R408): its writer (none in a unit), the round at whose boundary it takes
effect (in a unit the boundaries still to pass before it) and the RID of its request. -/
structure ShadowWrite where
  who : Option Writer
  acc : RegAcc
  effect : Nat := 0
  rid : Nat := 0
  deriving DecidableEq, Repr

/-- The COMMIT group and shadow of a lane or unit (R69-R73): the accepted writes awaiting the boundary, the group's staging, PEND
and STRADDLE; `straddling`: STRADDLE was set in the hand-over cycle that runs (R10). -/
structure Shadow where
  due : List ShadowWrite := []
  staged : List ShadowWrite := []
  pend : Bool := false
  straddle : Bool := false
  straddling : Bool := false
  ranges : List (Nat × Nat) := []
  deriving DecidableEq, Repr

/-- A unit's part in sleep entry (R395, R396): the lanes whose SLEEP it holds, the round boundaries counted from s, whether it
sent SLEEP_ACK, whether it returns from a cancelled entry, and the state-change request that waits (R398). -/
structure UnitSleep where
  heard : Nat := 0
  since : Option Nat := none
  ack : Bool := false
  returning : Bool := false
  slot : Option DomState := none
  deriving DecidableEq, Repr

/-- What every unit holds. `age` counts its ticks since power-up without wrapping (the model's own, for spans of
seconds); `safe` is the unit's safe state by its own vote for a unit that is not an island; `meas` is the snapshot of
measurement bytes 16-59 taken at the tick boundary. -/
structure UnitCommon where
  dom : DomState := .on
  tick : Nat := 0
  round : Nat := 0
  roundDue : Bool := false
  age : Nat := 0
  links : Tri LinkState := Tri.all {}
  vote : VoteState := {}
  safe : Bool := true
  stale : Nat := 0
  merged : Nat := 0
  evt : EvtBlock := {}
  cfg : UnitCfg := {}
  shadow : Shadow := {}
  slp : UnitSleep := {}
  meas : Bytes := zeros 44
  deriving DecidableEq, Repr

/-- The island record (R191) as loaded; zeros until then (R12). -/
structure IslandCfg where
  ssc : Nat := 0
  dt : Nat := 0
  minp : Nat := 0
  base : Nat := 0
  deriving DecidableEq, Repr

/-- One valve channel (R204, R205, R211): record, regulator and registers. Gains and the integrator are exact
rationals. `satr` and `fast` tell of the last whole period, `satNow` and `fastNow` of the one that runs. -/
structure ValveCh where
  amp : Nat := 0
  nper : Nat := 0
  tri : Bool := false
  kpv : Rat := 0
  kiv : Rat := 0
  integ : Rat := 0
  phase : Nat := 0
  iset : Int := 0
  imeas : Nat := 0
  dutyA : Rat := 0
  dutyB : Rat := 0
  satr : Bool := false
  fast : Bool := false
  satNow : Bool := false
  fastNow : Bool := false
  park : Bool := true
  satcnt : Nat := 0
  deriving DecidableEq, Repr

/-- The gate drive of an island (R186, R190, R192-R197, R210): masks with one bit per leg, the comparator test asked for
and the last one run, and the counters. `off` marks the half-bridges whose enable a trip holds at 0, `hiOff` the high
sides a lockout holds off in this period, `uvNow` the legs that warned at its trough, `tripOn` the switches that were driven on when the
trip at `tripAge` came (bit 2 leg, plus 1 for a high side), `lowFail` a failed DESAT or SLP comparator of a low side. -/
structure GateDrive where
  desat : Nat := 0
  slp : Nat := 0
  bsuv : Nat := 0
  bslo : Nat := 0
  cfail : Nat := 0
  off : Nat := 0
  hiOff : Nat := 0
  uvNow : Nat := 0
  tripAge : Option Nat := none
  tripOn : Nat := 0
  lowFail : Bool := false
  testReq : Option (Nat × Nat) := none
  testDue : Option (Nat × Nat) := none
  testCmp : Nat := 0
  testLeg : Nat := 0
  testPass : Bool := false
  testDone : Bool := false
  testCount : Nat := 0
  tdone : Bool := false
  tpass : Bool := false
  bsuvN : Nat := 0
  bsloN : Nat := 0
  single : Nat := 0
  double : Nat := 0
  perBsuv : Bool := false
  perBslo : Bool := false
  perTrip : Bool := false
  deriving DecidableEq, Repr

/-- The bus side of an island (R198-R200, R209). -/
structure IslandBus where
  vbus : Nat := 0
  ibus : Int := 0
  tbr : Int := 0
  ich : Nat := 0
  energy : Nat := 0
  ov1 : Bool := false
  ov2 : Bool := false
  uv : Bool := false
  cf : Bool := false
  hot : Bool := false
  limit : Bool := false
  ov2Low : Nat := 0
  regen : Nat := 0
  regenOk : Nat := 0
  deriving DecidableEq, Repr

/-- What an island holds beside the common part (R185-R211). `causes` and `live` hold one bit per CAUSE code (R201): in
force, and still lasting. `sw` is SW of R188, `comp` the compare values of the running period by leg (R189). `rearms` are the ages of the re-arms of the last 60 s, `tripRearm` the age
of the last re-arm after a single-leg trip, `back` the backstop sum in ticks (R43). -/
structure Island where
  cfg : IslandCfg := {}
  kind : Bool := false
  causes : Nat := 0x1000
  live : Nat := 0x1000
  sw : Nat := 1
  refreshFrom : Nat := 0
  fast : Bool := false
  inhibit : Bool := false
  clockLost : Bool := false
  cmdPrev : Int := 0
  rearms : List Nat := []
  rearmTotal : Nat := 0
  tripRearm : Option Nat := none
  back : Nat := 0
  backLim : Nat := 0
  rq : Bool := false
  duty : List Nat := List.replicate 6 0
  comp : List Nat := List.replicate 6 0
  m : List Int := List.replicate 3 0
  gdv : GateDrive := {}
  bus : IslandBus := {}
  valves : List ValveCh := List.replicate 3 {}
  deriving DecidableEq, Repr

/-- A feedback channel record (R215); zeros until loaded (R12). -/
structure FbCfg where
  mode : Nat := 0
  idxm : Nat := 0
  filt : Nat := 0
  fcw : Nat := 0
  cpr : Nat := 0
  slo : Int := 0
  shi : Int := 0
  zto : Nat := 0
  excv : Nat := 0
  excph : Nat := 0
  tlth : Nat := 0
  ampn : Nat := 0
  bw : Nat := 0
  zofs : Nat := 0
  stk : Nat := 0
  timer : Nat := 0
  copin : Nat := 0
  deriving DecidableEq, Repr

/-- A position-compare entry (R224-R226, R228). -/
structure CmpEntry where
  p : Int := 0
  arm : Bool := false
  dir : Nat := 0
  rep : Bool := false
  pulse : Bool := false
  event : Bool := false
  pw : Nat := 0
  behind : Bool := false
  fired : Bool := false
  deriving DecidableEq, Repr

/-- The speed timing of a channel (R219): edge count, time and count of the last edge and of the last edge before the
previous boundary (6.25 ns), the first edge after the last reversal, the direction, SPD, ZERO and NEW. -/
structure SpeedState where
  n : Int := 0
  last : Option (Nat × Int) := none
  before : Option (Nat × Int) := none
  rev : Option (Nat × Int) := none
  dir : Int := 0
  spd : Int := 0
  zero : Bool := false
  edge : Bool := false
  step : Nat := 0
  deriving DecidableEq, Repr

/-- The converter state of a resolver channel (R220, R222, R228): `phi` its angle in 1/65 536 turn, `vel` its speed in 1/65 536 turn an update. -/
structure TrackState where
  lost : Bool := false
  lostTick : Bool := false
  reacqTick : Bool := false
  okUpd : Nat := 0
  phi : Rat := 0
  vel : Rat := 0
  conv : Nat := 0
  seen : Bool := false
  terr : Int := 0
  amp : Nat := 0
  deriving DecidableEq, Repr

/-- The SENT receiver of a channel (R217, R223). `ended` is the time of the end of the frame in POS in µs of the unit's
own time. -/
structure SentState where
  cal : Option Nat := none
  fc2 : Nat := 0
  sts : Nat := 0
  ended : Option Nat := none
  deriving DecidableEq, Repr

/-- The inputs A and B of a quadrature channel (R218): where in their cycle of four they stand, and when each last changed, in 6.25 ns. Input A
changes between the phases 0 and 1 and between 2 and 3; which input is so called makes no difference to the filter. -/
structure QuadIn where
  phase : Nat := 0
  ta : Option Nat := none
  tb : Option Nat := none
  deriving DecidableEq, Repr

/-- A feedback channel (R212-R228). `moved` is the sign of the last movement, 0 before any; `pulseEnd` the end of the pulse
on the compare output, in µs of the unit's own time. -/
structure FbChan where
  cfg : FbCfg := {}
  supon : Bool := false
  excon : Bool := false
  cmpen : Bool := false
  pos : Int := 0
  ang : Nat := 0
  satlo : Bool := false
  sathi : Bool := false
  idxv : Bool := false
  idxPos : Int := 0
  angPos : Int := 0
  moved : Int := 0
  quad : QuadIn := {}
  spd : SpeedState := {}
  trk : TrackState := {}
  sent : SentState := {}
  cmp : List CmpEntry := List.replicate 16 {}
  firedTick : Nat := 0
  pulseEnd : Option Nat := none
  eva : Nat := 0
  evb : Nat := 0
  snap : Bytes := zeros 10
  snapIdx : Int := 0
  snapTerr : Int := 0
  snapAmp : Nat := 0
  deriving DecidableEq, Repr

/-- What a feedback unit holds beside the common part. -/
structure Feedback where
  ch : List FbChan := List.replicate 4 {}
  feed : Nat := 0
  deriving DecidableEq, Repr

/-- A safety input (R232-R235, R240, R244). `hist` holds the last codes, newest first; `seq` the raw bits sampled at TINR 2 to
5 of this round; `quiet` the rounds since the last cross-short. -/
structure SafetyIn where
  mode : Nat := 0
  src : Nat := 0
  filt : Nat := 0
  load : Nat := 0
  von : Nat := 0
  voff : Nat := 0
  raw : Nat := 0
  fval : Nat := 0
  din : Bool := false
  rawb : Bool := false
  masked : Bool := false
  band : Bool := false
  count : Nat := 0
  hist : List Nat := []
  seq : List Bool := []
  xs : Bool := false
  pm : Bool := false
  xsrc : Nat := 0
  quiet : Nat := 0
  xsn : Nat := 0
  pmn : Nat := 0
  deriving DecidableEq, Repr

/-- A sensor supply (R236-R239, R244). `testOff` marks the off time of its test pulse, `limTicks` the ticks in limit. -/
structure Supply where
  vsel : Nat := 0
  pulse : Nat := 0
  supon : Bool := false
  on : Bool := false
  testOff : Bool := false
  pgood : Bool := false
  limit : Bool := false
  limTicks : Nat := 0
  poc : Bool := false
  vout : Nat := 0
  iout : Nat := 0
  ocn : Nat := 0
  deriving DecidableEq, Repr

/-- What a safety-I/O unit holds beside the common part (R229-R244). `ran` says that the test pulse of the unit's own supply took place in this
round, `abandoned` marks a round whose judgements are all dropped; `snapIns`, `snapSup` and `snapTp` are what the status registers show, as of
the last tick boundary. -/
structure SafetyIO where
  ins : List SafetyIn := List.replicate 24 {}
  sup : List Supply := List.replicate 8 {}
  slots : List Nat := List.replicate 16 0
  feedLow : Bool := false
  feed : Nat := 0
  pathL : Bool := false
  pathC : Bool := false
  ran : Bool := false
  abandoned : Bool := false
  tpw : Bool := false
  snapIns : List SafetyIn := List.replicate 24 {}
  snapSup : List Supply := List.replicate 8 {}
  snapTp : Nat := 0
  deriving DecidableEq, Repr

/-- What a unit's registers showed at its last round boundary, as reads return it (R408): the common part and the unit's own. `taken`
holds the lane and the address of each read answered from it. -/
structure UnitSnap where
  com : UnitCommon := {}
  isl : Option Island := none
  fb : Option Feedback := none
  sio : Option SafetyIO := none
  taken : List (LaneId × Nat) := []
  deriving DecidableEq, Repr

end Sys2Proof.Machine
end

