-- ==== Sys2Proof/Machine/CanvasState.lean ====
section
/-!
DEFINITION. The canvas as a lane holds it after parsing the image (R75-R104, R109-R111, R256, R328): header, cells, wires,
tracking links, ownership, votes, axes, commanders, mode record, event entries, permissions, slots and tasks; and the running state
of its cells (R112-R139).
-/
namespace Sys2Proof.Machine
open Sys2Proof

/-- A cell (R109): kind, rate, owner, number of CONT entries, delayed outputs, tick of a round-rate cell, parameters as raw words. -/
structure CellDef where
  idx : Nat
  kind : Nat
  round : Bool
  expert : Bool
  axis : Nat
  ncont : Nat
  delayed : Nat
  tinr : Nat
  params : List Nat
  deriving DecidableEq, Repr

/-- One entry of the WIRES section (R111). -/
structure WireDef where
  dcell : Nat
  din : Nat
  type : Nat
  scell : Nat
  sout : Nat
  const : Nat
  deriving DecidableEq, Repr

/-- One entry of the AXES section (R143): template kind and its bytes. -/
structure AxisDef where
  kind : Nat
  bytes : Bytes
  deriving DecidableEq, Repr

/-- One commander entry (R328). -/
structure CmdrDef where
  id : Nat
  prio : Nat
  svcok : Bool
  sets : List Nat
  deriving DecidableEq, Repr

/-- One PERM entry (R102). -/
structure PermDef where
  first : Nat
  last : Nat
  fmask : Nat
  modes : Nat
  cmdrs : Nat
  owner : Nat
  group : Bool
  deriving DecidableEq, Repr

/-- One slot entry (R256). -/
structure SlotDef where
  slot : Nat
  plane : Nat
  tx : Bool
  medium : Nat
  kind : Nat
  peer : Nat
  len : Nat
  start : Nat
  win : Nat
  deriving DecidableEq, Repr

/-- The header of the SLOTS section (R256). -/
structure NetDef where
  self : Nat := 0
  rank : Nat := 0
  mcap : Bool := false
  etype : Nat := 0
  latch : Nat := 0
  wdef : Nat := 0
  canMode : Nat × Nat := (0, 0)
  canAddr : Nat × Nat := (0, 0)
  canName : Nat × Nat := (0, 0)
  deriving DecidableEq, Repr

/-- The mode record of the FAULT section (R79). -/
structure ModeRec where
  trlim : Nat := 0
  decel : Nat := 0
  stalw : Nat := 0
  vspeed : Nat := 0xFFFF
  base : List Nat := []
  ssc : List Nat := []
  rearmp : Nat := 0
  loops : List Nat := []
  stopt : Nat := 0
  deriving DecidableEq, Repr

/-- A canvas (R75, R76). `sects` keeps the sections as bytes by ID. -/
structure Canvas where
  signed : Bool := false
  fullstart : Bool := false
  expert : Bool := false
  epoch : Nat := 0
  patchmin : Nat := 0
  keyid : Bytes := []
  hash : Bytes := []
  sects : List (Nat × Bytes) := []
  cells : List CellDef := []
  wires : List WireDef := []
  own : List (Nat × Nat) := []
  vote : List (Nat × Nat × Nat) := []
  axes : List AxisDef := []
  cmdrs : List CmdrDef := []
  mode : ModeRec := {}
  events : List (Nat × Nat × EvtCfg × Bool) := []
  perms : List PermDef := []
  net : NetDef := {}
  slots : List SlotDef := []
  tasks : List (Nat × Nat × Nat × Nat) := []
  deriving DecidableEq, Repr

/-- The running state of one cell: its outputs as raw words, the outputs of the previous period, its stored states, whether
it has run, and its latched flags as of this power cycle (R114, R123-R138). `hold` is the value an SRC with LATCH holds and
`lost` the mark of R135. -/
structure CellState where
  outs : List Nat := []
  prev : List Nat := []
  st : List Nat := []
  nums : List Nat := []
  ran : Bool := false
  flags : Nat := 0
  hold : Option (Nat × Bool) := none
  lost : Bool := false
  deriving DecidableEq, Repr

end Sys2Proof.Machine
end

