-- ==== Sys2Proof/Machine/Crc.lean ====
section
/-!
DEFINITION. The checks named by the manual: CRC-32 of IEEE 802.3 (R17, R77, R250), CRC-16 with polynomial 0x1021 (R290, R373)
and the CRC-4 of a SENT frame (R223).
-/
namespace Sys2Proof.Machine
open Sys2Proof

/-- `n` shifts of a reflected CRC-32 register. -/
def crc32Shift : Nat → Nat → Nat
  | 0, r => r
  | n + 1, r => crc32Shift n (if r % 2 = 1 then (r >>> 1) ^^^ 0xEDB88320 else r >>> 1)

/-- CRC-32 register after a byte string, from a register. -/
def crc32From (r : Nat) (bs : Bytes) : Nat := bs.foldl (fun r b => crc32Shift 8 (r ^^^ b.toNat)) r

/-- CRC-32 register after a byte string. -/
def crc32Reg (bs : Bytes) : Nat := crc32From 0xFFFFFFFF bs

/-- CRC-32 of IEEE 802.3 over a byte string. -/
def crc32 (bs : Bytes) : Nat := crc32Reg bs ^^^ 0xFFFFFFFF

/-- `n` shifts of a CRC-16 register, most significant bit first. -/
def crc16Shift : Nat → Nat → Nat
  | 0, r => r
  | n + 1, r => crc16Shift n (if r ≥ 0x8000 then ((r <<< 1) % 65536) ^^^ 0x1021 else (r <<< 1) % 65536)

/-- CRC-16, polynomial 0x1021, from a start value (R290). -/
def crc16 (start : Nat) (bs : Bytes) : Nat := bs.foldl (fun r b => crc16Shift 8 (r ^^^ (b.toNat <<< 8))) start

/-- `n` shifts of a CRC-4 register with the SENT polynomial x^4 + x^3 + x^2 + 1. -/
def crc4Shift : Nat → Nat → Nat
  | 0, r => r
  | n + 1, r => crc4Shift n (if r ≥ 8 then ((r <<< 1) % 16) ^^^ 0xD else (r <<< 1) % 16)

/-- CRC-4 of a SENT frame, seed 0b0101, over the data nibbles with the extra zero nibble of SAE J2716 (R223); the polynomial
is PRESUMED from that standard, log entry 10. -/
def crc4 (nibbles : List Nat) : Nat := (nibbles ++ [0]).foldl (fun r n => crc4Shift 4 r ^^^ (n % 16)) 5

end Sys2Proof.Machine
end

