-- ==== Sys2Proof/Config.lean ====
section
/-!
DEFINITION. What the spec leaves open, as constants without a body: free values, and the section layouts and code-generator figures the
manual does not give.
-/
namespace Sys2Proof.Config

/-- Free value number `n` of the run: a random draw (R340, R342, R348, R352) or a result the spec does not state.
Log entry 3. -/
opaque freeValue : Nat → BitVec 512

/-- The x coordinate of ECDH with a public key that is no point of the curve, by the private value: the manual gives none (R348). Log
entry 4. -/
opaque offCurve : BitVec 512 → Bytes → BitVec 256

/-- The integer a NaN becomes where a SNK posts it, in the first or the mirror run, by cell: the manual gives none (R118, R121). Log
entry 107. -/
opaque nanPost : Bool → Nat → Word

/-- What lane C's sine, or cosine, differs by from its table's interpolation (R116): raw word of the fractional part. Log entry 5. -/
opaque sineError : Word → Bool → Rat

/-- A motor register of R184 where an expert axis owns the island: the manual names its quantities by the cells of a template, which such an
axis has not; lane, motor, tick, register. Log entry 91. -/
opaque expertMotor : Nat → Nat → Nat → Nat → Word

/-- Layouts the manual does not give (R78): SCHEDC as (engine, tick, cell) triples. Log entry 6. -/
opaque readSchedc : Bytes → List (Nat × Nat × Nat)

/-- TASKS as (core, task, tick, cell) entries in list order. Log entry 6. -/
opaque readTasks : Bytes → List (Nat × Nat × Nat × Nat)

/-- VOTE as (unit code, word, window) entries. Log entry 6. -/
opaque readVote : Bytes → List (Nat × Nat × Nat)

/-- TESTVEC as, per vector, its ticks: SRC values (cell, raw word) and expected SNK values (cell, value, tolerance).
Log entry 6. -/
opaque readTestvec : Bytes → List (List (List (Nat × Word) × List (Nat × Int × Nat)))

/-- UCFG as (unit code, record index, 48 bytes) entries. Log entry 6. -/
opaque readUcfg : Bytes → List (Nat × Nat × Bytes)

/-- BUDGET as (lane, core or engine, tick, round) figures in ns or cycles. Log entry 6. -/
opaque readBudget : Bytes → List (Nat × Nat × Nat × Nat)

/-- BUDGET's posting times as (lane, SNK cell, 0.1 ns from the start of the tick, tick of the round). Log entry 6. -/
opaque readPosting : Bytes → List (Nat × Nat × Nat × Nat)

/-- BUDGET's completion times of command blocks as (lane, unit code, 0.1 ns). Log entry 6. -/
opaque readCompletion : Bytes → List (Nat × Nat × Nat)

/-- What a cell costs in the code that lane A or B translates, in ns, by lane, image and cell (R55, R112). Log entry 7. -/
opaque cellNs : Nat → Bytes → Nat → Nat

/-- The code lane A or B translates from an image, as the bytes its SHA-256 is taken over (R94, R390). Log entry 7. -/
opaque translation : Nat → Bytes → Bytes

/-- A word of a template's cell that the manual does not state, by AXES entry, cell position and parameter number (64 and up: the
constant of an unstated input; 128: the tick of a round-rate cell). Log entry 25. -/
opaque templateWord : Bytes → Nat → Nat → BitVec 32

/-- How many free rings the translated code needs (refusal CAPACITY, R285), by lane and image. Log entry 7. -/
opaque ringsNeeded : Nat → Bytes → Nat

/-- The ring time a SNK's posting waits for, in ns, by lane, image and cell (R293). Log entry 7. -/
opaque ringNs : Nat → Bytes → Nat → Nat

/-- How many registers the code generators allocate, and the number of the register a cell output takes counted in the order of allocation, by lane,
canvas hash, cell and output (R303). Log entry 7. -/
opaque registers : Nat
opaque valueNo : Nat → Bytes → Nat → Nat → Nat

/-- The first buffer page of the copies of the stored states, by lane and canvas hash (R303). Log entry 7. -/
opaque statePage : Nat → Bytes → Nat

/-- SEQ of an actuation payload as long as no measurement has been used, by axis (R161). Log entry 137. -/
opaque noSeq : Nat → BitVec 8

/-- Whether the translated code fits the lane's memory (refusal CAPACITY, R89). Log entry 7. -/
opaque fitsMemory : Nat → Bytes → Bool

/-- Whether the image can be translated for the lane at all (refusal TRANSLATE, R89). Log entry 7. -/
opaque translatable : Nat → Bytes → Bool

/-- Whether an executive patch slot carries a valid signature under the Brileal key whose hash is in mask ROM (R301).
Log entry 7. -/
opaque patchSigned : Bytes → Bool

/-- The image a canvas hash stands for, where no lane holds that canvas any more (R91, R93). Log entry 8. -/
opaque imageOf : Bytes → Bytes

/-- The bytes of a group record (R71): the address ranges of the group. The manual does not lay the record out. Log entry 8. -/
opaque groupRecord : List (Nat × Nat) → Bytes

/-- What a block of lane C's canvas memory holds for a canvas hash: entries, schedule and wiring pointers, whose bytes the manual does not lay
out (R321). Log entry 6. -/
opaque canvasBlock : Bytes → Nat → Bytes

/-- The bytes of a translation cache entry in flash: key, code and SHA-256, whose places the manual does not give (R94, R302). Log entry 8. -/
opaque cacheRecord : Bytes → Nat → Bytes → BitVec 256 → Bytes

/-- The bytes of the commit and lane records in flash, of a recorded commit or none: the manual does not lay them out (R99, R302). Log entry 8. -/
opaque laneRecords : Option (Bytes × Nat) → Bytes

/-- The proportional gain of a type II tracking converter per update, by its bandwidth in Hz: R220 fixes the integral gain alone. Log entry 122. -/
opaque convDamping : Nat → Rat

/-- Where in its period a dither stands at the configuration load, in ticks, by shape and period: the manual names the shape and not its
phase (R205). Log entry 9. -/
opaque ditherPhase : Bool → Nat → Nat

/-- The bit number a single-bit field of a Carousel slot has: the manual gives CLASS 0x2 none (R119). SOURCE and SOFS to a
bit of the byte. Log entry 15. -/
opaque slotBit : Nat → Nat → Nat

/-- The time the tick work (0) and the round work (1) of a lane took, in 10 ns, by lane and tick (R73). Log entry 16. -/
opaque workTime : Nat → Nat → Nat → Nat

end Sys2Proof.Config
end

