-- ==== Sys2Proof/Machine/Crypto.lean ====
section
/-!
DEFINITION. The cryptographic functions the spec names (R80, R85, R94, R253, R341, R342, R348, R351, R352). PRESUMED (log entry 4): they are those of
FIPS 180-4, FIPS 198-1, RFC 5869, FIPS 197, NIST SP 800-38D, FIPS 186-4 and SP 800-56A; the spec names them and does not spell them out.
-/
namespace Sys2Proof.Machine
open Sys2Proof

/-- The round constants of SHA-256. -/
def shaK : List Word :=
  [0x428a2f98, 0x71374491, 0xb5c0fbcf, 0xe9b5dba5, 0x3956c25b, 0x59f111f1, 0x923f82a4, 0xab1c5ed5,
   0xd807aa98, 0x12835b01, 0x243185be, 0x550c7dc3, 0x72be5d74, 0x80deb1fe, 0x9bdc06a7, 0xc19bf174,
   0xe49b69c1, 0xefbe4786, 0x0fc19dc6, 0x240ca1cc, 0x2de92c6f, 0x4a7484aa, 0x5cb0a9dc, 0x76f988da,
   0x983e5152, 0xa831c66d, 0xb00327c8, 0xbf597fc7, 0xc6e00bf3, 0xd5a79147, 0x06ca6351, 0x14292967,
   0x27b70a85, 0x2e1b2138, 0x4d2c6dfc, 0x53380d13, 0x650a7354, 0x766a0abb, 0x81c2c92e, 0x92722c85,
   0xa2bfe8a1, 0xa81a664b, 0xc24b8b70, 0xc76c51a3, 0xd192e819, 0xd6990624, 0xf40e3585, 0x106aa070,
   0x19a4c116, 0x1e376c08, 0x2748774c, 0x34b0bcb5, 0x391c0cb3, 0x4ed8aa4a, 0x5b9cca4f, 0x682e6ff3,
   0x748f82ee, 0x78a5636f, 0x84c87814, 0x8cc70208, 0x90befffa, 0xa4506ceb, 0xbef9a3f7, 0xc67178f2]

/-- The eight words of SHA-256. -/
structure ShaState where
  a : Word
  b : Word
  c : Word
  d : Word
  e : Word
  f : Word
  g : Word
  h : Word
  deriving DecidableEq, Repr

/-- The initial hash value of SHA-256. -/
def shaInit : ShaState :=
  ⟨0x6a09e667, 0xbb67ae85, 0x3c6ef372, 0xa54ff53a, 0x510e527f, 0x9b05688c, 0x1f83d9ab, 0x5be0cd19⟩

/-- One round of the compression function, by its constant and its word of the schedule. -/
def ShaState.round (s : ShaState) (k w : Word) : ShaState :=
  let t1 := s.h + (s.e.rotateRight 6 ^^^ s.e.rotateRight 11 ^^^ s.e.rotateRight 25) + ((s.e &&& s.f) ^^^ (~~~s.e &&& s.g)) + k + w
  let t2 := (s.a.rotateRight 2 ^^^ s.a.rotateRight 13 ^^^ s.a.rotateRight 22) + ((s.a &&& s.b) ^^^ (s.a &&& s.c) ^^^ (s.b &&& s.c))
  ⟨t1 + t2, s.a, s.b, s.c, s.d + t1, s.e, s.f, s.g⟩

/-- One round with the sixteen words of the schedule that begin with its own. -/
def shaStep (x : ShaState × List Word) (k : Word) : ShaState × List Word :=
  let w := x.2
  let w1 := w.getD 1 0
  let w14 := w.getD 14 0
  let next := (w14.rotateRight 17 ^^^ w14.rotateRight 19 ^^^ (w14 >>> 10)) + w.getD 9 0 +
    (w1.rotateRight 7 ^^^ w1.rotateRight 18 ^^^ (w1 >>> 3)) + w.getD 0 0
  (x.1.round k (w.getD 0 0), w.drop 1 ++ [next])

/-- One block of 64 bytes. -/
def shaBlock (h : ShaState) (b : Bytes) : ShaState :=
  let w : List Word := (List.range 16).map (fun i => BitVec.ofNat 32 (beNat (slice b (4 * i) 4)))
  let r := (shaK.foldl shaStep (h, w)).1
  ⟨h.a + r.a, h.b + r.b, h.c + r.c, h.d + r.d, h.e + r.e, h.f + r.f, h.g + r.g, h.h + r.h⟩

/-- SHA-256 of a byte string (R80, R94, R341). -/
@[irreducible] def sha256 (bs : Bytes) : BitVec 256 :=
  let m := bs ++ [0x80] ++ zeros ((119 - bs.length % 64) % 64) ++ beBytes 8 (8 * bs.length)
  let s := (List.range (m.length / 64)).foldl (fun h i => shaBlock h (slice m (64 * i) 64)) shaInit
  s.a ++ s.b ++ s.c ++ s.d ++ s.e ++ s.f ++ s.g ++ s.h

/-- A 256-bit value as 32 bytes, most significant byte first (R80). -/
def bytes256 (h : BitVec 256) : Bytes := beBytes 32 h.toNat

/-- SHA-256 as bytes. -/
def shaBytes (bs : Bytes) : Bytes := bytes256 (sha256 bs)

/-- HMAC-SHA-256 of a message under a key (R342). -/
@[irreducible] def hmac (key msg : Bytes) : BitVec 256 :=
  let k := if 64 < key.length then shaBytes key else key
  let pad := fun (x : Byte) => (k ++ zeros (64 - k.length)).map (fun b => b ^^^ x)
  sha256 (pad 0x5c ++ shaBytes (pad 0x36 ++ msg))

/-- HKDF-Extract, then Expand to 32 bytes: salt, input, info (R348). -/
def hkdf32 (salt : Bytes) (z : BitVec 256) (info : Bytes) : BitVec 256 :=
  hmac (bytes256 (hmac salt (bytes256 z))) (info ++ [1])

/-- HKDF-Expand(key, info, 16) (R351, R352); a key is kept with its first byte least significant. -/
def hkdf16 (key : BitVec 128) (info : Bytes) : BitVec 128 :=
  BitVec.ofNat 128 (leNat ((bytes256 (hmac (leBytes 16 key.toNat) (info ++ [1]))).take 16))

/-- Twice an element of the field of AES. -/
def xtime (a : Byte) : Byte := (a <<< 1) ^^^ (if a.msb then 0x1b else 0)

/-- The product of two elements of the field of AES, of as many bits of the second as the first argument says. -/
def aesMul : Nat → Byte → Byte → Byte
  | 0, _, _ => 0
  | n + 1, a, b => (if b.getLsbD 0 then a else 0) ^^^ aesMul n (xtime a) (b >>> 1)

/-- An element of the field of AES raised to a power of at most as many bits as the first argument says. -/
def aesPow : Nat → Byte → Nat → Byte
  | 0, _, _ => 1
  | n + 1, a, e =>
    let r := aesPow n (aesMul 8 a a) (e / 2)
    if e % 2 = 1 then aesMul 8 a r else r

/-- The S-box of AES. -/
def aesSub (a : Byte) : Byte :=
  let b := aesPow 8 a 254
  b ^^^ b.rotateLeft 1 ^^^ b.rotateLeft 2 ^^^ b.rotateLeft 3 ^^^ b.rotateLeft 4 ^^^ 0x63

/-- Two byte strings added bit by bit. -/
def xorBytes (a b : Bytes) : Bytes := List.zipWith (fun x y => x ^^^ y) a b

/-- The next round key of AES-128. -/
def aesNextKey (k : Bytes) (rcon : Byte) : Bytes :=
  let t := ((slice k 13 3) ++ (slice k 12 1)).map aesSub
  let w0 := xorBytes (xorBytes (slice k 0 4) t) [rcon, 0, 0, 0]
  let w1 := xorBytes w0 (slice k 4 4)
  let w2 := xorBytes w1 (slice k 8 4)
  w0 ++ w1 ++ w2 ++ xorBytes w2 (slice k 12 4)

/-- SubBytes and ShiftRows. -/
def aesSubShift (s : Bytes) : Bytes :=
  (List.range 16).map (fun i => aesSub (s.getD (4 * ((i / 4 + i % 4) % 4) + i % 4) 0))

/-- MixColumns. -/
def aesMix (s : Bytes) : Bytes :=
  (List.range 16).map (fun i =>
    let at' := fun (k : Nat) => s.getD (4 * (i / 4) + (i + k) % 4) 0
    xtime (at' 0) ^^^ (xtime (at' 1) ^^^ at' 1) ^^^ at' 2 ^^^ at' 3)

/-- The inner nine rounds of AES-128, each with the round key and the constant of its next one. -/
def aesRounds : Nat → Bytes → Bytes → Byte → Bytes
  | 0, s, k, _ => xorBytes (aesSubShift s) k
  | n + 1, s, k, rcon => aesRounds n (xorBytes (aesMix (aesSubShift s)) k) (aesNextKey k rcon) (xtime rcon)

/-- AES-128 of one block. -/
def aesBlock (key block : Bytes) : Bytes := aesRounds 9 (xorBytes block key) (aesNextKey key 1) 2

/-- The product in the field of GHASH. -/
def ghashMul (x y : BitVec 128) : BitVec 128 :=
  ((List.range 128).foldl (fun (s : BitVec 128 × BitVec 128) i =>
    (if x.getMsbD i then s.1 ^^^ s.2 else s.1,
     (s.2 >>> 1) ^^^ (if s.2.getLsbD 0 then BitVec.ofNat 128 (0xe1 * 2 ^ 120) else 0))) (0, y)).1

/-- A byte string filled up to blocks of 16 bytes. -/
def pad16 (bs : Bytes) : Bytes := bs ++ zeros ((16 - bs.length % 16) % 16)

/-- The 16-byte tag of AES-128-GCM: key, 12-byte IV, additional data, ciphertext. -/
@[irreducible] def gcmTag (key iv aad c : Bytes) : Bytes :=
  let h := BitVec.ofNat 128 (beNat (aesBlock key (zeros 16)))
  let m := pad16 aad ++ pad16 c ++ beBytes 8 (8 * aad.length) ++ beBytes 8 (8 * c.length)
  let y := (List.range (m.length / 16)).foldl
    (fun y i => ghashMul (y ^^^ BitVec.ofNat 128 (beNat (slice m (16 * i) 16))) h) (0 : BitVec 128)
  xorBytes (aesBlock key (iv ++ beBytes 4 1)) (beBytes 16 y.toNat)

/-- The first 8 bytes of AES-128-GMAC, the first most significant: key, 12-byte IV, message (R253). -/
def gmac (key : BitVec 128) (iv msg : Bytes) : BitVec 64 :=
  BitVec.ofNat 64 (beNat ((gcmTag (leBytes 16 key.toNat) iv msg []).take 8))

/-- The first block of AES-128-GCM's stream under an all-zero IV (R348). -/
@[irreducible] def gcmPad (key : BitVec 128) : Bytes := aesBlock (leBytes 16 key.toNat) (zeros 12 ++ beBytes 4 2)

/-- AES-128-GCM encryption of a 16-byte key, with its tag, under an all-zero IV (R347, R348): key, additional data, plaintext. -/
def gcmWrap (key : BitVec 128) (aad : Bytes) (gk : BitVec 128) : Bytes :=
  let c := xorBytes (leBytes 16 gk.toNat) (gcmPad key)
  c ++ gcmTag (leBytes 16 key.toNat) (zeros 12) aad c

/-- AES-128-GCM decryption of a wrapped 16-byte key, none where the tag fails (R347, R348). -/
def gcmUnwrap (key : BitVec 128) (aad : Bytes) (w : Bytes) : Option (BitVec 128) :=
  let c := w.take 16
  if w.drop 16 = gcmTag (leBytes 16 key.toNat) (zeros 12) aad c then some (BitVec.ofNat 128 (leNat (xorBytes c (gcmPad key)))) else none

/-- The field and the order of the group of P-256, the constant of its curve and its base point. -/
def p256 : Nat := 0xffffffff00000001000000000000000000000000ffffffffffffffffffffffff
def n256 : Nat := 0xffffffff00000000ffffffffffffffffbce6faada7179e84f3b9cac2fc632551
def b256 : Nat := 0x5ac635d8aa3a93e7b3ebbd55769886bc651d06b0cc53b0f63bce3c3e27d2604b
def g256 : Nat × Nat :=
  (0x6b17d1f2e12c4247f8bce6e563a440f277037d812deb33a0f4a13945d898c296,
   0x4fe342e2fe1a7f9b8ee7eb4a7c0f9e162bce33576b315ececbb6406837bf51f5)

/-- A power modulo `m`, of an exponent of at most as many bits as the second argument says. -/
def powMod (m : Nat) : Nat → Nat → Nat → Nat
  | 0, _, _ => 1
  | n + 1, a, e => let r := powMod m n (a * a % m) (e / 2); if e % 2 = 1 then a * r % m else r

/-- The inverse modulo a prime of 256 bits. -/
def invMod (m a : Nat) : Nat := powMod m 256 (a % m) (m - 2)

/-- The third point on the line of slope `k` through a point and one of abscissa `x2`, mirrored. -/
def ecThird (k x1 y1 x2 : Nat) : Nat × Nat :=
  let x := (k * k + 2 * p256 - x1 - x2) % p256
  (x, (k * (x1 + p256 - x) + p256 - y1) % p256)

/-- The sum of two points of the curve; none is the point at infinity. -/
def ecAdd : Option (Nat × Nat) → Option (Nat × Nat) → Option (Nat × Nat)
  | none, q => q
  | p, none => p
  | some p, some q =>
    if p.1 ≠ q.1 then some (ecThird ((q.2 + p256 - p.2) * invMod p256 (q.1 + p256 - p.1) % p256) p.1 p.2 q.1)
    else if p.2 = q.2 ∧ p.2 ≠ 0 then some (ecThird ((3 * p.1 * p.1 + p256 - 3) * invMod p256 (2 * p.2) % p256) p.1 p.2 p.1)
    else none

/-- A multiple of a point, of a factor of at most as many bits as the first argument says. -/
def ecMul : Nat → Nat → Option (Nat × Nat) → Option (Nat × Nat)
  | 0, _, _ => none
  | n + 1, k, p => let r := ecMul n (k / 2) (ecAdd p p); if k % 2 = 1 then ecAdd p r else r

/-- The point of a public key, x then y (R340), none where it is not on the curve. -/
def pointOf (key : Bytes) : Option (Nat × Nat) :=
  let x := beNat (slice key 0 32)
  let y := beNat (slice key 32 32)
  if x < p256 ∧ y < p256 ∧ y * y % p256 = (x * x * x + (p256 - 3) * x + b256) % p256 then some (x, y) else none

/-- The private value a random draw gives. -/
def scalarOf (v : BitVec 512) : Nat := v.toNat % (n256 - 1) + 1

/-- The public key of a freshly drawn private key, x then y (R340, R348). -/
@[irreducible] def publicOf (k : BitVec 512) : Bytes :=
  match ecMul 256 (scalarOf k) (some g256) with
  | some p => beBytes 32 p.1 ++ beBytes 32 p.2
  | none => zeros 64

/-- The x coordinate of ECDH between a private value and a public key (R348). -/
@[irreducible] def ecdh (k : BitVec 512) (key : Bytes) : BitVec 256 :=
  match pointOf key with
  | none => Config.offCurve k key
  | some p => BitVec.ofNat 256 ((ecMul 256 (scalarOf k) (some p)).getD (0, 0)).1

/-- ECDSA P-256 verification: public key, digest, signature r then s (R80, R85, R341). -/
@[irreducible] def ecdsaVerify (key : Bytes) (digest : BitVec 256) (sig : Bytes) : Bool :=
  let r := beNat (slice sig 0 32)
  let s := beNat (slice sig 32 32)
  match pointOf key with
  | none => false
  | some q =>
    let w := invMod n256 s
    let v := ecAdd (ecMul 256 (digest.toNat * w % n256) (some g256)) (ecMul 256 (r * w % n256) (some q))
    decide (1 ≤ r ∧ r < n256 ∧ 1 ≤ s ∧ s < n256) && (match v with | some p => decide (p.1 % n256 = r) | none => false)

/-- ECDSA P-256 signature of a digest by a private key and the value drawn for it (R340, R341, R347); of no key, the value drawn stands for it. -/
@[irreducible] def ecdsaSign (key : Option (BitVec 512)) (digest : BitVec 256) (draw : BitVec 512) : Bytes :=
  match key with
  | none => beBytes 64 draw.toNat
  | some d =>
    let k := scalarOf draw
    let r := ((ecMul 256 k (some g256)).getD (0, 0)).1 % n256
    beBytes 32 r ++ beBytes 32 (invMod n256 k * (digest.toNat + r * scalarOf d) % n256)

end Sys2Proof.Machine
end

