-- ==== Sys2Proof/Machine/Flags.lean ====
section
/-!
DEFINITION. Event sources and their counting (R363-R375, R382): which sources exist, their default WINDOW and THRESH, one
occurrence, the closing of windows, and the clearing of SEVERE.
-/
namespace Sys2Proof.Machine
open Sys2Proof

/-- The kinds of block with sources of their own (R363). -/
inductive EvKind where
  | laneP | laneC | island | fb | sio | polvin
  deriving DecidableEq, Repr

/-- The kind of a lane's block. -/
def laneKind : LaneId → EvKind
  | .a | .b => .laneP
  | .c => .laneC

/-- The kind of a unit's block. -/
def unitKind : UnitId → EvKind
  | .isl _ => .island
  | .fb _ => .fb
  | .sio _ => .sio

/-- The number of sources of a block (R363). -/
def EvKind.sources : EvKind → Nat
  | .laneP => 256 | .laneC => 128 | .island | .fb | .sio => 32 | .polvin => 16

/-- Default WINDOW and THRESH of a lane source (R365), none where the source is reserved. -/
def laneEvtDefault (isC : Bool) (n : Nat) : Option (Nat × Nat) :=
  if n = 0 then some (16, 3)
  else if n = 1 then some (1, 1)
  else if n = 3 then some (0, 1)
  else if n = 4 then (if isC then none else some (0, 0))
  else if n = 6 then some (256, 8)
  else if n ≤ 14 then some (0, 0)
  else if n ≤ 17 then (if isC then some (0, 1) else none)
  else if n ≤ 19 then some (0, 0)
  else if 32 ≤ n ∧ n ≤ 127 then some (0, 0)
  else if isC then none
  else if 128 ≤ n ∧ n ≤ 130 then some (0, 1)
  else if n = 131 then some (16, 3)
  else if 132 ≤ n ∧ n ≤ 136 then some (0, 0)
  else none

/-- Default WINDOW and THRESH of a unit's source (R367). -/
def unitEvtDefault (k : EvKind) (n : Nat) : Option (Nat × Nat) :=
  if n = 0 then some (0, 1)
  else if n ≤ 3 then some (8, 24)
  else if n = 15 ∨ n = 16 then some (0, 0)
  else match k with
    | .island => if n = 4 then some (8, 32) else if n = 5 then some (8, 4) else if n ≤ 14 then some (0, 1) else none
    | .fb => if n = 4 then some (0, 0) else none
    | .sio => if n ≤ 6 then some (0, 0) else none
    | _ => none

/-- Default WINDOW and THRESH of any source, none where it is reserved (R364, R365, R367). -/
def evtDefault : EvKind → Nat → Option (Nat × Nat)
  | .laneP, n => laneEvtDefault false n
  | .laneC, n => laneEvtDefault true n
  | .polvin, n => if n ≤ 9 then some (0, 0) else none
  | k, n => unitEvtDefault k n

/-- Sources whose WINDOW and THRESH the canvas must leave at their values (R365, R367). -/
def evtFixed : EvKind → Nat → Bool
  | .laneP, n => n = 1 ∨ n = 3 ∨ n = 4 ∨ n = 6 ∨ (128 ≤ n ∧ n ≤ 130)
  | .laneC, n => n = 1 ∨ n = 3 ∨ n = 6 ∨ (15 ≤ n ∧ n ≤ 17)
  | .island, n => n = 0 ∨ (6 ≤ n ∧ n ≤ 14)
  | .fb, n => n = 0
  | .sio, n => n = 0
  | .polvin, _ => false

/-- WINDOW, THRESH and CUNIT in force for a source. -/
def evtCfgOf (k : EvKind) (b : EvtBlock) (n : Nat) : Option EvtCfg :=
  match evtDefault k n with
  | none => none
  | some d => some ((assocGet b.cfg n).getD ⟨d.1, d.2, 0⟩)

/-- Whether a source is SEVERE. -/
def evtSevere (b : EvtBlock) (n : Nat) : Bool := b.severe.testBit n

/-- EVT_FIRST after an occurrence of an unmasked source (R372). -/
def evtFirst (f : EvtFirst) (n : Nat) (forced : Bool) (tick : Nat) : EvtFirst :=
  if f.valid then { f with ovf := true, setO := true }
  else { src := n, valid := true, ovf := f.ovf, forced := forced, ftick := tick, setV := true, setO := f.setO }

/-- A window that has run out by a round is closed (R368). -/
def EvtCount.expire (c : EvtCfg) (o : EvtCount) (round : Nat) : EvtCount :=
  if o.isOpen ∧ 0 < c.window ∧ c.window ≤ (round + 16777216 - o.start) % 16777216 then { o with isOpen := false, count := 0 } else o

/-- The counting of one occurrence (R368, R382): a window that has run out closes first; the new window and whether the threshold is met. -/
def evtCount (c : EvtCfg) (o : EvtCount) (tick round : Nat) : EvtCount × Bool :=
  let o := o.expire c round
  let counted := if c.cunit = 1 then decide (o.lastTick ≠ some tick)
    else if c.cunit = 2 then decide (o.lastRound ≠ some round) else true
  if counted then
    let o := if o.isOpen then o else { o with isOpen := true, start := round, count := 0 }
    let n := min (o.count + 1) 65535
    ({ o with count := n, lastTick := some tick, lastRound := some round }, decide (0 < c.thresh ∧ c.thresh ≤ n))
  else (o, false)

/-- A forced occurrence of a source that has occurred at the same boundary (R382): the two count once. -/
def EvtBlock.had (b : EvtBlock) (n : Nat) (forced : Bool) : Bool := forced && b.now.testBit n

/-- One occurrence of a source in its block (R364, R368, R371, R372); nothing for a reserved source. -/
def evtOccur (k : EvKind) (b : EvtBlock) (n : Nat) (forced : Bool) (tick round : Nat) : EvtBlock :=
  match evtCfgOf k b n with
  | none => b
  | some c =>
    if b.had n forced then b
    else
    let r := evtCount c ((assocGet b.counts n).getD {}) tick round
    { b with
      status := setBit b.status n
      now := setBit b.now n
      sevNow := if r.2 then setBit b.sevNow n else b.sevNow
      counts := assocPut b.counts n r.1
      severe := if r.2 then setBit b.severe n else b.severe
      first := if b.mask.testBit n then b.first else evtFirst b.first n forced tick }

/-- The windows that have run out at a round boundary are closed (R368). -/
def evtCloseWindows (k : EvKind) (b : EvtBlock) (round : Nat) : EvtBlock :=
  { b with counts := b.counts.map (fun e =>
      match evtCfgOf k b e.1 with
      | none => e
      | some c => (e.1, e.2.expire c round)) }

/-- SEVERE, COUNT and the open window of one source cleared together (R369). -/
def evtClearSevere (b : EvtBlock) (n : Nat) : EvtBlock :=
  { b with severe := clearBit b.severe n, counts := assocDel b.counts n }

/-- SEVERE of a source written 1 (R369, R382): cleared unless the hardware set it at the same boundary. -/
def evtW1cSevere (b : EvtBlock) (n : Nat) : EvtBlock := if b.sevNow.testBit n then b else evtClearSevere b n

/-- STATUS AND NOT MASK (R373). -/
def evtPend (b : EvtBlock) : Nat := clearMask b.status b.mask

/-- The number of set bits among the lowest `n` of a mask. -/
def popCount (n m : Nat) : Nat := ((List.range n).filter (fun i => m.testBit i)).length

/-- A block with its settings taken from event entries (R370): source, WINDOW, THRESH, CUNIT, MASK. -/
def evtConfigure (b : EvtBlock) (es : List (Nat × EvtCfg × Bool)) : EvtBlock :=
  { b with loaded := true, cfg := es.foldl (fun m e => assocPut m e.1 e.2.1) [],
           mask := es.foldl (fun m e => if e.2.2 then setBit m e.1 else m) 0 }

/-- An event entry of eight bytes: unit, source, settings, MASK (R370). -/
def evtEntry (bs : Bytes) (o : Nat) : Nat × Nat × EvtCfg × Bool :=
  (byteAt bs o, byteAt bs (o + 1), ⟨u16At bs (o + 2), u16At bs (o + 4), byteAt bs (o + 6) % 4⟩, (byteAt bs (o + 6)).testBit 2)

/-- A register word of the EVT_ block (R383): unset offsets name no register. WINDOW, THRESH and CUNIT read 0 until a canvas is loaded
(R12). -/
def evtRead (k : EvKind) (b : EvtBlock) (off : Nat) : Option Nat :=
  let words := k.sources / 32 + (if k.sources % 32 = 0 then 0 else 1)
  let word := fun (m base : Nat) => (m >>> (32 * ((off - base) / 4))) % 4294967296
  if off < 4 * words then some (word b.status 0)
  else if 0x20 ≤ off ∧ off < 0x20 + 4 * words then some (word b.severe 0x20)
  else if 0x40 ≤ off ∧ off < 0x40 + 4 * words then some (word b.mask 0x40)
  else if 0x60 ≤ off ∧ off < 0x60 + 4 * words then some 0
  else if off = 0x80 then
    some (b.first.src + 256 * b2n b.first.valid + 512 * b2n b.first.ovf + 1024 * b2n b.first.forced)
  else if off = 0x84 then some b.first.ftick
  else if off = 0x88 then
    some (b2n (evtPend b ≠ 0) + 2 * b2n (b.severe ≠ 0) + 256 * popCount 256 b.severe)
  else if 0x400 ≤ off ∧ off < 0x400 + 8 * k.sources then
    let n := (off - 0x400) / 8
    let c := if b.loaded then (evtCfgOf k b n).getD ⟨0, 0, 0⟩ else ⟨0, 0, 0⟩
    if off % 8 = 0 then some (c.window + 65536 * c.thresh)
    else
      let o := (assocGet b.counts n).getD {}
      some (o.count + 65536 * c.cunit + 262144 * b2n o.isOpen)
  else none

/-- The sources 32w to 32w + 31 whose bit a written value sets. -/
def wordSources (w v : Nat) : List Nat := ((List.range 32).filter (fun i => v.testBit i)).map (fun i => 32 * w + i)

/-- VALID and OVF of a tick that begins: none of them set in it. -/
def EvtFirst.tick (f : EvtFirst) : EvtFirst := { f with setV := false, setO := false }

/-- A block at a tick boundary of its domain: no STATUS bit set in the tick that begins. -/
def EvtBlock.tick (b : EvtBlock) : EvtBlock := { b with now := 0, sevNow := 0, first := b.first.tick }

/-- A write to the EVT_ block other than FORCE: STATUS and SEVERE by W1C, MASK by RW, FIRST.VALID and OVF by W1C. A bit the hardware
set at the same boundary stays set (R10, R382). -/
def evtWrite (k : EvKind) (b : EvtBlock) (off v mask : Nat) : EvtBlock :=
  let w := (off % 32) / 4
  let inBlock := fun (n : Nat) => decide (n < k.sources)
  if off < 0x20 then { b with status := clearMask b.status (clearMask ((v &&& mask) <<< (32 * w)) b.now) }
  else if off < 0x40 then (wordSources w (v &&& mask)).foldl evtW1cSevere b
  else if off < 0x60 then
    let m := ((wordSources w mask).filter inBlock).foldl setBit 0
    { b with mask := clearMask b.mask m ||| ((v <<< (32 * w)) &&& m) }
  else if off = 0x80 then
    { b with first := { b.first with valid := b.first.valid && (b.first.setV || !(v &&& mask).testBit 8),
                                     ovf := b.first.ovf && (b.first.setO || !(v &&& mask).testBit 9) } }
  else b

end Sys2Proof.Machine
end

