-- ==== Sys2Proof/Machine/CanvasParse.lean ====
section
/-!
DEFINITION. Reading a canvas image (R76-R82, R102, R109-R111, R144, R256, R328, R370): header, directory, section CRCs, and the
entries of each section whose layout the manual gives.
-/
namespace Sys2Proof.Machine
open Sys2Proof

/-- A directory entry: ID, offset, length, CRC (R77). -/
structure DirEntry where
  id : Nat
  ofs : Nat
  len : Nat
  crc : Nat
  deriving DecidableEq, Repr

/-- LENGTH of an image (R76). -/
def imgLength (im : Bytes) : Nat := u32At im 12

/-- SIGNED of an image (R76). -/
def imgSigned (im : Bytes) : Bool := (u16At im 6).testBit 0

/-- EPOCH of an image (R76). -/
def imgEpoch (im : Bytes) : Nat := u32At im 8

/-- The directory of an image (R77). -/
def imgDir (im : Bytes) : List DirEntry :=
  (List.range (u16At im 16)).map (fun k =>
    let o := 64 + 16 * k
    ⟨u16At im o, u32At im (o + 4), u32At im (o + 8), u32At im (o + 12)⟩)

/-- The canvas hash (R80): the signature block is left out of a signed image's. -/
def imgHash (im : Bytes) : BitVec 256 :=
  sha256 (im.take (if imgSigned im then imgLength im - 64 else imgLength im))

/-- A 256-bit hash as 32 bytes, most significant byte first. -/
def hashBytes (h : BitVec 256) : Bytes := beBytes 32 h.toNat

/-- The signature block of a signed image (R80). -/
def imgSignature (im : Bytes) : Bytes := slice im (imgLength im - 64) 64

/-- The section IDs of R78 that every image holds. -/
def requiredSections : List Nat := [1, 2, 3, 4, 5, 6, 7, 8, 9, 11, 12, 13, 14]

/-- Whether two directory entries overlap (R77). -/
def dirOverlap (a b : DirEntry) : Bool := decide (a.ofs < b.ofs + b.len) && decide (b.ofs < a.ofs + a.len)

/-- Where a format condition fails: the section and the offset R90 reports, 0xFF for header and directory. -/
def formatAt (ok : Bool) (sect ofs : Nat) : Option (Nat × Nat) := if ok then none else some (sect, ofs)

/-- The header of an image (R76): where its format is wrong. That set reserved bits and bytes refuse the image is log entry 92. -/
def headerFind (im : Bytes) : Option (Nat × Nat) :=
  [formatAt (decide (u32At im 0 = 0x5643544B)) 255 0, formatAt (decide (u16At im 4 = 1)) 255 4, formatAt (decide (u16At im 6 < 8)) 255 6,
   formatAt (decide (imgLength im ≤ 4194304 ∧ imgLength im ≤ im.length)) 255 12,
   formatAt (decide (1 ≤ u16At im 16 ∧ u16At im 16 ≤ 32)) 255 16, formatAt (decide (u16At im 18 = 0)) 255 18,
   formatAt (decide (u32At im 28 = 0)) 255 28, formatAt (imgSigned im || slice im 32 32 == zeros 32) 255 32].findSome? id

/-- The directory entry in place k of an image (R77, R78): where it, or the CRC of its section, is wrong. -/
def entryFind (im : Bytes) (k : Nat) (e : DirEntry) (later : List DirEntry) : Option (Nat × Nat) :=
  let o := 64 + 16 * k
  let last := if imgSigned im then imgLength im - 64 else imgLength im
  [formatAt (decide (1 ≤ e.id ∧ e.id ≤ 14)) 255 o, formatAt (decide (u16At im (o + 2) = 0)) 255 (o + 2),
   formatAt (decide (e.ofs % 64 = 0 ∧ 64 + 16 * u16At im 16 ≤ e.ofs)) 255 (o + 4), formatAt (decide (e.ofs + e.len ≤ last)) 255 (o + 8),
   formatAt (later.all (fun f => !dirOverlap e f && decide (e.id ≠ f.id))) 255 o,
   formatAt (decide (crc32 (slice im e.ofs e.len) = e.crc)) e.id 0].findSome? id

/-- The entries of a directory from place k on. -/
def dirFind (im : Bytes) : Nat → List DirEntry → Option (Nat × Nat)
  | _, [] => none
  | k, e :: r => (entryFind im k e r).or (dirFind im (k + 1) r)

/-- Step 1 of R84 but for PATCHMIN: where the format of an image is wrong, if anywhere (R76-R78, R90; log entry 92). -/
def formatFind (im : Bytes) : Option (Nat × Nat) :=
  (headerFind im).or ((dirFind im 0 (imgDir im)).or
    (formatAt (requiredSections.all (fun i => (imgDir im).any (fun e => e.id = i))) 255 64))

/-- Whether the format of an image is right (R76-R78); what the rules call reserved must be 0 (log entry 92). -/
def formatOk (im : Bytes) : Bool := (formatFind im).isNone

/-- The bytes of a section; none listed reads empty. -/
def imgSect (im : Bytes) (id : Nat) : Bytes :=
  match (imgDir im).find? (fun e => e.id = id) with
  | some e => slice im e.ofs e.len
  | none => []

/-- The fixed-size entries of a section. -/
def entriesOf (bs : Bytes) (size : Nat) : List Bytes := (List.range (bs.length / size)).map (fun k => slice bs (size * k) size)

/-- The fourteen parameters of a CELLS entry. -/
def cellWords (e : Bytes) : List Nat := (List.range 14).map (fun k => u32At e (8 + 4 * k))

/-- The cells of the CELLS section, each with the parameters of its entry and of the CONT entries that follow it (R109). DESIGN CHOICE (log
entry 148): reserved bits of an entry and of a CONT entry are not looked at. -/
def parseCells (bs : Bytes) : List CellDef :=
  ((entriesOf bs 64).foldl (fun (acc : List CellDef) e =>
    if byteAt e 2 = 0 then
      match acc with
      | d :: r => { d with params := d.params ++ cellWords e } :: r
      | [] => []
    else
      { idx := u16At e 0, kind := byteAt e 2, round := (byteAt e 3).testBit 0, expert := (byteAt e 3).testBit 1,
        axis := byteAt e 4, ncont := byteAt e 5, delayed := byteAt e 6, tinr := byteAt e 7 % 8, params := cellWords e } :: acc) []).reverse

/-- WIRES (R111). DESIGN CHOICE (log entry 148): byte 7, the source of a constant and the constant of a wire are not looked at. -/
def parseWires (bs : Bytes) : List WireDef :=
  (entriesOf bs 12).map (fun e => ⟨u16At e 0, byteAt e 2, byteAt e 3, u16At e 4, byteAt e 6, u32At e 8⟩)

/-- OWN (R81): resource code and owner. DESIGN CHOICE (log entry 148): bytes 5-7 are not looked at. -/
def parseOwn (bs : Bytes) : List (Nat × Nat) := (entriesOf bs 8).map (fun e => (u32At e 0, byteAt e 4))

/-- AXES (R144): template kind and entry. -/
def parseAxes (bs : Bytes) : List AxisDef := (entriesOf bs 192).map (fun e => ⟨byteAt e 1, e⟩)

/-- CMDR (R328). -/
def parseCmdrs (bs : Bytes) : List CmdrDef :=
  (entriesOf bs 16).map (fun e => ⟨u16At e 0 % 4096, byteAt e 2 % 8, (byteAt e 3).testBit 0,
    [u16At e 4 % 4096, u16At e 6 % 4096, u16At e 8 % 4096]⟩)

/-- PERM (R102), reserved bits of byte 15 not looked at (log entry 148). -/
def parsePerms (bs : Bytes) : List PermDef :=
  (entriesOf bs 16).map (fun e => ⟨u32At e 0, u32At e 4, u32At e 8, byteAt e 12, byteAt e 13, byteAt e 14, (byteAt e 15).testBit 0⟩)

/-- The mode record of FAULT (R79). -/
def parseMode (b : Bytes) : ModeRec :=
  { trlim := u16At b 2, decel := u32At b 4, stalw := u16At b 8, vspeed := u16At b 10,
    base := (List.range 4).map (fun k => u16At b (12 + 2 * k)), ssc := (List.range 6).map (fun k => byteAt b (20 + k)),
    rearmp := byteAt b 26, loops := (List.range 4).map (fun k => u32At b (28 + 4 * k)), stopt := u16At b 44 }

/-- The event entries of FAULT (R370): unit code, source, settings, MASK. -/
def parseEvents (b : Bytes) : List (Nat × Nat × EvtCfg × Bool) :=
  (List.range (u16At b 0)).map (fun k => evtEntry b (64 + 8 * k))

/-- The header of SLOTS (R256). -/
def parseNet (b : Bytes) : NetDef :=
  { self := u16At b 0, rank := byteAt b 2, mcap := decide (byteAt b 3 = 1), etype := u16At b 4, latch := u16At b 6,
    wdef := u16At b 8, canMode := (byteAt b 12, byteAt b 13), canAddr := (byteAt b 14, byteAt b 15),
    canName := (u32At b 16 + 4294967296 * u32At b 20, u32At b 24 + 4294967296 * u32At b 28) }

/-- The slot entries of SLOTS (R256). -/
def parseSlots (b : Bytes) : List SlotDef :=
  (List.range (u16At b 10)).map (fun k =>
    let o := 64 + 16 * k
    let w := u16At b o
    ⟨w % 4096, bitsOf w 13 12, w.testBit 14, byteAt b (o + 2), byteAt b (o + 3), u16At b (o + 4) % 4096, u16At b (o + 6) % 2048,
     u32At b (o + 8), u16At b (o + 12)⟩)

/-- The canvas an image holds. -/
def parseCanvas (im : Bytes) : Canvas :=
  { signed := imgSigned im, fullstart := (u16At im 6).testBit 1, expert := (u16At im 6).testBit 2, epoch := imgEpoch im,
    patchmin := u32At im 24, keyid := slice im 32 32, hash := hashBytes (imgHash im),
    sects := (imgDir im).map (fun e => (e.id, slice im e.ofs e.len)),
    cells := parseCells (imgSect im 1), wires := parseWires (imgSect im 2), own := parseOwn (imgSect im 3),
    vote := Config.readVote (imgSect im 6), axes := parseAxes (imgSect im 7), cmdrs := parseCmdrs (imgSect im 8),
    mode := parseMode (imgSect im 9), events := parseEvents (imgSect im 9), perms := parsePerms (imgSect im 10),
    net := parseNet (imgSect im 11), slots := parseSlots (imgSect im 11),
    tasks := Config.readTasks (imgSect im 5) }

/-- A section of a canvas. -/
def Canvas.sect (cv : Canvas) (id : Nat) : Bytes := (assocGet cv.sects id).getD []

/-- A word that device supervision posts to a unit: always voted with W = 0 (R24, R187, R214, R237). -/
def supervisedWord (code w : Nat) : Bool :=
  if code ≤ 9 then decide (w = 12) else if code ≤ 11 then decide (w ≤ 3) else decide (w = 0)

/-- A word a unit's chapter declares not voted (R24). -/
def unvotedWord (code w : Nat) : Bool := if code ≤ 9 then decide (4 ≤ w ∧ w ≤ 11) else !supervisedWord code w

/-- The agreement window of a word of a unit, none where it is not voted (R24). -/
def Canvas.windowOf (cv : Canvas) (code w : Nat) : Option Nat :=
  if supervisedWord code w then some 0
  else if unvotedWord code w then none
  else (cv.vote.find? (fun e => e.1 = code && e.2.1 = w)).map (fun e => e.2.2 % 65536)

/-- The address ranges of a unit's COMMIT group (R71, R102). -/
def Canvas.groupOf (cv : Canvas) (code : Nat) : List (Nat × Nat) :=
  (cv.perms.filter (fun p => p.group && decide (p.first / 268435456 ≤ code ∧ code ≤ p.last / 268435456))).map (fun p => (p.first, p.last))

/-- The 48 bytes of a record. -/
def record48 (b : Bytes) : Bytes := (b ++ zeros 48).take 48

/-- Record 0 of every unit (R91). -/
def Canvas.record0 (cv : Canvas) : Bytes := record48 (cv.hash ++ leBytes 4 cv.epoch)

/-- The event records of a unit (R370): six entries each, in ascending source order. -/
def Canvas.eventRecs (cv : Canvas) (code : Nat) : List Bytes :=
  let es := (List.range 32).filterMap (fun n => cv.events.find? (fun e => e.1 = code && e.2.1 = n))
  let bs := es.flatMap (fun e => [BitVec.ofNat 8 e.1, BitVec.ofNat 8 e.2.1] ++ leBytes 2 e.2.2.1.window ++ leBytes 2 e.2.2.1.thresh ++
    [BitVec.ofNat 8 (e.2.2.1.cunit + 4 * b2n e.2.2.2), 0])
  (List.range ((es.length + 5) / 6)).map (fun k => record48 (slice bs (48 * k) 48))

/-- The configuration records of a unit in index order (R71, R91, R370): record 0, those of the UCFG section, the group record of a unit
with a group, the event records. -/
def Canvas.unitRecs (cv : Canvas) (code : Nat) : List Bytes :=
  let rs := (Config.readUcfg (cv.sect 14)).filter (fun r => decide (r.1 = code ∧ r.2.1 ≠ 0))
  let own := (List.range rs.length).map (fun i => record48 (((rs.find? (fun r => r.2.1 = i + 1)).map (fun r => r.2.2)).getD []))
  let grp := cv.groupOf code
  cv.record0 :: own ++ (if grp = [] then [] else [record48 (Config.groupRecord grp)]) ++ cv.eventRecs code

/-- The settings of a unit that its canvas gives beside its records (R24, R43, R71, R79, R370); 20 000 ticks a second. -/
def Canvas.unitSettings (cv : Canvas) (code : Nat) : UnitSettings :=
  { windows := (List.range 13).map (cv.windowOf code), backLim := 20000 * (cv.mode.trlim + cv.mode.stalw), ranges := cv.groupOf code,
    events := (cv.events.filter (fun e => e.1 = code)).map (fun e => e.2) }

/-- The byte offset of the k-th cell in CELLS, with the CONT entries before it (R109). -/
def Canvas.cellOfs (cv : Canvas) (k : Nat) : Nat := 64 * (k + ((cv.cells.take k).map (fun d => d.ncont)).sum)

/-- The cell of an index. DESIGN CHOICE (log entry 149): of two entries with one INDEX the first is the cell. -/
def Canvas.cell (cv : Canvas) (i : Nat) : Option CellDef := cv.cells.find? (fun d => d.idx = i)

/-- The wire of an input (R88). -/
def Canvas.wire (cv : Canvas) (i n : Nat) : Option WireDef :=
  cv.wires.find? (fun w => w.dcell = i && w.din = n && (w.type = 0 || w.type = 1))

/-- The owner of a resource (R81). -/
def Canvas.ownerOf (cv : Canvas) (code : Nat) : Option Nat := (cv.own.find? (fun o => o.1 = code)).map (fun o => o.2)

/-- A resource code (R81): kind, unit code, index. -/
def resCode (kind unit idx : Nat) : Nat := kind * 16777216 + unit * 65536 + idx

/-- The transmit slot a SNK writes, as a resource (R81). -/
def slotRes (plane slot : Nat) : Nat := resCode 9 (plane + 1) (4096 * plane + slot)

/-- The first and number of the half-bridges of an island (R81, R185). -/
def bridgesOf (unit : Nat) : Nat × Nat := if unit = 8 then (12, 6) else if unit = 9 then (18, 6) else (3 * (unit - 4), 3)

/-- An owner's resources of a kind in a unit. -/
def Canvas.owns (cv : Canvas) (owner kind unit idx : Nat) : Bool := cv.own.any (fun o => o.1 = resCode kind unit idx && o.2 = owner)

/-- A binding of an AXES entry (R144). -/
def AxisDef.bind (a : AxisDef) (k : Nat) : Nat := u32At a.bytes (16 + 4 * k)

/-- A parameter of an AXES entry, as a raw binary32 word (R144). -/
def AxisDef.par (a : AxisDef) (k : Nat) : Nat := u32At a.bytes (64 + 4 * k)

/-- The axis number, first cell, cell count and partner of an AXES entry (R144). -/
def AxisDef.axis (a : AxisDef) : Nat := byteAt a.bytes 0
def AxisDef.first (a : AxisDef) : Nat := u16At a.bytes 4
def AxisDef.ncell (a : AxisDef) : Nat := u16At a.bytes 6
def AxisDef.partner (a : AxisDef) : Nat := u16At a.bytes 8 % 4096

/-- The motor record of a motor island (R168). -/
def Canvas.motorRec (cv : Canvas) (m : Nat) : Bytes := (cv.unitRecs (4 + m)).getD 1 []

/-- The modulation cap of an island in hundredths (R173), from its island record. -/
def Canvas.capOf (cv : Canvas) (code : Nat) : Nat :=
  let dt := u16At ((cv.unitRecs code).getD 2 []) 2
  (100 * 50000 - 150 * (1600 + dt)) / 50000

end Sys2Proof.Machine
end

