-- ==== Sys2Proof/Machine/Float.lean ====
section
/-!
DEFINITION. binary32 and Q15.16 as patterns (R5, R6): decoding to exact rationals, rounding to nearest with ties to even and
subnormals flushed to zero (R118, R311), saturation to Q15.16 (R5, R117), and rounding to integers.
-/
namespace Sys2Proof.Machine
open Sys2Proof

/-- Two to an integer power, exactly. -/
def ratPow2 (e : Int) : Rat := if e ≥ 0 then ((2 ^ e.toNat : Nat) : Rat) else 1 / ((2 ^ (-e).toNat : Nat) : Rat)

/-- Whether a pattern is a NaN. -/
def f32IsNan (w : Nat) : Bool := bitsOf w 30 23 == 255 && w % 8388608 != 0

/-- Whether a pattern is an infinity. -/
def f32IsInf (w : Nat) : Bool := bitsOf w 30 23 == 255 && w % 8388608 == 0

/-- The exact value of a finite binary32 pattern, subnormals as they stand; 0 of a pattern that is no number. -/
def f32Exact (w : Nat) : Rat :=
  let e := bitsOf w 30 23
  if e = 255 then 0
  else
    let m : Rat := if e = 0 then ((w % 8388608 : Nat) : Rat) * ratPow2 (-149)
      else ((8388608 + w % 8388608 : Nat) : Rat) * ratPow2 ((e : Int) - 150)
    if w.testBit 31 then -m else m

/-- The value of a binary32 pattern as a lane takes it: a subnormal reads as zero (R118). -/
def f32Rat (w : Nat) : Rat := if bitsOf w 30 23 = 0 then 0 else f32Exact w

/-- The integer nearest to a rational, ties to even. -/
def roundEven (q : Rat) : Int :=
  let f := q.floor
  let r := q - (f : Rat)
  if r < 1 / 2 then f else if r > 1 / 2 then f + 1 else if f % 2 = 0 then f else f + 1

/-- The integer nearest to a rational, ties away from zero. -/
def roundAway (q : Rat) : Int := if q ≥ 0 then (q + 1 / 2).floor else -((-q + 1 / 2).floor)

/-- A rational rounded toward zero. -/
def roundZero (q : Rat) : Int := if q ≥ 0 then q.floor else -((-q).floor)

/-- The exponent e with 2^e ≤ q < 2^(e+1), for q > 0. -/
def ratExp (q : Rat) : Int :=
  let e0 : Int := (q.num.natAbs.log2 : Int) - (q.den.log2 : Int)
  if ratPow2 e0 ≤ q then e0 else e0 - 1

/-- The binary32 pattern nearest to a rational, ties to even, a result below the normal range flushed to zero and one above
the finite range held at the largest finite magnitude. DESIGN CHOICE (log entry 86): a result counts as subnormal by its value after the
rounding, with an exponent without bound. -/
def roundF32 (q : Rat) : Nat :=
  if q = 0 then 0
  else
    let neg := if q < 0 then 2147483648 else 0
    let a : Rat := if q < 0 then -q else q
    let e := ratExp a
    let m := (roundEven (a * ratPow2 (23 - e))).toNat
    let me : Nat × Int := if m = 16777216 then (8388608, e + 1) else (m, e)
    if me.2 < -126 then neg
    else if me.2 > 127 then neg + 2139095039
    else neg + ((me.2 + 127).toNat * 8388608 + (me.1 - 8388608))

/-- The exact value of a Q15.16 pattern (R5). -/
def qRat (w : Nat) : Rat := (toSigned 32 w : Rat) / 65536

/-- A Q15.16 raw integer held at the ends of the range (R5). -/
def qSat (v : Int) : Int := clamp32 v

/-- The Q15.16 pattern nearest to a rational, ties away from zero, saturating (R117). -/
def roundQ (q : Rat) : Nat := ofSigned 32 (qSat (roundAway (q * 65536)))

/-- The square root of a rational, with so many bits that its rounding to binary32 is exact; 0 of a negative one. -/
def sqrtRat (v : Rat) : Rat :=
  let k : Nat := 80 + (-(ratExp v)).toNat
  let n := (v * ratPow2 (2 * k)).floor.toNat
  let r := Nat.sqrt n
  if v ≤ 0 then 0 else ((r : Rat) + (if r * r = n then 0 else 1 / 2)) / ratPow2 k

/-- π to 34 places. -/
def piRat : Rat := 31415926535897932384626433832795028 / 10000000000000000000000000000000000

/-- The terms of the sine's series from the `k`-th, in 2^-60, for an angle whose square is `x2`: the sum with `t` the next term. -/
def sineSeries (x2 : Int) : Nat → Nat → Int → Int → Int
  | 0, _, _, acc => acc
  | n + 1, k, t, acc => sineSeries x2 n (k + 1) (-(t * x2 / 1152921504606846976) / ((2 * k) * (2 * k + 1) : Nat)) (acc + t)

/-- The sine of `j`/1024 turn for j up to 256, to the nearest 2^-30 (R116). -/
def sineEntry (j : Nat) : Rat :=
  let x : Int := ((3622009729038561421 * j / 512 : Nat) : Int)
  (roundAway ((sineSeries (x * x / 1152921504606846976) 14 1 x 0 : Rat) / 1073741824) : Rat) / 1073741824

/-- The terms of the sine's series exactly, from the `k`-th, for an angle whose square is `x2`: the sum with `t` the next term. -/
def sineTerms (x2 : Rat) : Nat → Nat → Rat → Rat → Rat
  | 0, _, _, acc => acc
  | n + 1, k, t, acc => sineTerms x2 n (k + 1) (-(t * x2) / ((2 * k) * (2 * k + 1) : Nat)) (acc + t)

/-- The sine of r turns for r up to a quarter, to far more places than binary32 has. -/
def sineQuarter (r : Rat) : Rat :=
  let x := 2 * (3141592653589793238462643383279502884197 / 1000000000000000000000000000000000000000) * r
  sineTerms (x * x) 14 1 x 0

/-- The sine of an angle in turns, from 0 to below 2. -/
def sineTurn (f : Rat) : Rat :=
  let k := (4 * f).floor.toNat
  let r := f - (k : Rat) / 4
  match k % 4 with
  | 0 => sineQuarter r
  | 1 => sineQuarter (1 / 4 - r)
  | 2 => -sineQuarter r
  | _ => -sineQuarter (1 / 4 - r)

/-- The 1024-point table of a turn (R116), from its first quarter. -/
def sinePoint (k : Nat) : Rat :=
  let j := k % 256
  match k / 256 % 4 with
  | 0 => sineEntry j
  | 1 => sineEntry (256 - j)
  | 2 => -sineEntry j
  | _ => -sineEntry (256 - j)

/-- Linear interpolation between the table's points, for an angle in turns from 0 to below 1 (R116). -/
def sineTable (x : Rat) : Rat :=
  let u := x * 1024
  let k := u.floor.toNat
  sinePoint k + (u - (k : Rat)) * (sinePoint (k + 1) - sinePoint k)

end Sys2Proof.Machine
end

