-- ==== Sys2Proof/Machine/Vote.lean ====
section
/-!
DEFINITION. What all ten units do alike: ticks and marks (R52-R62), command blocks (R18, R23), configuration records
(R91-R93), the vote and its resolution by verdicts (R24-R30), admission (R27), and the head of the measurement block (R19,
R60, R92).
-/
namespace Sys2Proof.Machine
open Sys2Proof

/-- The common part with one link replaced. -/
def UnitCommon.setLink (c : UnitCommon) (l : LaneId) (k : LinkState) : UnitCommon := { c with links := c.links.set l k }

/-- The common part with a function applied to each link. -/
def UnitCommon.eachLink (c : UnitCommon) (f : LaneId → LinkState → LinkState) : UnitCommon :=
  { c with links := ⟨f .a c.links.a, f .b c.links.b, f .c c.links.c⟩ }

/-- The lanes a unit admits. -/
def UnitCommon.admitted (c : UnitCommon) : List LaneId := allLanes.filter (fun l => (c.links.get l).adm)

/-- The links on which the pending bit of a source still stands, unacknowledged (R66). -/
def UnitCommon.merges (c : UnitCommon) (n : Nat) : Nat :=
  (allLanes.filter (fun l => (c.links.get l).up && (c.links.get l).evPend.testBit n)).length

/-- ROUND of the round in which a tick lies: at its first boundary the round boundary is still to come. -/
def roundNow (c : UnitCommon) : Nat := if c.roundDue then c.round + 1 else c.round

/-- One occurrence of an event source of a unit (R368): an unmasked one sets its pending bit on the crossing to every lane, and merges
where the bit stands (R66, R371). -/
def unitEvt (u : UnitId) (c : UnitCommon) (n : Nat) (forced : Bool := false) : UnitCommon :=
  let e := evtOccur (unitKind u) c.evt n forced c.tick (roundNow c % 16777216)
  if c.evt.had n forced then c
  else if c.evt.mask.testBit n ∨ (evtDefault (unitKind u) n).isNone then { c with evt := e }
  else
    { c.eachLink (fun _ k => if k.up then { k with evPend := setBit k.evPend n } else k) with
      evt := e, merged := satAdd 16 c.merged (c.merges n) }

/-- The occurrences of several sources of a unit in one clock (R368, R372): each counts once, the lowest number first. -/
def unitEvts (u : UnitId) (c : UnitCommon) (ns : List Nat) : UnitCommon :=
  ((List.range 32).filter (fun n => ns.contains n)).foldl (fun c n => unitEvt u c n) c

/-- A sorted copy of a list of integers. -/
def insertSorted (v : Int) : List Int → List Int
  | [] => [v]
  | x :: xs => if v ≤ x then v :: x :: xs else x :: insertSorted v xs

/-- Insertion sort. -/
def sortInts (vs : List Int) : List Int := vs.foldr insertSorted []

/-- The fault-tolerant midpoint of at most three arrivals (R59). -/
def midpoint (vs : List Int) : Option Int :=
  match sortInts vs with
  | [] => none
  | [a] => some a
  | [a, b] => some (Int.fdiv (a + b) 2)
  | _ :: b :: _ => some b

/-- The arrivals of this tick's marks on the links of the given lanes. -/
def arrivals (c : UnitCommon) (ls : List LaneId) : List Int :=
  ls.filterMap (fun l => (c.links.get l).mark.map (fun m => m.2))

/-- M of R59 and M_ADM. -/
def midAll (c : UnitCommon) : Option Int := midpoint (arrivals c allLanes)
def midAdm (c : UnitCommon) : Option Int := midpoint (arrivals c c.admitted)

/-- How far tick `b` lies after tick `a`, modulo 2^32 (R53); negative where it lies before. -/
def tickAfter (a b : Nat) : Int := toSigned 32 (b + 4294967296 - a % 4294967296)

/-- The TICK of one, two or three marks (R62): the only one, the larger of two, the median of three, all compared modulo 2^32 (R53). -/
def tickOf : List Nat → Option Nat
  | [] => none
  | t :: ts =>
    let mid := match sortInts ((t :: ts).map (tickAfter t)) with
      | [] => 0
      | [d] => d
      | _ :: d :: _ => d
    some (ofSigned 32 ((t : Int) + mid))

/-- The TICK a unit takes from the marks of its admitted lanes, or of all lanes when it admits none (R62). -/
def markTick (c : UnitCommon) : Option Nat :=
  let ls := if c.admitted = [] then allLanes else c.admitted
  tickOf (ls.filterMap (fun l => (c.links.get l).mark.map (fun m => m.1)))

/-- ARR and INWIN of every link from the marks received so far in the tick (R59, R74). -/
def judgeMarks (c : UnitCommon) : UnitCommon :=
  match midAll c with
  | none => c
  | some m => c.eachLink (fun _ k =>
      match k.mark with
      | none => k
      | some a => { k with arr := clampI (-32767) 32767 (a.2 - m), inwin := decide ((a.2 - m).natAbs ≤ 2000) })

/-- A tick mark of a lane arrives, carrying its TICK, at a time in ns by the unit's reference, from which the link's measured delay is
subtracted (R58, R59, R62, R72). Where TICK jumps, ROUND becomes TICK / 8 modulo 2^24 and no boundary falls on the jump (log entry
78). -/
def unitMark (c : UnitCommon) (l : LaneId) (tick : Nat) (t : Int) : UnitCommon :=
  let k := c.links.get l
  if k.up then
    let c := judgeMarks (c.setLink l { k with mark := some (tick % 4294967296, t - k.delay) })
    match markTick c with
    | none => c
    | some v => if v = c.tick then c
                else { c with tick := v, round := (v / 8) % 16777216, roundDue := false }
  else c

/-- The boundary of a unit's tick (R52, R57, R62): TICK advances by one and the tick's receptions begin anew. -/
def unitTick (c : UnitCommon) : UnitCommon :=
  let t := (c.tick + 1) % 4294967296
  let c := c.eachLink (fun _ k =>
    { k with arrValid := k.mark.isSome, inwin := k.inwin && k.mark.isSome, mark := none, rx := none })
  { c with tick := t, age := c.age + 1, roundDue := decide (t % 8 = 0), evt := c.evt.tick,
           vote := { c.vote with done := false }, shadow := { c.shadow with straddling := false },
           cfg := { c.cfg with noAdmit := if c.admitted = [] then c.cfg.noAdmit + 1 else 0 } }

/-- A command block parsed (R18), with the mask of words still STALE. -/
def parseCmd (bs : Bytes) (stale : Nat) : CmdRx :=
  { tick := u32At bs 0
    lane := byteAt bs 4 % 4
    mode := byteAt bs 4 / 16
    state := byteAt bs 5 % 16
    verdict := bitsOf (byteAt bs 5) 5 4
    vtick := byteAt bs 6
    withdraw := (byteAt bs 5).testBit 6
    words := (List.range 13).map (fun w => i32At bs (8 + 4 * w))
    stale := stale
    crcOk := decide (bs.length = 64 ∧ crc32 (slice bs 0 60) = u32At bs 60) }

/-- The 64 bytes of a command block (R18). -/
def cmdBytes (tick lane mode state verdict vtick : Nat) (withdraw : Bool) (words : List Int) : Bytes :=
  let body := leBytes 4 tick ++
    [BitVec.ofNat 8 (lane + 16 * mode), BitVec.ofNat 8 (state + 16 * verdict + 64 * b2n withdraw),
     BitVec.ofNat 8 vtick, 0] ++
    (List.range 13).flatMap (fun w => leBytesI 4 (words.getD w 0))
  body ++ leBytes 4 (crc32 body)

/-- Whether a block is valid for the unit's tick in every respect except admission (R23, R72); one with STATE = TRANSLATE is never voted
(R91). -/
def blockSound (c : UnitCommon) (l : LaneId) : Bool :=
  let k := c.links.get l
  match k.rx with
  | none => false
  | some r => r.crcOk && decide (r.tick = c.tick) && decide (r.lane = l.code) && !r.withdraw &&
      k.inwin && k.mark.isSome && decide (r.stale = 0) && decide (r.state ≠ 2)

/-- Whether a lane's block is valid by R23. -/
def blockValid (c : UnitCommon) (l : LaneId) : Bool := (c.links.get l).adm && blockSound c l

/-- Word `w` of the block received from a lane. -/
def rxWord (c : UnitCommon) (l : LaneId) (w : Nat) : Int :=
  match (c.links.get l).rx with
  | none => 0
  | some r => r.words.getD w 0

/-- The canvas hash of record 0 (R91). -/
def recHash (bs : Bytes) : Bytes := slice bs 0 32

/-- The record a unit holds under a hash, accepted or loaded (R92). -/
def heldRec (g : UnitCfg) (h : Bytes) (i : Nat) : Option Bytes :=
  if g.loaded ∧ recHash (g.recs.getD 0 []) = h then g.recs[i]?
  else if g.asmHash = h then assocGet g.asm i else none

/-- The hash a lane's present record set names. -/
def setHash (r : RecSet) : Option Bytes := (assocGet r.recs 0).map recHash

/-- Whether a record set holds each of its records. -/
def setComplete (r : RecSet) : Bool :=
  decide (0 < r.total) && (List.range r.total).all (fun i => (assocGet r.recs i).isSome)

/-- The records of a complete set in order. -/
def setRecs (r : RecSet) : List Bytes := (List.range r.total).map (fun i => (assocGet r.recs i).getD [])

/-- NEXT of a link (R92), of the lane's present record set. -/
def linkNext (g : UnitCfg) (k : LinkState) : Nat :=
  let r := k.recs
  match setHash r with
  | none => 0
  | some h =>
    ((List.range r.total).find? (fun i =>
      match assocGet r.recs i, heldRec g h i with
      | some a, some b => decide (a ≠ b)
      | _, _ => true)).getD 255

/-- A record set with the record of one TRANSLATE block added (R91, R92). -/
def recPut (r : RecSet) (words : List Int) : RecSet :=
  let w0 := ofSigned 32 (words.getD 0 0)
  let idx := w0 % 256
  let total := bitsOf w0 15 8
  let rec48 := (List.range 12).flatMap (fun i => leBytesI 4 (words.getD (i + 1) 0))
  let r := if r.active then r else { active := true, total := total, recs := [] }
  if idx < total ∧ idx ≤ 254 ∧ w0 / 65536 = 0 then { r with total := total, recs := assocPut r.recs idx rec48 } else r

/-- The lanes other than one. -/
def otherLanes (l : LaneId) : List LaneId := allLanes.filter (fun m => m ≠ l)

/-- The records accepted because two lanes sent them identical under one hash (R93), after a record of lane `l`. DESIGN CHOICE (log entry 146): where
the two sets name different numbers of records, that of the lane that sent last counts. -/
def accept (c : UnitCommon) (l : LaneId) : UnitCfg :=
  let r := (c.links.get l).recs
  match setHash r with
  | none => c.cfg
  | some h =>
    let others := (otherLanes l).filter (fun m => setHash (c.links.get m).recs = some h)
    let same := (List.range r.total).filterMap (fun i =>
      match assocGet r.recs i with
      | none => none
      | some b => if others.any (fun m => assocGet (c.links.get m).recs.recs i = some b) then some (i, b) else none)
    if same = [] ∨ (c.cfg.loaded ∧ recHash (c.cfg.recs.getD 0 []) = h) then c.cfg
    else
      let base := if c.cfg.asmHash = h then c.cfg.asm else []
      { c.cfg with asmHash := h, asmTotal := r.total, asm := same.foldl (fun m e => assocPut m e.1 e.2) base }

/-- The records accepted under one hash, when all of them are (R93). -/
def assembled (g : UnitCfg) : Option (List Bytes) :=
  if decide (0 < g.asmTotal) && (List.range g.asmTotal).all (fun i => (assocGet g.asm i).isSome) then
    some ((List.range g.asmTotal).map (fun i => (assocGet g.asm i).getD []))
  else none

/-- The record set under another hash than the loaded one that two lanes have completed identically (R93). -/
def pairComplete (c : UnitCommon) : Option (List Bytes) :=
  let own := fun (l : LaneId) => (c.links.get l).recs
  (allLanes.find? (fun l => setComplete (own l) && decide (setHash (own l) ≠ some (recHash (c.cfg.recs.getD 0 []))) &&
    (otherLanes l).any (fun m => setComplete (own m) && decide (setRecs (own m) = setRecs (own l))))).map (fun l => setRecs (own l))

/-- The record set a unit is to load (R93): the first when all its records are accepted, another when no lane has been admitted for 8
ticks and two lanes have completed it. -/
def loadDue (c : UnitCommon) : Option (List Bytes) :=
  if !c.cfg.loaded then assembled c.cfg else if 8 ≤ c.cfg.noAdmit then pairComplete c else none

/-- The common part of a configuration load (R93): the fields marked C, and MATCH judged for every lane. -/
def unitLoad (c : UnitCommon) (recs : List Bytes) (st : UnitSettings) : UnitCommon :=
  let c := c.eachLink (fun _ k => { k with agree := setComplete k.recs && decide (setRecs k.recs = recs), synctk := 0 })
  { c with
    cfg := { loaded := true, recs := recs, asmHash := [], asmTotal := 0, asm := [], noAdmit := c.cfg.noAdmit }
    vote := { c.vote with windows := st.windows }
    evt := evtConfigure c.evt st.events
    shadow := { c.shadow with ranges := st.ranges } }

/-- A record block of a lane in TRANSLATE (R91-R93): with the set that begins anew the MATCH of the last one ends (log entry 83). -/
def unitRecord (c : UnitCommon) (l : LaneId) (words : List Int) : UnitCommon :=
  let k := c.links.get l
  let r := recPut k.recs words
  let agree := if setComplete r then c.cfg.loaded && decide (setRecs r = c.cfg.recs) else k.agree && k.recs.active
  let c := c.setLink l { k with recs := r, agree := agree }
  { c with cfg := accept c l }

/-- Withdrawal of a lane's admission (R27). The count of missing ticks goes on (R74). -/
def withdrawLink (k : LinkState) : LinkState := { k with adm := false, synctk := 0, gone := false }

/-- A command block arrives at a unit before the deadline (R18, R23, R27, R28, R65, R93); one after it is discarded. -/
def unitReceive (u : UnitId) (c : UnitCommon) (l : LaneId) (bs : Bytes) (stale : Nat) : UnitCommon :=
  let k := c.links.get l
  if c.vote.done ∨ ¬ k.up then c
  else
    let r := parseCmd bs stale
    let c := { c with stale := satAdd 16 c.stale (popCount 13 stale) }
    if r.crcOk then
      let named := decide (r.tick = c.tick ∧ r.lane = l.code)
      let k := { k with rx := some r }
      let k := if named ∧ (r.withdraw ∨ 2 ≤ r.verdict) then withdrawLink k else k
      let k := match c.vote.dispute with
        | none => k
        | some n =>
          if named ∧ r.verdict ≠ 0 ∧ (r.vtick + 256 - n % 256) % 256 ≤ 2 then
            { k with verdict := if r.verdict = 1 then 1 else 2 }
          else k
      let k := if named ∧ r.state ≠ 2 then { k with recs := { k.recs with active := false } } else k
      let c := c.setLink l k
      if named ∧ r.state = 2 ∧ stale = 0 then unitRecord c l r.words else c
    else
      unitEvt u (c.setLink l { k with rx := some r, crcerr := satAdd 16 k.crcerr 1 }) 16

/-- The vote of one word from the values of the valid blocks (R25): the output, none when the word is held, and the lanes
counted against. -/
def wordVote (adm : Nat) (vals : List (LaneId × Int)) (w : Nat) : Option Int × List LaneId :=
  match vals with
  | [] => (none, [])
  | [a] => (if adm = 1 then some a.2 else none, [])
  | [a, b] => (if (a.2 - b.2).natAbs ≤ w then some (divTrunc (a.2 + b.2) 2) else none, [])
  | _ =>
    match sortInts (vals.map (fun v => v.2)) with
    | _ :: m :: _ =>
      let bad := (vals.filter (fun v => w < (v.2 - m).natAbs)).map (fun v => v.1)
      (if 2 ≤ bad.length then none else some m, bad)
    | _ => (none, [])

/-- The voted words of a unit with their windows (R24). -/
def votedWords (v : VoteState) : List (Nat × Nat) :=
  (List.range 13).filterMap (fun w => (v.windows.getD w none).map (fun win => (w, win)))

/-- The values of one word in the valid blocks of the given lanes. -/
def wordVals (c : UnitCommon) (ls : List LaneId) (w : Nat) : List (LaneId × Int) :=
  ls.map (fun l => (l, rxWord c l w))

/-- A mask with a bit for each word of a list. -/
def wordMask (ws : List Nat) : Nat := ws.foldl setBit 0

/-- The words with new values put in place. -/
def putWords (out : List Int) (ws : List (Nat × Int)) : List Int := ws.foldl (fun o e => updAt o e.1 (fun _ => e.2)) out

/-- The outcome of a resolution (R28): the values of the held words, or none when the unit enters its safe state. A lane
without a valid block in this tick counts as dirty (R25). -/
def resolve (c : UnitCommon) (valid : List LaneId) (held : List (Nat × Nat)) : Option (List (Nat × Int)) :=
  let clean := valid.filter (fun l => (c.links.get l).verdict = 1)
  if clean = [] then none
  else
    held.foldr (fun w acc =>
      match acc, (wordVote clean.length (wordVals c clean w.1) w.2).1 with
      | some vs, some v => some ((w.1, v) :: vs)
      | _, _ => none) (some [])

/-- The vote of every word in a tick with at least one valid block: the new vote state, the words counted against per lane,
and whether the unit enters its safe state (R25, R28, R30). -/
def voteTick (c : UnitCommon) (valid : List LaneId) : VoteState × List LaneId × Bool :=
  let v := c.vote
  let rs := (votedWords v).map (fun w => (w, wordVote c.admitted.length (wordVals c valid w.1) w.2))
  let won := rs.filterMap (fun r => r.2.1.map (fun x => (r.1.1, x)))
  let lost := (rs.filter (fun r => r.2.1 = none)).map (fun r => r.1)
  let against := rs.flatMap (fun r => r.2.2)
  let out := putWords v.out won
  let held := wordMask (lost.map (fun w => w.1))
  let v := { v with out := out, held := held, noBlock := 0, fresh := true }
  match v.dispute with
  | none =>
    if lost = [] then (v, against, false)
    else ({ v with dispute := some c.tick, holds := satAdd 16 v.holds 1 }, against, false)
  | some n =>
    if lost = [] then ({ v with dispute := none }, against, false)
    else
      let posted := c.admitted.all (fun l => (c.links.get l).verdict ≠ 0 || !valid.contains l)
      if posted ∨ 2 ≤ (c.tick + 4294967296 - n) % 4294967296 then
        match resolve c valid lost with
        | some vs => ({ v with out := putWords out vs, held := 0, dispute := none }, against, false)
        | none => ({ v with held := 0, dispute := none }, against, true)
      else (v, against, false)

/-- A tick without a valid block (R25, R28): the words are held; the third such deadline, or the end of a running
resolution, puts the unit into its safe state. -/
def voteNone (c : UnitCommon) : VoteState × Bool :=
  let v := { c.vote with noBlock := c.vote.noBlock + 1, fresh := false }
  let lapsed := match v.dispute with
    | none => false
    | some n => decide (2 ≤ (c.tick + 4294967296 - n) % 4294967296)
  (if lapsed then { v with held := 0, dispute := none } else v, decide (3 ≤ v.noBlock) || lapsed)

/-- The comparison behind SYNCOK of one lane (R27), after the vote. -/
def syncAgrees (c : UnitCommon) (l : LaneId) : Bool :=
  let ws := votedWords c.vote
  if c.admitted = [] then
    let peers := (otherLanes l).filter (fun m => blockSound c m && decide (((c.links.get m).rx.map CmdRx.state) = some 3))
    peers ≠ [] && ws.all (fun w => peers.any (fun m => decide ((rxWord c l w.1 - rxWord c m w.1).natAbs ≤ w.2)))
  else ws.all (fun w => decide ((rxWord c l w.1 - c.vote.out.getD w.1 0).natAbs ≤ w.2))

/-- What the deadline records of one lane (R20, R27, R74, R208). Two valid lanes that disagree are both 0b00: neither is counted
against by R25 (log entry 79). -/
def judgeLink (c : UnitCommon) (against : List LaneId) (l : LaneId) (k : LinkState) : LinkState :=
  let sound := blockSound c l
  let n := (against.filter (fun m => m = l)).length
  let inSync := match k.rx with | some r => decide (r.state = 3) | none => false
  let ok := sound && inSync && c.cfg.loaded && syncAgrees c l
  { k with
    stat := if !k.adm then 3 else if !sound then 2 else if n = 0 then 0 else 1
    miss := if sound then 0 else min (k.miss + 1) 255
    against := satAdd 16 k.against n
    missing := if sound && k.adm then k.missing else satAdd 16 k.missing 1
    gone := k.gone || (k.adm && !sound && decide (7 ≤ k.miss))
    syncok := ok
    synctk := if ok then k.synctk + 1 else 0 }

/-- Whether a unit votes (R27, R93): it holds a configuration and has admitted a lane since it was loaded. -/
def UnitCommon.votes (c : UnitCommon) : Bool := c.cfg.loaded && (c.cfg.admitted || decide (c.admitted ≠ []))

/-- The command deadline of a unit (R25-R30): the vote, DISAG events, STAT, SYNCOK; and whether the vote puts the unit into
its safe state. A unit without configuration, or that has not admitted a lane since its load, votes nothing and stays in its safe
state (R27, R93, R202); a feedback or safety-I/O unit with a voter fault keeps its words (R33). -/
def unitDeadline (u : UnitId) (c : UnitCommon) : UnitCommon × Bool :=
  let stuck := c.vote.fault && (match u with | .isl _ => false | _ => true)
  let valid := allLanes.filter (blockValid c)
  let r : VoteState × List LaneId × Bool :=
    if !c.votes then ({ c.vote with fresh := false }, [], false)
    else if valid = [] then ((voteNone c).1, [], (voteNone c).2)
    else voteTick c valid
  let v := if stuck then { c.vote with noBlock := r.1.noBlock, fresh := false } else r.1
  let ended := v.dispute = none
  let staleWord := allLanes.any (fun l => match (c.links.get l).rx with
    | some x => (votedWords c.vote).any (fun w => x.stale.testBit w.1)
    | none => false)
  let c := unitEvts u c (r.2.1.map (fun l => 1 + l.idx) ++ if staleWord then [15] else [])
  let c := { c with vote := { v with done := true } }
  let c := c.eachLink (judgeLink c r.2.1)
  let c := if ended then c.eachLink (fun _ k => { k with verdict := 0 }) else c
  (c, r.2.2)

/-- Withdrawal of the lanes missing for eight consecutive ticks (R27). -/
def withdrawMissing (c : UnitCommon) : UnitCommon :=
  c.eachLink (fun _ k => if k.adm ∧ k.gone then withdrawLink k else k)

/-- Withdrawal of the lanes whose disagreement source has become SEVERE (R26, R27, R369). -/
def withdrawDisag (c : UnitCommon) : UnitCommon :=
  allLanes.foldl (fun c l =>
    if evtSevere c.evt (1 + l.idx) then
      { c.setLink l (withdrawLink (c.links.get l)) with evt := evtClearSevere c.evt (1 + l.idx) }
    else c) c

/-- Admission of the lanes with 64 ticks of SYNCOK and a matching configuration (R27, R93). -/
def admitLanes (c : UnitCommon) : UnitCommon :=
  let c := c.eachLink (fun _ k =>
    if !k.adm ∧ 64 ≤ k.synctk ∧ k.agree ∧ c.cfg.loaded then { k with adm := true, synctk := 0, gone := false } else k)
  { c with cfg := { c.cfg with admitted := c.cfg.admitted || decide (c.cfg.loaded ∧ c.admitted ≠ []) } }

/-- The round boundary of a unit, but for its register writes (R27, R52, R368). -/
def unitRound (u : UnitId) (c : UnitCommon) : UnitCommon :=
  let c := { c with round := (c.round + 1) % 16777216, roundDue := false }
  admitLanes (withdrawDisag (withdrawMissing { c with evt := evtCloseWindows (unitKind u) c.evt c.round }))

/-- The voter self-test of a tick (R31-R33): pattern, and the fault a failure raises. -/
def unitSelfTest (u : UnitId) (c : UnitCommon) (ok : Bool) : UnitCommon :=
  let v := { c.vote with lastPat := c.tick % 16 }
  if ok then
    let p := v.passes + 1
    { c with vote := { v with passes := p, fault := v.fault && decide (p < 256) } }
  else
    let keep := match u with | .isl _ => v.out | _ => v.act
    unitEvt u { c with vote := { v with passes := 0, fault := true, tfail := satAdd 16 v.tfail 1, out := keep } } 0

/-- An offset of R60: saturated, or 0x8000 when there is none. -/
def offsetBytes (arr mid : Option Int) : Bytes :=
  match arr, mid with
  | some a, some m => leBytesI 2 (clampI (-32767) 32767 (a - m))
  | _, _ => leBytes 2 0x8000

/-- Whether the words are held for want of a valid block (R25). -/
def VoteState.blockless (v : VoteState) : Bool := decide (v.noBlock = 1 ∨ v.noBlock = 2)

/-- The lowest held word, 15 when none (R19): every voted word in a tick without a valid block (R25), else those that await verdicts. -/
def disputeWord (v : VoteState) : Nat :=
  ((List.range 13).find? (fun w => (v.blockless && (v.windows.getD w none).isSome) || (v.dispute.isSome && v.held.testBit w))).getD 15

/-- MATCH of R92. -/
def matchBits (c : UnitCommon) : Nat := b2n c.links.a.agree + 2 * b2n c.links.b.agree + 4 * b2n c.links.c.agree

/-- CFGH of R92. -/
def cfgHash16 (g : UnitCfg) : Nat := if g.loaded then u16At (g.recs.getD 0 []) 0 else 0

/-- The measurement block a unit sends a lane (R19, R60, R92), its MEAS bytes as latched at the tick boundary; `safe` is the
unit's safe state. -/
def measBlock (u : UnitId) (c : UnitCommon) (safe : Bool) (l : LaneId) : Bytes :=
  let k := c.links.get l
  let arr := k.mark.map (fun m => m.2)
  let sync := b2n c.links.a.syncok + 2 * b2n c.links.b.syncok + 4 * b2n c.links.c.syncok
  let body := leBytes 4 c.tick ++
    [BitVec.ofNat 8 u.code, BitVec.ofNat 8 (c.links.a.stat + 4 * c.links.b.stat + 16 * c.links.c.stat),
     BitVec.ofNat 8 (b2n (decide (c.vote.dispute ≠ none)) + 2 * b2n safe + 4 * b2n c.vote.fault + 8 * sync),
     BitVec.ofNat 8 (disputeWord c.vote)] ++
    offsetBytes arr (midAll c) ++ (if c.admitted = [] then leBytes 2 0x8000 else offsetBytes arr (midAdm c)) ++
    leBytes 2 (cfgHash16 c.cfg) ++
    [BitVec.ofNat 8 (linkNext c.cfg k), BitVec.ofNat 8 (b2n c.cfg.loaded + 2 * matchBits c)] ++ c.meas
  body ++ leBytes 4 (crc32 body)

end Sys2Proof.Machine
end

