-- ==== Sys2Proof/Machine/FeedbackCtl.lean ====
section
/-!
DEFINITION. The feedback units (R212-R228): channel and compare records, the position counter with its soft limits, edge
timing and speed, the resolver's tracking state, SENT frames, position compare, and the unit's measurement bytes. Times are
counts of 6.25 ns on the unit's own time, 8000 to a tick.
-/
namespace Sys2Proof.Machine
open Sys2Proof

/-- Position of a fired or re-evaluated entry relative to its far side (R225). -/
def farSide (e : CmpEntry) (pos moved : Int) : Bool :=
  if e.dir = 1 then decide (e.p ≤ pos)
  else if e.dir = 2 then decide (pos ≤ e.p - 1)
  else if moved > 0 then decide (e.p ≤ pos)
  else if moved < 0 then decide (pos ≤ e.p - 1)
  else false

/-- An entry armed, or disarmed, at the present position (R225). -/
def evaluateBehind (e : CmpEntry) (pos moved : Int) : CmpEntry := { e with behind := e.arm && farSide e pos moved }

/-- Whether a move crosses an entry's position in its direction (R224). -/
def crosses (e : CmpEntry) (old new : Int) : Bool :=
  let up := decide (old ≤ e.p - 1 ∧ e.p ≤ new)
  let down := decide (e.p ≤ old ∧ new ≤ e.p - 1)
  e.arm && ((e.dir % 2 = 1 && up) || (2 ≤ e.dir && down))

/-- An entry after it fires (R224). -/
def fireEntry (e : CmpEntry) : CmpEntry := { e with fired := true, behind := false, arm := e.rep }

/-- The indexes of the entries that fire in a move (R224, R227). -/
def firing (es : List CmpEntry) (old new : Int) : List Nat :=
  (List.range 16).filter (fun n => crosses (es.getD n {}) old new)

/-- A move of POS to a target, held within the soft limits (R218), with the compare entries it fires (R224, R227); `now` is
the time in µs. The number of CMP_HIT events comes second: entries that fire in one clock count once (R368). -/
def movePos (ch : FbChan) (target : Int) (now : Nat) : FbChan × Nat :=
  let new := clampI ch.cfg.slo ch.cfg.shi target
  let fs := firing ch.cmp ch.pos new
  let pw := (fs.filter (fun n => (ch.cmp.getD n {}).pulse)).foldl (fun m n => max m (ch.cmp.getD n {}).pw) 0
  ({ ch with
     pos := new
     satlo := decide (new = ch.cfg.slo) && (decide (target < new) || (ch.satlo && decide (ch.pos = new)))
     sathi := decide (new = ch.cfg.shi) && (decide (new < target) || (ch.sathi && decide (ch.pos = new)))
     moved := if new = ch.pos then ch.moved else if new < ch.pos then -1 else 1
     cmp := fs.foldl (fun es n => updAt es n fireEntry) ch.cmp
     firedTick := fs.foldl setBit ch.firedTick
     pulseEnd := if ch.cmpen ∧ 0 < pw then some (max (now + pw) (ch.pulseEnd.getD 0)) else ch.pulseEnd },
   b2n (fs.any (fun n => (ch.cmp.getD n {}).event)))

/-- A speed edge of `d` counts at a time (R219). -/
def speedEdge (s : SpeedState) (d : Int) (t : Nat) : SpeedState :=
  let n := s.n + d
  let dir : Int := if d < 0 then -1 else 1
  { s with n := n, last := some (t, n), rev := if dir = s.dir then s.rev else some (t, n), dir := dir,
           edge := true, zero := false }

/-- Counts per turn a channel's speed edges are measured in (R219). -/
def edgesPerTurn (c : FbCfg) : Nat := if c.mode = 2 then 16384 else c.cpr

/-- rpm from a count difference over a time difference, rounded to nearest and saturated (R217, R219; the rounding is the
model's, log entry 11). -/
def rpmOf (cpt : Nat) (dn : Int) (dt : Nat) : Int :=
  if cpt = 0 ∨ dt = 0 then 0 else clampI (-32767) 32767 (divRound (dn * 9600000000) (cpt * dt))

/-- The later of two edges. -/
def laterEdge (a b : Option (Nat × Int)) : Option (Nat × Int) :=
  match a, b with
  | some x, some y => if x.1 ≤ y.1 then some y else some x
  | some x, none => some x
  | none, y => y

/-- SPD and ZERO at a tick boundary (R219, R227). -/
def speedBoundary (c : FbCfg) (s : SpeedState) (now : Nat) : SpeedState :=
  let cpt := edgesPerTurn c
  let s := match s.last with
    | none => s
    | some (t, n) =>
      if s.edge then
        match laterEdge s.before s.rev with
        | none => { s with spd := 0 }
        | some (tj, nj) => if tj = t then { s with spd := 0 } else { s with spd := rpmOf cpt (n - nj) (t - tj) }
      else if c.zto * 160000 ≤ now - t then { s with spd := 0, zero := true }
      else
        let m := min (s.spd.natAbs : Int) (rpmOf cpt 1 (now - t))
        { s with spd := if s.spd < 0 then -m else m }
  { s with before := s.last, edge := false }

/-- The short-way difference of two angles of 1/65 536 turn (R218). -/
def shortWay (old new : Nat) : Int :=
  let d := (new + 65536 - old % 65536) % 65536
  if d < 32768 then (d : Int) else (d : Int) - 65536

/-- ANG of a channel (R217): from the index in QUAD, the converter's in RESOLVER, AGE in SENT. `us` is the time in µs. -/
def chanAngle (ch : FbChan) (us : Nat) : Nat :=
  if ch.cfg.mode = 1 then
    if ch.cfg.cpr = 0 then 0
    else (((ch.spd.n - ch.angPos) % (ch.cfg.cpr : Int)).toNat * 65536) / ch.cfg.cpr
  else if ch.cfg.mode = 2 then ch.ang
  else match ch.sent.ended with
    | none => 65535
    | some e => min (us - e) 65535

/-- The ten measurement bytes of a channel (R217). -/
def chanBytes (ch : FbChan) (us : Nat) (newEdge : Bool) : Bytes :=
  if ch.cfg.mode = 0 then zeros 10
  else
    let res := decide (ch.cfg.mode = 2)
    let sent := decide (ch.cfg.mode = 3)
    let spd := if sent then leBytes 2 ch.sent.fc2 else leBytesI 2 ch.spd.spd
    let f := b2n newEdge + 2 * b2n (res && (ch.trk.lost || ch.trk.lostTick)) + 4 * b2n (!sent && ch.spd.zero) +
      8 * b2n ch.satlo + 16 * b2n ch.sathi + 32 * b2n (res || (ch.cfg.mode = 1 && ch.idxv)) +
      64 * b2n (decide (ch.firedTick ≠ 0)) + 128 * b2n (res && ch.trk.reacqTick)
    let x := ((List.range 16).find? (fun n => ch.firedTick.testBit n)).getD 0
    let g := x + 16 * b2n (decide (2 ≤ popCount 16 ch.firedTick)) + 32 * (if sent then ch.sent.sts % 4 else 0)
    leBytesI 4 ch.pos ++ spd ++ leBytes 2 (chanAngle ch us) ++ [BitVec.ofNat 8 f, BitVec.ofNat 8 g]

/-- A channel's command word taking effect (R212, R214, R420): an OFF channel keeps its supply off, a RESOLVER channel has none
connected, and only a RESOLVER channel has an excitation. -/
def chanWord (ch : FbChan) (v : Int) : FbChan :=
  let w := if v < 0 ∨ 7 < v ∨ ch.cfg.mode = 0 then 0 else v.toNat
  { ch with supon := w.testBit 0 && decide (ch.cfg.mode ≠ 2), excon := w.testBit 1 && decide (ch.cfg.mode = 2), cmpen := w.testBit 2 }

/-- A channel at the tick boundary (R217, R219, R222, R224): speed, snapshot, the tick's flags begin anew, and a pulse whose end has come is over. -/
def chanTick (ch : FbChan) (age : Nat) : FbChan :=
  let now := age * 8000
  let edge := ch.spd.edge
  let held := ch.cfg.mode = 2 ∧ ch.trk.lost
  let spd := if held then { ch.spd with edge := false, before := ch.spd.last }
    else if ch.cfg.mode = 3 then { ch.spd with edge := false } else speedBoundary ch.cfg ch.spd now
  let ch := { ch with spd := spd }
  { ch with
    snap := chanBytes ch (age * 50) edge
    snapTerr := ch.trk.terr, snapAmp := ch.trk.amp, snapIdx := ch.idxPos
    trk := { ch.trk with lostTick := false, reacqTick := false, terr := 0 }
    firedTick := 0
    pulseEnd := ch.pulseEnd.filter (fun e => decide (age * 50 < e)) }

/-- The tick boundary of a feedback unit (R57, R214, R217). -/
def feedbackTick (c : UnitCommon) (f : Feedback) (feed : Nat) : UnitCommon × Feedback :=
  let go := c.vote.fresh && !c.vote.fault
  let c := if go then { c with vote := { c.vote with act := c.vote.out } } else c
  let ch := (List.range 4).map (fun n =>
    let h := f.ch.getD n {}
    chanTick (if go then chanWord h (c.vote.act.getD n 0) else h) c.age)
  let meas := if c.cfg.loaded then ch.flatMap (fun h => h.snap) ++ zeros 4 else zeros 44
  ({ c with meas := meas }, { f with ch := ch, feed := feed })

/-- One channel changed, with its CMP_HIT events raised (R224). -/
def putChan (u : FbId) (c : UnitCommon) (f : Feedback) (n : Nat) (r : FbChan × Nat) : UnitCommon × Feedback :=
  ((List.range r.2).foldl (fun c _ => unitEvt (.fb u) c 4) c, { f with ch := updAt f.ch n (fun _ => r.1) })

/-- The filter time of a channel in 6.25 ns (R215). -/
def filterTime (c : FbCfg) : Nat := match c.filt with | 0 => 0 | 1 => 2 | 2 => 4 | 3 => 8 | _ => 16

/-- Whether an edge is that of input A: between an even phase and the next. -/
def edgeOfA (q : QuadIn) (up : Bool) : Bool := (if up then q.phase else q.phase + 3) % 2 = 0

/-- The inputs after an edge at time t. -/
def QuadIn.edge (q : QuadIn) (up : Bool) (t : Nat) : QuadIn :=
  { phase := (if up then q.phase + 1 else q.phase + 3) % 4
    ta := if edgeOfA q up then some t else q.ta
    tb := if edgeOfA q up then q.tb else some t }

/-- Whether an edge at time t comes while the other input is changing within the filter time (R218): less than that after its last edge (log
entry 132). -/
def edgeFiltered (c : FbCfg) (q : QuadIn) (up : Bool) (t : Nat) : Bool :=
  match (if edgeOfA q up then q.tb else q.ta) with
  | some o => decide (t - o < filterTime c)
  | none => false

/-- A quadrature edge (R218, R219): within the filter time of the other input it moves nothing. -/
def quadEdge (ch : FbChan) (up : Bool) (age off : Nat) : FbChan × Nat :=
  if ch.cfg.mode ≠ 1 then (ch, 0)
  else if edgeFiltered ch.cfg ch.quad up (age * 8000 + off) then ({ ch with quad := ch.quad.edge up (age * 8000 + off) }, 0)
  else
    let d : Int := if up then 1 else -1
    let ch := { ch with spd := speedEdge ch.spd d (age * 8000 + off), quad := ch.quad.edge up (age * 8000 + off) }
    movePos ch (ch.pos + d) (age * 50 + off / 160)

/-- An index pulse (R215, R217, R218, R227): position latched, or the counter set to 0, within the soft limits, at the first one. Setting it is
no move (log entry 99). -/
def indexPulse (ch : FbChan) : FbChan :=
  if ch.cfg.mode = 1 ∧ ch.cfg.idxm ≠ 0 then
    let ch := if ch.cfg.idxm = 2 ∧ ¬ ch.idxv then { ch with pos := clampI ch.cfg.slo ch.cfg.shi 0, satlo := false, sathi := false } else ch
    { ch with idxv := true, idxPos := ch.pos, angPos := ch.spd.n, eva := satAdd 16 ch.eva 1 }
  else ch

/-- The demodulated vector of a resolver (R214, R220): its amplitude in 10 mV rms and its angle in 1/65 536 turn. The windings carry EXCV where
EXCON is on; the demodulation, EXCPH compensating the phase shift, takes the part in phase, a vector in opposition turning by half. -/
def demodulate (ch : FbChan) (u : ConvUpdate) : Rat × Nat :=
  let x : Rat := if ch.excon then ((ch.cfg.excv * u.ratio : Nat) : Rat) / 1024 else 0
  let y := x * sineTurn (1 / 4 + (((u.shift + 65536 - ch.cfg.excph % 65536) % 65536 : Nat) : Rat) / 65536)
  if y < 0 then (-y, (u.angle + 32768) % 65536) else (y, u.angle % 65536)

/-- An angle in 1/65 536 turn brought to the short way. -/
def wrapTurn (x : Rat) : Rat := x - 65536 * (((x + 32768) / 65536).floor : Rat)

/-- The tracking error of a converter against a demodulated angle. -/
def convError (t : TrackState) (angle : Nat) : Rat := wrapTurn ((angle : Rat) - t.phi)

/-- One update of the type II converter at 5 MHz (R220): the error is summed into the speed with the square of 2π BW, and the speed into the
angle, so that the error is 0 at constant speed and α / (2π BW)² under an acceleration α. The proportional gain is free (log entry 122). -/
def convStep (c : FbCfg) (t : TrackState) (angle : Nat) : TrackState :=
  let e := convError t angle
  let w := 2 * piRat * (c.bw : Rat) / 5000000
  let v := t.vel + w * w * e
  let p := t.phi + v + Config.convDamping c.bw * e
  { t with vel := v, phi := p - 65536 * ((p / 65536).floor : Rat) }

/-- The speed of a converter in rpm. -/
def convRpm (t : TrackState) : Rat := t.vel * 300000000 / 65536

/-- The conditions that set TRACK_LOST (R222), by tracking error, demodulated amplitude and converter speed. -/
def trackBad (c : FbCfg) (e amp rpm : Rat) : Bool :=
  decide ((c.tlth : Rat) < |e|) || decide (4 * amp < c.ampn) || decide (32000 < |rpm|)

/-- The conditions that count toward reacquisition (R222). -/
def trackGood (c : FbCfg) (e amp : Rat) : Bool := decide (2 * |e| ≤ c.tlth) && decide (35 * (c.ampn : Rat) ≤ 100 * amp)

/-- The speed edges of a move of the converter angle (R219): its crossings of 1/16 384-turn steps, in the angle before ZOFS, whether the channel
tracks or not. -/
def convEdges (ch : FbChan) (old new age off : Nat) : FbChan :=
  let raw : Int := old + ch.cfg.zofs
  let step := Int.fdiv (raw + shortWay old new) 4 - Int.fdiv raw 4
  if step = 0 then ch else { ch with spd := speedEdge ch.spd step (age * 8000 + off) }

/-- A move of the converter angle while tracking (R218). -/
def turnTo (ch : FbChan) (a age off : Nat) : FbChan × Nat :=
  movePos { ch with ang := a } (ch.pos + shortWay ch.ang a) (age * 50 + off / 160)

/-- The tracking state after an update but for TRACK_LOST (R220, R228): the angle after ZOFS, AMP and the largest error of the tick, each to the
nearest unit of its register (log entry 122). -/
def trackNext (ch : FbChan) (u : ConvUpdate) : TrackState :=
  let d := demodulate ch u
  let t := convStep ch.cfg ch.trk d.2
  let err := roundAway (convError ch.trk d.2)
  { t with conv := (t.phi.floor.toNat + 65536 - ch.cfg.zofs % 65536) % 65536
           amp := if ch.cfg.ampn = 0 then 0 else (roundAway (1024 * d.1 / ch.cfg.ampn)).toNat
           terr := if t.terr.natAbs < err.natAbs then err else t.terr }

/-- One update of the tracking converter (R220, R222), at a time from the start of the tick. -/
def converterOnce (ch : FbChan) (u : ConvUpdate) (age time : Nat) : FbChan × Nat :=
  let d := demodulate ch u
  let e := convError ch.trk d.2
  let t := trackNext ch u
  let ch := convEdges ch ch.trk.conv t.conv age time
  if trackBad ch.cfg e d.1 (convRpm t) then
    ({ ch with trk := { t with lost := true, lostTick := true, okUpd := 0 },
               eva := if t.lost then ch.eva else satAdd 16 ch.eva 1 }, 0)
  else if t.lost then
    ({ ch with trk := { t with lostTick := true, okUpd := if trackGood ch.cfg e d.1 then t.okUpd + 1 else 0 } }, 0)
  else turnTo { ch with trk := t } t.conv age time

/-- Updates of the tracking converter (R220, R222), 200 ns apart, with the number of CMP_HIT events. -/
def converterUpdate (ch : FbChan) (u : ConvUpdate) (age : Nat) : FbChan × Nat :=
  if ch.cfg.mode = 2 then
    (List.range u.reps).foldl (fun (r : FbChan × Nat) k =>
      let x := converterOnce r.1 u age (u.time + 32 * k)
      (x.1, r.2 + x.2)) (ch, 0)
  else (ch, 0)

/-- Reacquisition after 8192 good updates (R222, R227): ANG takes the converter angle and POS the short-way difference; at
the first acquisition POS starts at ANG (R216). -/
def reacquire (ch : FbChan) (age off : Nat) : FbChan × Nat :=
  if ch.cfg.mode = 2 ∧ ch.trk.lost ∧ 8192 ≤ ch.trk.okUpd then
    let t := { ch.trk with lost := false, okUpd := 0 }
    if t.seen then
      let d := shortWay ch.ang t.conv
      movePos { ch with trk := { t with reacqTick := true }, ang := t.conv, evb := satAdd 16 ch.evb 1 }
        (ch.pos + d) (age * 50 + off / 160)
    else
      ({ ch with trk := { t with seen := true }, ang := t.conv,
                 pos := clampI ch.cfg.slo ch.cfg.shi (t.conv : Int) }, 0)
  else (ch, 0)

/-- The value of a nibble pulse, given the calibration pulse of 56 clock ticks (R223). -/
def nibbleOf (cal pulse : Nat) : Option Nat :=
  if cal = 0 then none
  else
    let t := (2 * pulse * 56 + cal) / (2 * cal)
    if 12 ≤ t ∧ t ≤ 27 then some (t - 12) else none

/-- The nibbles of a frame, none where one is out of range. -/
def nibblesOf (cal : Nat) : List Nat → Option (List Nat)
  | [] => some []
  | p :: ps => match nibbleOf cal p, nibblesOf cal ps with
    | some n, some ns => some (n :: ns)
    | _, _ => none

/-- A frame's eight nibbles when it is valid (R223). -/
def sentValid (prev : Option Nat) (rx : SentRx) : Option (List Nat) :=
  let calOk := decide (448 ≤ rx.cal ∧ rx.cal ≤ 672) && (match prev with
    | none => true
    | some q => decide (64 * ((rx.cal : Int) - q).natAbs ≤ q))
  match nibblesOf rx.cal (rx.nibbles.take 8) with
  | some ns =>
    if calOk ∧ ns.length = 8 ∧ rx.nibbles.length ≤ 9 ∧ crc4 ((ns.drop 1).take 6) = ns.getD 7 0 then some ns else none
  | none => none

/-- A number from nibbles, most significant first. -/
def nibNat (ns : List Nat) : Nat := ns.foldl (fun a n => 16 * a + n) 0

/-- A SENT frame (R218, R223). -/
def sentFrame (ch : FbChan) (rx : SentRx) (age : Nat) : FbChan × Nat :=
  if ch.cfg.mode = 3 then
    match sentValid ch.sent.cal rx with
    | none => ({ ch with sent := { ch.sent with cal := some rx.cal }, evb := satAdd 16 ch.evb 1 }, 0)
    | some ns =>
      let d := (ns.drop 1).take 6
      let v := if ch.cfg.fcw = 0 then nibNat (d.take 3)
        else if ch.cfg.fcw = 1 then nibNat (d.take 4) / 4 else nibNat (d.take 4)
      let r := if ch.cfg.fcw = 0 then nibNat (d.drop 3) else nibNat (d.drop 4)
      let us := (age + 1) * 50 - rx.before
      let ch := { ch with sent := { cal := some rx.cal, fc2 := r, sts := ns.getD 0 0, ended := some us },
                          eva := satAdd 16 ch.eva 1, spd := { ch.spd with edge := true } }
      movePos ch ((v : Int) - ch.cfg.zofs) us
  else (ch, 0)

/-- The control bits of a compare entry, bits [15:0] of FBK_CCTLc_e (R226, R228). -/
def entryOf (p : Int) (ctl : Nat) (old : CmpEntry) : CmpEntry :=
  { old with p := p, arm := ctl.testBit 0, dir := bitsOf ctl 2 1, rep := ctl.testBit 3, pulse := ctl.testBit 4,
             event := ctl.testBit 5, pw := bitsOf ctl 15 8 }

/-- FBK_CCTLc_e as read. -/
def entryCtl (e : CmpEntry) : Nat :=
  b2n e.arm + 2 * e.dir + 8 * b2n e.rep + 16 * b2n e.pulse + 32 * b2n e.event + 256 * e.pw + 65536 * b2n e.behind

/-- A channel record (R215). -/
def fbCfgOf (r : Bytes) : FbCfg :=
  { mode := byteAt r 0, idxm := byteAt r 1, filt := byteAt r 2, fcw := byteAt r 3, cpr := u32At r 4
    slo := i32At r 8, shi := i32At r 12, zto := u16At r 16, excv := u16At r 18, excph := u16At r 20
    tlth := u16At r 22, ampn := u16At r 24, bw := u16At r 26, zofs := u32At r 28, stk := u16At r 32
    timer := byteAt r 34, copin := byteAt r 35 }

/-- A channel as its configuration load leaves it (R216, R222, R226). -/
def chanConfigure (recs : List Bytes) (n age : Nat) : FbChan :=
  let c := fbCfgOf (recs.getD (n + 1) [])
  let pos := clampI c.slo c.shi 0
  let es := (List.range 16).map (fun e =>
    let r := recs.getD (5 + 2 * n + e / 8) []
    let o := 6 * (e % 8)
    evaluateBehind (entryOf (i32At r o) (u16At r (o + 4)) {}) pos 0)
  { cfg := c, pos := pos, cmp := es
    spd := { last := some (age * 8000, 0) }
    trk := { lost := decide (c.mode = 2) } }

/-- The configuration load of a feedback unit. -/
def feedbackConfigure (c : UnitCommon) (f : Feedback) : Feedback :=
  { f with ch := (List.range 4).map (fun n => chanConfigure c.cfg.recs n c.age) }

/-- FBK_ reads (R228). -/
def fbkRead (f : Feedback) (off : Nat) : Option Nat :=
  if off < 0x100 then
    let h := f.ch.getD (off / 0x40) {}
    let c := h.cfg
    match (off % 0x40) / 4 with
    | 0 => some (c.mode % 8 + 8 * (c.idxm % 4) + 32 * (c.filt % 8) + 256 * (c.fcw % 4) + 1024 * (c.timer % 16))
    | 1 => some (u32At h.snap 0)
    | 2 => some (u16At h.snap 4 + 65536 * u16At h.snap 6)
    | 3 => some (u16At h.snap 8)
    | 4 => some (ofSigned 32 c.slo)
    | 5 => some (ofSigned 32 c.shi)
    | 6 => some (if c.mode = 1 then ofSigned 32 h.snapIdx else 0)
    | 7 => some (h.eva + 65536 * h.evb)
    | 8 => some (if c.mode = 2 then ofSigned 16 h.snapTerr + 65536 * (h.snapAmp % 65536) else 0)
    | 9 => some (((List.range 16).map (fun e => 2 ^ e * b2n (h.cmp.getD e {}).fired)).sum +
        65536 * ((List.range 16).map (fun e => 2 ^ e * b2n (h.cmp.getD e {}).behind)).sum)
    | _ => none
  else if off < 0x300 then
    let h := f.ch.getD ((off - 0x100) / 0x80) {}
    let e := h.cmp.getD ((off % 0x80) / 8) {}
    if off % 8 = 0 then some (ofSigned 32 e.p) else some (entryCtl e)
  else none

/-- A channel whose compare entry is written (R225, R228): BEHIND is evaluated where ARM becomes 1, and where P or DIR is written (`place`)
while it is 1. -/
def writeEntry (h : FbChan) (e : Nat) (place : Bool) (g : CmpEntry → CmpEntry) : FbChan :=
  { h with cmp := updAt h.cmp e (fun x =>
      let y := g x
      if y.arm && x.arm && !place then y else evaluateBehind y h.pos h.moved) }

/-- Whether FBK_CCTLc_e may hold a control word (R228): a direction, and no pulse of 0 µs. -/
def ctlOk (w : Nat) : Bool := decide (bitsOf w 2 1 ≠ 0) && (!w.testBit 4 || decide (bitsOf w 15 8 ≠ 0))

/-- A position written to an entry. -/
def writeP (v mask : Nat) (x : CmpEntry) : CmpEntry :=
  { x with p := toSigned 32 (clearMask (ofSigned 32 x.p) mask ||| (v &&& mask)) }

/-- A control word written to an entry. -/
def writeCtl (v mask : Nat) (x : CmpEntry) : CmpEntry :=
  entryOf x.p (clearMask (entryCtl x % 65536) mask ||| (v &&& mask)) x

/-- FBK_ writes (R228): compare positions, control words, FIRED by W1C, whose bits stay set where an entry has fired since the boundary (R10). -/
def fbkWrite (f : Feedback) (off v mask : Nat) : Feedback :=
  if off < 0x100 then
    if (off % 0x40) / 4 = 9 then
      { f with ch := updAt f.ch (off / 0x40) (fun h =>
          { h with cmp := (List.range 16).map (fun e =>
              let x := h.cmp.getD e {}
              { x with fired := x.fired && (!(v &&& mask).testBit e || h.firedTick.testBit e) }) }) }
    else f
  else
    { f with ch := updAt f.ch ((off - 0x100) / 0x80) (fun h =>
        if off % 8 = 0 then writeEntry h ((off % 0x80) / 8) true (writeP v mask)
        else writeEntry h ((off % 0x80) / 8) (bitsOf mask 2 1 ≠ 0) (writeCtl v mask)) }

/-- The counters a read clears (R9, R228), by what they held when they were read. -/
def fbkReadClear (f was : Feedback) (off : Nat) : Feedback :=
  if off < 0x100 ∧ (off % 0x40) / 4 = 7 then
    let w := was.ch.getD (off / 0x40) {}
    { f with ch := updAt f.ch (off / 0x40) (fun h => { h with eva := h.eva - w.eva, evb := h.evb - w.evb }) }
  else f

end Sys2Proof.Machine
end

