-- ==== Sys2Proof/Machine/IslandCtl.lean ====
section
/-!
DEFINITION. The power islands (R34, R35, R43, R185-R211): causes of the safe state and the switch state they give, re-arming
and latching, the island record and the valve records, duties and bootstrap shifts, trips, comparator tests, the bus and the
chopper, the valve regulators, and the island's measurement bytes. An island is handled as its common part with its own.
-/
namespace Sys2Proof.Machine
open Sys2Proof

/-- An island: the common part and its own. -/
abbrev IslPair := UnitCommon × Island

/-- 60 s in ticks (R202). -/
def ticks60s : Nat := 1200000

/-- The switch state of the canvas choice (R34): 1 OPEN, 2 SHORT. -/
def choiceSw (i : Island) : Nat := if i.cfg.ssc = 1 then 2 else if i.cfg.ssc = 2 ∧ i.fast then 2 else 1

/-- The switch state one cause gives by itself (R35, R193-R198). -/
def causeSw (id : IslandId) (i : Island) (cause : Nat) : Nat :=
  if cause = 4 ∨ cause = 5 ∨ cause = 0xB ∨ cause = 0xD then 1
  else if cause = 9 ∧ i.gdv.lowFail then 1
  else if cause = 6 ∧ i.live.testBit 6 then (if id.isValve then 1 else 2)
  else choiceSw i

/-- The causes in force, in the order of R201. -/
def causeList (i : Island) : List Nat := (List.range 15).filter (fun n => 1 ≤ n && i.causes.testBit n)

/-- The causes that give OPEN before OV2 is asked (R35, R207); bus undervoltage while it lasts, since it holds every enable at 0 (R186). -/
def causeOpens (i : Island) (cause : Nat) : Bool :=
  cause = 4 || cause = 5 || cause = 0xB || (cause = 9 && i.gdv.lowFail) || (cause = 0xD && i.live.testBit 0xD)

/-- The switch state all causes in force give together (R35, R198, R207): OV2 while it lasts, then bus undervoltage, then the choice. -/
def decidedSw (id : IslandId) (i : Island) : Nat :=
  if (causeList i).any (causeOpens i) then 1
  else if i.causes.testBit 6 && i.live.testBit 6 then (if id.isValve then 1 else 2)
  else if i.causes.testBit 0xD then 1
  else choiceSw i

/-- An island with its switch state brought in line with the causes in force; without a cause it stays as it is. -/
def settleSw (id : IslandId) (i : Island) : Island :=
  if i.clockLost then { i with sw := 1 } else if i.causes = 0 then i else { i with sw := decidedSw id i }

/-- CAUSE of R201: the earliest cause in force that gives the deciding switch state. -/
def shownCause (id : IslandId) (i : Island) : Nat :=
  ((causeList i).find? (fun n => causeSw id i n = decidedSw id i)).getD 0

/-- Causes that count toward LATCH (R202), causes that need REARM, and causes only SERVICE clears. -/
def countedMask : Nat := 0x1DC
def rearmMask : Nat := 0x21DC
def latchedMask : Nat := 0x4620

/-- One occurrence of an event source in an island. -/
def islEvt (id : IslandId) (p : IslPair) (n : Nat) (forced : Bool := false) : IslPair :=
  (unitEvt (.isl id) p.1 n forced, p.2)

/-- The re-arms of the last 60 s. -/
def recentRearms (c : UnitCommon) (i : Island) : List Nat := i.rearms.filter (fun a => c.age < a + ticks60s)

/-- A cause comes into force (R201, R202): a fourth counted cause with three re-arms in 60 s latches the island. -/
def raiseCause (id : IslandId) (p : IslPair) (cause : Nat) : IslPair :=
  let i := p.2
  let fresh := !i.causes.testBit cause
  let i := { i with causes := setBit i.causes cause, live := setBit i.live cause }
  let latch := fresh && countedMask.testBit cause && decide (3 ≤ (recentRearms p.1 i).length)
  let i := if latch then { i with causes := setBit i.causes 0xE, live := setBit i.live 0xE } else i
  let i := if i.causes &&& latchedMask = 0 then i else { i with rq := false }
  let p := (p.1, settleSw id i)
  if latch then islEvt id p 13 else p

/-- A cause's condition has ended (R202). -/
def endCause (p : IslPair) (cause : Nat) : IslPair := (p.1, { p.2 with live := clearBit p.2.live cause })

/-- OV2 or bus undervoltage is released (R198): the cause stays until a re-arm, and the island takes the state of the causes in force (R35). -/
def endVoltage (id : IslandId) (p : IslPair) (cause : Nat) : IslPair :=
  let p := endCause p cause
  (p.1, if p.2.sw = 3 then p.2 else settleSw id p.2)

/-- A cause leaves by itself, without a re-arm (R202). -/
def dropCause (p : IslPair) (cause : Nat) : IslPair :=
  (p.1, { p.2 with live := clearBit p.2.live cause, causes := clearBit p.2.causes cause })

/-- A cause leaves by itself, and the island takes the state of those that stay (R35, R201). -/
def freeCause (id : IslandId) (p : IslPair) (cause : Nat) : IslPair :=
  let p := dropCause p cause
  (p.1, settleSw id p.2)

/-- CEND (R188): a cause that needs REARM is in force, all such causes have ended, and none that only SERVICE clears. -/
def causeEnded (i : Island) : Bool :=
  decide (i.causes &&& rearmMask ≠ 0) && decide (i.live &&& rearmMask = 0) && decide (i.causes &&& latchedMask = 0)

/-- A re-arm (R202): the ended causes leave; a counted one enters the 60 s window; BSUV and BSLO SEVERE clear (R369). DESIGN CHOICE (log entry
119): TOTAL counts every re-arm, one of the uncounted cause 0xD too. -/
def rearm (id : IslandId) (p : IslPair) : IslPair :=
  let i := p.2
  let gone := i.causes &&& rearmMask
  let counted := decide (gone &&& countedMask ≠ 0)
  let evt := evtClearSevere (evtClearSevere p.1.evt 4) 5
  ({ p.1 with evt := evt },
   settleSw id { i with
     causes := clearMask i.causes rearmMask
     refreshFrom := gone
     rearms := if counted then p.1.age :: recentRearms p.1 i else i.rearms
     rearmTotal := satAdd 16 i.rearmTotal 1
     tripRearm := if gone.testBit 4 then some p.1.age else i.tripRearm
     rq := false
     gdv := { i.gdv with off := 0 } })

/-- ISLCMD as it acts: 0 when a reserved bit is set (R187). -/
def islCmd (v : Int) : Nat := if v < 0 ∨ 511 < v then 0 else v.toNat

/-- Whether a word of this tick was voted and not held. -/
def votedNow (v : VoteState) (w : Nat) : Bool := v.fresh && !v.held.testBit w && (v.windows.getD w none).isSome

/-- What the command deadline does in an island beside the vote (R25, R195, R202). -/
def islandDeadline (id : IslandId) (p : IslPair) (safe : Bool) : IslPair :=
  let p := if safe then raiseCause id p 2 else if p.1.vote.fresh then endCause p 2 else p
  if votedNow p.1.vote 12 then
    let v := islCmd (p.1.vote.out.getD 12 0)
    let old := islCmd p.2.cmdPrev
    let p := (p.1, { p.2 with cmdPrev := p.1.vote.out.getD 12 0 })
    let run := votedNow p.1.vote 3 && decide (p.1.vote.out.getD 3 0 = 1)
    let p := if v.testBit 0 ∧ ¬ old.testBit 0 ∧ run ∧ causeEnded p.2 ∧ ¬ p.2.causes.testBit 0xB then rearm id p else p
    if v.testBit 1 ∧ ¬ old.testBit 1 then
      (p.1, { p.2 with gdv := { p.2.gdv with testReq := some (bitsOf v 4 2, bitsOf v 8 5) } })
    else p
  else p

/-- Duty below which a warned leg conducts low for 2.0 µs (R192), in 1/65 536. -/
def bsLimit (dt : Nat) : Nat := 65536 * (48000 - dt) / 50000

/-- The common shift of the duties that brings every warned leg to its limit (R192). -/
def bsShift (dt : Nat) (duty : List Nat) (warned : Nat) : Nat :=
  ((List.range duty.length).filter (fun w => warned.testBit w)).foldl
    (fun s w => max s (duty.getD w 0 - bsLimit dt)) 0

/-- Compare value of a duty (R189). -/
def compareValue (d : Nat) : Nat := (2 * d * 4000 + 65536) / 131072

/-- The modulation cap in 0.01 (R173): 1 - 1.5 (1600 + DT) / 50 000, rounded down. -/
def modCap (dt : Nat) : Nat := (100 * 50000 - 150 * (1600 + dt)) / 50000

/-- A leg's duty after the minimum-pulse rule (R190): 0 low for the whole period, 65 536 high for the whole period. -/
def emitDuty (c : IslandCfg) (d : Nat) : Nat :=
  if d * 50000 < 65536 * (c.dt + c.minp) then 0
  else if 65536 * 50000 < d * 50000 + 65536 * (c.dt + c.minp) then 65536 else d

/-- The dither of a valve channel between -1 and 1 (R205): square or triangular of period `nper` ticks. -/
def ditherAt (tri : Bool) (phase nper : Nat) : Rat :=
  if nper = 0 then 0
  else
    let x : Rat := (((phase + Config.ditherPhase tri nper) % nper : Nat) : Rat) / nper
    if tri then (if x < 1 / 4 then 4 * x else if x < 3 / 4 then 2 - 4 * x else 4 * x - 4)
    else if x < 1 / 2 then 1 else -1

/-- The dither's phase one tick on. -/
def ValveCh.nextPhase (v : ValveCh) : Nat := if v.nper = 0 then 0 else (v.phase + 1) % v.nper

/-- What a channel reports of the period that ends (R188, R211); `drove`: the island drove to its end. -/
def ValveCh.endPeriod (v : ValveCh) (drove : Bool) : ValveCh :=
  let sat := v.satNow && drove
  { v with satr := sat, satcnt := if sat then satAdd 16 v.satcnt 1 else v.satcnt, fast := v.fastNow, satNow := false, fastNow := false }

/-- A valve regulator in a period in which its island does not drive (R205, R211). -/
def valveIdle (v : ValveCh) (set : Int) (imeas : Nat) : ValveCh :=
  { v with imeas := imeas, dutyA := 0, dutyB := 0, iset := clampI 0 5000 set, phase := v.nextPhase }

/-- One period of a valve regulator (R205). -/
def valveStep (cfg : IslandCfg) (v : ValveCh) (set : Int) (imeas : Nat) : ValveCh :=
  let iset := clampI 0 5000 set
  let iref : Rat := max 0 (min 5000 ((iset : Rat) + (v.amp : Rat) * ditherAt v.tri v.phase v.nper))
  let e : Rat := (iref - (imeas : Rat)) / 1000
  let mc : Rat := (modCap cfg.dt : Rat) / 100
  let v := { v with iset := iset, imeas := imeas, phase := v.nextPhase }
  if iref = 0 ∧ imeas < 20 then
    { v with integ := 0, dutyA := 0, dutyB := 0, park := true }
  else
    let di := v.kiv * e / 20000
    let raw := v.kpv * e + v.integ + di
    let u : Rat := max (-mc) (min mc raw)
    let sat := decide (u ≠ raw)
    let fast := decide (u < 0 ∧ iref + 200 < (imeas : Rat))
    { v with
      integ := if sat then v.integ else v.integ + di
      dutyA := if u ≥ 0 then u else 0
      dutyB := if fast then -u else 0
      satNow := sat, fastNow := fast, park := false }

/-- A bootstrap state reported at the trough (R192): event, counters, flags, and CAUSE 0x7 when it has become SEVERE. DESIGN CHOICE (log entry
120): the cause has ended at a trough that reports neither warning nor lockout. -/
def bootstrap (id : IslandId) (p : IslPair) (uv lo : Nat) : IslPair :=
  let g := p.2.gdv
  let g := { g with bsuv := g.bsuv ||| uv, bslo := g.bslo ||| lo, hiOff := lo, uvNow := uv,
                    perBsuv := decide (uv ≠ 0), perBslo := decide (lo ≠ 0),
                    bsuvN := if uv = 0 then g.bsuvN else satAdd 16 g.bsuvN 1,
                    bsloN := if lo = 0 then g.bsloN else satAdd 16 g.bsloN 1 }
  let p := (p.1, { p.2 with gdv := g })
  let p := if uv = 0 then p else islEvt id p 4
  let p := if lo = 0 then p else islEvt id p 5
  let p := if uv = 0 ∧ lo = 0 then endCause p 7 else p
  if (uv ≠ 0 ∧ evtSevere p.1.evt 4) ∨ (lo ≠ 0 ∧ evtSevere p.1.evt 5) then raiseCause id p 7 else p

/-- The duties of the period that begins at the trough, from the words in effect (R170, R187, R189, R192). -/
def periodDuties (id : IslandId) (c : UnitCommon) (i : Island) (uv : Nat) : List Nat :=
  if i.sw = 0 ∧ !id.isValve then
    let d := (List.range 3).map (fun w => (clampI 0 65536 (c.vote.act.getD w 0)).toNat)
    let s := bsShift i.cfg.dt d uv
    (List.range 3).map (fun w => if i.gdv.hiOff.testBit w then 0 else emitDuty i.cfg (d.getD w 0 - s))
  else List.replicate 3 0

/-- The leg duties of a valve island after the bootstrap rules (R192, R205): legs A and B of each channel in HB order. -/
def valveDuties (i : Island) (uv : Nat) : List Nat :=
  (List.range 3).flatMap (fun ch =>
    let v := i.valves.getD ch {}
    let d := [(roundAway (v.dutyA * 65536)).toNat, (roundAway (v.dutyB * 65536)).toNat]
    let s := bsShift i.cfg.dt d (bitsOf uv (2 * ch + 1) (2 * ch))
    (List.range 2).map (fun b =>
      if i.gdv.hiOff.testBit (2 * ch + b) then 0 else emitDuty i.cfg (d.getD b 0 - s)))

/-- The voted words take effect at the trough (R32, R57, R187): RUN, and VOTER_FAULT's safe state in place of them. CAUSE 0xC ends with
RUN = 1 voted once a lane has been admitted (R27, R202). -/
def islandLoad (id : IslandId) (p : IslPair) : IslPair :=
  let v := p.1.vote
  if v.fault then
    if p.2.live.testBit 3 then p else raiseCause id p 3
  else
    let p := if p.2.live.testBit 3 then endCause p 3 else p
    if v.fresh then
      let run := v.out.getD 3 0
      let p : IslPair := ({ p.1 with vote := { v with act := v.out } }, p.2)
      if run = 1 then (if p.1.cfg.loaded ∧ p.1.cfg.admitted then dropCause (dropCause p 1) 0xC else dropCause p 1)
      else raiseCause id p 1
    else p

/-- The way out of the safe state at the boundary (R201, R202): one tick of refresh follows the last cause, driving follows refresh. -/
def islandLeave (p : IslPair) : IslPair :=
  let i := p.2
  if i.causes ≠ 0 ∨ i.clockLost then p
  else if i.sw = 3 then (p.1, { i with sw := 0, refreshFrom := 0 })
  else if i.sw = 0 then p
  else (p.1, { i with sw := 3, rq := false })

/-- HOT by the energy of the chopper's model in 10 J (R200): above 2.0 kJ, until below 1.0 kJ. -/
def hotOf (energy : Nat) (hot : Bool) : Bool := if 200 < energy then true else if energy < 100 then false else hot

/-- What an island samples at the trough (R188, R198-R200, R209). -/
def islandSample (p : IslPair) (smp : IslandSample) : IslPair :=
  let b := { p.2.bus with hot := hotOf smp.energy p.2.bus.hot }
  let bar := b.cf || b.hot
  let b := { b with
    vbus := smp.vbus, ibus := smp.ibus, tbr := smp.tbr, ich := smp.ich, energy := smp.energy
    ov2Low := if smp.vbus < 5600 then b.ov2Low + 1 else 0
    regen := if bar ∧ smp.ibus < -200 then b.regen + 1 else 0
    regenOk := if smp.ibus < -200 then 0 else b.regenOk + 1 }
  (p.1, { p.2 with bus := b, m := (List.range 3).map (fun n => smp.m.getD n 0) })

/-- Bytes 16-59 of an island's measurement block (R188). -/
def islandMeas (id : IslandId) (p : IslPair) : Bytes :=
  let i := p.2
  let b := i.bus
  let g := i.gdv
  let f28 := b2n (b.cf || b.hot) + 2 * b2n b.ov1 + 4 * b2n b.ov2 + 8 * b2n (i.causes.testBit 5) +
    16 * b2n (i.causes.testBit 0xE) + 32 * b2n g.perBsuv + 64 * b2n g.perBslo + 128 * b2n g.perTrip
  let f29 := shownCause id i + 16 * i.sw + 64 * b2n g.tdone + 128 * b2n g.tpass
  let satr := ((List.range 3).map (fun n => 2 ^ n * b2n (id.isValve && (i.valves.getD n {}).satr))).sum
  let f30 := satr + 8 * b2n (causeEnded i) + 16 * b2n i.rq
  (List.range 3).flatMap (fun n => leBytesI 2 (i.m.getD n 0)) ++ leBytes 2 b.vbus ++ leBytesI 2 b.ibus ++
    leBytesI 2 b.tbr ++ [BitVec.ofNat 8 f28, BitVec.ofNat 8 f29, BitVec.ofNat 8 f30, 0] ++
    [0, 1, 2, 3, 12].flatMap (fun w => leBytesI 4 (p.1.vote.out.getD w 0)) ++ zeros 8

/-- The tick boundary of an island (R43, R57, R186-R205). The bootstrap reports are those of the legs the island has (R210). DESIGN CHOICE (log
entry 120): CAUSE 0x4 has ended at the tick boundary after its trip. -/
def islandTick (id : IslandId) (p : IslPair) (smp : IslandSample) : IslPair :=
  let drove := decide (p.2.sw = 0)
  let p := islandLeave (islandLoad id p)
  let p := islandSample p smp
  let p := endCause p 4
  let uv := smp.bsuv % 2 ^ id.legs
  let p := bootstrap id p uv (smp.bslo % 2 ^ id.legs)
  let back := if p.1.admitted.length = 1 then p.2.back + 1 else p.2.back
  let i : Island := { p.2 with back := back }
  let step := if i.sw = 0 then valveStep i.cfg else valveIdle
  let i : Island := if id.isValve then
      { i with valves := (List.range 3).map (fun n =>
          step ((i.valves.getD n {}).endPeriod drove) (p.1.vote.act.getD n 0) (i.m.getD n 0).toNat) }
    else i
  let duty := if id.isValve then (if i.sw = 0 then valveDuties i uv else List.replicate 6 0)
    else periodDuties id p.1 i uv
  let i := { i with duty := duty, comp := duty.map compareValue }
  let meas := islandMeas id (p.1, i)
  let g := { i.gdv with perTrip := false, tdone := false, tpass := false, testDue := i.gdv.testReq, testReq := none }
  ({ p.1 with meas := meas }, { i with gdv := g })

/-- The gates of a leg in this period (R186, R189): high side on at some time, low side on at some time; both off in bus undervoltage, below 12 V
and where the island's clock stands, by a loss or outside ON (R385). -/
def legGates (id : IslandId) (c : UnitCommon) (i : Island) (leg : Nat) : Bool × Bool :=
  if id.legs ≤ leg ∨ c.dom ≠ .on ∨ i.inhibit ∨ i.clockLost ∨ i.gdv.off.testBit leg ∨ i.bus.uv ∨ i.bus.vbus < 1200 then (false, false)
  else if i.sw = 1 then (false, false)
  else if i.sw = 0 then
    let x := i.comp.getD leg 0
    (decide (0 < x), decide (x < 4000))
  else (false, true)

/-- The switches now driven on, bit 2 leg for a low side and 2 leg + 1 for a high side. -/
def drivenOn (id : IslandId) (c : UnitCommon) (i : Island) : Nat :=
  ((List.range id.legs).flatMap (fun g =>
    (if (legGates id c i g).2 then [2 * g] else []) ++ (if (legGates id c i g).1 then [2 * g + 1] else []))).foldl
    setBit 0

/-- A trip came in this period or in the last one, so that its soft turn-off may still run (R193, R194). -/
def recentTrip (c : UnitCommon) (i : Island) : Bool :=
  match i.gdv.tripAge with
  | some a => decide (i.gdv.off ≠ 0 ∧ c.age ≤ a + 1)
  | none => false

/-- Whether a switch's comparators are armed (R193): the switch is driven on, or it was when the trip came whose soft turn-off runs. -/
def armed (id : IslandId) (c : UnitCommon) (i : Island) (leg : Nat) (high : Bool) : Bool :=
  let sw := 2 * leg + b2n high
  (drivenOn id c i).testBit sw || (recentTrip c i && i.gdv.tripOn.testBit sw)

/-- An island with its bus part changed. -/
def withBus (p : IslPair) (f : IslandBus → IslandBus) : IslPair := (p.1, { p.2 with bus := f p.2.bus })

/-- A BRIDGE_FAULT counted (R194, R210). -/
def countDouble (p : IslPair) : IslPair :=
  (p.1, { p.2 with gdv := { p.2.gdv with double := satAdd 16 p.2.gdv.double 1 } })

/-- BRIDGE_FAULT (R194). -/
def bridgeFault (id : IslandId) (p : IslPair) : IslPair := raiseCause id (islEvt id (countDouble p) 7) 5

/-- A leg whose comparator trips (R193, R210): it is switched off and the comparator's flag set. -/
def legTrips (id : IslandId) (p : IslPair) (leg : Nat) (slope : Bool) : IslPair :=
  let recent := recentTrip p.1 p.2
  let g := p.2.gdv
  (p.1, { p.2 with gdv := { g with
    desat := if slope then g.desat else setBit g.desat leg
    slp := if slope then setBit g.slp leg else g.slp
    off := setBit g.off leg, perTrip := true
    tripAge := if recent then g.tripAge else some p.1.age
    tripOn := if recent then g.tripOn else drivenOn id p.1 p.2 } })

/-- What a single trip does beside its event (R194): it is counted and sets CAUSE 0x4. -/
def singleTrip (id : IslandId) (p : IslPair) : IslPair :=
  raiseCause id (p.1, { p.2 with gdv := { p.2.gdv with single := satAdd 16 p.2.gdv.single 1 } }) 4

/-- A trip of a comparator of a leg's switch (R193, R194, R207). -/
def trip (id : IslandId) (p : IslPair) (leg : Nat) (high slope : Bool) : IslPair :=
  if armed id p.1 p.2 leg high ∧ ¬ p.2.clockLost then
    let g := p.2.gdv
    let recent := recentTrip p.1 p.2
    let second := recent && !g.off.testBit leg
    let same := recent && g.off.testBit leg
    let again : Bool := match p.2.tripRearm with
      | none => false
      | some a => decide (p.1.age < a + ticks60s)
    let p := legTrips id p leg slope
    if same then p
    else if second ∨ again then (if p.2.causes.testBit 5 then p else bridgeFault id p)
    else singleTrip id (islEvt id p 6)
  else p

/-- The comparator self-test asked for (R195-R197): a request that names no comparator of the island runs no test. -/
def comparatorTest (id : IslandId) (p : IslPair) (responded : Bool) : IslPair :=
  match p.2.gdv.testDue with
  | none => p
  | some (leg, cmp) =>
    let g := { p.2.gdv with testDue := none }
    if 8 < cmp ∨ (cmp < 6 ∧ id.legs ≤ leg) then
      (p.1, { p.2 with gdv := { g with tdone := true, tpass := false } })
    else
      let g := { g with tdone := true, tpass := responded, testCmp := cmp, testLeg := leg, testPass := responded,
                        testDone := true, testCount := satAdd 16 g.testCount 1 }
      if responded then (p.1, { p.2 with gdv := g })
      else
        let g := { g with cfail := if cmp < 6 then setBit g.cfail leg else g.cfail,
                          lowFail := g.lowFail || cmp = 1 || cmp = 3 }
        raiseCause id (islEvt id (p.1, { p.2 with gdv := g }) 8) 9

/-- Lane C's direct inhibit line of an island changes (R35, R45, R186, R202, R207). -/
def setInhibit (id : IslandId) (p : IslPair) (on : Bool) : IslPair :=
  if on = p.2.inhibit then p
  else if on then
    let i := if p.2.sw = 3 then { p.2 with causes := p.2.causes ||| p.2.refreshFrom } else p.2
    raiseCause id (p.1, { i with inhibit := true }) 0xB
  else freeCause id (p.1, { p.2 with inhibit := false }) 0xB

/-- The island's own speed measurement crosses base speed or 90 % of it (R34, R48). -/
def speedCross (id : IslandId) (p : IslPair) (rpm : Nat) : IslPair :=
  let i := p.2
  let fast := if i.cfg.base ≤ rpm then true else if 10 * rpm < 9 * i.cfg.base then false else i.fast
  let i := { i with fast := fast }
  (p.1, if i.sw = 3 ∨ i.sw = 0 then i else settleSw id i)

/-- The island record, valve record and derived fields of a configuration load (R191, R204, R205). -/
def islandConfigure (id : IslandId) (backLim : Nat) (p : IslPair) : IslPair :=
  let recs := p.1.cfg.recs
  let r := recs.getD 2 []
  let v := recs.getD 1 []
  let vs := (List.range 3).map (fun n =>
    ({ amp := u16At v (16 * n), nper := u16At v (16 * n + 2), tri := decide (byteAt v (16 * n + 4) = 1),
       kpv := f32Rat (u32At v (16 * n + 8)), kiv := f32Rat (u32At v (16 * n + 12)) } : ValveCh))
  let i := { p.2 with
    cfg := { ssc := byteAt r 0, dt := u16At r 2, minp := u16At r 4, base := u16At r 6 }
    kind := id.isValve
    valves := if id.isValve then vs else p.2.valves
    backLim := backLim }
  raiseCause id (p.1, i) 0xC

/-- Causes that only SERVICE clears are cleared, the 60 s window is emptied, and the island takes the state of those that stay (R35, R202,
R209). -/
def clearLatched (id : IslandId) (p : IslPair) (cs : List Nat) : IslPair :=
  let p := cs.foldl dropCause p
  (p.1, settleSw id { p.2 with rearms := [] })

/-- ISL_CTRL.CLRBF (R194, R209). -/
def clearBridge (id : IslandId) (p : IslPair) : IslPair :=
  clearLatched id (p.1, { p.2 with gdv := { p.2.gdv with off := 0, tripAge := none }, tripRearm := none }) [5]

/-- ISL_CTRL.CLRLATCH (R43, R202, R209). -/
def clearLatch (id : IslandId) (p : IslPair) : IslPair :=
  clearLatched id (p.1, { p.2 with back := 0, gdv := { p.2.gdv with lowFail := false } }) [0xE, 9, 0xA]

/-- Register reads of the ISL_, GDV_ and VLV_ blocks (R209-R211). -/
def islRead (id : IslandId) (i : Island) (age : Nat) (oneLane : Bool) (off : Nat) : Option Nat :=
  let b := i.bus
  if off = 0 then
    some (shownCause id i + 16 * i.sw + 64 * b2n (i.causes.testBit 5) + 128 * b2n (i.causes.testBit 0xE) +
      256 * b2n b.ov1 + 512 * b2n b.ov2 + 1024 * b2n i.inhibit + 2048 * b2n oneLane)
  else if off = 4 then some 0
  else if off = 8 then
    some (i.cfg.ssc + 4 * b2n i.kind + 256 * (if i.cfg.dt = 0 then 0 else modCap i.cfg.dt) + 65536 * i.cfg.base)
  else if off = 0xC then some (b.vbus % 65536 + 65536 * ofSigned 16 b.ibus)
  else if off = 0x10 then
    some (b2n b.ov1 + 2 * b2n b.cf + 4 * b2n b.hot + 256 * min b.energy 255 + 65536 * (b.ich % 65536))
  else if off = 0x14 then
    some (min 3 (i.rearms.filter (fun a => age < a + ticks60s)).length + 65536 * i.rearmTotal)
  else if off = 0x18 then some (ofSigned 16 b.tbr)
  else if off = 0x1C then some (2 * b2n i.rq)
  else none

/-- GDV_ reads (R210). -/
def gdvRead (i : Island) (off : Nat) : Option Nat :=
  let g := i.gdv
  if off = 0 then
    some (g.desat % 64 + 64 * (g.slp % 64) + 4096 * (g.bsuv % 64) + 262144 * (g.bslo % 64) + 16777216 * (g.cfail % 64))
  else if off = 4 then some (i.cfg.dt % 2048 + 65536 * (i.cfg.minp % 512))
  else if off = 8 then
    some (g.testCmp + 16 * g.testLeg + 128 * b2n g.testPass + 256 * b2n g.testDone + 65536 * g.testCount)
  else if off = 0xC then some (g.bsuvN + 65536 * g.bsloN)
  else if off = 0x10 then some (g.single + 65536 * g.double)
  else none

/-- VLV_ reads (R211). -/
def vlvRead (i : Island) (off : Nat) : Option Nat :=
  if 0x30 ≤ off then none
  else
    let v := i.valves.getD (off / 16) {}
    let k := off % 16
    if k = 0 then some (v.iset.toNat % 65536 + 65536 * (v.imeas % 65536))
    else if k = 4 then some (v.amp % 1024 + 1024 * (v.nper % 512) + 524288 * b2n v.tri)
    else if k = 8 then some (b2n v.satr + 2 * b2n v.fast + 4 * b2n v.park + 65536 * v.satcnt)
    else some ((roundAway (v.kpv * 8192)).toNat % 65536 + 65536 * ((roundAway v.kiv).toNat % 65536))

/-- The counters a read clears (R9, R208-R211), by what they held when they were read. -/
def islReadClear (i was : Island) (blk off : Nat) : Island :=
  let g := i.gdv
  let w := was.gdv
  if blk = 4 ∧ off = 0x14 then { i with rearmTotal := i.rearmTotal - was.rearmTotal }
  else if blk = 5 ∧ off = 8 then { i with gdv := { g with testCount := g.testCount - w.testCount } }
  else if blk = 5 ∧ off = 0xC then { i with gdv := { g with bsuvN := g.bsuvN - w.bsuvN, bsloN := g.bsloN - w.bsloN } }
  else if blk = 5 ∧ off = 0x10 then { i with gdv := { g with single := g.single - w.single, double := g.double - w.double } }
  else if blk = 8 ∧ off % 16 = 8 then
    { i with valves := updAt i.valves (off / 16) (fun v => { v with satcnt := v.satcnt - (was.valves.getD (off / 16) {}).satcnt }) }
  else i

/-- GDV_STAT by W1C (R210): a bit the trough of the same boundary set stays set (R10). -/
def gdvClear (i : Island) (v : Nat) : Island :=
  let g := i.gdv
  { i with gdv := { g with desat := clearMask g.desat (bitsOf v 5 0), slp := clearMask g.slp (bitsOf v 11 6),
                           bsuv := clearMask g.bsuv (clearMask (bitsOf v 17 12) g.uvNow),
                           bslo := clearMask g.bslo (clearMask (bitsOf v 23 18) g.hiOff),
                           cfail := clearMask g.cfail (bitsOf v 29 24) } }

end Sys2Proof.Machine
end

