-- ==== Sys2Proof/Machine/SafetyCtl.lean ====
section
/-!
DEFINITION. The safety-I/O units (R229-R244): input sampling and filtering, sensor supplies, test pulses and the judgement
of cross-shorts, the configuration records, and the unit's measurement bytes.
-/
namespace Sys2Proof.Machine
open Sys2Proof

/-- Global number of supply `p` of a unit (R229). -/
def supplyNo (x : SioId) (p : Nat) : Nat := 8 * x.idx + p

/-- Whether a supply pulses in its round (R239). -/
def pulsing (c : UnitCommon) (s : SafetyIO) (p : Nat) : Bool :=
  let y := s.sup.getD p {}
  decide (y.pulse = 1) && y.supon && !y.poc && c.cfg.loaded && decide (c.admitted ≠ []) && !s.feedLow

/-- The local number of the supply whose round this is, when it lies on this unit. -/
def roundSupply (x : SioId) (c : UnitCommon) : Option Nat :=
  let k := c.round % 16
  if k / 8 = x.idx then some (k % 8) else none

/-- A code of the 12-bit converter in mV, rounded to nearest (R234). -/
def codeMv (code : Nat) : Nat := (divRound ((code : Int) * 32000) 4096).toNat

/-- Whether a digital input's sample lies in its own test-pulse window (R235, R239): in the pulse that its supply makes. -/
def inOwnWindow (x : SioId) (c : UnitCommon) (s : SafetyIO) (i : SafetyIn) : Bool :=
  (c.tick % 8 = 3 || c.tick % 8 = 4) && decide (roundSupply x c = some i.src) && (s.sup.getD i.src {}).testOff

/-- The raw bit of a sample and whether it lies between the thresholds (R233). -/
def rawBit (i : SafetyIn) (code : Nat) : Bool × Bool :=
  if i.von * 100000 ≤ code * 78125 then (true, false)
  else if code * 78125 ≤ i.voff * 100000 then (false, false)
  else (i.rawb, true)

/-- One sample of an input (R233-R235). The count reaches FILT in the tick in which DIN changes, and starts again after it (R240's worked case). -/
def sampleIn (i : SafetyIn) (code : Nat) (masked : Bool) (tinr : Nat) : SafetyIn :=
  let i := { i with raw := codeMv code, masked := masked }
  if i.mode = 1 then
    let r := rawBit i code
    let i := { i with rawb := r.1, band := r.2, seq := if tinr = 2 then [r.1] else i.seq ++ [r.1] }
    let k := (if i.filt ≤ i.count then 0 else i.count) + 1
    if masked then i
    else if r.1 = i.din then { i with count := 0 }
    else { i with din := if i.filt ≤ k then r.1 else i.din, count := k }
  else if i.mode = 2 then
    let h := (code :: i.hist).take i.filt
    { i with hist := h, fval := (divRound ((h.sum : Int) * 32000) (4096 * max h.length 1)).toNat }
  else i

/-- An input in a round without a cross-short (R240). -/
def SafetyIn.noShort (i : SafetyIn) : SafetyIn := { i with quiet := i.quiet + 1 }

/-- What the judgement at TINR 5 finds for an input (R240): a cross-short from a supply, a pulse missed or followed. `far` says that a supply of the
other safety-I/O unit made its pulse in this round (log entry 46). -/
def judgeIn (x : SioId) (c : UnitCommon) (s : SafetyIO) (far : Bool) (i : SafetyIn) : SafetyIn × Bool × Bool :=
  let k := c.round % 16
  let b := i.seq
  if i.mode ≠ 1 ∨ s.abandoned then (i.noShort, false, false)
  else if roundSupply x c = some i.src then
    if s.ran then
      if b.getD 1 false ∨ b.getD 2 false then ({ i.noShort with pm := true, pmn := satAdd 16 i.pmn 1 }, false, true)
      else ({ i.noShort with pm := false }, false, false)
    else (i.noShort, false, false)
  else
    if (if (roundSupply x c).isSome then s.ran else far) ∧ b = [true, false, false, true] then
      ({ i with xs := true, xsrc := k, quiet := 0, xsn := satAdd 16 i.xsn 1 }, true, false)
    else (i.noShort, false, false)

/-- Whether a supply's output is on at this moment. -/
def supplyLive (y : Supply) : Bool := y.on && !y.testOff

/-- Whether an output voltage in mV lies within 5 % of the supply's nominal one (R238). -/
def Supply.inWindow (y : Supply) (vout : Nat) : Bool :=
  let nom := if y.vsel = 1 then 5000 else 10000
  decide (y.vsel ≠ 0) && decide (95 * nom ≤ 100 * vout ∧ 100 * vout ≤ 105 * nom)

/-- One sample of a supply (R238, R241): PGOOD by its output; in limit counts while it is on and holds during its own test pulse. -/
def sampleSup (y : Supply) (vout iout : Nat) (limit : Bool) : Supply :=
  { y with vout := vout, iout := iout, limit := limit && y.on, pgood := y.on && y.inWindow vout
           limTicks := if y.on ∧ y.testOff then y.limTicks else if limit ∧ y.on then y.limTicks + 1 else 0 }

/-- A supply after a voted SUPON bit has loaded (R231, R237, R238): only a rising edge leaves POC. -/
def loadSupon (feedLow : Bool) (y : Supply) (on : Bool) : Supply :=
  let rise := on && !y.supon
  let poc := y.poc && !rise
  let go := on && !poc && decide (y.vsel ≠ 0) && !feedLow
  { y with supon := on, poc := poc, on := go, pgood := y.pgood && go && y.on, testOff := y.testOff && go,
           limTicks := if rise then 0 else y.limTicks }

/-- WORD0 as it acts (R237). -/
def supWord (v : Int) : Nat := if v < 0 ∨ 255 < v then 0 else v.toNat

/-- An analog slot (R236, R241). -/
def slotValue (s : SafetyIO) (code : Nat) : Nat :=
  if code < 24 then (s.ins.getD code {}).fval
  else if 0x20 ≤ code ∧ code < 0x28 then (s.sup.getD (code - 0x20) {}).vout
  else 0

/-- A mask with one bit per element that satisfies a test. -/
def maskBy {α : Type} (f : α → Bool) : List α → Nat
  | [] => 0
  | a :: r => b2n (f a) + 2 * maskBy f r

/-- A test pulse goes on only at TINR 3 and 4 while the supply may pulse (R239); it took place where it is still on at both. TPW shows it in the
window of the round's supply, on whichever unit that lies (R241); `far`: the other unit's supply pulses in this round. -/
def SafetyIO.pulseStands (x : SioId) (c : UnitCommon) (s : SafetyIO) (far : Bool) : SafetyIO :=
  let inWin := c.tick % 8 = 3 ∨ c.tick % 8 = 4
  let s := { s with sup := (List.range 8).map (fun p =>
    let y := s.sup.getD p {}
    { y with testOff := y.testOff && pulsing c s p && decide inWin }) }
  let off := match roundSupply x c with
    | some p => (s.sup.getD p {}).testOff
    | none => far && decide inWin
  { s with ran := s.ran && decide (c.tick % 8 ≠ 2) && (off || !decide inWin), tpw := off }

/-- Bytes 16-59 of a safety-I/O unit's measurement block (R241). -/
def sioMeas (c : UnitCommon) (s : SafetyIO) : Bytes :=
  if c.cfg.loaded then
    (List.range 16).flatMap (fun k => leBytes 2 (slotValue s (s.slots.getD k 255))) ++
    leBytes 3 (maskBy (fun i => i.mode = 1 && i.din) s.ins) ++
    leBytes 1 (maskBy (fun y => y.pgood && supplyLive y) s.sup) ++ leBytes 1 (maskBy (fun y => y.poc) s.sup) ++
    [BitVec.ofNat 8 (roundNow c % 16 + 16 * b2n s.tpw)] ++
    leBytes 3 (maskBy (fun i => i.xs) s.ins) ++ leBytes 3 (maskBy (fun i => i.pm) s.ins)
  else zeros 44

/-- SIN_TP (R244). -/
def tpWord (c : UnitCommon) (s : SafetyIO) : Nat :=
  if c.cfg.loaded then roundNow c % 16 + 16 * b2n s.tpw + 32 * b2n (decide (c.admitted ≠ [])) else 0

/-- The tick boundary of a safety-I/O unit (R57, R233-R240). -/
def safetyTick (x : SioId) (c : UnitCommon) (s : SafetyIO) (far : Bool) (smp : SioSample) : UnitCommon × SafetyIO :=
  let tinr := c.tick % 8
  let go := c.vote.fresh && !c.vote.fault
  let c := if go then { c with vote := { c.vote with act := c.vote.out } } else c
  let w := supWord (c.vote.act.getD 0 0)
  let s := { s with feed := smp.feed, pathL := smp.pathL, pathC := smp.pathC,
                    abandoned := s.abandoned && decide (tinr ≠ 0) }
  let s := if go then
      { s with sup := (List.range 8).map (fun p => loadSupon s.feedLow (s.sup.getD p {}) (w.testBit p)) } else s
  let s := s.pulseStands x c far
  let s := { s with sup := (List.range 8).map (fun p =>
      sampleSup (s.sup.getD p {}) (smp.vout.getD p 0) (smp.iout.getD p 0) (smp.limit.testBit p)) }
  let s := { s with ins := (List.range 24).map (fun n =>
      let i := s.ins.getD n {}
      sampleIn i (smp.codes.getD n 0) (i.mode = 1 && inOwnWindow x c s i) tinr) }
  let r := if tinr = 5 ∧ c.cfg.loaded then
      let js := s.ins.map (judgeIn x c s far)
      let c := unitEvts (.sio x) c ((if js.any (fun j => j.2.1) then [4] else []) ++ if js.any (fun j => j.2.2) then [5] else [])
      (c, { s with ins := js.map (fun j => j.1) })
    else (c, s)
  ({ r.1 with meas := sioMeas r.1 r.2 }, { r.2 with snapIns := r.2.ins, snapSup := r.2.sup, snapTp := tpWord r.1 r.2 })

/-- The configuration load of a safety-I/O unit (R232, R236). -/
def safetyConfigure (c : UnitCommon) (s : SafetyIO) : SafetyIO :=
  let r1 := c.cfg.recs.getD 1 []
  { s with
    ins := (List.range 24).map (fun n =>
      let r := c.cfg.recs.getD (2 + n / 6) []
      let o := 8 * (n % 6)
      ({ mode := byteAt r o, src := byteAt r (o + 1), filt := byteAt r (o + 2), load := byteAt r (o + 3),
         von := u16At r (o + 4), voff := u16At r (o + 6) } : SafetyIn))
    sup := (List.range 8).map (fun p => ({ vsel := byteAt r1 (4 * p), pulse := byteAt r1 (4 * p + 1) } : Supply))
    slots := (List.range 16).map (fun k => byteAt r1 (32 + k)) }

/-- One supply changed. -/
def putSup (s : SafetyIO) (p : Nat) (f : Supply → Supply) : SafetyIO := { s with sup := updAt s.sup p f }

/-- A test pulse's off edge (R239). -/
def pulseOff (x : SioId) (c : UnitCommon) (s : SafetyIO) (p : Nat) : SafetyIO :=
  if c.tick % 8 = 2 ∧ roundSupply x c = some p ∧ pulsing c s p then
    { putSup s p (fun y => { y with testOff := y.on }) with ran := (s.sup.getD p {}).on }
  else s

/-- A test pulse's on edge (R239, R243): at TINR 4 of the supply's own round. -/
def pulseOn (x : SioId) (c : UnitCommon) (s : SafetyIO) (p : Nat) : SafetyIO :=
  if c.tick % 8 = 4 ∧ roundSupply x c = some p then putSup s p (fun y => { y with testOff := false }) else s

/-- A supply switched off by overcurrent (R238). -/
def cutSupply (s : SafetyIO) (p : Nat) : SafetyIO :=
  putSup s p (fun y => { y with on := false, poc := true, pgood := false, testOff := false, limTicks := 0, ocn := satAdd 16 y.ocn 1 })

/-- A supply that stayed in limit for 5 ms switches off (R238). -/
def overcurrent (x : SioId) (c : UnitCommon) (s : SafetyIO) (p : Nat) : UnitCommon × SafetyIO :=
  let y := s.sup.getD p {}
  if y.on ∧ 96 ≤ y.limTicks ∧ p < 8 then (unitEvt (.sio x) c 6, cutSupply s p) else (c, s)

/-- The reaction to a forced occurrence in a safety-I/O unit (R375). DESIGN CHOICE (log entry 133): a forced PSUP_OC, which names no supply,
switches off the lowest-numbered one that is on. -/
def forceSafety (s : SafetyIO) (n : Nat) : SafetyIO :=
  if n = 6 then
    match (List.range 8).find? (fun p => (s.sup.getD p {}).on) with
    | some p => cutSupply s p
    | none => s
  else s

/-- The ORed feed falls below 6.0 V (R231, R243): during a test pulse nothing is judged in the round. -/
def feedFall (s : SafetyIO) : SafetyIO :=
  { s with feedLow := true, abandoned := s.abandoned || s.sup.any (fun y => y.testOff),
           sup := s.sup.map (fun y => { y with on := false, pgood := false, testOff := false, limTicks := 0 }) }

/-- The ORed feed returns above 6.5 V (R231). -/
def feedReturn (c : UnitCommon) (s : SafetyIO) : SafetyIO :=
  if s.feedLow then
    { s with feedLow := false,
             sup := s.sup.map (fun y => { y with on := y.supon && !y.poc && decide (y.vsel ≠ 0) && c.cfg.loaded }) }
  else s

/-- SIN_ reads (R244): the status registers as of the last tick boundary. -/
def sinRead (s : SafetyIO) (off : Nat) : Option Nat :=
  if off < 0x300 then
    let i := s.ins.getD (off / 0x20) {}
    let t := s.snapIns.getD (off / 0x20) {}
    match (off % 0x20) / 4 with
    | 0 => some (i.mode % 4 + 4 * (i.load % 2) + 256 * (i.filt % 32) + 65536 * (i.src % 16))
    | 1 => some (i.von + 65536 * i.voff)
    | 2 => some (t.raw + 65536 * (if t.mode = 2 then t.fval else 0))
    | 3 => some (b2n t.din + 2 * b2n t.rawb + 4 * b2n t.xs + 8 * b2n t.pm + 16 * b2n t.masked + 32 * b2n t.band +
        64 * t.xsrc + 1024 * t.count)
    | 4 => some (i.xsn + 65536 * i.pmn)
    | _ => none
  else if 0x400 ≤ off ∧ off < 0x480 then
    let y := s.sup.getD ((off - 0x400) / 0x10) {}
    let t := s.snapSup.getD ((off - 0x400) / 0x10) {}
    match (off % 0x10) / 4 with
    | 0 => some (y.vsel % 4 + 4 * (y.pulse % 2))
    | 1 => some (t.vout % 65536 + 65536 * (t.iout % 65536))
    | 2 => some (b2n (supplyLive t) + 2 * b2n (t.pgood && supplyLive t) + 4 * b2n t.limit + 8 * b2n t.poc + 16 * b2n t.supon)
    | _ => some (65536 * y.ocn)
  else if off = 0x480 then
    some s.snapTp
  else if 0x484 ≤ off ∧ off < 0x494 then
    let k := (off - 0x484) / 4
    some (s.slots.getD (4 * k) 0 + 256 * s.slots.getD (4 * k + 1) 0 + 65536 * s.slots.getD (4 * k + 2) 0 +
      16777216 * s.slots.getD (4 * k + 3) 0)
  else none

/-- The counters a read clears (R9, R244), by what they held when they were read. -/
def sinReadClear (s was : SafetyIO) (off : Nat) : SafetyIO :=
  if off < 0x300 ∧ (off % 0x20) / 4 = 4 then
    let w := was.ins.getD (off / 0x20) {}
    { s with ins := updAt s.ins (off / 0x20) (fun i => { i with xsn := i.xsn - w.xsn, pmn := i.pmn - w.pmn }) }
  else if 0x400 ≤ off ∧ off < 0x480 ∧ off % 0x10 = 0xC then
    putSup s ((off - 0x400) / 0x10) (fun y => { y with ocn := y.ocn - (was.sup.getD ((off - 0x400) / 0x10) {}).ocn })
  else s

end Sys2Proof.Machine
end

