-- ==== Sys2Proof/Machine/LaneState.lean ====
section
/-!
DEFINITION. The state of a lane as plain data: its always-on domain (R385, R401), time (R52-R63), reception from the units,
lane and mode state (R36-R46), self-checks (R306-R327), the canvas loader (R84-R106), the register service (R403-R413), the
office of Ringmaster (R328-R339, R361), its plane (R245-R282), CAN port (R276-R283) and data movers (R284-R299). Every
default is the value after the power-up of the domain that holds the field.
-/
namespace Sys2Proof.Machine
open Sys2Proof

/-- A lane's state (R36). -/
inductive LState where
  | off | boot | translate | sync | voting | retrying | retired
  deriving DecidableEq, Repr

/-- A device mode (R38). -/
inductive Mode where
  | none | full | duplex | tightrope | halt | sketch | service
  deriving DecidableEq, Repr

/-- One entry of a memory's address table (R324). -/
structure MemEntry where
  addr : Nat
  hit : Nat
  pos : Nat
  chk : Bool
  deriving DecidableEq, Repr

/-- The error registers of one memory (R323-R327). -/
structure MemSet where
  ce : Nat := 0
  ue : Nat := 0
  ovf : Nat := 0
  ueaddr : Nat := 0
  entries : List MemEntry := []
  deriving DecidableEq, Repr

/-- An RC counter to which the round boundary adds (R10): the count, the count before this boundary, and what the boundary added. -/
structure RcCount where
  n : Nat := 0
  was : Nat := 0
  inc : Nat := 0
  deriving DecidableEq, Repr

/-- The MEM_ block (R327). LASTMM is kept as its register word. -/
structure MemRegs where
  sets : List MemSet := List.replicate 7 {}
  mirn : Nat := 0
  sign : RcCount := {}
  clean : Nat := 0
  dirty : Nat := 0
  lastmm : Nat := 0
  rbBlock : Nat := 0
  rbFail : Bool := false
  rbPasses : Nat := 0
  rbFailBlock : Nat := 0
  eng : Nat := 0
  deriving DecidableEq, Repr

/-- The PWR_ registers of the always-on domain and the sleep sequence (R387, R393-R398, R401). `slot` and `pslot` are the requests that wait for the
main domain and the plane; `slept` that the lane went to sleep and did not drop out; `firstMs` the return of another lane that none admitted; `sleepAt` the boundary offset from s reached; `acks` one bit per unit;
`replay` the wakes latched during entry; `pinLow` the ticks the wake input has been low; `srcNow` the wake bits set since the last tick boundary (R10); `timer` counts down while the lane
sleeps; `unitDom` and `polvinDom` are the domains as last seen. -/
structure PwrRegs where
  phy : DomState := .off
  pll : Bool := false
  step1 : Bool := false
  step2 : Bool := false
  step4 : Bool := false
  vl : Nat := 0
  vlmin : Nat := 0xFFFF
  pin : Bool := false
  pinLow : Nat := 0
  src : Nat := 0
  srcNow : Nat := 0
  replayed : Bool := false
  replay : Nat := 0
  slot : Option DomState := none
  pslot : Option DomState := none
  slept : Bool := false
  firstMs : Option Nat := none
  timer : Nat := 0
  timerLeft : Nat := 0
  refDom : Nat := 0
  refCause : Nat := 0
  refStep : Nat := 0
  refCount : Nat := 0
  holdoff : Nat := 0
  sleepAt : Option Nat := none
  cancelling : Bool := false
  acks : Nat := 0
  unitDom : Ten DomState := Ten.all .off
  polvinDom : DomState := .off
  deriving DecidableEq, Repr

/-- A lane's always-on domain (R41, R95, R139, R324, R377, R378, R383, R385). `ms` is its own 1 ms count and `sub` the ticks
since; `trSum` the TIGHTROPE sum in ticks; `halt` and `sketch` that HALT, or SKETCH, is held (R44, R45); `restarts` the times of the last three entries to RETRYING. -/
structure Aon where
  on : Bool := true
  hash : Bytes := zeros 32
  epoch : Nat := 0
  trSum : Nat := 0
  halt : Bool := false
  latched : List (Nat × Nat) := []
  sketch : Bool := false
  ms : Nat := 0
  sub : Nat := 0
  restarts : List Nat := []
  retired : Bool := false
  pendrec : Bool := false
  total : Nat := 0
  causeSrc : Nat := 0
  causeMs : Nat := 0
  first : EvtFirst := {}
  mem : MemRegs := {}
  pwr : PwrRegs := {}
  deriving DecidableEq, Repr

/-- A lane's time (R52, R61-R63, R73). `ofsAll` and `ofsAdm` are the offsets of the
running round, `admSeen` that a unit reported an admitted lane in it, `reports` its valid blocks, `reporters` the units they came from, `lastTick` their TICK, `admTick` that of the blocks with an OFS_ADM; `phase` sums the
corrections of the phase in ns. -/
structure LaneTime where
  tick : Nat := 0
  round : Nat := 0
  roundDue : Bool := false
  age : Nat := 0
  ofsAll : List Int := []
  ofsAdm : List Int := []
  admSeen : Bool := false
  reports : Nat := 0
  reporters : List Nat := []
  lastTick : Option Nat := none
  admTick : Option Nat := none
  median : Int := 0
  nrep : Nat := 0
  drift : Nat := 0
  trim : Int := 0
  limit : Bool := false
  step : Bool := true
  phase : Int := 0
  tmax : Nat := 0
  rmax : RcCount := {}
  deriving DecidableEq, Repr

/-- What a lane holds of one unit (R19, R58, R74, R92, R373): the last valid measurement block, whether one arrived in this
tick (`fresh`) and in the last (`was`), whether a field was STALE, the event words, the error counters, the LOADED state, the register accesses to
forward and those for the next tick's symbol (`later`), and the tick mark and the command block sent in this tick; `disag` are the lanes it
reported a SEVERE disagreement of (R26), `sentRec` that the lane has sent it a record since its records are due (R96), `chop` that its
CHOPPER_FAULT stands since the block last showed it (R376). -/
structure UnitView where
  block : Bytes := []
  fresh : Bool := false
  was : Bool := false
  stale : Bool := false
  seen : Bool := false
  pend : Nat := 0
  sev : Nat := 0
  chop : Bool := false
  crcerr : Nat := 0
  late : Nat := 0
  fwd : List RegAcc := []
  later : List RegAcc := []
  mark : Option Nat := none
  posted : Option Bytes := none
  missing : Tri Bool := Tri.all false
  disag : Tri Bool := Tri.all false
  sentRec : Bool := false
  rearmHold : Nat := 0
  deriving DecidableEq, Repr

/-- What a lane holds of mode and stop (R38-R46, R146). `slow` counts the ticks below 0.5 km/h; `noSio` the ticks since both
safety-I/O units were lost; `startMs` the time of supplies good, or of the first lane's return (R391); `lost` the lanes that were
lost and do not vote again everywhere (R39). -/
structure ModeState where
  mode : Mode := .none
  stop : Bool := false
  park : Bool := false
  slow : Nat := 0
  noSio : Nat := 0
  startMs : Nat := 0
  started : Bool := false
  lost : Tri Bool := Tri.all false
  deriving DecidableEq, Repr

/-- A lane's self-check state (R29, R312-R321): the last tick, by age, in which a self-check failed; the disputed ticks under
check and next to be checked, each with the units that hold a word, one bit each; the verdict to be posted with its VTICK; the withdrawal; the Retry source pending; the units
whose block was not posted in time in this tick, and whether the tick work has run in it; the actuation slots whose mirror copy is not
complete in this round (R312). -/
structure CheckState where
  failAge : Option Nat := none
  checking : Option Nat := none
  next : Option Nat := none
  held : Nat := 0
  nextHeld : Nat := 0
  verdict : Nat := 0
  vtick : Nat := 0
  withdraw : Bool := false
  retry : Option Nat := none
  late : Nat := 0
  worked : Bool := false
  lateSlots : List Nat := []
  deriving DecidableEq, Repr

/-- A translation cache entry (R94, R302): the entry of flash it stands in; its key, canvas hash and patch level; the translated code; the
SHA-256 stored with it. -/
structure CacheEntry where
  place : Nat
  hash : Bytes
  patch : Nat
  code : Bytes
  sha : BitVec 256
  deriving DecidableEq, Repr

/-- The pending-image states of CNV_STATUS.STATE (R106). -/
inductive CnvState where
  | empty | receiving | checking | translating | ready | refused | committed
  deriving DecidableEq, Repr

/-- An executive patch slot (R301): the patch level and the patch with its signature. -/
structure PatchSlot where
  level : Nat
  bytes : Bytes
  deriving DecidableEq, Repr

/-- The canvas loader of a lane (R84-R106): the two image slots, the registers of R106, and what the load in progress has
passed. `patches` are the executive patch slots 0 and 1 in flash, `newer` the newer of them, `patch` the level in use (R301); `erasing` is the
erasure of the pending slot in progress; `ahead` that the active image came by a commit the lane recorded and no
unit has taken it yet (R99, R105); `bad` are the byte offsets of the 64-bit words of flash that read uncorrectable, `romBad` that one of mask
ROM did at BOOT (R325); `recRead` that the retirement records were looked at since the reset (R378); `torn` that the pending slot was left by a transfer cut off (R105). -/
structure Loader where
  slots : Bytes × Bytes := ([], [])
  state : CnvState := .empty
  code : Nat := 0
  aslot : Nat := 0
  asigned : Bool := false
  acached : Bool := false
  retained : Bool := false
  behind : Bool := false
  errSect : Nat := 0
  errOfs : Nat := 0
  errArg : Nat := 0
  errFirst : Nat := 0
  errSecond : Nat := 0
  wbase : Nat := 0
  target : Nat := 0
  ahash : Bytes := zeros 32
  phash : Bytes := zeros 32
  aepoch : Nat := 0
  tickPm : Nat := 0
  roundPm : Nat := 0
  cache : List CacheEntry := []
  hit : Bool := false
  corrupt : Nat := 0
  tsync : Nat := 0
  patch : Nat := 0
  patches : Option PatchSlot × Option PatchSlot := (none, none)
  newer : Nat := 0
  bad : List Nat := []
  romBad : Bool := false
  torn : Bool := false
  erasing : Bool := false
  commit : Option (Bytes × Nat) := none
  ahead : Bool := false
  verdictDue : Bool := false
  verified : Bool := false
  recRead : Bool := false
  recordsDue : Bool := false
  deriving DecidableEq, Repr

/-- One status of a reply's operation (R410): STATUS with STRADDLE and DETAIL, and the words a READ returns. -/
structure OpResult where
  status : Nat
  words : List Nat
  deriving DecidableEq, Repr

/-- An operation of a request as a lane took it (R406): settled with its status, or a READ whose registers are still to be read,
each with its value once it is known. -/
inductive PendOp where
  | done (r : OpResult)
  | read (vals : List (Nat × Option Nat))
  deriving DecidableEq, Repr

/-- An accepted request awaiting its boundary (R408); `effect` is the round of that boundary, `late` that it landed in the hand-over
cycle and is served one boundary later (R70), `served` that its boundary has passed and unit reads are outstanding. -/
structure PendReq where
  sender : Nat
  via : Via
  rid : Nat
  effect : Nat
  ops : List PendOp
  late : Bool
  served : Bool
  deriving DecidableEq, Repr

/-- A reply waiting to be sent (R408, R410). -/
structure Reply where
  sender : Nat
  via : Via
  rid : Nat
  effect : Nat
  ops : List OpResult
  deriving DecidableEq, Repr

/-- The open stream (R407): its sender, the lane its WSTREAM named, the offset and the RID. -/
structure Stream where
  sender : Nat
  lane : Nat
  offset : Nat
  rid : Nat
  deriving DecidableEq, Repr

/-- The register service of a lane (R407, R408): requests and replies, the sender, RID and plane of the copies acted on in this cycle, the open
stream, and the last reply sent with its bytes. -/
structure Service where
  reqs : List PendReq := []
  replies : List Reply := []
  seen : List (Nat × Nat × Nat) := []
  stream : Option Stream := none
  sent : Option (Reply × Bytes) := none
  deriving DecidableEq, Repr

/-- A commander as a lane judges it (R331, R361). -/
structure CmdrState where
  present : Bool := false
  claim : Bool := false
  miss : Nat := 0
  heard : Bool := false
  ctrl : Option (Nat × Nat) := none
  deriving DecidableEq, Repr

/-- The office as a lane derives it (R332, R333, R361). `view` holds the Ringmaster's payloads of the last cycle by plane;
`spclaim` and `sprel` are the session peer's claim and release of the running cycle, `endedPeer` the peer of a session that ended
in it, `away` the cycles in which a holder without a commander entry was absent. -/
structure Office where
  holder : Option Nat := none
  round : Nat := 0
  cause : Nat := 0
  cmdrs : List CmdrState := List.replicate 8 {}
  changes : RcCount := {}
  refused : RcCount := {}
  spclaim : Bool := false
  sprel : Bool := false
  spsucc : Nat := 0
  view : Tri (Option Bytes) := Tri.all none
  endedPeer : Option Nat := none
  away : Nat := 0
  deriving DecidableEq, Repr

/-- A received payload in a bank (R260, R286): plane, slot, payload, arrival deviation. -/
structure RxEntry where
  plane : Nat
  slot : Nat
  data : Bytes
  null : Bool
  dev : Int
  deriving DecidableEq, Repr

/-- A partner as a lane sees it (R266, R270, R282). `late` holds the rounds of EDGE and late frames, `syncs` those of RESYNC
echoes sent, `gap` the mark of the running cycle; a RESYNC is due, echoed in this cycle, or sent in the last. -/
structure Partner where
  joined : Bool := false
  joinAt : Option Nat := none
  silenced : Bool := false
  edge : Bool := false
  resync : Bool := false
  late : List Nat := []
  syncs : List Nat := []
  heard : Bool := false
  missFlag : Bool := false
  miss : RcCount := {}
  retryAt : Nat := 0
  gap : Bool := false
  resyncDue : Bool := false
  resyncLast : Bool := false
  deriving DecidableEq, Repr

/-- A join exchange in progress (R270, R347): the partner, the message expected or to be sent, the bytes so far, the deviation
of the partner's JOIN, T2, T3 and the key. -/
structure Join where
  peer : Nat
  stage : Nat
  got : Bytes
  out : Bytes
  dev : Int
  msg1 : Bytes
  t : Bytes
  z : BitVec 256
  key : Option (BitVec 128)
  kw : BitVec 128
  deriving DecidableEq, Repr

/-- A transmit buffer (R140, R258): payload, the bytes posted in this round, and whether it is withheld. -/
structure TxBuf where
  data : Bytes
  posted : List Nat
  withheld : Bool
  deriving DecidableEq, Repr

/-- The plane of a lane (R245-R282). Keys are held by 4096 × plane + partner. `sent` is the last frame that departed;
`beaconAt` the departure of the first beacon, `delay` the path delay of a
follower in ns, `relay` the payload of the beacon followed, `heardPlane` the plane it came on; `seenBcn` is the last beacon of the lane's own schedule
with its master, cycle and arrival, `observed` that a full valid cycle ended with it (R270), `clash` that the lane met a node of its own RANK and
ID (R269), `gate` the guardian's copy of the transmit table (R259), `seqs` SEQ of the measurement in use of each remote axis (R161). -/
structure Net where
  role : Nat := 0
  phase : Nat := 1
  recov : Nat := 0
  trunkUp : Bool := false
  segUp : Nat := 0
  master : Nat := 0
  mofs : Int := 0
  mvalid : Bool := false
  mcycle : Nat := 0
  bmiss : Nat := 0
  heard : Bool := false
  heardSelf : Bool := false
  listening : Bool := false
  toListen : Bool := false
  startBeacon : Bool := false
  beaconAt : Option Int := none
  silenced : Bool := false
  cuts : List Nat := []
  foreign : Nat := 0
  accept : Nat := 0
  late : Nat := 0
  bad : Nat := 0
  slotErr : Nat := 0
  tagErr : Nat := 0
  nulls : Nat := 0
  guard : Nat := 0
  cps : List Nat := List.replicate 8 0
  cpev : Nat := 0
  cpNow : Nat := 0
  cpPrev : Nat := 0
  partners : List (Nat × Partner) := []
  keys : List (Nat × BitVec 128) := []
  oldKeys : List (Nat × BitVec 128) := []
  gk : List (Nat × BitVec 128) := []
  oldGk : List (Nat × BitVec 128) := []
  bk : Option Bytes := none
  epoch : Nat := 0
  oldUntil : Option Nat := none
  mcapOff : Bool := false
  joins : List (Nat × Join) := []
  rx : List RxEntry := []
  bank : List RxEntry := []
  tx : List (Nat × TxBuf) := []
  lastAct : List (Nat × Bytes) := []
  statusFrom : Nat := 0
  holders : List Nat := []
  holdersLast : List Nat := []
  sent : Option (Nat × Nat × Bytes) := none
  heardPlane : Nat := 3
  delay : Int := 0
  relay : Bytes := []
  seenBcn : Option (Nat × Nat × Int) := none
  observed : Bool := false
  clash : Bool := false
  gate : List SlotDef := []
  seqs : List (Nat × Nat) := []
  deriving DecidableEq, Repr

/-- A lane's CAN port (R276-R283); AGE in ticks of 1 ms kept with its sub-count; `offTicks` the ticks in bus-off, `taken` the
addresses lost to other nodes (R277). -/
structure CanPort where
  addr : Nat := 0xFE
  claimed : Bool := false
  busoff : Bool := false
  errpass : Bool := false
  tec : Nat := 0
  rxErr : Nat := 0
  curv : Nat := 0xFFFF
  cst : Nat := 0
  sa : Nat := 0xFF
  cage : Nat := 0xFFFF
  sub : Nat := 0
  nrx : Nat := 0
  busoffn : Nat := 0
  fdrx : Nat := 0
  sent : Nat := 0
  offTicks : Nat := 0
  taken : List Nat := []
  deriving DecidableEq, Repr

/-- A data-mover ring (R287-R299). `srcs` are the source addresses still to be read, `dsts` the destination addresses still to be
written, `hold` is the holding register, `bank` the receive bank the descriptor in progress reads, from its first burst on (R298). -/
structure Ring where
  state : Nat := 0
  code : Nat := 0
  pend : Nat := 0
  desc : Nat := 0
  cur : Nat := 0
  descn : Nat := 0
  ovrqn : RcCount := {}
  req : Nat := 0x7F
  burst : Nat := 0
  dw : Nat := 1
  srcs : List Nat := []
  dsts : List Nat := []
  hold : Bytes := []
  moved : Nat := 0
  crcKind : Nat := 0
  crcReg : Nat := 0
  evt : Bool := false
  haltAfter : Bool := false
  next : Nat := 0
  bank : Option (List RxEntry) := none
  deriving DecidableEq, Repr

/-- The data movers of a lane (R284-R299): rings, marks, watches, the counters of DMA_ERR, and the CAN and service FIFOs. -/
structure Mover where
  rings : List Ring := List.replicate 32 {}
  marks : List Nat := List.replicate 16 0
  watches : List Nat := List.replicate 24 0
  overlapn : Nat := 0
  faultn : Nat := 0
  canRx : Bytes := []
  canTx : Bytes := []
  svcRx : Bytes := []
  svcTx : Bytes := []
  deriving DecidableEq, Repr

/-- What the input store holds of one tick (R29, R317): the units' blocks, the receive bank, the stored states of both runs and the rest a
source reads, at the start of its tick work, the words the lane posted in it, and the round-rate cells it cut off. -/
structure TickInputs where
  tick : Nat
  round : Nat
  state : LState
  units : Ten UnitView
  bank : List RxEntry
  view : Tri (Option Bytes)
  cells : List (Nat × CellState)
  mcells : List (Nat × CellState)
  latched : List (Nat × Nat)
  axs : List Nat
  mode : ModeState
  evt : EvtBlock
  pvPend : Nat
  pvSev : Nat
  cpPrev : Nat
  trSum : Nat
  kbus : Nat × Nat
  psh : Bool × Bool
  words : Ten (List Int)
  waiting : List Nat
  cut : List Nat
  deriving DecidableEq, Repr

/-- A lane's main domain (R385). `mem` is its lane bus memory (R286, R302); `kbus` the derate of the two steering windings in
1/800 (R389), `psh` the pumps shed, `mcells`, `mwords` and `mtx` the mirror copies of states and privileged buffers (R303, R311), `sigs` the
primary and mirror signature of each task by 65536 × core + task (R314), `store` the inputs of the last ticks, newest first (R317), `waiting` the round-rate cells that paused at +49.0 µs of the last tick (R305), `cref` the
reference CRCs of lane C's canvas memory `cmem` (R321), `engCount` the schedule entries its engines counted in the tick (R319), `nans` the
privileged outputs to which a NaN was posted in the tick (R308), `sent` the writes forwarded to units that await their boundary (R103), `groupSent`
those to a unit's COMMIT group, which await the boundary after GO (R69, R103), `restartSup` the supplies to be restarted, `restartSent` those whose
SUPON 0 has been posted for it (R238), `pvPend` and `pvSev` the event words of the Polvin core (R373). -/
structure LaneMain where
  time : LaneTime := {}
  units : Ten UnitView := Ten.all {}
  mode : ModeState := {}
  check : CheckState := {}
  evt : EvtBlock := {}
  canvas : Canvas := {}
  cells : List (Nat × CellState) := []
  mcells : List (Nat × CellState) := []
  waiting : List Nat := []
  words : Ten (List Int) := Ten.all (List.replicate 13 0)
  mwords : Ten (List Int) := Ten.all (List.replicate 13 0)
  mtx : List (Nat × Bytes) := []
  sigs : List (Nat × (Nat × Nat)) := []
  store : List TickInputs := []
  cref : List Nat := []
  cmem : List Bytes := []
  engCount : List Nat := List.replicate 32 0
  nans : List Nat := []
  axs : List Nat := List.replicate 64 0
  motors : List (List Nat) := List.replicate 4 (List.replicate 8 0)
  shadow : Shadow := {}
  sent : List ShadowWrite := []
  groupSent : List ShadowWrite := []
  service : Service := {}
  office : Office := {}
  net : Net := {}
  can : CanPort := {}
  dma : Mover := {}
  mem : List Host.Cell := []
  kbus : Nat × Nat := (800, 800)
  psh : Bool × Bool := (false, false)
  restartSup : List (Nat × Nat) := []
  restartSent : List (Nat × Nat) := []
  pvPend : Nat := 0
  pvSev : Nat := 0
  deriving DecidableEq, Repr

/-- A lane: its state, its power domain, the loader with its flash, the always-on domain and the main domain. -/
structure Lane where
  state : LState := .off
  dom : DomState := .on
  loader : Loader := {}
  aon : Aon := {}
  main : LaneMain := {}
  deriving DecidableEq, Repr

/-- A provenance log entry (R354), as its 96 bytes. -/
abbrev LogEntry := Bytes

/-- What attestation holds (R357). -/
structure Attest where
  nonce : Bytes := zeros 16
  signing : Option Bytes := none
  waiting : Option Bytes := none
  round : Nat := 0
  mode : Nat := 0
  chash : Bytes := zeros 32
  ready : Bool := false
  report : Bytes := zeros 192
  deriving DecidableEq, Repr

/-- The Polvin core (R340-R362). `cmd` is the SEC_CTRL command in progress, with its result and its writer, waiting for
CEREMONY_DONE; `clrWait` the SEC_RETIRE.CLR bits waiting, with their writer; `lockMin` the last lockout in minutes and `lockLeft` what
remains of it in ticks; `hours` the operating time in ticks; `joinGap` the ticks before the next join is served (R272);
`pkeys`, `pgk` and `pkEpoch` the partner and group keys it handed out and their epoch, `given` the epoch it last gave a master that begins and
its operating time then (R350, R352, R353, log entry 23); `seen` the SENDER, RID, ROUND and lane of the requests last acted on (R411); `judged` the canvas hash a VARNISH in progress was judged by; `cmdWin` the window as the
command in progress was judged, `leftSvc` that SERVICE was left since (R342); `logBad` that the log's memory was last found not to take an
entry (R355, log entry 113); `entry` the ticks since every lane sleeps or is off, and `slot` the request that waits for the core's domain
(R395, R398). -/
structure Polvin where
  dom : DomState := .on
  devKey : Option (BitVec 512) := none
  devPub : Bytes := zeros 64
  ipub : Option Bytes := none
  salt : Bytes := zeros 16
  verifier : Bytes := zeros 32
  dcert : Option Bytes := none
  bk : Option Bytes := none
  erec : Nat := 0
  erecHash : Bytes := zeros 32
  keyEpoch : Nat := 0
  keyRec : Nat := 0
  varnish : Bool := false
  vhash : Bytes := zeros 32
  unlocked : Bool := false
  chal : Option Bytes := none
  nsalt : Bytes := zeros 16
  busy : Bool := false
  result : Nat := 0
  cmd : Option (Nat × Nat × Writer) := none
  clrWait : Option (Nat × Writer) := none
  win : Bytes := zeros 256
  failCount : Nat := 0
  lockMin : Nat := 0
  locked : Bool := false
  lockLeft : Nat := 0
  retired : Nat := 0
  log : List LogEntry := []
  logSeq : Nat := 0
  cpSeq : Nat := 0
  cpHash : Bytes := zeros 32
  logSel : Nat := 0
  seen : List (Nat × Nat × Nat × Nat) := []
  att : Attest := {}
  evt : EvtBlock := {}
  hours : Nat := 0
  joinGap : Nat := 0
  pkeys : List (Nat × BitVec 128) := []
  pgk : List (Nat × BitVec 128) := []
  pkEpoch : Nat := 0
  given : Nat × Nat := (0, 0)
  cmdWin : Bytes := zeros 256
  judged : Bytes := zeros 32
  leftSvc : Bool := false
  logBad : Bool := false
  entry : Option Nat := none
  slot : Option DomState := none
  deriving DecidableEq, Repr

/-- The service-port session (R280, R338): the peer, its key, the frame counters of each lane (R410), the time since the last valid frame in
ticks, and the frames that the module sent to open it. -/
structure Session where
  up : Bool := false
  peer : Option Nat := none
  key : BitVec 128 := 0
  rxCtr : Tri (Option Nat) := Tri.all none
  txCtr : Tri Nat := Tri.all 0
  idle : Nat := 0
  out : List Bytes := []
  deriving DecidableEq, Repr

end Sys2Proof.Machine
end

