-- ==== Sys2Proof/Machine/State.lean ====
section
/-!
DEFINITION. The state of the KT-3128 as plain data, the reasons a step can stop, and the state after reset.
-/
namespace Sys2Proof.Machine
open Sys2Proof

/-- Faults. The spec gives every command of this block an effect, so no meaning stops with a fault and the type has no
constructor: a run of the model never ends in one. Safe: nothing is left out by a fault. -/
inductive Fault
  deriving DecidableEq, Repr

/-- Refusals. -/
inductive Refusal where
  /-- Raised by an arm of exec whose command has no meaning yet. Safe: nothing is claimed of the command. -/
  | notModelled (mnemonic : String)
  deriving DecidableEq, Repr

/-- The module: the queue of waiting commands, the three lanes (R36-R46, R84-R106, R284-R339, R385), what every unit holds
(R22-R33, R58-R74, R91-R93, R363-R383), the islands (R185-R211), the feedback units (R212-R228), the safety-I/O units
(R229-R244), what each unit showed at its last round boundary (R408), the Polvin core (R340-R362), the service-port session (R280, R338),
and `free`, the model's own count of the free values drawn (log entry 3). -/
structure State where
  pending : List Instr := []
  free : Nat := 0
  lanes : Tri Lane := Tri.all {}
  ucom : Ten UnitCommon := Ten.all {}
  isl : Six Island := Six.all {}
  fbk : Two Feedback := Two.all {}
  sio : Two SafetyIO := Two.all {}
  snaps : Ten (Option UnitSnap) := Ten.all none
  polvin : Polvin := {}
  port : Session := {}
  deriving DecidableEq, Repr

/-- The module right after the power-up of all its domains, no command waiting: lanes OFF with their inputs not yet good
(R37, R387), units in safe state and unconfigured (R12, R202). -/
def State.reset : State := {}

end Sys2Proof.Machine
end

