-- ==== Sys2Proof/Machine/Ops.lean ====
section
/-!
DEFINITION. The named operations over the whole state: reading and replacing one lane, one unit or one unit with its own
part, events, configuration loads, the inhibit lines of lane C and the chopper fault line of a bus.
-/
namespace Sys2Proof.Machine
open Sys2Proof

/-- One lane replaced. -/
def State.setLane (s : State) (l : LaneId) (n : Lane) : State := { s with lanes := s.lanes.set l n }

/-- The common part of one unit replaced. -/
def State.setUnit (s : State) (u : UnitId) (c : UnitCommon) : State := { s with ucom := s.ucom.set u c }

/-- An island with its common part. -/
def State.islPair (s : State) (i : IslandId) : IslPair := (s.ucom.get (.isl i), s.isl.get i)

/-- An island and its common part replaced. -/
def State.putIsl (s : State) (i : IslandId) (p : IslPair) : State :=
  { s with ucom := s.ucom.set (.isl i) p.1, isl := s.isl.set i p.2 }

/-- A feedback unit and its common part replaced. -/
def State.putFb (s : State) (f : FbId) (p : UnitCommon × Feedback) : State :=
  { s with ucom := s.ucom.set (.fb f) p.1, fbk := s.fbk.setF f p.2 }

/-- A safety-I/O unit and its common part replaced. -/
def State.putSio (s : State) (x : SioId) (p : UnitCommon × SafetyIO) : State :=
  { s with ucom := s.ucom.set (.sio x) p.1, sio := s.sio.setS x p.2 }

/-- A unit runs: its domain is ON and an island's clock has not stopped (R186, R385). -/
def State.runs (s : State) (u : UnitId) : Bool :=
  decide ((s.ucom.get u).dom = .on) && (match u with | .isl i => !(s.isl.get i).clockLost | _ => true)

/-- The effect `f` on the state where the unit runs, nothing where it does not (log entry 2). -/
def State.ifRuns (s : State) (u : UnitId) (f : State → State) : State := if s.runs u then f s else s

/-- A unit's safe state as SAFE of R19 reports it. -/
def State.unitSafe (s : State) : UnitId → Bool
  | .isl i => decide ((s.isl.get i).sw ≠ 0)
  | .fb f => (s.ucom.get (.fb f)).safe
  | .sio x => (s.ucom.get (.sio x)).safe

/-- A unit's own part after its configuration has been loaded (R93). -/
def State.reconfigure (s : State) (backLim : Nat) : UnitId → State
  | .isl i => s.putIsl i (islandConfigure i backLim (s.islPair i))
  | .fb f => s.putFb f (s.ucom.get (.fb f), feedbackConfigure (s.ucom.get (.fb f)) (s.fbk.getF f))
  | .sio x => s.putSio x (s.ucom.get (.sio x), safetyConfigure (s.ucom.get (.sio x)) (s.sio.getS x))

/-- The canvas a hash names: as a lane holds it (R91, log entry 8). -/
def State.canvasNamed (s : State) (h : Bytes) : Canvas :=
  match allLanes.find? (fun l => (s.lanes.get l).main.canvas.hash = h) with
  | some l => (s.lanes.get l).main.canvas
  | none => parseCanvas (Config.imageOf h)

/-- A unit loads the record set that is due, if one is (R93), with the settings of the canvas its record 0 names. -/
def State.loadUnit (s : State) (u : UnitId) : State :=
  match loadDue (s.ucom.get u) with
  | none => s
  | some recs =>
    let st := (s.canvasNamed (recHash (recs.getD 0 []))).unitSettings u.code
    (s.setUnit u (unitLoad (s.ucom.get u) recs st)).reconfigure st.backLim u

/-- The three islands on a power bus (R185). -/
def busIslands (b : BusId) : List IslandId := allIslands.filter (fun i => i.bus = b)

/-- An island declares CHOPPER_FAULT and pulls its bus's fault line: all three islands set it (R199). -/
def State.chopperFault (s : State) (b : BusId) : State :=
  (busIslands b).foldl (fun s i => s.ifRuns (.isl i) (fun s =>
    let p := islEvt i (s.islPair i) 9
    s.putIsl i (p.1, { p.2 with bus := { p.2.bus with cf := true } }))) s

/-- The level of lane C's inhibit lines (R35, R45, R386): asserted in SKETCH and HALT while its domain runs. -/
def State.inhibitLevel (s : State) : Bool :=
  let n := s.lanes.c
  decide (n.dom = .on ∧ n.state ≠ .off ∧ n.state ≠ .retired) && decide (n.main.mode.mode = .sketch ∨ n.main.mode.mode = .halt)

/-- The six islands see the level of lane C's inhibit lines. -/
def State.syncInhibit (s : State) : State :=
  allIslands.foldl (fun s i => s.ifRuns (.isl i) (fun s => s.putIsl i (setInhibit i (s.islPair i) s.inhibitLevel))) s

/-- One occurrence of a source in a unit's block. -/
def State.unitEvent (s : State) (u : UnitId) (n : Nat) (forced : Bool) : State :=
  s.setUnit u (unitEvt u (s.ucom.get u) n forced)

/-- ROUND of the round in which a lane's tick lies: at its first boundary the round boundary is still to come. -/
def LaneTime.roundNow (t : LaneTime) : Nat := (if t.roundDue then t.round + 1 else t.round) % 16777216

/-- One occurrence of a source of a lane's block (R363, R372): EVT_FIRST and EVT_FTICK lie in its always-on domain (R383). -/
def Lane.event (n : Lane) (l : LaneId) (src : Nat) (forced : Bool := false) : Lane :=
  let e := evtOccur (laneKind l) { n.main.evt with first := n.aon.first } src forced n.main.time.tick n.main.time.roundNow
  { n with main := { n.main with evt := e }, aon := { n.aon with first := e.first } }

/-- One occurrence of a source of a lane's block in the state. -/
def State.laneEvent (s : State) (l : LaneId) (src : Nat) : State := s.setLane l ((s.lanes.get l).event l src)

/-- The round the Polvin core stamps its events with: that of the lowest-lettered lane whose domain is ON, as the core has no
round count of its own (R354, log entry 12). -/
def State.polvinRound (s : State) : Nat :=
  match allLanes.find? (fun l => (s.lanes.get l).dom = .on && (s.lanes.get l).state ≠ .off) with
  | some l => (s.lanes.get l).main.time.round
  | none => 0

/-- One occurrence of a source of the Polvin core's block. -/
def State.polvinEvent (s : State) (n : Nat) (forced : Bool := false) : State :=
  { s with polvin := { s.polvin with
      evt := evtOccur .polvin s.polvin.evt n forced (8 * s.polvinRound % 4294967296) s.polvinRound } }

/-- RESTART of a supply (R238): the supervision of every running lane is to post SUPON 0 for one tick. -/
def State.restartSupply (s : State) (x : SioId) (p : Nat) : State :=
  allLanes.foldl (fun s l =>
    let n := s.lanes.get l
    if n.dom = .on ∧ n.state ≠ .off then
      s.setLane l { n with main := { n.main with restartSup := n.main.restartSup ++ [(x.idx, p)] } }
    else s) s

/-- A free value of 512 bits drawn, and the state with the draw counted (log entry 3). -/
def State.draw (s : State) : BitVec 512 × State := (Config.freeValue s.free, { s with free := s.free + 1 })

end Sys2Proof.Machine
end

