-- ==== Sys2Proof/Machine/LaneCtl.lean ====
section
/-!
DEFINITION. Small operations on one lane: codes of states and modes (R36, R38), self-check failures and the Retry sources
(R313-R325, R365), the error tables of its memories (R322-R325), and disputed ticks (R28, R317).
-/
namespace Sys2Proof.Machine
open Sys2Proof

/-- The code of a lane state (R36). -/
def stateCode : LState → Nat
  | .off => 0 | .boot => 1 | .translate => 2 | .sync => 3 | .voting => 4 | .retrying => 5 | .retired => 6

/-- The code of a device mode (R38). -/
def modeCode : Mode → Nat
  | .none => 0 | .full => 1 | .duplex => 2 | .tightrope => 3 | .halt => 4 | .sketch => 5 | .service => 6

/-- A lane whose main domain runs: ON, and neither OFF nor RETIRED (R36, R385). -/
def Lane.awake (n : Lane) : Bool := decide (n.dom = .on) && decide (n.state ≠ .off) && decide (n.state ≠ .retired)

/-- Whether a lane's supply is good (R354, R387, R432): its main domain runs or sleeps, or is held by a retirement. -/
def Lane.supplyGood (n : Lane) : Bool :=
  n.aon.on && (decide (n.dom = .on) || decide (n.state = .retired) || (decide (n.dom = .retention) && n.aon.pwr.slept))

/-- A lane that computes its canvas (R37). -/
def Lane.computing (n : Lane) : Bool := decide (n.dom = .on) && decide (n.state = .sync ∨ n.state = .voting)

/-- A lane other than C, that has cores and mirror runs (R300). -/
def procLane (l : LaneId) : Bool := decide (l ≠ .c)

/-- The effect `f` on lane l where it holds `p`, nothing where it does not (log entry 2). -/
def State.onLane (s : State) (l : LaneId) (p : Lane → Bool) (f : Lane → Lane) : State :=
  if p (s.lanes.get l) then s.setLane l (f (s.lanes.get l)) else s

/-- The main domain of a lane changed. -/
def Lane.onMain (n : Lane) (f : LaneMain → LaneMain) : Lane := { n with main := f n.main }

/-- The self-check state of a lane changed. -/
def Lane.onCheck (n : Lane) (f : CheckState → CheckState) : Lane := { n with main := { n.main with check := f n.main.check } }

/-- The memory error registers of a lane changed. -/
def Lane.onMem (n : Lane) (f : MemRegs → MemRegs) : Lane := { n with aon := { n.aon with mem := f n.aon.mem } }

/-- An RC counter at the round boundary that begins, after more counts, and after a value it takes the greatest of (R10). -/
def RcCount.begun (c : RcCount) : RcCount := { c with was := c.n, inc := 0 }
def RcCount.add (c : RcCount) (k : Nat) : RcCount := { c with n := satAdd 16 c.n k, inc := satAdd 16 c.inc k }
def RcCount.raise (c : RcCount) (v : Nat) : RcCount := { c with n := max c.n v, inc := max c.inc v }

/-- A read of an RC counter, served at the round boundary, returns the count before what the boundary adds, and the counter restarts with that
(R10). -/
def RcCount.cleared (c : RcCount) : RcCount := ⟨c.inc, c.inc, 0⟩

/-- A ring of a lane. -/
def Lane.ring (n : Lane) (r : Nat) : Ring := n.main.dma.rings.getD r {}

/-- The data movers of a lane changed. -/
def Lane.onDma (n : Lane) (f : Mover → Mover) : Lane := n.onMain (fun m => { m with dma := f m.dma })

/-- A ring of a lane changed. -/
def Lane.onRing (n : Lane) (r : Nat) (f : Ring → Ring) : Lane := n.onDma (fun d => { d with rings := updAt d.rings r f })

/-- A request on a line (R291, R292): every ring in FETCH or ACTIVE whose descriptor names it counts it. -/
def Lane.requestRing (l : LaneId) (line : Nat) (n : Lane) (r : Nat) : Lane :=
  let g := n.ring r
  if (g.state = 1 ∨ g.state = 2) ∧ g.req = line then
    if g.pend < 15 then n.onRing r (fun g => { g with pend := g.pend + 1 })
    else (n.onRing r (fun g => { g with ovrqn := g.ovrqn.add 1 })).event l 133
  else n

/-- A request line is raised (R291). Lines 13-15 and 68-71 are never raised. -/
def Lane.raiseLine (n : Lane) (l : LaneId) (line : Nat) : Lane :=
  if procLane l ∧ line < 96 ∧ ¬ (13 ≤ line ∧ line ≤ 15) ∧ ¬ (68 ≤ line ∧ line ≤ 71) then
    (List.range 32).foldl (Lane.requestRing l line) n
  else n

/-- A Retry source comes due (R37, R365): the first of a tick stands (R377). -/
def Lane.askRetry (n : Lane) (src : Nat) : Lane :=
  if n.computing then n.onCheck (fun c => { c with retry := match c.retry with | none => some src | some r => some r }) else n

/-- A self-check of the lane fails in this tick (R29, R316): the verdict is dirty, the lane withdraws and retries. -/
def Lane.selfFail (n : Lane) (src : Nat) : Lane :=
  (n.onCheck (fun c => { c with failAge := some n.main.time.age, verdict := 2, vtick := n.main.time.tick % 256,
                                withdraw := true })).askRetry src

/-- An occurrence of an immediate Retry source (R365). -/
def Lane.failEvent (n : Lane) (l : LaneId) (src : Nat) : Lane := (n.event l src).selfFail src

/-- An occurrence of a source whose SEVERE bit makes the lane retry (R365). -/
def Lane.retryEvent (n : Lane) (l : LaneId) (src : Nat) : Lane :=
  let m := n.event l src
  if evtSevere m.main.evt src then m.askRetry src else m

/-- A memory of a lane (R322): the address of its first byte, its size in bytes, and whether it has 8 check bits to a 64-bit word, rather than 5
to a byte. Where R286 gives it no bus address, the first byte is at 0 (log entry 110). -/
structure MemDef where
  base : Nat
  size : Nat
  word : Bool
  deriving DecidableEq, Repr

/-- The memories of a lane by index (R286, R300, R322). -/
def memTable (l : LaneId) : List MemDef :=
  if l = .c then [⟨0, 0x100000, false⟩, ⟨0, 0xA0000, false⟩, ⟨0, 0x800000, true⟩, ⟨0, 0x400, false⟩]
  else (List.range 4).map (fun k => ⟨0x01000000 + 0x10000 * k, 0x10000, false⟩) ++
    [⟨0x20000000, 0x400000, false⟩, ⟨0x10000000, 0x2000000, true⟩, ⟨0, 0x80000, true⟩]

/-- The number of memories of a lane (R322). -/
def memCount (l : LaneId) : Nat := (memTable l).length

/-- The memory index of the flash of a lane, and of the mask ROM of lanes A and B (R322). -/
def flashIndex (l : LaneId) : Nat := if l = .c then 2 else 5
def romIndex : Nat := 6

/-- Whether an error can occur in a memory (R322): an address in it, of a whole word where it is word-coded, and bits of the byte or word or of
its check bits. -/
def MemDef.holds (d : MemDef) (e : MemErr) : Bool :=
  decide (d.base ≤ e.addr ∧ e.addr < d.base + d.size) && (!d.word || decide (e.addr % 8 = 0)) &&
    e.bits.all (fun b => decide (b.1 < (if b.2 then (if d.word then 8 else 5) else if d.word then 64 else 8)))

/-- The table of a memory after a correctable error (R324), and whether the error is new. -/
def memEntry (m : MemSet) (addr pos : Nat) (chk : Bool) : MemSet × Bool :=
  let m := { m with ce := satAdd 16 m.ce 1 }
  if m.entries.any (fun e => e.addr = addr) then
    ({ m with entries := m.entries.map (fun e => if e.addr = addr then { e with hit := satAdd 16 e.hit 1 } else e) }, false)
  else if m.entries.length < 8 then ({ m with entries := m.entries ++ [⟨addr, 1, pos, chk⟩] }, true)
  else ({ m with ovf := satAdd 16 m.ovf 1 }, true)

/-- A correctable memory error (R323, R324). -/
def Lane.memCe (n : Lane) (l : LaneId) (m addr pos : Nat) (chk : Bool) : Lane :=
  let r := memEntry (n.aon.mem.sets.getD m {}) addr pos chk
  let n := n.onMem (fun g => { g with sets := updAt g.sets m (fun _ => r.1) })
  if r.2 then n.retryEvent l 2 else n

/-- An uncorrectable memory error counted (R325). -/
def Lane.memUeCount (n : Lane) (m addr : Nat) : Lane :=
  n.onMem (fun g => { g with sets := updAt g.sets m (fun e => { e with ue := satAdd 16 e.ue 1, ueaddr := addr }) })

/-- An uncorrectable memory error (R325): of flash it shows where the word is next used, of mask ROM at BOOT it keeps the lane there, any other
raises MEM_UE, which fails the self-check of a lane that computes. -/
def Lane.memUe (n : Lane) (l : LaneId) (m addr : Nat) : Lane :=
  let n := n.memUeCount m addr
  if m = flashIndex l then
    { n with loader := { n.loader with bad := (addr - ((memTable l).getD m ⟨0, 0, true⟩).base) :: n.loader.bad } }
  else if procLane l ∧ m = romIndex ∧ n.state = .boot then { n with loader := { n.loader with romBad := true } }
  else if n.computing then n.failEvent l 3
  else n.event l 3

/-- An error as the code of its memory finds it (R322): one bit of a byte or word is corrected, two are detected; the codes find no more (log
entry 110). -/
def Lane.memErr (l : LaneId) (n : Lane) (e : MemErr) : Lane :=
  match (memTable l)[e.m]? with
  | none => n
  | some d =>
    if d.holds e then
      match e.bits.dedup with
      | [b] => n.memCe l e.m e.addr b.1 b.2
      | [_, _] => n.memUe l e.m e.addr
      | _ => n
    else n

/-- An error put among others in address order. -/
def insertErr (e : MemErr) : List MemErr → List MemErr
  | [] => [e]
  | x :: r => if e.addr ≤ x.addr then e :: x :: r else x :: insertErr e r

/-- The errors of one clock, the lower address first (R326). -/
def Lane.memClock (n : Lane) (l : LaneId) (errs : List MemErr) : Lane := (errs.foldr insertErr []).foldl (Lane.memErr l) n

/-- MEM_LASTMM (R327): kind, plane, ID, core. -/
def lastMm (kind plane ident core : Nat) : Nat := kind + 4 * plane + 16 * (ident % 4096) + 65536 * (core % 4)

/-- A mismatch of a privileged output (R313): MIRROR_MISMATCH, recorded and counted. -/
def Lane.mismatch (n : Lane) (l : LaneId) (kind plane ident core : Nat) : Lane :=
  (n.onMem (fun g => { g with lastmm := lastMm kind plane ident core, mirn := satAdd 16 g.mirn 1 })).failEvent l 128

/-- A unit reports HOLD for a tick (R28, R317): the tick joins the running check, or is checked in the following tick. -/
def addDispute (c : CheckState) (u tick : Nat) : CheckState :=
  match c.checking with
  | none => { c with checking := some tick, held := setBit 0 u }
  | some n =>
    if (n + 4294967296 - tick) % 4294967296 < 2147483648 then { c with held := setBit c.held u }
    else { c with next := some tick, nextHeld := setBit c.nextHeld u }

/-- The verdict check of lane l ends (R29, R317): clean only where the outputs were reproduced and no self-check has failed
since the disputed tick began. -/
def Lane.verdictDone (n : Lane) (reproduced : Bool) : Lane :=
  match n.main.check.checking with
  | none => n
  | some t =>
    let since := (n.main.time.tick + 4294967296 - t) % 4294967296
    let failed := match n.main.check.failAge with
      | some a => decide (n.main.time.age ≤ a + since)
      | none => false
    let ok := reproduced && !failed
    n.onCheck (fun c => { c with verdict := if ok then 1 else 2, vtick := t % 256, withdraw := c.withdraw || !ok,
                                 checking := c.next, next := none, held := c.nextHeld, nextHeld := 0 })

end Sys2Proof.Machine
end

