-- ==== Sys2Proof/Machine/CanCmds.lean ====
section
/-!
DEFINITION. The CAN ports of lanes A and B (R276-R279, R283, R365, R389).
-/
namespace Sys2Proof.Machine
open Sys2Proof

/-- The mode the canvas gives a lane's CAN port (R276): none in lane C. -/
def Lane.canSet (n : Lane) (l : LaneId) : Nat :=
  match l with
  | .a => n.main.canvas.net.canMode.1
  | .b => n.main.canvas.net.canMode.2
  | .c => 0

/-- The mode a lane's CAN port runs in (R276): standby under step 1 of R389. -/
def Lane.canMode (n : Lane) (l : LaneId) : Nat := if n.aon.pwr.step1 then 0 else n.canSet l

/-- The preferred address and NAME of a lane's port (R256). -/
def Lane.canPref (n : Lane) (l : LaneId) : Nat :=
  if l = .a then n.main.canvas.net.canAddr.1 else n.main.canvas.net.canAddr.2
def Lane.canName (n : Lane) (l : LaneId) : Nat :=
  if l = .a then n.main.canvas.net.canName.1 else n.main.canvas.net.canName.2

/-- The CAN port of a lane changed. -/
def Lane.onCan (n : Lane) (f : CanPort → CanPort) : Lane := n.onMain (fun m => { m with can := f m.can })

/-- Whether the port of a lane runs in a mode and is not bus-off. -/
def Lane.canRuns (n : Lane) (l : LaneId) (mode : Nat) : Bool :=
  n.awake && decide (n.canMode l = mode) && !n.main.can.busoff

/-- The data bytes of a received frame land in the port's receive FIFO and raise its line (R286, R291; log entry 125). -/
def Lane.canFill (n : Lane) (l : LaneId) (data : Bytes) : Lane :=
  (n.onDma (fun d => { d with canRx := d.canRx ++ data })).raiseLine l 64

/-- The error counters of a port after a frame it received, or sent (R283), with or without an error. PRESUMED (log entry 139), as ISO 11898-1 counts:
REC rises by 1 and TEC by 8 with an error, and falls by 1 without, REC above 127 to 127; error passive while one of them is above 127. -/
def CanPort.received (c : CanPort) (err : Bool) : CanPort :=
  let r := if err then satAdd 8 c.rxErr 1 else min 127 (c.rxErr - 1)
  { c with rxErr := r, errpass := decide (127 < c.tec ∨ 127 < r) }
def CanPort.transmitted (c : CanPort) (err : Bool) : CanPort :=
  let t := if err then satAdd 8 c.tec 8 else c.tec - 1
  { c with tec := t, errpass := decide (127 < t ∨ 127 < c.rxErr) }

/-- A port enters bus-off (R276, R365), TEC at its end (log entry 139). -/
def Lane.busOff (n : Lane) (l : LaneId) : Lane :=
  (n.onCan (fun c => { c with busoff := true, offTicks := 0, tec := 255, errpass := true, busoffn := satAdd 16 c.busoffn 1 })).event l 136

/-- A frame met an error and is received no further. -/
def Lane.canError (n : Lane) : Lane := n.onCan (fun c => c.received true)

/-- A frame on a lane's port: its data taken, or none where it met an error. -/
def Lane.canFrame (n : Lane) (l : LaneId) (data : Option Bytes) (f : CanPort → Bytes → CanPort) : Lane :=
  match data with
  | none => n.canError
  | some d => (n.onCan (fun c => f (c.received false) d)).canFill l d

/-- GUIDANCE_SYSTEM_COMMAND (R278): the curvature in bytes 0-1, the status in the low bits of byte 2 as in ISO 11783-7 (log entry
22). -/
def execGuidanceSystemCommand (l : LaneId) (sa : Nat) (data : Option Bytes) (s : State) : Host.Outcome State Fault Refusal :=
  .next (s.onLane l (fun n => n.canRuns l 1) (fun n => n.canFrame l data (fun c d => { c with
    curv := u16At d 0, cst := byteAt d 2 % 4, sa := sa % 256, cage := 0, sub := 0, nrx := satAdd 16 c.nrx 1 })))

/-- ADDRESS_CLAIM (R277): the preferred address is claimed; `sent` 1 marks Address Claimed, 2 Cannot Claim Address. At an error a port whose TEC
would pass 255 enters bus-off. -/
def execAddressClaim (m : LaneErr) (s : State) : Host.Outcome State Fault Refusal :=
  .next (s.onLane m.lane (fun n => n.canRuns m.lane 1) (fun n =>
    if ¬ m.err then n.onCan (fun c => { c.transmitted false with addr := n.canPref m.lane, claimed := true, sent := 1 })
    else if 247 < n.main.can.tec then n.busOff m.lane
    else n.onCan (fun c => c.transmitted true)))

/-- A free address in 128-247 by a drawn value (R277): one that no other node was found to hold. -/
def freeAddress (taken : List Nat) (draw : Nat) : Option Nat :=
  let free := ((List.range 120).map (fun k => 128 + k)).filter (fun a => !taken.contains a)
  free[draw % free.length]?

/-- ADDRESS_CLAIM_LOST (R277): an arbitrary-address capable NAME takes a free address in 128-247, which one being a free value (log
entry 3); any other, and one that finds none free, sends Cannot Claim Address and uses 254. -/
def execAddressClaimLost (l : LaneId) (s : State) : Host.Outcome State Fault Refusal :=
  let n := s.lanes.get l
  if n.canRuns l 1 ∧ n.main.can.claimed then
    let c := (n.main.can.received false).transmitted false
    let taken := c.addr :: c.taken
    let d := s.draw
    if (n.canName l).testBit 63 then
      match freeAddress taken d.1.toNat with
      | some a => .next (d.2.setLane l (n.onCan (fun _ => { c with addr := a, claimed := true, sent := 1, taken := taken })))
      | none => .next (d.2.setLane l (n.onCan (fun _ => { c with addr := 0xFE, claimed := false, sent := 2, taken := taken })))
    else .next (s.setLane l (n.onCan (fun _ => { c with addr := 0xFE, claimed := false, sent := 2, taken := taken })))
  else .next s

/-- REQUEST_FOR_ADDRESS_CLAIMED (R277): answered once the port has tried to claim. -/
def execRequestForAddressClaimed (m : LaneErr) (s : State) : Host.Outcome State Fault Refusal :=
  .next (s.onLane m.lane (fun n => n.canRuns m.lane 1) (fun n =>
    if m.err then n.canError
    else n.onCan (fun c =>
      let c := c.received false
      if c.sent = 0 then c else { c.transmitted false with sent := if c.claimed then 1 else 2 })))

/-- CAN_BUSOFF (R365). -/
def execCanBusoff (l : LaneId) (s : State) : Host.Outcome State Fault Refusal :=
  .next (s.onLane l (fun n => n.awake && procLane l && decide (n.canMode l ≠ 0)) (fun n => n.busOff l))

/-- Whether an identifier is of the transport protocols, whose messages are ignored and counted (R277, R283): PGN 0xEC00, 0xEB00,
0xC800, 0xC700 of ISO 11783-3 (log entry 22). -/
def multiPacket (ident : Nat) : Bool := decide (ident / 65536 % 256 ∈ [0xEC, 0xEB, 0xC8, 0xC7])

/-- FD_FRAME (R276, R283): counted only. -/
def execFdFrame (l : LaneId) (ident : Nat) (data : Option Bytes) (s : State) : Host.Outcome State Fault Refusal :=
  .next (s.onLane l (fun n => n.canRuns l 2 || (n.canRuns l 1 && multiPacket ident)) (fun n =>
    n.canFrame l data (fun c _ => { c with fdrx := satAdd 16 c.fdrx 1 })))

/-- CAN_ reads (R283). -/
def canRead (n : Lane) (l : LaneId) (off : Nat) : Option Nat :=
  let c := n.main.can
  if ¬ procLane l then none
  else if off = 0 then
    some ((if l = .a then n.main.canvas.net.canMode.1 else n.main.canvas.net.canMode.2) % 4 + 256 * (n.canPref l % 256))
  else if off = 4 then some (n.canName l % 4294967296)
  else if off = 8 then some (n.canName l / 4294967296)
  else if off = 0xC then
    some (c.addr + 256 * b2n c.claimed + 512 * b2n c.busoff + 1024 * b2n c.errpass + 65536 * c.tec + 16777216 * c.rxErr)
  else if off = 0x10 then some (c.curv + 65536 * c.cst + 16777216 * c.sa)
  else if off = 0x14 then some (c.cage + 65536 * c.nrx)
  else if off = 0x18 then some (c.busoffn + 65536 * c.fdrx)
  else none

/-- The RC fields of the CAN_ block cleared by a read (R283). -/
def canReadClear (n : Lane) (off : Nat) : Lane :=
  if off = 0x14 then n.onCan (fun c => { c with nrx := 0 })
  else if off = 0x18 then n.onCan (fun c => { c with busoffn := 0, fdrx := 0 })
  else n

end Sys2Proof.Machine
end

