-- ==== Sys2Proof/Machine/PolvinCtl.lean ====
section
/-!
DEFINITION. The Polvin core beside its commands: the provenance log (R354-R356), key identities (R341), the device mode it
goes by, and the judgement and completion of ceremonies (R342-R346).
-/
namespace Sys2Proof.Machine
open Sys2Proof

/-- An ASCII label (R341). -/
def ascii (s : String) : Bytes := s.toList.map (fun c => BitVec.ofNat 8 c.toNat)

/-- The lowest-lettered lane whose main domain runs. -/
def State.leadLane (s : State) : Option LaneId := allLanes.find? (fun l => (s.lanes.get l).awake)

/-- The device mode as the lowest-lettered running lane derives it (R357); 0x0 when none runs. -/
def State.devMode (s : State) : Mode :=
  match s.leadLane with
  | some l => (s.lanes.get l).main.mode.mode
  | none => .none

/-- Whether the service port is live (R46, R280, R389): the device in SERVICE, lane A's plane domain ON, step 1 not in force. -/
def State.portLive (s : State) : Bool :=
  decide (s.devMode = .service) && decide (s.lanes.a.aon.pwr.phy = .on) && !s.lanes.a.aon.pwr.step1

/-- The active canvas hash as the lowest-lettered running lane holds it. -/
def State.devHash (s : State) : Bytes :=
  match s.leadLane with
  | some l => (s.lanes.get l).loader.ahash
  | none => zeros 32

/-- The 96 bytes of a log entry (R354). -/
def logBytes (seq hours actor chan action code arg : Nat) (chash prev : Bytes) : Bytes :=
  leBytes 4 seq ++ leBytes 4 hours ++ leBytes 2 (actor % 4096 + 4096 * (chan % 8)) ++
    [BitVec.ofNat 8 action, BitVec.ofNat 8 code] ++ leBytes 4 arg ++ (chash ++ zeros 32).take 32 ++ prev ++ zeros 16

/-- Operating hours in 0.01 h from ticks (R354). -/
def hoursOf (ticks : Nat) : Nat := ticks / 720000 % 4294967296

/-- The 256 oldest entries folded before the 4097th (R356). -/
def Polvin.fold (p : Polvin) : Polvin :=
  if p.log.length < 4096 then p
  else
    { p with log := p.log.drop 256, cpSeq := u32At (p.log.getD 256 []) 0, cpHash := shaBytes (p.log.getD 255 []) }

/-- An entry appended to the log (R354-R356). -/
def Polvin.append (p : Polvin) (actor chan action code arg : Nat) (chash : Bytes) : Polvin :=
  let prev := match p.log.getLast? with | some e => shaBytes e | none => if p.logSeq = 0 then zeros 32 else p.cpHash
  let p := p.fold
  { p with log := p.log ++ [logBytes p.logSeq (hoursOf p.hours) actor chan action code arg chash prev], logSeq := p.logSeq + 1 }

/-- The CHAN of a writer (R354). -/
def chanOf (w : Writer) : Nat := match w.via with | .port => 4 | .plane p => p.idx + 1

/-- An entry that nothing waits for (R355): LOG_FAIL where it cannot be written, nothing while the core does not run. ACTOR and CHAN are those
of the writer, 0 of the controller itself. -/
def State.logAs (s : State) (w : Option Writer) (action code arg : Nat) (chash : Bytes) : State :=
  let a := match w with | some x => (x.id, chanOf x) | none => (0, 0)
  if s.polvin.dom ≠ .on then s
  else if s.polvin.logBad then s.polvinEvent 3
  else { s with polvin := s.polvin.append a.1 a.2 action code arg chash }

/-- An entry for an event the controller itself decides (R355). -/
def State.logEvent (s : State) (action code arg : Nat) (chash : Bytes) : State := s.logAs none action code arg chash

/-- The path a partner's write takes to lane l where the command does not say it: its session, else the lane's own plane (log entry 116). -/
def State.pathOf (s : State) (l : LaneId) (who : Nat) : Writer :=
  ⟨who, if s.port.up ∧ s.port.peer = some who then .port else .plane l⟩

/-- KEYID of the enrolled key (R341); 0 when UNOWNED. -/
def Polvin.keyId (p : Polvin) : Bytes := match p.ipub with | some k => shaBytes k | none => zeros 32

/-- DH of R341. -/
def Polvin.dh (p : Polvin) : Bytes := shaBytes p.devPub

/-- ECDSA over a message (R341). -/
def verifyMsg (key msg sig : Bytes) : Bool := ecdsaVerify key (sha256 msg) sig

/-- The commands of SEC_CTRL by bit number (R362): 0 NEWCHAL, 1 ENROL, 2 ROTATE, 3 PASSWD, 4 UNLOCK, 5 LOCK, 6 VARNISH,
7 STRIP, 8 CERT, 9 BKEY. Whether a command checks CHAL (R342). -/
def usesChal (bit : Nat) : Bool := decide (bit ∈ [1, 2, 3, 4, 7])

/-- What a command requires of ownership and varnish (R342). -/
def secState (p : Polvin) (bit : Nat) : Bool :=
  if bit = 0 then true
  else if bit = 1 then p.ipub.isNone
  else if bit = 7 then p.varnish
  else if bit = 9 then true
  else p.ipub.isSome

/-- Whether a command requires UNLOCK (R342, R346). -/
def secUnlock (p : Polvin) (bit : Nat) : Bool := decide (bit ∈ [2, 3, 6, 7]) || (decide (bit = 9) && p.varnish)

/-- The signature, proof or canvas check of a command (R342): its RESULT. -/
def secCheck (s : State) (bit : Nat) : Nat :=
  let p := s.polvin
  let w := p.win
  let c := p.chal.getD []
  let k := p.ipub.getD []
  let sig := fun (b : Bool) => if b then 0 else 3
  if bit = 1 then
    sig (verifyMsg (slice w 0 64) (ascii "KT3128 ENROL" ++ p.dh ++ c ++ p.nsalt ++ slice w 0 64 ++ slice w 64 32) (slice w 96 64))
  else if bit = 2 then
    let m := ascii "KT3128 ROTATE" ++ p.dh ++ c ++ slice w 0 64
    sig (verifyMsg k m (slice w 64 64) && verifyMsg (slice w 0 64) m (slice w 128 64))
  else if bit = 3 then sig (verifyMsg k (ascii "KT3128 PASSWD" ++ p.dh ++ c ++ p.nsalt ++ slice w 0 32) (slice w 32 64))
  else if bit = 4 then
    if slice w 0 32 = bytes256 (hmac p.verifier (ascii "KT3128 UNLOCK" ++ c)) then 0 else 4
  else if bit = 6 then
    if allLanes.all (fun l => (s.lanes.get l).loader.asigned && decide ((s.lanes.get l).loader.ahash = s.lanes.a.loader.ahash))
    then 0 else 9
  else if bit = 7 then sig (verifyMsg k (ascii "KT3128 STRIP" ++ p.dh ++ c ++ p.vhash) (slice w 0 64))
  else if bit = 8 then sig (verifyMsg k (ascii "KT3128 DEVCERT" ++ p.devPub) (slice w 0 64))
  else 0

/-- Whether a writer may write SEC_CTRL (R342, R411): the Ringmaster as the lead lane derives it, or the session peer while
UNOWNED. -/
def State.mayCeremony (s : State) (w : Writer) : Bool :=
  if s.polvin.ipub.isNone then decide (w.via = .port) && s.port.up && decide (s.port.peer = some w.id)
  else match s.leadLane with
    | some l => decide ((s.lanes.get l).main.office.holder = some w.id)
    | none => false

/-- The RESULT of a command as it is judged (R342, R343), in the order MODE, STATE, PORT, LOCKED, VARNISHED, CHAL, check (log
entry 18). -/
def secJudge (s : State) (bit : Nat) (w : Writer) : Nat :=
  let p := s.polvin
  if s.devMode ≠ .service then 7
  else if ¬ secState p bit then 1
  else if (bit = 1 ∨ bit = 3 ∨ bit = 9) ∧ w.via ≠ .port then 6
  else if bit = 4 ∧ p.locked then 5
  else if secUnlock p bit ∧ ¬ p.unlocked then 8
  else if usesChal bit ∧ p.chal.isNone then 2
  else secCheck s bit

/-- Whether a judged command reached its check of CHAL (R342). -/
def reachedChal (bit res : Nat) : Bool := usesChal bit && decide (res = 0 ∨ res = 2 ∨ res = 3 ∨ res = 4)

/-- Length in minutes of the lockout a failure starts (R345): the 10th starts 1 min, each further one doubles it. -/
def lockoutFor (count last : Nat) : Nat := if count < 10 then 0 else if last = 0 then 1 else min 1024 (2 * last)

/-- A failed proof (R345); `forced` where PASS_FAIL was forced, and then nothing of it is logged (R375). -/
def State.passFail (s : State) (forced : Bool := false) : State :=
  let s := s.polvinEvent 0 forced
  let p := s.polvin
  let n := min (p.failCount + 1) 255
  let m := lockoutFor n p.lockMin
  let s := { s with polvin := { p with failCount := n } }
  if m = 0 then s
  else
    let s := s.polvinEvent 1
    let s := { s with polvin := { s.polvin with locked := true, lockMin := m, lockLeft := m * 1200000 } }
    if forced then s else s.logEvent 6 0 m s.devHash

/-- The commands an UNOWNED controller takes (R339): NEWCHAL, ENROL and BKEY. -/
def secBarred (p : Polvin) (bit : Nat) : Bool := p.ipub.isNone && decide (bit ∉ [0, 1, 9])

/-- A SEC_CTRL command takes effect (R342): it is judged and runs until CEREMONY_DONE. -/
def State.secCommand (s : State) (bit : Nat) (w : Writer) : State :=
  if s.polvin.dom ≠ .on ∨ s.polvin.busy ∨ secBarred s.polvin bit then s
  else
    let res := secJudge s bit w
    let s := if bit = 4 ∧ res = 4 then s.passFail else s
    let s := { s with polvin := { s.polvin with busy := true, cmd := some (bit, res, w), cmdWin := s.polvin.win, leftSvc := false, judged := s.lanes.a.loader.ahash,
                                                chal := if reachedChal bit res then none else s.polvin.chal } }
    if bit = 0 ∧ res = 0 then
      let d := s.draw
      { d.2 with polvin := { d.2.polvin with chal := some (beBytes 32 (d.1.toNat / 2 ^ 256)),
                                             nsalt := beBytes 16 (d.1.toNat % 2 ^ 128) } }
    else s

/-- A SEC_CTRL command as it is written (R342): refused by a writer without the right. -/
def State.secAsked (s : State) (bit : Nat) (w : Writer) : State := if s.mayCeremony w then s.secCommand bit w else s

/-- A SEC_CTRL write with no bit or several bits set (R342, R354): RESULT RANGE, nothing acts; the refusal is logged with the bits written
(log entry 100). -/
def State.secRange (s : State) (bits : Nat) (w : Writer) : State :=
  let res := if s.polvin.logBad then 11 else 10
  let t := s.logAs (some w) 0x13 10 bits s.devHash
  { t with polvin := { t.polvin with result := res, win := zeros 256 } }

/-- The effect of a command whose RESULT is OK (R342), from the window it was judged by. UNLOCK does not outlast the SERVICE it was given in. -/
def secEffect (s : State) (bit : Nat) : Polvin :=
  let p := s.polvin
  let w := p.cmdWin
  if bit = 1 then { p with ipub := some (slice w 0 64), salt := p.nsalt, verifier := slice w 64 32 }
  else if bit = 2 then { p with ipub := some (slice w 0 64) }
  else if bit = 3 then { p with salt := p.nsalt, verifier := slice w 0 32, unlocked := false }
  else if bit = 4 then { p with unlocked := !p.leftSvc, failCount := 0, lockMin := 0 }
  else if bit = 5 then { p with unlocked := false }
  else if bit = 6 then { p with varnish := true, vhash := p.judged }
  else if bit = 7 then { p with varnish := false }
  else if bit = 8 then { p with dcert := some (slice w 0 64) }
  else if bit = 9 then { p with bk := some (slice w 0 16), keyRec := 0 }
  else p

/-- The ACTION of a command's log entry (R354); 0 for NEWCHAL and LOCK, which have none. -/
def secAction (bit : Nat) : Nat :=
  if bit = 1 then 2 else if bit = 2 then 3 else if bit = 3 then 4 else if bit = 4 then 5 else if bit = 6 then 7
  else if bit = 7 then 8 else if bit = 8 then 9 else if bit = 9 then 10 else 0

/-- The ARG of a command's log entry (R354). -/
def secArg (p : Polvin) (bit : Nat) : Nat := if bit = 2 then u32At p.keyId 0 else 0

/-- A command completes (R342, R355): its entry written, or RESULT LOG and no effect. Whether the log took the entry is given; NEWCHAL and LOCK
have none. -/
def State.secDone (s : State) (logOk : Bool) : State :=
  match s.polvin.cmd with
  | none => s
  | some (bit, res, w) =>
    let fin := fun (p : Polvin) (r : Nat) => { p with busy := false, cmd := none, result := r, win := zeros 256 }
    let h := s.devHash
    if res = 0 ∧ secAction bit = 0 then { s with polvin := fin (secEffect s bit) 0 }
    else if ¬ logOk then { s with polvin := { fin s.polvin 11 with logBad := true } }
    else if res ≠ 0 then { s with polvin := { fin (s.polvin.append w.id (chanOf w) 0x13 res (2 ^ bit) h) res with logBad := false } }
    else
      let arg := secArg s.polvin bit
      { s with polvin := { fin ((secEffect s bit).append w.id (chanOf w) (secAction bit) 0 arg h) 0 with logBad := false } }

/-- UNLOCK ends and the challenge is void when SERVICE is left (R342, R360). -/
def State.serviceLeft (s : State) : State :=
  { s with polvin := { s.polvin with unlocked := false, chal := none, leftSvc := s.polvin.busy } }

/-- The lane on whose ticks the time of the Polvin core runs (log entry 19): the lowest-lettered one whose always-on domain does. -/
def State.timeLane (s : State) : Option LaneId := allLanes.find? (fun l => (s.lanes.get l).aon.on)

/-- The Polvin core's own time (R10, R345, R354, R432, log entry 19): operating time while a lane supply is good and, while the core is powered, the
rest of a lockout and the tick of its event block. -/
def State.polvinTime (s : State) (l : LaneId) : State :=
  if s.timeLane = some l then
    let p := { s.polvin with hours := if allLanes.any (fun x => (s.lanes.get x).supplyGood) then s.polvin.hours + 1 else s.polvin.hours }
    { s with polvin := if p.dom = .on then { p with lockLeft := p.lockLeft - 1, evt := p.evt.tick } else p }
  else s

/-- A request of a lane's interface starts the Polvin core where it sleeps (R396, R397); an entry that it has not completed ends. -/
def State.polvinWakes (s : State) : State :=
  { s with polvin := { s.polvin with entry := none, dom := if s.polvin.dom = .retention then .on else s.polvin.dom } }

/-- The Polvin core takes its event entries, unit code 0xE, from the canvas of a lane (R370). -/
def State.polvinEntries (s : State) (l : LaneId) : State :=
  let es := ((s.lanes.get l).main.canvas.events.filter (fun e => e.1 = 14)).map (fun e => e.2)
  { s with polvin := { s.polvin with evt := evtConfigure s.polvin.evt es } }

/-- The lowest-lettered running lane that holds a canvas. -/
def State.canvasLane (s : State) : Option LaneId :=
  allLanes.find? (fun l => (s.lanes.get l).awake && decide ((s.lanes.get l).main.canvas.hash ≠ []))

/-- The Polvin core with the event entries of a canvas that a lane holds (R370, log entry 96). -/
def State.polvinCanvas (s : State) : State := match s.canvasLane with | some l => s.polvinEntries l | none => s

end Sys2Proof.Machine
end

