-- ==== Sys2Proof/Machine/UnitRegs.lean ====
section
/-!
DEFINITION. Register access in the units (R73, R74, R107, R208-R211, R228, R244, R383, R402-R404): reads with the clearing of
RC fields, writes as they take effect, the COMMIT group (R69-R73), and injection (R375).
-/
namespace Sys2Proof.Machine
open Sys2Proof

/-- Block code of an address (R403). -/
def addrBlock (a : Nat) : Nat := a / 1048576 % 256

/-- Byte offset of an address within its block (R7). -/
def addrOff (a : Nat) : Nat := a % 1048576

/-- Unit code of an address (R8). -/
def addrUnit (a : Nat) : Nat := a / 268435456 % 16

/-- NSTAGED of TCK_COMMIT (R73): registers now staged. -/
def nStaged (h : Shadow) : Nat := (h.staged.map (fun w => w.acc.addr)).dedup.length

/-- TCK_COMMIT as read (R73). -/
def commitRead (h : Shadow) : Nat := 4 * b2n h.pend + 8 * b2n h.straddle + 16 * nStaged h

/-- Whether a register lies in a COMMIT group given by address ranges (R71). -/
def inGroup (h : Shadow) (addr : Nat) : Bool := h.ranges.any (fun r => r.1 ≤ addr && addr ≤ r.2)

/-- GO (R71, R72): the staging moves into the shadow, to take effect at the boundary `effect`; nothing with empty staging. -/
def shadowGo (h : Shadow) (effect : Nat := 0) : Shadow :=
  if h.staged = [] then h
  else { h with due := h.due ++ h.staged.map (fun w => { w with effect := effect }), staged := [], pend := true }

/-- ABORT (R71): the staging is discarded; refused while PEND is 1. -/
def shadowAbort (h : Shadow) : Shadow := if h.pend then h else { h with staged := [] }

/-- A write joins a shadow, a later one to the same register replacing the bits it writes (R70). -/
def shadowAdd (h : Shadow) (w : ShadowWrite) : Shadow :=
  if inGroup h w.acc.addr then (if h.pend then h else { h with staged := h.staged ++ [w] }) else { h with due := h.due ++ [w] }

/-- A write landed in the hand-over cycle (R70). -/
def Shadow.straddled (h : Shadow) : Shadow := { h with straddle := true, straddling := true }

/-- TCK_COMMIT.STRADDLE written 1 (R73): cleared unless it was set in the hand-over cycle that runs (R10). -/
def Shadow.clearStraddle (h : Shadow) : Shadow := { h with straddle := h.straddling && h.straddle }

/-- Accesses that every one of two lanes, or the only lane, has sent (R404): the agreed ones of the given lists. -/
def agreedOf : List (List RegAcc) → List RegAcc
  | [] => []
  | [a] => a
  | [a, b] => a.filter (fun x => b.contains x)
  | a :: b :: d :: _ =>
    a.filter (fun x => b.contains x || d.contains x) ++ b.filter (fun x => d.contains x && !a.contains x)

/-- The writes a unit has received identically from two lanes it admits, or from its only admitted lane (R404). -/
def agreedWrites (c : UnitCommon) : List RegAcc := agreedOf (c.admitted.map (fun l => (c.links.get l).writes))

/-- Those of them that landed in the hand-over cycle (R70). -/
def agreedNext (c : UnitCommon) : List RegAcc := agreedOf (c.admitted.map (fun l => (c.links.get l).next))

/-- One agreed write enters a unit's shadow; GO and ABORT act on the staging, ABORT winning (R71, R72). -/
def shadowTake (h : Shadow) (a : RegAcc) : Shadow :=
  let v := a.value.toNat &&& a.mask.toNat
  if addrBlock a.addr = 1 ∧ addrOff a.addr = 0x14 then
    let g := if v.testBit 1 then shadowAbort h else if v.testBit 0 then shadowGo h else h
    if v.testBit 3 then g.clearStraddle else g
  else shadowAdd h ⟨none, a, 0, 0⟩

/-- The shadow of a unit as its registers show it (R71, R73): with the agreed writes of the running round taken in. The admitted set at
the boundary decides in the end (R414). -/
def UnitCommon.shown (c : UnitCommon) : Shadow := (agreedWrites c).foldl shadowTake c.shadow

/-- TCK_ reads of a unit (R73). -/
def unitTckRead (c : UnitCommon) (off : Nat) : Option Nat :=
  if off = 0 then some c.tick
  else if off = 4 then some (c.round + 16777216 * (c.tick % 8))
  else if off = 0x14 then some (commitRead { c.shown with straddle := c.shadow.straddle })
  else none

/-- LNK_ reads of a unit (R74). -/
def unitLnkRead (c : UnitCommon) (off : Nat) : Option Nat :=
  if off = 0x30 then some (c.stale + 65536 * c.merged)
  else if off < 0x30 then
    match LaneId.ofCode (off / 16 + 1) with
    | none => none
    | some l =>
      let k := c.links.get l
      if off % 16 = 0 then
        some (k.stat + 4 * b2n k.adm + 8 * b2n k.inwin + 16 * b2n k.up + 256 * k.miss + 65536 * k.crcerr)
      else if off % 16 = 4 then some (k.delay % 65536)
      else if off % 16 = 8 then some (ofSigned 16 k.arr + 65536 * b2n k.arrValid)
      else none
  else none

/-- VOT_ reads (R208). -/
def votRead (c : UnitCommon) (off : Nat) : Option Nat :=
  if off < 0x34 then
    match c.vote.windows.getD (off / 4) none with
    | some w => some (w % 65536 + 65536)
    | none => some 0
  else if off = 0x40 then
    some (disputeWord c.vote + 16 * b2n (c.vote.dispute.isSome || c.vote.blockless) + 32 * b2n c.vote.fault + 64 * b2n c.links.a.adm +
      128 * b2n c.links.b.adm + 256 * b2n c.links.c.adm + 4096 * (c.vote.lastPat % 16))
  else if 0x44 ≤ off ∧ off < 0x50 then
    match LaneId.ofCode ((off - 0x44) / 4 + 1) with
    | none => none
    | some l => some ((c.links.get l).against + 65536 * (c.links.get l).missing)
  else if off = 0x50 then some (c.vote.holds + 65536 * c.vote.tfail)
  else none

/-- CNV_ reads of a unit (R107). -/
def unitCnvRead (c : UnitCommon) (off : Nat) : Option Nat :=
  let g := c.cfg
  let r0 := g.recs.getD 0 []
  if off = 0 then some (if g.loaded then u32At r0 0 else 0)
  else if off = 4 then
    let next := if g.loaded then 255
      else ((List.range g.asmTotal).find? (fun i => (assocGet g.asm i).isNone)).getD (if g.asmTotal = 0 then 0 else 255)
    let nrec := if 0 < g.asmTotal then g.asmTotal else g.recs.length
    some (b2n g.loaded + 2 * matchBits c + 256 * (nrec % 256) + 65536 * next)
  else if off = 8 then some (if g.loaded then u32At r0 32 else 0)
  else none

/-- PWR_USTAT (R402). -/
def unitPwrRead (s : State) (u : UnitId) (off : Nat) : Option Nat :=
  if off = 0 then
    let ack := 262144 * b2n (s.ucom.get u).slp.ack
    some (match u with
      | .isl i => (s.isl.get i).bus.vbus % 65536 + ack
      | .fb f => (s.fbk.getF f).feed % 65536 + ack
      | .sio x => (s.sio.getS x).feed % 65536 + 65536 * b2n (s.sio.getS x).pathL + 131072 * b2n (s.sio.getS x).pathC + ack)
  else none

/-- A register of a unit as a read returns it; none where the address names no register. -/
def unitRead (s : State) (u : UnitId) (addr : Nat) : Option Nat :=
  let c := s.ucom.get u
  let off := addrOff addr
  match addrBlock addr with
  | 1 => unitTckRead c off
  | 2 => unitLnkRead c off
  | 3 => votRead c off
  | 4 => match u with
    | .isl i => islRead i (s.isl.get i) c.age (decide (c.admitted.length = 1)) off
    | _ => none
  | 5 => match u with | .isl i => gdvRead (s.isl.get i) off | _ => none
  | 6 => match u with | .fb f => fbkRead (s.fbk.getF f) off | _ => none
  | 7 => match u with | .sio x => sinRead (s.sio.getS x) off | _ => none
  | 8 => match u with | .isl i => if i.isValve then vlvRead (s.isl.get i) off else none | _ => none
  | 0xC => evtRead (unitKind u) c.evt off
  | 0xF => unitCnvRead c off
  | 0x10 => unitPwrRead s u off
  | _ => none

/-- The RC fields a read clears (R9, R10): counters of LNK_, VOT_ and the unit's own blocks. `was` holds what the read returned: a counter keeps
what it has counted since. -/
def unitReadClear (s was : State) (u : UnitId) (addr : Nat) : State :=
  let c := s.ucom.get u
  let d := was.ucom.get u
  let off := addrOff addr
  match addrBlock addr with
  | 2 =>
    if off = 0x30 then s.setUnit u { c with stale := c.stale - d.stale, merged := c.merged - d.merged }
    else if off % 16 = 0 then
      match LaneId.ofCode (off / 16 + 1) with
      | some l => s.setUnit u (c.setLink l { c.links.get l with crcerr := (c.links.get l).crcerr - (d.links.get l).crcerr })
      | none => s
    else s
  | 3 =>
    if 0x44 ≤ off ∧ off < 0x50 then
      match LaneId.ofCode ((off - 0x44) / 4 + 1) with
      | some l => s.setUnit u (c.setLink l { c.links.get l with
          against := (c.links.get l).against - (d.links.get l).against
          missing := (c.links.get l).missing - (d.links.get l).missing })
      | none => s
    else if off = 0x50 then s.setUnit u { c with vote := { c.vote with holds := c.vote.holds - d.vote.holds, tfail := c.vote.tfail - d.vote.tfail } }
    else s
  | 6 => match u with | .fb f => s.putFb f (c, fbkReadClear (s.fbk.getF f) (was.fbk.getF f) off) | _ => s
  | 7 => match u with | .sio x => s.putSio x (c, sinReadClear (s.sio.getS x) (was.sio.getS x) off) | _ => s
  | b => match u with | .isl i => s.putIsl i (c, islReadClear (s.isl.get i) (was.isl.get i) b off) | _ => s

/-- The reaction to a forced occurrence in an island (R375): what a real one does beside its event. DESIGN CHOICE (log entry 133): a forced
SC_TRIP, which names no comparator, is a DESAT trip of leg 0. -/
def forceIsland (i : IslandId) (p : IslPair) (n : Nat) : IslPair :=
  if n = 0 then ({ p.1 with vote := { p.1.vote with fault := true, passes := 0 } }, p.2)
  else if n = 4 ∨ n = 5 then (if evtSevere p.1.evt n then raiseCause i p 7 else p)
  else if n = 6 then singleTrip i (legTrips i p 0 false)
  else if n = 7 then raiseCause i (countDouble p) 5
  else if n = 8 then raiseCause i p 9
  else if n = 9 then (p.1, { p.2 with bus := { p.2.bus with cf := true } })
  else if n = 10 then raiseCause i p 8
  else if n = 11 then raiseCause i (withBus p (fun b => { b with ov2 := true, ov2Low := 0 })) 6
  else if n = 12 then raiseCause i (withBus p (fun b => { b with uv := true })) 0xD
  else if n = 13 then (p.1, settleSw i { p.2 with causes := setBit p.2.causes 0xE, live := setBit p.2.live 0xE, rq := false })
  else if n = 14 then raiseCause i p 0xA
  else p

/-- A forced VOTER_FAULT of a unit other than an island (R32, R33, R375). -/
def State.forceVoter (s : State) (u : UnitId) (n : Nat) : State :=
  let c := s.ucom.get u
  if n = 0 then s.setUnit u { c with vote := { c.vote with fault := true, passes := 0 } } else s

/-- One forced occurrence of a unit's source (R375, R382): none while the unit is unconfigured. A voter fault acts as R32 and
R33 state; a forced CHOPPER_FAULT pulls the line of the bus. -/
def State.forceUnit (s : State) (u : UnitId) (n : Nat) : State :=
  if (s.ucom.get u).cfg.loaded ∧ ¬ (s.ucom.get u).evt.had n true then
    let s := s.unitEvent u n true
    match u with
    | .isl i =>
      let s := s.putIsl i (forceIsland i (s.islPair i) n)
      if n = 9 then
        (busIslands i.bus).foldl (fun s j => if j = i then s else s.ifRuns (.isl j) (fun s =>
          let p := islEvt j (s.islPair j) 9
          s.putIsl j (p.1, { p.2 with bus := { p.2.bus with cf := true } }))) s
      else s
    | .fb _ => s.forceVoter u n
    | .sio x => (s.putSio x (s.ucom.get u, forceSafety (s.sio.getS x) n)).forceVoter u n
  else s

/-- The islands of a bus whose latched fault is cleared show none to a lane (R49, R199): the lanes carry the write of CLRCF, so each that runs
knows of it (log entry 24). -/
def Lane.chopperCleared (n : Lane) (b : BusId) : Lane :=
  if n.awake then
    n.onMain (fun m => { m with units := (busIslands b).foldl (fun t i => t.set (.isl i) { t.get (.isl i) with chop := false }) m.units })
  else n

/-- ISL_CTRL.CLRCF (R199, R209): the latched fault of the island's bus is cleared in its three islands (log entry 13). -/
def State.clearChopper (s : State) (b : BusId) : State :=
  let s := (busIslands b).foldl (fun s i => s.ifRuns (.isl i) (fun s =>
    s.putIsl i ((s.islPair i).1, { s.isl.get i with bus := { (s.isl.get i).bus with cf := false } }))) s
  { s with lanes := s.lanes.map (fun n => n.chopperCleared b) }

/-- ISL_RQ.REQ (R203): RQ is set unless the cause can no longer be re-armed. -/
def rearmAsk (i : Island) : Island := if i.causes &&& latchedMask ≠ 0 then i else { i with rq := true }

/-- A write to an island's own blocks as it takes effect (R209, R210). -/
def islandWrite (s : State) (i : IslandId) (blk off v : Nat) : State :=
  if blk = 4 ∧ off = 4 then
    let s := if v.testBit 0 then s.putIsl i (clearBridge i (s.islPair i)) else s
    let s := if v.testBit 1 then s.clearChopper i.bus else s
    if v.testBit 2 then s.putIsl i (clearLatch i (s.islPair i)) else s
  else if blk = 4 ∧ off = 0x1C then
    if v.testBit 0 then s.putIsl i ((s.islPair i).1, rearmAsk (s.isl.get i)) else s
  else if blk = 5 ∧ off = 0 then s.putIsl i ((s.islPair i).1, gdvClear (s.isl.get i) v)
  else s

/-- A write to one register of a unit as it takes effect, but for TCK_COMMIT.GO and ABORT (R9, R13, R383). -/
def unitWrite (s : State) (u : UnitId) (a : RegAcc) : State :=
  let off := addrOff a.addr
  let v := a.value.toNat &&& a.mask.toNat
  let c := s.ucom.get u
  match addrBlock a.addr with
  | 1 => if off = 0x14 ∧ v.testBit 3 then s.setUnit u { c with shadow := c.shadow.clearStraddle } else s
  | 6 => match u with
    | .fb f => s.putFb f (c, fbkWrite (s.fbk.getF f) off a.value.toNat a.mask.toNat)
    | _ => s
  | 7 => match u with
    | .sio x => if 0x400 ≤ off ∧ off < 0x480 ∧ off % 16 = 12 ∧ v.testBit 0 then s.restartSupply x ((off - 0x400) / 16) else s
    | _ => s
  | 0xC =>
    if 0x60 ≤ off ∧ off < 0x80 then (wordSources ((off - 0x60) / 4) v).foldl (fun s n => s.forceUnit u n) s
    else s.setUnit u { c with evt := evtWrite (unitKind u) c.evt off a.value.toNat a.mask.toNat }
  | b => match u with | .isl i => islandWrite s i b off v | _ => s

/-- The shadow of a unit after its round boundary (R69-R71): the writes that were due are gone, the others wait one boundary less, those
that landed in the hand-over cycle wait for the next boundary, and PEND stands while the group waits. -/
def UnitCommon.handOver (c : UnitCommon) : UnitCommon :=
  let h := c.shown
  let rest := (h.due.filter (fun w => w.effect ≠ 0)).map (fun w => { w with effect := w.effect - 1 })
  let h := { h with due := rest, pend := h.pend && rest.any (fun w => inGroup h w.acc.addr) }
  let h := if agreedNext c = [] then h else h.straddled
  { c.eachLink (fun _ k => { k with writes := k.next, next := [] }) with shadow := h }

/-- A unit with the agreed writes of the running round taken into its shadow (R71): what it has not received from two lanes waits. -/
def UnitCommon.takenIn (c : UnitCommon) : UnitCommon :=
  let ws := agreedWrites c
  { c.eachLink (fun _ k => { k with writes := k.writes.filter (fun a => !ws.contains a) }) with shadow := c.shown }

/-- The register writes of a unit that take effect at its round boundary (R13, R69-R71, R404). -/
def unitWrites (s : State) (u : UnitId) : State :=
  let c := s.ucom.get u
  let due := c.shown.due.filter (fun w => w.effect = 0)
  due.foldl (fun s w => unitWrite s u w.acc) (s.setUnit u c.handOver)

/-- A unit as its registers stand. -/
def State.snapUnit (s : State) (u : UnitId) : UnitSnap :=
  { com := s.ucom.get u
    isl := match u with | .isl i => some (s.isl.get i) | _ => none
    fb := match u with | .fb f => some (s.fbk.getF f) | _ => none
    sio := match u with | .sio x => some (s.sio.getS x) | _ => none }

/-- The status snapshot of a unit's round boundary (R408). -/
def State.takeSnap (s : State) (u : UnitId) : State := { s with snaps := s.snaps.set u (some (s.snapUnit u)) }

/-- The state with a unit as a snapshot holds it. -/
def State.withSnap (s : State) (u : UnitId) (p : UnitSnap) : State :=
  let s := s.setUnit u p.com
  match u with
  | .isl i => match p.isl with | some x => { s with isl := s.isl.set i x } | none => s
  | .fb f => match p.fb with | some x => { s with fbk := s.fbk.setF f x } | none => s
  | .sio x => match p.sio with | some y => { s with sio := s.sio.setS x y } | none => s

/-- One read of lane l at a unit (R9, R408): the value of the last round boundary, as it stands where the unit has had none since its power-up.
DEDUCED (log entry 140): the first lane's read clears RC fields, each lane reading what they held; a lane's second read returns them
cleared. -/
def unitServe (s : State) (u : UnitId) (l : LaneId) (addr : Nat) : State × Nat :=
  match s.snaps.get u with
  | none => (unitReadClear s s u addr, (unitRead s u addr).getD 0)
  | some p =>
    let was := s.withSnap u p
    let shown := if p.taken.contains (l, addr) then unitReadClear was was u addr else was
    let t := if p.taken.any (fun e => e.2 = addr) then s else unitReadClear s was u addr
    ({ t with snaps := t.snaps.set u (some { p with taken := p.taken ++ [(l, addr)] }) }, (unitRead shown u addr).getD 0)

/-- The reads among the accesses of a register symbol served: address and value. -/
def unitAnswers (s : State) (u : UnitId) (l : LaneId) : List RegAcc → State × List (Nat × Nat)
  | [] => (s, [])
  | a :: as =>
    if a.isWrite then unitAnswers s u l as
    else
      let r := unitServe s u l a.addr
      let q := unitAnswers r.1 u l as
      (q.1, (a.addr, r.2) :: q.2)

/-- A register symbol of lane l arrives at a unit (R404): up to eight accesses. A write that arrives between the tick boundary that begins
a round and the hand-over of that boundary has landed in the hand-over cycle (R70). -/
def unitSymbol (s : State) (u : UnitId) (l : LaneId) (accs : List RegAcc) : State :=
  let accs := accs.take 8
  let r := unitAnswers s u l accs
  let c := r.1.ucom.get u
  let k := c.links.get l
  if k.up then
    let ws := accs.filter (fun a => a.isWrite)
    r.1.setUnit u (c.setLink l (if c.roundDue then { k with answers := r.2, next := k.next ++ ws }
      else { k with answers := r.2, writes := k.writes ++ ws }))
  else s

end Sys2Proof.Machine
end

