-- ==== Sys2Proof/Machine/UnitCmds.lean ====
section
/-!
DEFINITION. The commands every unit takes: tick marks, command blocks and register symbols, the command deadline, the voter
self-test, withdrawals, power-up, link training and loss (R18-R33, R58-R67, R91-R93, R385, R396, R404).
-/
namespace Sys2Proof.Machine
open Sys2Proof

/-- What lane l holds of a unit changed. -/
def Lane.onUnit (n : Lane) (u : UnitId) (f : UnitView → UnitView) : Lane :=
  { n with main := { n.main with units := n.main.units.set u (f (n.main.units.get u)) } }

/-- TICK_MARK_ARRIVAL (R58, R59, R62): a mark with the given TICK, or the one lane l sent at its tick boundary. -/
def execTickMarkArrival (u : UnitId) (l : LaneId) (rx : Option Nat) (arrival : Int) (s : State) :
    Host.Outcome State Fault Refusal :=
  match rx with
  | some t => .next (s.ifRuns u (fun s => s.setUnit u (unitMark (s.ucom.get u) l t arrival)))
  | none =>
    match ((s.lanes.get l).main.units.get u).mark with
    | none => .next s
    | some t =>
      .next ((s.ifRuns u (fun s => s.setUnit u (unitMark (s.ucom.get u) l t arrival))).setLane l
        ((s.lanes.get l).onUnit u (fun v => { v with mark := none })))

/-- A command block crosses into a unit (R18, R23, R65, R93): a record may complete the configuration to be loaded. -/
def State.receiveBlock (s : State) (u : UnitId) (l : LaneId) (bs : Bytes) (stale : Nat) : State :=
  (s.setUnit u (unitReceive u (s.ucom.get u) l bs stale)).loadUnit u

/-- The block lane l has posted for a unit is taken off its link. -/
def Lane.takePosted (n : Lane) (u : UnitId) : Lane := n.onUnit u (fun v => { v with posted := none })

/-- COMMAND_BLOCK (R18): the given block, or the one the lane posted. -/
def execCommandBlock (u : UnitId) (l : LaneId) (rx : Option Bytes) (stale : Nat) (s : State) :
    Host.Outcome State Fault Refusal :=
  match rx with
  | some bs => .next (s.ifRuns u (fun s => s.receiveBlock u l bs stale))
  | none =>
    match ((s.lanes.get l).main.units.get u).posted with
    | none => .next s
    | some bs =>
      .next ((s.ifRuns u (fun s => s.receiveBlock u l bs stale)).setLane l ((s.lanes.get l).takePosted u))

/-- REGISTER_SYMBOL (R404): up to eight of the accesses the lane has to forward. -/
def execRegisterSymbol (u : UnitId) (l : LaneId) (rx : Option (List RegAcc)) (s : State) :
    Host.Outcome State Fault Refusal :=
  match rx with
  | some accs => .next (s.ifRuns u (fun s => unitSymbol s u l accs))
  | none =>
    let n := s.lanes.get l
    let v := n.main.units.get u
    if v.fwd = [] ∨ ¬ s.runs u ∨ ¬ ((s.ucom.get u).links.get l).up ∨ n.dom ≠ .on then .next s
    else
      .next (unitSymbol (s.setLane l (n.onUnit u (fun v => { v with fwd := v.fwd.drop 8 }))) u l v.fwd)

/-- The safe state of a feedback or safety-I/O unit after a deadline (R19, R25). -/
def voteSafe (c : UnitCommon) (safe : Bool) : UnitCommon :=
  { c with safe := if safe then true else if c.vote.fresh then false else c.safe }

/-- COMMAND_DEADLINE (R25-R30, R202). -/
def execCommandDeadline (u : UnitId) (s : State) : Host.Outcome State Fault Refusal :=
  .next (s.ifRuns u (fun s =>
    let r := unitDeadline u (s.ucom.get u)
    match u with
    | .isl i => s.putIsl i (islandDeadline i (r.1, s.isl.get i) r.2)
    | _ => s.setUnit u (voteSafe r.1 r.2)))

/-- VOTER_SELF_TEST (R31-R33). -/
def execVoterSelfTest (u : UnitId) (ok : Bool) (s : State) : Host.Outcome State Fault Refusal :=
  .next (s.ifRuns u (fun s => s.setUnit u (unitSelfTest u (s.ucom.get u) ok)))

/-- MISSING_WITHDRAWAL (R27), at a round boundary that is due. -/
def execMissingWithdrawal (u : UnitId) (s : State) : Host.Outcome State Fault Refusal :=
  .next (s.ifRuns u (fun s =>
    if (s.ucom.get u).roundDue then s.setUnit u (withdrawMissing (s.ucom.get u)) else s))

/-- A unit's own part at its reset value (R12). The limit a chopper driver signals stands (R199). -/
def State.resetPart (s : State) : UnitId → State
  | .isl i => { s with isl := s.isl.set i { bus := { limit := (s.isl.get i).bus.limit } } }
  | .fb f => { s with fbk := s.fbk.setF f {} }
  | .sio x => { s with sio := s.sio.setS x {} }

/-- A lane's end of a link whose crossing is reset (R67): what was in flight is lost, and what was received shows its reset value; the
counters and the holds of the lane's own stay. -/
def UnitView.linkReset (v : UnitView) : UnitView :=
  { crcerr := v.crcerr, late := v.late, missing := v.missing, rearmHold := v.rearmHold }

/-- The ends of a unit's three links in the lanes reset (R67); what it showed at its last boundary is gone with them. -/
def State.viewsReset (s : State) (u : UnitId) : State :=
  { s with lanes := s.lanes.map (fun n => n.onUnit u UnitView.linkReset), snaps := s.snaps.set u none }

/-- A link whose sender is gone (R47): a block received completely before the loss stays valid; what was in flight is lost (R67), and with
it the record set begun (log entry 83). -/
def lostLink (k : LinkState) : LinkState :=
  { k with up := false, writes := [], next := [], answers := [], evPend := 0, recs := {}, agree := false }

/-- A link whose crossings are reset (R67): nothing that was in flight or received on it is left. -/
def resetLink (k : LinkState) : LinkState := { lostLink k with mark := none, rx := none, inwin := false }

/-- UNIT_POWER_UP (R12, R67, R385): every register of the unit at its reset value, unconfigured, its links not trained. An island
sees the level of lane C's inhibit line. -/
def execUnitPowerUp (u : UnitId) (s : State) : Host.Outcome State Fault Refusal :=
  let s := ((s.setUnit u {}).resetPart u).viewsReset u
  match u with
  | .isl i => .next (s.putIsl i (setInhibit i (s.islPair i) s.inhibitLevel))
  | _ => .next s

/-- Whether every lane that is not OFF has its link to a unit trained (R396). -/
def State.allRetrained (s : State) (u : UnitId) : Bool :=
  allLanes.all (fun l => (s.lanes.get l).dom = .off || (s.lanes.get l).state = .off || (s.lanes.get l).state = .retired ||
    ((s.ucom.get u).links.get l).up)

/-- A unit returns from RETENTION (R396): its clocks run again, its registers as kept (R385). -/
def UnitCommon.returnOn (c : UnitCommon) : UnitCommon := { c with dom := .on, slp := {} }

/-- A unit runs again (R396); an island takes the state of its causes (R35). -/
def State.unitOn (s : State) (u : UnitId) : State :=
  let s := s.setUnit u (s.ucom.get u).returnOn
  match u with
  | .isl i => { s with isl := s.isl.set i (settleSw i (s.isl.get i)) }
  | _ => s

/-- A unit enters RETENTION (R67, R385): its clocks stand and both ends of its links are reset, every enable 0, so that an island is OPEN, its
supplies off, the rest kept. -/
def State.unitSleeps (s : State) (u : UnitId) : State :=
  let s := (s.setUnit u { (s.ucom.get u).eachLink (fun _ k => resetLink k) with dom := .retention, slp := {} }).viewsReset u
  match u with
  | .isl i =>
    let p := s.isl.get i
    { s with isl := s.isl.set i { p with sw := 1, duty := List.replicate 6 0, comp := List.replicate 6 0 } }
  | .fb f =>
    let p := s.fbk.getF f
    { s with fbk := s.fbk.setF f { p with ch := p.ch.map (fun c => { c with supon := false, excon := false }) } }
  | .sio x =>
    let p := s.sio.getS x
    { s with sio := s.sio.setS x { p with ran := false, sup := p.sup.map (fun y => { y with on := false, pgood := false, testOff := false }) } }

/-- A request for a unit's domain acts (R398). -/
def State.unitRequest (s : State) (u : UnitId) (target : DomState) : State :=
  let c := s.ucom.get u
  match target with
  | .on => if c.dom = .retention then s.unitOn u else s
  | .retention => if c.dom = .on then s.unitSleeps u else s
  | .off => ((s.setUnit u { dom := .off }).resetPart u).viewsReset u

/-- A request that waited for a unit's domain acts once the change before it is complete (R398); one for the state reached does nothing. -/
def State.unitSlot (s : State) (u : UnitId) (waiting : Option DomState) : State :=
  match waiting with
  | some t => s.unitRequest u t
  | none => s

/-- A unit in RETENTION runs again (R396, R398). -/
def State.unitReturns (s : State) (u : UnitId) : State :=
  (s.unitOn u).unitSlot u (s.ucom.get u).slp.slot

/-- LINK_TRAINING (R58, R67, R392, R396): a lane on its PLL trains a link and measures its delay. -/
def execLinkTraining (l : LaneId) (u : UnitId) (delay : Nat) (s : State) : Host.Outcome State Fault Refusal :=
  let n := s.lanes.get l
  let c := s.ucom.get u
  if n.dom = .on ∧ n.state ≠ .off ∧ n.state ≠ .retired ∧ n.aon.pwr.pll ∧ c.dom ≠ .off then
    let s := s.setUnit u (c.setLink l { c.links.get l with up := true, delay := delay })
    if c.dom = .retention ∧ c.slp.returning ∧ s.allRetrained u then .next (s.unitReturns u) else .next s
  else .next s

/-- LINK_DOWN (R365): the link is no longer trained; the lane counts source 18. -/
def execLinkDown (l : LaneId) (u : UnitId) (s : State) : Host.Outcome State Fault Refusal :=
  let c := s.ucom.get u
  if (c.links.get l).up then
    let s := (s.setUnit u (c.setLink l (resetLink (c.links.get l)))).setLane l ((s.lanes.get l).onUnit u UnitView.linkReset)
    if (s.lanes.get l).dom = .on ∧ (s.lanes.get l).state ≠ .off ∧ (s.lanes.get l).state ≠ .retired then .next (s.laneEvent l 18)
    else .next s
  else .next s

/-- UNIT_RETENTION_LIMIT (R396): 150 ms in RETENTION while a cancelled entry returns. -/
def execUnitRetentionLimit (u : UnitId) (s : State) : Host.Outcome State Fault Refusal :=
  let c := s.ucom.get u
  if c.dom = .retention ∧ c.slp.returning then .next (s.unitReturns u) else .next s

end Sys2Proof.Machine
end

