-- ==== Sys2Proof/Machine/LaneDown.lean ====
section
/-!
DEFINITION. A lane's main domain at its reset values and the states that follow: OFF, RETENTION, RETIRED and the restart from
RETRYING (R37, R67, R297, R338, R377, R378, R385-R387, R414).
-/
namespace Sys2Proof.Machine
open Sys2Proof

/-- A lane's ten links are lost with it (R47, R67). -/
def State.linksDown (s : State) (l : LaneId) : State :=
  allUnits.foldl (fun s u => s.setUnit u ((s.ucom.get u).setLink l (lostLink ((s.ucom.get u).links.get l)))) s

/-- The loader after a reset of its domain (R84, R94, R99, R105): what lies in flash stays, a recorded commit with it. A transfer cut off
leaves the pending slot torn. -/
def Loader.restart (d : Loader) : Loader :=
  { slots := d.slots, aslot := d.aslot, cache := d.cache, patch := d.patch, patches := d.patches, newer := d.newer, bad := d.bad
    commit := d.commit, ahead := d.ahead, torn := d.torn || d.erasing || decide (d.state = .receiving)
    state := if d.commit.isSome then .committed else .empty
    target := match d.commit with | some c => c.2 | none => 0
    phash := match d.commit with | some c => c.1 | none => zeros 32 }

/-- A service-port session at its end (R338). -/
def State.sessionDown (s : State) : State :=
  { s with port := {}, lanes := s.lanes.map (fun n => n.onMain (fun m =>
      if s.port.up then { m with office := { m.office with endedPeer := s.port.peer } } else m)) }

/-- The plane of a lane, with its trunk and segments, and for lane A the service port stop (R280, R282, R386). -/
def State.planeDown (s : State) (l : LaneId) : State :=
  let n := s.lanes.get l
  let n := n.onMain (fun m => { m with net := { m.net with trunkUp := false, segUp := 0 } })
  let s := s.setLane l { n with aon := { n.aon with pwr := { n.aon.pwr with phy := .off } } }
  if l = .a then s.sessionDown else s

/-- A lane in OFF or RETIRED: its main domain holds its reset values, its links and plane are down. -/
def State.laneDown (s : State) (l : LaneId) (st : LState) (dom : DomState) : State :=
  let s := (s.linksDown l).planeDown l
  let n := s.lanes.get l
  let n := { n with state := st, dom := dom, main := {}, loader := n.loader.restart,
                    aon := { n.aon with pwr := { n.aon.pwr with
                      pll := false, sleepAt := none, cancelling := false, slept := false, firstMs := none, slot := none, pslot := none, replay := 0 } } }
  (s.setLane l n).syncInhibit

/-- What a lane keeps of its main domain as it enters RETRYING (R37, R96, R297, R369, R414): its time and views of the units, the
mode it was in, the office and the keys; the cells, the rings, the counters and events, the register service and its shadow
start anew. -/
def LaneMain.retrying (m : LaneMain) : LaneMain :=
  { time := { m.time with step := true, trim := 0, limit := false, drift := 0, phase := 0 }
    units := Ten.all {}
    mode := { mode := m.mode.mode, stop := m.mode.stop, park := m.mode.park, started := m.mode.started }
    canvas := m.canvas
    cref := m.cref
    cmem := m.cmem
    axs := m.axs
    net := { role := 0, phase := m.net.phase, keys := m.net.keys, oldKeys := m.net.oldKeys, gk := m.net.gk,
             oldGk := m.net.oldGk, bk := m.net.bk, epoch := m.net.epoch, oldUntil := m.net.oldUntil, partners := m.net.partners,
             trunkUp := m.net.trunkUp, segUp := m.net.segUp }
    can := m.can }

/-- A lane retires (R37, R378): only its always-on domain is powered, its flag set, the record asked for. -/
def State.retire (s : State) (l : LaneId) (src : Nat) : State :=
  let s := s.laneDown l .retired .off
  let n := s.lanes.get l
  s.setLane l { n with aon := { n.aon with retired := true, pendrec := true, causeSrc := src, causeMs := n.aon.ms } }

/-- Lanes of a mask, bit 0 A. -/
def maskLanes (m : Nat) : List LaneId := allLanes.filter (fun l => m.testBit l.idx)

/-- Whether a retirement of a lane stands (R359, R378). -/
def State.isRetired (s : State) (l : LaneId) : Bool := s.polvin.retired.testBit l.idx || (s.lanes.get l).aon.retired

/-- The retirement of one lane cleared (R359, R379): record and restart history, and the lane reset to OFF. -/
def State.clearOne (s : State) (l : LaneId) : State :=
  let s := { s with polvin := { s.polvin with retired := clearBit s.polvin.retired l.idx } }
  let s := if (s.lanes.get l).state = .retired then s.laneDown l .off .off else s
  let n := s.lanes.get l
  s.setLane l { n with aon := { n.aon with retired := false, restarts := [], pendrec := false, causeSrc := 0, causeMs := 0 } }

/-- SEC_RETIRE.CLR acts on the lanes whose retirement stands (R9, R359, R379), and the clearing is logged. -/
def State.clearRetired (s : State) (mask : Nat) (w : Writer) : State :=
  let ls := (maskLanes mask).filter s.isRetired
  if ls = [] then s
  else ls.foldl State.clearOne (s.logAs (some w) 0x11 0 (ls.foldl (fun m l => setBit m l.idx) 0) s.devHash)

/-- Whether a SEC_RETIRE.CLR must wait (R382): a command is in progress or a record of a lane it names is being written. -/
def State.clearWaits (s : State) (mask : Nat) : Bool :=
  s.polvin.busy || (maskLanes mask).any (fun l => (s.lanes.get l).aon.pendrec)

/-- A waiting SEC_RETIRE.CLR acts as soon as nothing holds it up (R382). -/
def State.clearWaiting (s : State) : State :=
  match s.polvin.clrWait with
  | none => s
  | some (m, w) =>
    if s.clearWaits m then s else ({ s with polvin := { s.polvin with clrWait := none } }).clearRetired m w

/-- SEC_RETIRE.CLR takes effect (R339, R359, R382), in SERVICE; one that must wait joins the one that waits. -/
def State.retireClear (s : State) (mask : Nat) (w : Writer) : State :=
  if s.polvin.dom = .on ∧ s.devMode = .service ∧ s.polvin.ipub.isSome then
    let old := match s.polvin.clrWait with | some (m, _) => m | none => 0
    if s.clearWaits mask then { s with polvin := { s.polvin with clrWait := some (old ||| mask % 8, w) } } else s.clearRetired mask w
  else s

end Sys2Proof.Machine
end

