-- ==== Sys2Proof/Machine/PolvinCmds.lean ====
section
/-!
DEFINITION. The commands of the Polvin core (R340-R362): ceremonies, their expiries, retirement, attestation, power-up; and the
registers of the SEC_ block.
-/
namespace Sys2Proof.Machine
open Sys2Proof

/-- NEWCHAL (R342). -/
def execNewchal (w : Writer) (s : State) : Host.Outcome State Fault Refusal := .next (s.secAsked 0 w)

/-- ENROL (R342, R344). -/
def execEnrol (w : Writer) (s : State) : Host.Outcome State Fault Refusal := .next (s.secAsked 1 w)

/-- ROTATE (R342). -/
def execRotate (w : Writer) (s : State) : Host.Outcome State Fault Refusal := .next (s.secAsked 2 w)

/-- PASSWD (R342, R344). -/
def execPasswd (w : Writer) (s : State) : Host.Outcome State Fault Refusal := .next (s.secAsked 3 w)

/-- UNLOCK (R342, R345). -/
def execUnlock (w : Writer) (s : State) : Host.Outcome State Fault Refusal := .next (s.secAsked 4 w)

/-- LOCK (R342). -/
def execLock (w : Writer) (s : State) : Host.Outcome State Fault Refusal := .next (s.secAsked 5 w)

/-- VARNISH (R342, R346). -/
def execVarnish (w : Writer) (s : State) : Host.Outcome State Fault Refusal := .next (s.secAsked 6 w)

/-- STRIP (R342). -/
def execStrip (w : Writer) (s : State) : Host.Outcome State Fault Refusal := .next (s.secAsked 7 w)

/-- CERT (R342). -/
def execCert (w : Writer) (s : State) : Host.Outcome State Fault Refusal := .next (s.secAsked 8 w)

/-- BKEY (R342, R352, R353). -/
def execBkey (w : Writer) (s : State) : Host.Outcome State Fault Refusal := .next (s.secAsked 9 w)

/-- A new train beacon key reaches the running lanes; with its record at 0 they may be master again (R352, R353). -/
def State.shareBk (s : State) : State :=
  { s with lanes := s.lanes.map (fun n =>
      if n.awake then n.onMain (fun m => { m with net := { m.net with bk := s.polvin.bk, mcapOff := false } }) else n) }

/-- CEREMONY_DONE (R342, R355): then a SEC_RETIRE.CLR that waited acts (R382). A lost core ends nothing (R360). -/
def execCeremonyDone (logOk : Bool) (s : State) : Host.Outcome State Fault Refusal :=
  let newBk : Bool := match s.polvin.cmd with | some (9, 0, _) => logOk | _ => false
  .next (if s.polvin.dom = .on then
    let t := s.secDone logOk
    (if newBk then t.shareBk else t).clearWaiting
  else s)

/-- LOCKOUT_END (R345): the lockout has run its time. -/
def execLockoutEnd (s : State) : Host.Outcome State Fault Refusal :=
  .next (if s.polvin.locked ∧ s.polvin.lockLeft = 0 then { s with polvin := { s.polvin with locked := false } } else s)

/-- UNLOCK_EXPIRY (R342): 600 s after UNLOCK. -/
def execUnlockExpiry (s : State) : Host.Outcome State Fault Refusal :=
  .next { s with polvin := { s.polvin with unlocked := false } }

/-- CHALLENGE_EXPIRY (R342): 60 s after NEWCHAL. -/
def execChallengeExpiry (s : State) : Host.Outcome State Fault Refusal :=
  .next { s with polvin := { s.polvin with chal := none } }

/-- UNRETIRE (R346, R359, R379, R382): by the writer of R342, with UNLOCK under varnish. -/
def execUnretire (w : Writer) (mask : Nat) (s : State) : Host.Outcome State Fault Refusal :=
  .next (if s.mayCeremony w ∧ (¬ s.polvin.varnish ∨ s.polvin.unlocked) then s.retireClear mask w else s)

/-- The lowest-lettered lane in VOTING (R357). -/
def State.votingLane (s : State) : Option LaneId :=
  allLanes.find? (fun l => (s.lanes.get l).dom = .on && (s.lanes.get l).state = .voting)

/-- The core takes a nonce and starts to sign (R357): ROUND, MODE and the active hash are those of this moment. -/
def State.attestTake (s : State) (nonce : Bytes) : State :=
  let v := s.votingLane
  let a := { s.polvin.att with
    signing := some nonce, ready := false, round := s.polvinRound
    mode := match v with | some l => modeCode (s.lanes.get l).main.mode.mode | none => 0
    chash := match v with | some l => (s.lanes.get l).loader.ahash | none => zeros 32 }
  { s with polvin := { s.polvin with att := a } }

/-- The bits of a mask of a word of the nonce are written; the fourth word submits it (R357, R360, R406). -/
def State.nonceWrite (s : State) (index value mask : Nat) : State :=
  if s.polvin.dom ≠ .on then s
  else
    let a := s.polvin.att
    let v := clearMask (u32At a.nonce (4 * index)) mask ||| (value &&& mask)
    let n := (a.nonce.take (4 * index) ++ leBytes 4 v ++ a.nonce.drop (4 * index + 4)).take 16
    let s := { s with polvin := { s.polvin with att := { a with nonce := n } } }
    if index ≠ 3 then s
    else if a.signing = none then s.attestTake n
    else { s with polvin := { s.polvin with att := { s.polvin.att with waiting := some n } } }

/-- ATTESTATION_REQUEST (R357). -/
def execAttestationRequest (index : Nat) (value : Word) (s : State) : Host.Outcome State Fault Refusal :=
  .next (if index < 4 then s.nonceWrite index value.toNat 0xFFFFFFFF else s)

/-- Whether the active image is signed, as the lowest-lettered lane in VOTING holds it (R357). -/
def State.activeSigned (s : State) : Bool :=
  match s.votingLane with | some l => (s.lanes.get l).loader.asigned | none => false

/-- The attestation report over a nonce (R357), with the value drawn for its signature. -/
def State.report (s : State) (nonce : Bytes) (draw : BitVec 512) : Bytes :=
  let p := s.polvin
  let flags := p.retired % 8 + 8 * b2n p.varnish + 16 * b2n p.ipub.isNone + 32 * b2n s.activeSigned
  let body := leBytes 2 1 ++ [BitVec.ofNat 8 p.att.mode, BitVec.ofNat 8 flags] ++ leBytes 4 (hoursOf p.hours) ++
    leBytes 4 (p.logSeq - 1) ++ leBytes 3 p.att.round ++ [0] ++ nonce ++ (p.att.chash ++ zeros 32).take 32 ++
    (match p.log.getLast? with | some e => shaBytes e | none => zeros 32) ++ p.keyId
  body ++ ecdsaSign p.devKey (sha256 body) draw

/-- REPORT_READY (R357): the report stands; a waiting nonce is taken next. -/
def execReportReady (s : State) : Host.Outcome State Fault Refusal :=
  match s.polvin.att.signing with
  | none => .next s
  | some n =>
    if s.polvin.dom ≠ .on then .next s
    else
      let d := s.draw
      let a := { s.polvin.att with report := s.report n d.1, ready := true, signing := none, waiting := none }
      let t := { d.2 with polvin := { d.2.polvin with att := a } }
      .next (match s.polvin.att.waiting with | some m => t.attestTake m | none => t)

/-- DEVICE_KEY_GENERATION (R340): once, at the first power-up. -/
def execDeviceKeyGeneration (s : State) : Host.Outcome State Fault Refusal :=
  .next (if s.polvin.devKey = none ∧ s.polvin.dom = .on then
    let d := s.draw
    { d.2 with polvin := { d.2.polvin with devKey := some d.1, devPub := publicOf d.1 } }
  else s)

/-- The lanes whose supply is good, as POWER_UP records them (R354). -/
def State.suppliesGood (s : State) : Nat :=
  (allLanes.filter (fun l => (s.lanes.get l).supplyGood)).foldl (fun m l => setBit m l.idx) 0

/-- A word of a byte string. -/
def wordOf (bs : Bytes) (k : Nat) : Nat := u32At bs (4 * k)

/-- The entry SEC_LOGSEL selects (R362); zeros when it is not held. -/
def Polvin.selected (p : Polvin) : Bytes := (p.log.find? (fun e => u32At e 0 = p.logSel)).getD (zeros 96)

/-- SEC_ reads (R362); none where the offset names no register. -/
def secRead (p : Polvin) (off : Nat) : Option Nat :=
  let at' := fun (base n : Nat) => decide (base ≤ off) && decide (off < base + 4 * n) && decide (off % 4 = 0)
  let k := fun (base : Nat) => (off - base) / 4
  if off = 0 then
    some (b2n p.ipub.isSome + 2 * b2n p.varnish + 4 * b2n p.unlocked + 8 * b2n p.locked + 16 * b2n p.dcert.isSome +
      32 * b2n p.bk.isSome + 64 * b2n p.busy + 256 * p.result)
  else if off = 4 then some 0
  else if off = 8 then some (p.failCount + 65536 * ((p.lockLeft + 1199999) / 1200000))
  else if off = 0xC then some (p.retired % 8)
  else if off = 0x10 then some (p.keyEpoch % 65536 + 65536 * (p.keyRec % 65536))
  else if off = 0x14 then some p.erec
  else if at' 0x20 8 then some (wordOf (p.chal.getD []) (k 0x20))
  else if at' 0x40 4 then some (if p.chal.isSome then wordOf p.nsalt (k 0x40) else 0)
  else if at' 0x50 4 then some (wordOf p.salt (k 0x50))
  else if at' 0x80 16 then some (wordOf p.devPub (k 0x80))
  else if at' 0xC0 8 then some (wordOf p.keyId (k 0xC0))
  else if at' 0xE0 8 then some (wordOf p.vhash (k 0xE0))
  else if at' 0x200 64 then some 0
  else if at' 0x300 4 then some 0
  else if at' 0x320 48 then some (wordOf p.att.report (k 0x320))
  else if off = 0x3F0 then some (b2n p.att.ready + 2 * b2n p.att.waiting.isSome)
  else if off = 0x400 then some (p.logSeq - 1)
  else if off = 0x404 then some p.cpSeq
  else if at' 0x420 8 then some (wordOf p.cpHash (k 0x420))
  else if off = 0x440 then some p.logSel
  else if at' 0x480 24 then some (wordOf p.selected (k 0x480))
  else none

/-- The command bit of a value written to SEC_CTRL, when exactly one is set (R342). -/
def secBit (v : Nat) : Option Nat :=
  match (List.range 10).filter (fun i => v.testBit i) with
  | [b] => some b
  | _ => none

/-- An accepted write to SEC_CTRL takes effect (R342, R360). -/
def State.secCtrl (s : State) (v : Nat) (w : Writer) : State :=
  if s.polvin.dom ≠ .on ∨ s.polvin.busy then s
  else match secBit v with
    | some b => s.secCommand b w
    | none => s.secRange (v % 1024) w

/-- An accepted write to the SEC_ block takes effect (R342, R357, R359, R360, R362, R411), whoever then holds the office. -/
def State.secWrite (s : State) (off v mask : Nat) (w : Writer) : State :=
  let m := v &&& mask
  if s.polvin.dom ≠ .on then s
  else if off = 4 then s.secCtrl m w
  else if off = 0xC then s.retireClear (m / 16 % 8) w
  else if 0x200 ≤ off ∧ off < 0x300 then
    let o := off - 0x200
    let old := u32At s.polvin.win o
    let nv := clearMask old mask ||| m
    { s with polvin := { s.polvin with win := s.polvin.win.take o ++ leBytes 4 nv ++ s.polvin.win.drop (o + 4) } }
  else if 0x300 ≤ off ∧ off < 0x310 then s.nonceWrite ((off - 0x300) / 4) v mask
  else if off = 0x440 then { s with polvin := { s.polvin with logSel := clearMask s.polvin.logSel mask ||| m } }
  else s

end Sys2Proof.Machine
end

