-- ==== Sys2Proof/Machine/Flash.lean ====
section
/-!
DEFINITION. The flash of a lane (R84, R94, R300-R302, R325): its parts and their bytes, the words that read uncorrectable, and the executive
patch slots.
-/
namespace Sys2Proof.Machine
open Sys2Proof

/-- The parts of a lane's flash (R302). -/
inductive FlashPart where
  | patch (k : Nat)
  | image (k : Nat)
  | cache (k : Nat)
  | records
  | reserved
  deriving DecidableEq, Repr

/-- The part a byte of flash lies in and its place there (R302); lane C's flash holds two image slots (log entry 112). -/
def flashPart (l : LaneId) (o : Nat) : FlashPart × Nat :=
  if l = .c then (.image (o / 0x400000), o % 0x400000)
  else if o < 0x200000 then (.patch (o / 0x100000), o % 0x100000)
  else if o < 0xA00000 then (.image ((o - 0x200000) / 0x400000), (o - 0x200000) % 0x400000)
  else if o < 0x1A00000 then (.cache ((o - 0xA00000) / 0x400000), (o - 0xA00000) % 0x400000)
  else if o < 0x1B00000 then (.records, o - 0x1A00000)
  else (.reserved, o - 0x1B00000)

/-- The image in a slot. -/
def Loader.slot (d : Loader) (k : Nat) : Bytes := if k = 0 then d.slots.1 else d.slots.2

/-- A patch slot. -/
def Loader.patchAt (d : Loader) (k : Nat) : Option PatchSlot := if k = 0 then d.patches.1 else d.patches.2

/-- A byte of flash (R302). The layouts of a cache entry and of the records are not given (log entry 8); erased flash reads 0 (log entry 114). -/
def Loader.flashByte (d : Loader) (l : LaneId) (o : Nat) : Byte :=
  match flashPart l o with
  | (.patch k, i) => match d.patchAt k with | some p => p.bytes.getD i 0 | none => 0
  | (.image k, i) => (d.slot k).getD i 0
  | (.cache k, i) =>
    match d.cache.find? (fun e => e.place = k) with
    | some e => (Config.cacheRecord e.hash e.patch e.code e.sha).getD i 0
    | none => 0
  | (.records, i) => (Config.laneRecords d.commit).getD i 0
  | (.reserved, _) => 0

/-- The first place in a part at which a word reads uncorrectable (R325). -/
def Loader.badIn (d : Loader) (l : LaneId) (p : FlashPart) : Option Nat :=
  ((d.bad.map (flashPart l)).find? (fun x => x.1 = p)).map (fun x => x.2)

/-- A part erased or written anew: its words read right again (R323). -/
def Loader.renew (d : Loader) (l : LaneId) (p : FlashPart) : Loader :=
  { d with bad := d.bad.filter (fun o => (flashPart l o).1 ≠ p) }

/-- Where a word that reads uncorrectable in a slot refuses its image (R90, R325): its section, or header and directory; none beyond LENGTH. -/
def Loader.badImage (d : Loader) (l : LaneId) (k : Nat) : Option (Nat × Nat) :=
  let im := d.slot k
  match d.badIn l (.image k) with
  | none => none
  | some o =>
    if imgLength im ≤ o then none
    else match (imgDir im).find? (fun e => e.ofs ≤ o && decide (o < e.ofs + e.len)) with
      | some e => some (e.id, 0)
      | none => some (255, o)

/-- The patch level a slot carries (R301): that of a patch with a valid signature, in flash that reads right (R325). -/
def Loader.patchValue (d : Loader) (l : LaneId) (k : Nat) : Option Nat :=
  match d.patchAt k, d.badIn l (.patch k) with
  | some p, none => if Config.patchSigned p.bytes then some p.level else none
  | _, _ => none

/-- Whether the patch in a slot passes (R301): its level above that of the other slot; a slot without a valid patch counts as level 0 (log
entry 115). -/
def Loader.patchPasses (d : Loader) (l : LaneId) (k : Nat) : Bool :=
  match d.patchValue l k with
  | some v => decide ((d.patchValue l (1 - k)).getD 0 < v)
  | none => false

/-- The patch level of the executive at BOOT (R301): of the newer slot, else of the other, else 0. -/
def Loader.patchLevel (d : Loader) (l : LaneId) : Nat :=
  if d.patchPasses l d.newer then (d.patchValue l d.newer).getD 0
  else if d.patchPasses l (1 - d.newer) then (d.patchValue l (1 - d.newer)).getD 0
  else 0

end Sys2Proof.Machine
end

