-- ==== Sys2Proof/Machine/Cells.lean ====
section
/-!
DEFINITION. The palette of control cells (R108-R142, R172, R175): the two arithmetics in the first and the mirror run (R306-R308), and
what each kind computes from its inputs, parameters and stored state. A signal is the raw 32-bit word of the lane: binary32 in lanes A
and B, Q15.16 in lane C. In the mirror run a signed value is held as its negative and a neutral one as it is; each cell is written once,
over operations that have both forms (R307). Where the manual leaves the order of the roundings inside a cell to the code generators, the
cell takes its terms in the order written here (log entry 14).
-/
namespace Sys2Proof.Machine
open Sys2Proof

/-- The exact value of a signal. -/
def sig (q : Bool) (w : Nat) : Rat := if q then qRat w else f32Rat w

/-- The highest signal of lanes A and B (R118). -/
def topF : Rat := 32768 - 1 / 512

/-- A run of a cell: in Q15.16 (`q`) or binary32, and whether it is the mirror run (`m`), which lane C does not have (R116, R118, R300,
R306). -/
structure Run where
  q : Bool
  m : Bool
  deriving DecidableEq, Repr

/-- The first run in the same technology: what is neutralised is computed in it (R307). -/
def Run.base (a : Run) : Run := { a with m := false }

/-- A number inside a cell: its value, whether a zero is negative, whether it is no number (R118). -/
structure Num where
  v : Rat
  nz : Bool := false
  nan : Bool := false
  deriving DecidableEq, Repr

/-- The ends of the signal range as a run holds them (R5, R118, R307). -/
def rangeTop (a : Run) : Rat := if a.q then 2147483647 / 65536 else if a.m then 32768 else topF
def rangeBot (a : Run) : Rat := if a.q then -32768 else if a.m then -topF else -32768

/-- The sign bit of a number. -/
def Num.low (x : Num) : Bool := decide (x.v < 0) || x.nz

/-- Negation: of the sign bit in lanes A and B. -/
def Num.neg (a : Run) (x : Num) : Num := ⟨-x.v, !a.q && decide (x.v = 0) && !x.nz, x.nan⟩

/-- A value between its two representations: negated in the mirror run (R306, R308). -/
def rep (a : Run) (x : Num) : Num := if a.m then x.neg a else x

/-- An intermediate result: rounded to binary32 in lanes A and B, a zero with the sign given or of what was flushed, an overflow held at the
end of the signal range (R118); kept in full in lane C (R116). -/
def rnd (a : Run) (v : Rat) (neg : Bool) : Num :=
  if a.q then { v := v }
  else if v ≥ ratPow2 128 - ratPow2 103 then { v := rangeTop a }
  else if v ≤ -(ratPow2 128 - ratPow2 103) then { v := rangeBot a }
  else
    let r := f32Rat (roundF32 v)
    { v := r, nz := decide (r = 0) && (decide (v < 0) || (decide (v = 0) && neg)) }

/-- A binary32 pattern as an operand: subnormals are zeros of their sign, infinities held at the ends of the range (R118). -/
def f32Num (a : Run) (w : Nat) : Num :=
  if f32IsNan w then { v := 0, nan := true }
  else if f32IsInf w then { v := if w.testBit 31 then rangeBot a else rangeTop a }
  else { v := f32Rat w, nz := decide (f32Rat w = 0) && w.testBit 31 }

/-- A signal as an operand. -/
def numOf (a : Run) (w : Nat) : Num := if a.q then { v := qRat w } else f32Num a w

/-- The pattern of a number, held to the range: an output or stored state (R116, R118). -/
def out (a : Run) (x : Num) : Nat :=
  if x.nan then 0x7FC00000
  else if a.q then roundQ x.v
  else
    let r := max (rangeBot a) (min x.v (rangeTop a))
    if r = 0 then (if x.nz then 0x80000000 else 0) else roundF32 r

/-- A small integer or a flag as an output: a neutral value (R113, R306). -/
def natOut (a : Run) (n : Nat) : Nat := out a.base { v := n }

/-- Addition (R116, R118, R307): in the mirror run with the operands swapped. -/
def add (a : Run) (x y : Num) : Num :=
  let p := if a.m then (y, x) else (x, y)
  { rnd a (p.1.v + p.2.v) (p.1.nz && p.2.nz) with nan := p.1.nan || p.2.nan }

/-- Subtraction, alike in both runs (R307). -/
def sub (a : Run) (x y : Num) : Num :=
  let z := y.neg a
  { rnd a (x.v + z.v) (x.nz && z.nz) with nan := x.nan || y.nan }

/-- The product of two representations: rounded to Q15.16 and saturated in lane C, to binary32 in lanes A and B (R116, R118). -/
def prod (a : Run) (x y : Num) : Num :=
  { (if a.q then { v := qRat (roundQ (x.v * y.v)) } else rnd a (x.v * y.v) (x.low != y.low)) with nan := x.nan || y.nan }

/-- A coefficient or neutral value times a signal (R116, R307). -/
def scale (a : Run) (c x : Num) : Num := if a.m then prod a x c else prod a c x

/-- A signal times a signal (R116, R307): in the mirror run negated back. -/
def times (a : Run) (x y : Num) : Num := if a.m then (prod a y x).neg a else prod a x y

/-- The quotient of two representations: in lane C to the nearest Q15.16 value, as every rounding there (R116, log entry 5). -/
def ratio (a : Run) (x y : Num) : Num :=
  { (if y.v = 0 then { v := if x.low then rangeBot a else rangeTop a, nan := decide (x.v = 0) && !a.q }
     else if a.q then { v := qRat (roundQ (x.v / y.v)) } else rnd a (x.v / y.v) (x.low != y.low)) with
    nan := x.nan || y.nan || (decide (y.v = 0 ∧ x.v = 0) && !a.q) }

/-- A signal quot a signal (R307). -/
def quot (a : Run) (x y : Num) : Num := if a.m then (ratio a x y).neg a else ratio a x y

/-- The square root of a signal, neutralised (R172, R307); to the nearest value of the format (log entry 5). -/
def root (a : Run) (x : Num) : Num :=
  let y := rep a x
  rep a { (if a.q then { v := qRat (roundQ (sqrtRat y.v)) } else rnd a.base (sqrtRat y.v) y.nz) with nan := x.nan }

/-- Whether x ≥ y, by the representations: in the mirror run the order turns (R307). A NaN compares false. -/
def ge (a : Run) (x y : Num) : Bool := !x.nan && !y.nan && (if a.m then decide (x.v ≤ y.v) else decide (y.v ≤ x.v))

/-- Whether x < y. -/
def lt (a : Run) (x y : Num) : Bool := !x.nan && !y.nan && !ge a x y

/-- The greater and the lesser of two numbers; a NaN stays one. -/
def maxN (a : Run) (x y : Num) : Num := if x.nan || ge a x y then x else y
def minN (a : Run) (x y : Num) : Num := if x.nan || ge a y x then x else y

/-- A value between two limits, the lower one prevailing (R123, R128). -/
def clampN (a : Run) (lo hi x : Num) : Num := if lt a hi lo then lo else minN a (maxN a x lo) hi

/-- The magnitude of a number. -/
def Num.mag (x : Num) : Rat := if x.v < 0 then -x.v else x.v

/-- A value between two limits, the lower one prevailing, as plain numbers. -/
def clampR (lo hi v : Rat) : Rat := if hi < lo then lo else max lo (min v hi)

/-- A coefficient (R117): held exactly. -/
def coef (w : Nat) : Rat := f32Rat w

/-- A coefficient as an operand. -/
def coefN (a : Run) (w : Nat) : Num := if a.q then { v := f32Rat w } else f32Num a.base w

/-- A value parameter or wired constant (R88, R117): binary32 as it stands, or rounded once to Q15.16. -/
def pval (q : Bool) (w : Nat) : Rat := if q then qRat (roundQ (f32Rat w)) else f32Rat w

/-- A value parameter as an operand of a run: a signed value. -/
def pnum (a : Run) (w : Nat) : Num := rep a (if a.q then { v := pval true w } else f32Num a.base w)

/-- A plain number as a signed operand. -/
def con (a : Run) (v : Rat) : Num := rep a { v := v }

/-- A count or code (R117). -/
def pcount (w : Nat) : Nat := (f32Rat w).floor.toNat

/-- A flag input of a lane's first run (R113). -/
def flagIn (q : Bool) (w : Nat) : Bool := ge ⟨q, false⟩ (numOf ⟨q, false⟩ w) { v := 1 / 2 }

/-- A flag input of a run (R113, R307). -/
def flagOf (a : Run) (x : Num) : Bool := ge a x (con a (1 / 2))

/-- A cell's parameter. -/
def CellDef.p (d : CellDef) (i : Nat) : Nat := d.params.getD i 0

/-- An input of a list of signals, in the run's representation. -/
def inp (a : Run) (xs : List Nat) (i : Nat) : Num := numOf a (xs.getD i 0)

/-- A stored state. -/
def CellState.num (s : CellState) (a : Run) (i : Nat) : Num := numOf a (s.st.getD i 0)

/-- SUM (R123), its wired operands in the lane's order (R303), BIAS last. -/
def evalSum (a : Run) (d : CellDef) (ord : List Nat) (xs : List Nat) : List Nat :=
  let t := fun i => scale a (coefN a (d.p (i + 1))) (inp a xs i)
  let s := match ord with
    | [] => { v := 0 }
    | i :: is => is.foldl (fun s j => add a s (t j)) (t i)
  [out a (add a s (pnum a (d.p 5)))]

/-- LIM (R123). -/
def evalLim (a : Run) (d : CellDef) (s : CellState) (xs : List Nat) : CellState :=
  let x := inp a xs 0
  let lo := inp a xs 1
  let hi := inp a xs 2
  let prev := if s.ran then s.num a 0 else x
  let y := if s.ran ∧ 0 < pval a.q (d.p 0) then minN a x (add a prev (pnum a (d.p 0))) else x
  let y := if s.ran ∧ 0 < pval a.q (d.p 1) then maxN a y (sub a prev (pnum a (d.p 1))) else y
  let w := out a (clampN a lo hi y)
  { s with outs := [w, natOut a (b2n (decide ((numOf a w).v ≠ x.v) || lt a hi lo))], st := [w] }

/-- RAMP (R133): the mark of a lost MIN holds for one period (R135). -/
def evalRamp (a : Run) (d : CellDef) (s : CellState) (xs : List Nat) : CellState :=
  let tgt := inp a xs 0
  let meas := inp a xs 1
  let en := flagOf a (inp a xs 2)
  let prev := s.num a 0
  let y := if !en ∨ !s.ran ∨ s.nums.getD 0 0 = 0 ∨ s.lost then meas
    else if lt a prev tgt then minN a tgt (add a prev (pnum a (d.p 0)))
    else maxN a tgt (sub a prev (pnum a (d.p 1)))
  let w := out a y
  { s with outs := [w, natOut a (b2n ((numOf a w).v = tgt.v))], st := [w], nums := [b2n en], lost := false }

/-- A region boundary of a PID (R131). -/
def pidBound (q : Bool) (d : CellDef) (j : Nat) : Rat := pval q (d.p (8 + j))

/-- The region that contains SCHED (R131). -/
def pidRegion (q : Bool) (d : CellDef) (v : Rat) : Nat :=
  ((List.range (pcount (d.p 7) - 1)).filter (fun i => pidBound q d (i + 1) ≤ v)).length

/-- The region in force, with hysteresis (R131); the ends of the band are rounded as every operation is (R118). -/
def pidStay (a : Run) (d : CellDef) (j : Nat) (v : Rat) : Nat :=
  let h := pval a.q (d.p 8)
  let low := j = 0 ∨ (rnd a.base (pidBound a.q d j - h) false).v ≤ v
  let high := pcount (d.p 7) ≤ j + 1 ∨ v < (rnd a.base (pidBound a.q d (j + 1) + h) false).v
  if low ∧ high then j else pidRegion a.q d v

/-- A gain of a region: k = 0 KP, 1 KIT, 2 AD, 3 CD (R127). -/
def pidGain (d : CellDef) (j k : Nat) : Nat := d.p (if j = 0 then k else 16 + 4 * (j - 1) + k)

/-- PID (R127-R132). Stored states: I, D, P, MEASprev; number: region. -/
def evalPid (a : Run) (d : CellDef) (s : CellState) (xs : List Nat) : CellState :=
  let sp := inp a xs 0
  let meas := inp a xs 1
  let sched := (rep a (inp a xs 2)).v
  let j0 := s.nums.getD 0 0
  let j := if pcount (d.p 7) ≤ 1 then 0 else if s.ran then pidStay a d j0 sched else pidRegion a.q d sched
  let old := fun (k : Nat) (z : Num) => if s.ran then s.num a k else z
  let i0 := old 0 (con a 0)
  let d0 := old 1 (con a 0)
  let p0 := old 2 (con a 0)
  let m0 := old 3 meas
  let gain := fun k => coefN a (pidGain d j k)
  let clamp := clampN a (pnum a (d.p 4)) (pnum a (d.p 5))
  let e := sub a sp meas
  let pp := scale a (gain 0) e
  let dd := sub a (scale a (gain 2) d0) (scale a (gain 3) (sub a meas m0))
  let rest := fun u => sub a (sub a u pp) dd
  let keep := fun (u i : Num) =>
    { s with outs := [out a u, natOut a j], st := [out a i, out a dd, out a pp, out a meas], nums := [j] }
  if !flagOf a (inp a xs 3) then keep (pnum a (d.p 6)) (rest (pnum a (d.p 6)))
  else if s.ran ∧ j ≠ j0 then
    let u := clamp (add a (add a p0 i0) d0)
    keep u (rest u)
  else
    let i := add a i0 (scale a (gain 1) e)
    let u := add a (add a pp i) dd
    let c := clamp u
    keep c (if c.v = u.v then i else rest c)

/-- A PID's integrator set so that its state stands for a tracked value (R130, R135), in the run's representation. -/
def trackPid (a : Run) (d : CellDef) (s : CellState) (t : Num) : CellState :=
  let u := clampN a (pnum a (d.p 4)) (pnum a (d.p 5)) t
  { s with st := out a (sub a (sub a u (s.num a 2)) (s.num a 1)) :: s.st.drop 1 }

/-- BQD (R125): lane C sums its five products in one accumulator before the single rounding. The stored states are 0 before the first run
(log entry 84). -/
def evalBqd (a : Run) (d : CellDef) (s : CellState) (xs : List Nat) : CellState :=
  let c := fun k => coefN a (d.p k)
  let mulB := fun (c x : Num) => if a.q then { v := c.v * x.v } else scale a c x
  let g := fun i => if s.ran then s.num a i else con a 0
  let y := add a (add a (mulB (c 0) (inp a xs 0)) (mulB (c 1) (g 0))) (mulB (c 2) (g 1))
  let w := out a (sub a (sub a y (mulB (c 3) (g 2))) (mulB (c 4) (g 3)))
  { s with outs := [w], st := [out a (inp a xs 0), out a (g 0), w, out a (g 2)] }

/-- The index of the lowest of a list of values, the lowest index winning (R134, R307). -/
def minIndex (a : Run) (vs : List Num) : Nat :=
  (vs.foldl (fun (b : Nat × Nat × Option Num) v =>
    match b.2.2 with
    | none => (b.1 + 1, b.1, some v)
    | some m => if lt a v m then (b.1 + 1, b.1, some v) else (b.1 + 1, b.2)) (0, 0, none)).2.1

/-- MIN (R134). -/
def evalMin (a : Run) (d : CellDef) (s : CellState) (xs : List Nat) : CellState :=
  let k := minIndex a ((List.range (pcount (d.p 0))).map (inp a xs))
  { s with outs := [out a (inp a xs k), natOut a k], nums := [k] }

/-- SEL (R124), its selector neutralised (R307). -/
def evalSel (a : Run) (d : CellDef) (xs : List Nat) : List Nat :=
  let k := roundZero (rep a (inp a xs 0)).v
  if 0 ≤ k ∧ k < pcount (d.p 0) then [out a (inp a xs (k.toNat + 1)), natOut a 0] else [out a (inp a xs 1), natOut a 1]

/-- √3 / 2, √3 and 1 / √3 as each technology holds them: the nearest value of its format (log entry 14). -/
def rootConst (q : Bool) (k : Nat) : Num :=
  { v := if k = 0 then (if q then 56756 / 65536 else f32Rat 0x3F5DB3D7)
         else if k = 1 then (if q then 113512 / 65536 else f32Rat 0x3FDDB3D7)
         else (if q then 37837 / 65536 else f32Rat 0x3F13CD3A) }

/-- The fractional part of a rational. -/
def fracR (v : Rat) : Rat := v - (v.floor : Rat)

/-- The fractional part of an angle in turns, neutralised (R126, R176, R307). -/
def fracN (a : Run) (x : Num) : Num := { rnd a.base (fracR (rep a x).v) false with nan := x.nan }

/-- Sine of an angle in turns, a quarter further on for the cosine, neutralised (R116, R118, R126, R307): lane C's table, within its bound of
error of 5 × 10^-6, of which the table and its interpolation take 4.8 × 10^-6; in lanes A and B the nearest binary32 value, as of every
operation (log entry 5). -/
def trig (a : Run) (x : Num) (cosine : Bool) : Num :=
  let f := fracN a x
  let w := BitVec.ofNat 32 (out a.base f)
  let r : Num := if a.q then
      { v := sineTable (fracR (f.v + if cosine then 1 / 4 else 0)) + clampR (-(1 / 5000000)) (1 / 5000000) (Config.sineError w cosine) }
    else rnd a.base (sineTurn (f.v + if cosine then 1 / 4 else 0)) false
  rep a { r with nan := x.nan || r.nan }

/-- CPK (R126): the Clarke and Park transforms. -/
def evalCpk (a : Run) (xs : List Nat) : List Nat :=
  let ia := inp a xs 0
  let ib := inp a xs 1
  let be := scale a (rootConst a.q 2) (add a ia (add a ib ib))
  let sn := trig a (inp a xs 2) false
  let cs := trig a (inp a xs 2) true
  [out a ia, out a be, out a (add a (times a ia cs) (times a be sn)), out a (sub a (times a be cs) (times a ia sn))]

/-- What SVM makes of its voltages (R172): valpha, vbeta, va, vb, vc by inverse Park and inverse Clarke. -/
def phaseVolts (a : Run) (vd vq th : Num) : Num × Num × Num × Num × Num :=
  let sn := trig a th false
  let cs := trig a th true
  let al := sub a (times a vd cs) (times a vq sn)
  let be := add a (times a vd sn) (times a vq cs)
  let h := scale a { v := 1 / 2 } al
  let r := scale a (rootConst a.q 0) be
  (al, be, al, sub a r h, sub a (h.neg a) r)

/-- SVM (R126, R172). -/
def evalSvm (a : Run) (d : CellDef) (xs : List Nat) : List Nat :=
  let vb := inp a xs 3
  let one := con a 1
  let third := fun (x : Num) => ratio a x { v := 3 }
  if lt a vb one then let t := out a (third one); [t, t, t, out a (con a 0)]
  else
    let v := phaseVolts a (inp a xs 0) (inp a xs 1) (inp a xs 2)
    let m := quot a (scale a (rootConst a.q 1) (root a (add a (times a v.1 v.1) (times a v.2.1 v.2.1)))) vb
    let cap := pnum a (d.p 0)
    let sc := fun (x : Num) => if lt a cap m then times a x (quot a cap m) else x
    let va := sc v.2.2.1
    let vb2 := sc v.2.2.2.1
    let vc := sc v.2.2.2.2
    let lo := minN a va (minN a vb2 vc)
    let sp := quot a (sub a (maxN a va (maxN a vb2 vc)) lo) vb
    let dm := third (sub a one sp)
    [out a (add a dm (quot a (sub a va lo) vb)), out a (add a dm (quot a (sub a vb2 lo) vb)),
     out a (add a dm (quot a (sub a vc lo) vb)), out a m]

/-- The switching function of one phase of SIX (R175), neutralised: `h` and `p` as the first run holds them. -/
def sixWave (a : Run) (h p : Num) : Num :=
  let b := a.base
  if 0 < h.v ∧ p.v < h.v then ratio b p h
  else if 0 < h.v ∧ (sub b { v := 1 } h).v ≤ p.v then ratio b (sub b p { v := 1 }) h
  else if p.v < (sub b { v := 1 / 2 } h).v then { v := 1 }
  else if p.v < (add b { v := 1 / 2 } h).v then ratio b (sub b { v := 1 / 2 } p) h
  else { v := -1 }

/-- SIX (R175), with the island's modulation cap as a value parameter holds it (R117). -/
def evalSix (a : Run) (d : CellDef) (mc : Rat) (xs : List Nat) : List Nat :=
  let b := a.base
  let h := ratio b (pnum b (d.p 0)) { v := 720 }
  let phi := fracN b (add b (fracN a (inp a xs 0)) { v := if flagOf a (inp a xs 2) then 3 / 4 else 1 / 4 })
  let amp := minN a (maxN a (inp a xs 1) (con a 0)) (con a (pval a.q (roundF32 mc)))
  let one := con a 1
  [0, 1, 2].map (fun (k : Nat) =>
    let s := rep a (sixWave a h (fracN b (add b (sub b phi (ratio b { v := k } { v := 3 })) { v := 1 / 4 })))
    out a (add a (ratio a (sub a one amp) { v := 3 }) (scale a { v := 1 / 2 } (times a amp (add a one s)))))

/-- PLS (R137). Number: C; flag bit 0: FAULT. -/
def evalPls (a : Run) (d : CellDef) (s : CellState) (xs : List Nat) : CellState :=
  let diff := out a (sub a (inp a xs 0) (inp a xs 1))
  let c0 := s.nums.getD 0 0
  let c := if pval a.q (d.p 0) < (numOf a diff).mag then min (c0 + pcount (d.p 1)) 65535 else c0 - pcount (d.p 2)
  let f := if pcount (d.p 3) ≤ c then true
    else if c = 0 ∧ pcount (d.p 4) = 0 then false else s.flags.testBit 0
  let sum := add a (inp a xs 0) (inp a xs 1)
  let mean := if a.q then { v := sum.v / 2 } else scale a { v := 1 / 2 } sum
  { s with outs := [out a mean, diff, natOut a (b2n f)], nums := [c], flags := b2n f }

/-- LIVE (R138). Numbers: periods without FRESH, periods with FRESH, run count; state: Xref, at first the X of the first run (log entry
85); flag bits 1 DEAD, 2 FROZEN. -/
def evalLive (a : Run) (d : CellDef) (s : CellState) (xs : List Nat) : CellState :=
  let x := inp a xs 0
  let fresh := flagOf a (inp a xs 2)
  let latch : Bool := pcount (d.p 4) = 1
  let n0 := if fresh then 0 else min (s.nums.getD 0 0 + 1) 65535
  let n1 := if fresh then min (s.nums.getD 1 0 + 1) 65535 else 0
  let ndead := pcount (d.p 3)
  let dead := if ndead ≤ n0 then true else if !latch ∧ ndead ≤ n1 then false else s.flags.testBit 1
  let xref := s.st.getD 0 (out a x)
  let far := decide (pval a.q (d.p 0) < (sub a x (numOf a xref)).mag)
  let still : Bool := fresh && !decide ((inp a xs 1).mag < pval a.q (d.p 1)) && !far
  let r : Nat × Nat :=
    if !fresh then (xref, s.nums.getD 2 0)
    else if still then (xref, min (s.nums.getD 2 0 + 1) 65535)
    else (out a x, 0)
  let frozen := if still && decide (pcount (d.p 2) ≤ r.2) then true else if !latch ∧ far then false else s.flags.testBit 2
  { s with outs := [natOut a (b2n (!dead && !frozen)), natOut a (b2n frozen), natOut a (b2n dead)],
           st := [r.1], nums := [n0, n1, r.2], flags := 2 * b2n dead + 4 * b2n frozen }

/-- CMP (R124). Number: Q before inversion. -/
def evalCmp (a : Run) (d : CellDef) (s : CellState) (xs : List Nat) : CellState :=
  let x := inp a xs 0
  let y := if ge a x (pnum a (d.p 0)) then 1 else if ge a (pnum a (d.p 1)) x then 0 else s.nums.getD 0 0
  { s with outs := [natOut a (if pcount (d.p 2) = 1 then 1 - y else y)], nums := [y] }

/-- TBL (R5, R116, R124), its position neutralised (R307). -/
def evalTbl (a : Run) (d : CellDef) (xs : List Nat) : List Nat :=
  let b := a.base
  let u := scale b (coefN b (d.p 1)) (sub b (rep a (inp a xs 0)) (pnum b (d.p 0)))
  let u := clampN b { v := 0 } { v := 32 } u
  let i := min 31 u.v.floor.toNat
  let f := sub b u { v := i }
  let y := fun k => pnum a (d.p (2 + k))
  let step := sub a (y (i + 1)) (y i)
  [out a (add a (y i) (scale a f step))]

/-- A signal read by SRC: raw value times SCALE plus OFFSET, saturated (R116, R118, R119); lanes A and B take the raw value in binary32. The
mirror run reads the same value and negates it (R306). -/
def srcValue (a : Run) (d : CellDef) (raw : Rat) : Nat :=
  let c := coefN a (d.p 2)
  out a (add a (scale a c (rep a (rnd a.base raw false))) (pnum a (d.p 3)))

/-- A raw field of a byte string in a FORMAT of R119: byte offset, bit number of a single bit. -/
def fieldAt (bs : Bytes) (fmt off bit : Nat) : Rat :=
  if fmt = 0 then (i32At bs off : Rat)
  else if fmt = 1 then (i16At bs off : Rat)
  else if fmt = 2 then ((u16At bs off : Nat) : Rat)
  else if fmt = 3 then ((byteAt bs off : Nat) : Rat)
  else ((bitNat (byteAt bs off) bit : Nat) : Rat)

/-- The value a SNK posts (R121): times SCALE, to an integer with ties away from zero, saturated to its FORMAT; neutralised in the mirror
run (R307). What a NaN becomes is free (log entry 107). -/
def snkValue (a : Run) (d : CellDef) (fmt : Nat) (x : Num) : Int :=
  let v := (rep a x).v
  let r := if x.nan then toSigned 32 (Config.nanPost a.m d.idx).toNat
    else roundAway (if a.q then v * coef (d.p 2) else (scale a.base (coefN a (d.p 2)) { v := v }).v)
  if fmt = 0 then clamp32 r
  else if fmt = 1 then clampI (-32768) 32767 r
  else if fmt = 2 then clampI 0 65535 r
  else if fmt = 3 then clampI 0 255 r
  else if fmt = 4 then clampI 0 1 r
  else if x.nan then r else clamp32 (roundAway (v * 65536))

/-- CLASS, FORMAT, UNIT and INDEX of a SOURCE or TARGET word (R119). -/
def wClass (w : Nat) : Nat := bitsOf w 31 28
def wFormat (w : Nat) : Nat := bitsOf w 27 24
def wUnit (w : Nat) : Nat := bitsOf w 23 20
def wIndex (w : Nat) : Nat := bitsOf w 19 0

/-- Which outputs and states a run of a cell other than SRC and SNK gives. `mc` is the cap of the island a SIX drives, `ord` the
inputs in the lane's operand order (R303). -/
def evalKind (a : Run) (mc : Rat) (ord : List Nat) (d : CellDef) (s : CellState) (xs : List Nat) : CellState :=
  match d.kind with
  | 0x03 => { s with outs := evalSum a d ord xs }
  | 0x04 => evalLim a d s xs
  | 0x05 => evalRamp a d s xs
  | 0x06 => evalPid a d s xs
  | 0x07 => evalBqd a d s xs
  | 0x08 => evalMin a d s xs
  | 0x09 => { s with outs := evalSel a d xs }
  | 0x0A => { s with outs := evalCpk a xs }
  | 0x0B => { s with outs := evalSvm a d xs }
  | 0x0C => { s with outs := evalSix a d mc xs }
  | 0x0D => evalPls a d s xs
  | 0x0E => evalLive a d s xs
  | 0x0F => evalCmp a d s xs
  | 0x10 => { s with outs := evalTbl a d xs }
  | _ => s

/-- The outputs that are neutral (R306): flags, WIN, REGION. -/
def neutralOut (kind k : Nat) : Bool :=
  match kind with
  | 0x01 | 0x04 | 0x05 | 0x06 | 0x08 | 0x09 => decide (k = 1)
  | 0x0D => decide (k = 2)
  | 0x0E | 0x0F => true
  | _ => false

/-- A binary32 pattern turned between its representations: its sign bit negated. -/
def flipSign (w : Nat) : Nat := (w ^^^ 0x80000000) % 4294967296

/-- A value as signatures and comparisons take it (R308): back-transformed where it is signed and of the mirror run, −0 replaced by +0. -/
def backWord (mirror neutral : Bool) (w : Nat) : Nat :=
  let v := if mirror && !neutral then flipSign w else w
  if v = 0x80000000 then 0 else v

/-- The number of inputs of a cell (R112). -/
def inputsOf (d : CellDef) : Nat :=
  match d.kind with
  | 0x02 => 2
  | 0x03 => pcount (d.p 0)
  | 0x04 => 3
  | 0x05 => 3
  | 0x06 => 4
  | 0x07 => 1
  | 0x08 => pcount (d.p 0)
  | 0x09 => 1 + pcount (d.p 0)
  | 0x0A => 3
  | 0x0B => 4
  | 0x0C => 3
  | 0x0D => 2
  | 0x0E => 3
  | 0x0F => 1
  | 0x10 => 1
  | _ => 0

/-- The number of outputs of a cell (R112). -/
def outputsOf (d : CellDef) : Nat :=
  match d.kind with
  | 0x01 => 2
  | 0x02 => 0
  | 0x03 => 1
  | 0x04 => 2
  | 0x05 => 2
  | 0x06 => 2
  | 0x07 => 1
  | 0x08 => 2
  | 0x09 => 2
  | 0x0A => 4
  | 0x0B => 4
  | 0x0C => 3
  | 0x0D => 3
  | 0x0E => 3
  | 0x0F => 1
  | 0x10 => 1
  | _ => 0

end Sys2Proof.Machine
end

