-- ==== Sys2Proof/Machine/CellRun.lean ====
section
/-!
DEFINITION. The runs of a lane's cells in a tick (R112-R142, R303-R314): fetching of sources, the cells in producer-first order, tracking,
posting of command words, slot fields and events, the signatures of the tasks, and the mirror run beside the first run in lanes A and B.
-/
namespace Sys2Proof.Machine
open Sys2Proof

/-- Whether a lane computes in Q15.16 (R116). -/
def laneQ (l : LaneId) : Bool := decide (l = .c)

/-- A run in a lane: the first, or the mirror run of lanes A and B (R300, R306). -/
def runOf (l : LaneId) (mirror : Bool) : Run := ⟨laneQ l, mirror && procLane l⟩

/-- The running state of a cell in a run: before its first run its latched flags are those of the always-on domain (R139), by the index of
the cell, through a commit too (log entry 108). -/
def Lane.cellIn (n : Lane) (m : Bool) (i : Nat) : CellState :=
  (assocGet (if m then n.main.mcells else n.main.cells) i).getD { flags := (assocGet n.aon.latched i).getD 0 }

/-- The running state of a cell in the first run. -/
def Lane.cell (n : Lane) (i : Nat) : CellState := n.cellIn false i

/-- The running state of a cell in a run replaced. -/
def Lane.putCell (n : Lane) (m : Bool) (i : Nat) (s : CellState) : Lane :=
  n.onMain (fun x => if m then { x with mcells := assocPut x.mcells i s } else { x with cells := assocPut x.cells i s })

/-- Whether a cell runs in a tick of the round (R115). -/
def CellDef.runsIn (d : CellDef) (tinr : Nat) : Bool := !d.round || decide (d.tinr = tinr)

/-- The outputs of the last period become the delayed outputs (R114): every tick for tick-rate cells, at the first tick of a round for
round-rate cells. -/
def shiftOuts (cv : Canvas) (tinr : Nat) (cs : List (Nat × CellState)) : List (Nat × CellState) :=
  cs.map (fun e =>
    match cv.cell e.1 with
    | some d => if !d.round ∨ tinr = 0 then (e.1, { e.2 with prev := e.2.outs }) else e
    | none => e)

/-- The delayed outputs of both runs (R114). -/
def Lane.shiftCells (n : Lane) (tinr : Nat) : Lane :=
  n.onMain (fun m => { m with cells := shiftOuts m.canvas tinr m.cells, mcells := shiftOuts m.canvas tinr m.mcells })

/-- The two motor islands of a steering axis have their loops after its 74 cells, those of a pump axis theirs after its 23
cells and one speed block each (R150, R159, R167, R180). Index of the first cell of a motor's loop, by the axis entry. -/
def loopLen (cv : Canvas) (m : Nat) : Nat := if byteAt (cv.motorRec m) 0 = 1 then 47 else 54

/-- The first loop cell of motor `m` on the canvas, when a template expands it. -/
def Canvas.loopAt (cv : Canvas) (m : Nat) : Option Nat :=
  let k := if m < 2 then 1 else 3
  match cv.axes.find? (fun a => a.kind = k) with
  | none => none
  | some a =>
    some (if m = 0 then a.first + 74
      else if m = 1 then a.first + 74 + loopLen cv 0
      else if m = 2 then a.first + 27
      else a.first + 27 + loopLen cv 2 + 4)

/-- The NSP cell of a pump's speed block (R180): pump 0 or 1. -/
def Canvas.nspAt (cv : Canvas) (p : Nat) : Option Nat := (cv.loopAt (2 + p)).map (fun i => i - 4)

/-- The last posted flag of PUMP_LOW (R159). -/
def Lane.pumpLow (n : Lane) : Bool :=
  match n.main.canvas.axes.find? (fun a => a.kind = 3) with
  | none => false
  | some a => decide (0 < (n.cell (a.first + 22)).outs.getD 0 0)

/-- Whether step 3 holds a pump at 0 rpm (R389). -/
def Lane.shedPump (n : Lane) (p : Nat) : Bool := (if p = 0 then n.main.psh.1 else n.main.psh.2) && !n.pumpLow

/-- The derate factor of a cell's wired constants (R389): k for IQMAX of a steering winding in row 20 of R169. -/
def Lane.derate (n : Lane) (d : CellDef) : Rat :=
  let hit := fun (m : Nat) => match n.main.canvas.loopAt m with
    | some i => decide (d.idx = i + 30 ∨ d.idx = i + 31)
    | none => false
  if hit 0 then (n.main.kbus.1 : Rat) / 800 else if hit 1 then (n.main.kbus.2 : Rat) / 800 else 1

/-- A zero as a signed signal of a run. -/
def zeroOf (a : Run) : Nat := out a (con a 0)

/-- An output of a cell as an input takes it, a signed signal: a neutral output is converted on reading (R306). -/
def readOut (a : Run) (kind k : Nat) (w : Option Nat) : Nat :=
  match w with
  | none => zeroOf a
  | some w => if a.m && neutralOut kind k then flipSign w else w

/-- The value at an input of a cell (R88, R113, R114): a wired constant as it stands, negated in the mirror run. -/
def Lane.input (n : Lane) (a : Run) (d : CellDef) (k : Nat) : Nat :=
  match n.main.canvas.wire d.idx k with
  | none => zeroOf a
  | some w =>
    if w.type = 1 then
      let f := n.derate d
      if f = 1 then (if a.q then roundQ (pval true w.const) else if a.m then flipSign w.const else w.const)
      else out a (rep a { v := pval a.q w.const * f, nan := !a.q && f32IsNan w.const })
    else
      let p := n.cellIn a.m w.scell
      let src := n.main.canvas.cell w.scell
      let late := match src with | some x => x.delayed.testBit w.sout | none => false
      readOut a (match src with | some x => x.kind | none => 0) w.sout ((if late then p.prev else p.outs)[w.sout]?)

/-- A raw field as a signal (R119): FORMAT 0x5 stands as it is. -/
def fieldSig (a : Run) (d : CellDef) (bs : Bytes) (off bit : Nat) : Nat :=
  if wFormat (d.p 0) = 5 then out a (con a (qRat (u32At bs off)))
  else srcValue a d (fieldAt bs (wFormat (d.p 0)) off bit)

/-- The event words of a unit or the Polvin core, or the lane's own, as SRC reads them (R374). -/
def Lane.eventBit (n : Lane) (idx : Nat) : Nat :=
  let src := idx % 256
  let severe : Bool := bitsOf idx 19 16 = 2
  let u := bitsOf idx 15 12
  if u = 0 then bitNat (if severe then n.main.evt.severe else n.main.evt.status) src
  else if u = 14 then bitNat (if severe then n.main.pvSev else n.main.pvPend) src
  else match UnitId.ofCode u with
    | some x => bitNat (if severe then (n.main.units.get x).sev else (n.main.units.get x).pend) src
    | none => 0

/-- Lane status as SRC CLASS 0x3 presents it (R119, R146, R264, R374). -/
def Lane.status (n : Lane) (idx : Nat) : Rat :=
  if 65536 ≤ idx then (n.eventBit idx : Rat)
  else if idx = 0 then (modeCode n.main.mode.mode : Rat)
  else if idx = 1 then (b2n (n.main.mode.mode = .tightrope) : Rat)
  else if idx = 2 then ((n.main.time.tick % 8 : Nat) : Rat)
  else if idx = 3 then ((n.aon.trSum / 20000 : Nat) : Rat)
  else if idx = 4 then (b2n n.main.mode.stop : Rat)
  else if idx = 5 then (if n.main.mode.stop then f32Rat n.main.canvas.mode.decel else 0)
  else if idx = 6 then (b2n n.main.mode.park : Rat)
  else if idx = 7 then (n.main.net.cpPrev : Rat)
  else 0

/-- Lane status as a signal (R119): FORMAT 0x5 takes the word as it stands, the deceleration as a Q15.16 word; FORMAT 0x0 the number, the
others its low bits (log entry 109). -/
def Lane.statusSig (n : Lane) (a : Run) (d : CellDef) : Nat :=
  let i := wIndex (d.p 0)
  let v := n.status i
  if wFormat (d.p 0) = 5 then out a (con a (if i = 5 then v else v / 65536))
  else srcValue a d (if wFormat (d.p 0) = 0 then v else fieldAt (leBytes 4 (roundZero v).toNat) (wFormat (d.p 0)) 0 0)

/-- The entry of a receive slot in the bank handed over at the round boundary (R260); slot 0x03F is the Ringmaster view
(R335). -/
def Lane.banked (n : Lane) (plane slot : Nat) : Option RxEntry :=
  if slot = 0x3F then
    match LaneId.ofCode (plane + 1) with
    | some p => (n.main.office.view.get p).map (fun b => ⟨plane, slot, b, false, 0⟩)
    | none => none
  else n.main.net.bank.find? (fun e => e.plane = plane && e.slot = slot && !e.null)

/-- The payloads of the remote axes (R161, R162): for each, whether the controller sends it, its plane, slot and offset, and the axis. The first two
cells of a remote axis read M1 at byte 4 of its measurement payloads, OUT1 and OUT2 post DRIVE at byte 4 of its actuation payloads. -/
def Canvas.payloads (cv : Canvas) : List (Bool × Nat × Nat × Nat × Nat) :=
  (cv.axes.filter (fun a => decide (5 ≤ a.kind))).flatMap (fun a =>
    let drive := if a.kind = 5 then 34 else 27
    [0, 1, drive, drive + 1].filterMap (fun k => (cv.cells.find? (fun d => d.idx = a.first + k)).map (fun d =>
      (decide (d.kind = 2), wUnit (d.p 0), wIndex (d.p 0) % 4096, pcount (d.p 1) - 4, a.axis))))

/-- The offset and the axis of the payload in which a field of a slot lies (R161): the one a remote axis binds there. DESIGN CHOICE (log entry 15): a
field in no such payload lies in the 16 bytes from a multiple of 16, of the axis of the cell. -/
def Canvas.payloadAt (cv : Canvas) (tx : Bool) (d : CellDef) : Nat × Nat :=
  let o := pcount (d.p 1)
  match cv.payloads.find? (fun x => x.1 = tx && x.2.1 = wUnit (d.p 0) && x.2.2.1 = wIndex (d.p 0) % 4096 &&
      decide (x.2.2.2.1 ≤ o) && decide (o < x.2.2.2.1 + 16)) with
  | some x => x.2.2.2
  | none => (o - o % 16, d.axis)

/-- Whether a slot the controller receives carries measurement payloads (R256). -/
def Canvas.measSlot (cv : Canvas) (plane slot : Nat) : Bool :=
  cv.slots.any (fun x => !x.tx && x.plane = plane && x.slot = slot && x.kind = 1)

/-- Whether a payload may be used by a cell (R161): a measurement payload must name the axis of its slot and the cycle in which it
was received. -/
def Lane.payloadOk (n : Lane) (d : CellDef) (e : RxEntry) : Bool :=
  if n.main.canvas.measSlot e.plane e.slot then
    let x := n.main.canvas.payloadAt false d
    decide (byteAt e.data x.1 = x.2) && decide (byteAt e.data (x.1 + 1) = (n.main.time.round + 255) % 256)
  else true

/-- SEQ of the measurement of an axis last found valid as the banks were handed over (R161): the one in use, held where the partner is missing
(R120). -/
def Lane.noteSeqs (n : Lane) : Lane :=
  (n.main.canvas.cells.filter (fun d => d.kind = 1 && wClass (d.p 0) = 2 &&
      n.main.canvas.measSlot (wUnit (d.p 0)) (wIndex (d.p 0) % 4096))).foldl (fun n d =>
    match n.banked (wUnit (d.p 0)) (wIndex (d.p 0) % 4096) with
    | some e =>
      let x := n.main.canvas.payloadAt false d
      if n.payloadOk d e then n.onMain (fun m => { m with net := { m.net with seqs := assocPut m.net.seqs x.2 (byteAt e.data (x.1 + 1)) } }) else n
    | none => n) n

/-- The bit a single-bit field of a Carousel slot is read at: a template's cell reads PFAULT, bit 1 of byte 2 of a measurement payload (R161);
CLASS 0x2 gives no bit number otherwise (log entry 15). -/
def Canvas.slotBit (cv : Canvas) (d : CellDef) : Nat :=
  let w := d.p 0
  let sofs := pcount (d.p 1)
  if !d.expert && decide (sofs = (cv.payloadAt false d).1 + 2) && cv.measSlot (wUnit w) (wIndex w % 4096) then 1
  else Config.slotBit w sofs % 8

/-- The value a source delivers in this period, none when it is not fresh (R119, R120). Both runs take it from the same bytes, and the
mirror run negates it after reading (R306). -/
def Lane.fetch (n : Lane) (a : Run) (d : CellDef) : Option Nat :=
  let w := d.p 0
  let sofs := pcount (d.p 1)
  match wClass w with
  | 1 =>
    match UnitId.ofCode (wUnit w) with
    | some u =>
      let v := n.main.units.get u
      if v.fresh && !v.stale then some (fieldSig a d v.block (wIndex w) (sofs % 8)) else none
    | none => none
  | 2 =>
    match n.banked (wUnit w) (wIndex w % 4096) with
    | some e => if n.payloadOk d e then some (fieldSig a d e.data sofs (n.main.canvas.slotBit d)) else none
    | none => none
  | 3 => some (n.statusSig a d)
  | 4 => some (fieldSig a d (leBytes 4 (n.main.axs.getD (wIndex w) 0)) 0 0)
  | 5 =>
    match n.main.canvas.cell (wIndex w), (n.cellIn a.m (wIndex w)).prev[sofs]? with
    | some p, some y => some (readOut a p.kind sofs (some y))
    | _, _ => none
  | _ => none

/-- The value a source delivers while test vectors run (R87): the one the vector gives, else what it fetches. -/
def Lane.fetchOr (n : Lane) (a : Run) (vec : Option (List (Nat × Word))) (d : CellDef) : Option Nat :=
  match vec with
  | none => n.fetch a d
  | some vs => (assocGet vs d.idx).map (fun w => out a (pnum a w.toNat))

/-- Whether a source holds the value of the round boundary (R115, R119). -/
def CellDef.latches (d : CellDef) : Bool := decide (d.kind = 1) && decide (pcount (d.p 4) = 1)

/-- The value a source last presented; OFFSET before the first (R120). -/
def srcLast (a : Run) (d : CellDef) (s : CellState) : Nat := s.st.getD 0 (out a (pnum a (d.p 3)))

/-- The latching sources fetch at the round boundary (R119): a missing source keeps the last value with VALID 0. -/
def Lane.latchSources (n : Lane) (a : Run) : Lane :=
  (n.main.canvas.cells.filter CellDef.latches).foldl (fun n d =>
    let s := n.cellIn a.m d.idx
    let h : Nat × Bool := match n.fetch a d with
      | some y => (y, true)
      | none => (srcLast a d s, false)
    n.putCell a.m d.idx { s with hold := some h, st := if h.2 then [h.1] else s.st }) n

/-- SRC (R119, R120), with step 3 of R389 at the NSP cells. -/
def Lane.runSrc (n : Lane) (a : Run) (vec : Option (List (Nat × Word))) (d : CellDef) (s : CellState) : CellState :=
  let r : Nat × Bool :=
    if d.latches ∧ vec = none then s.hold.getD (srcLast a d s, false)
    else match n.fetchOr a vec d with
      | some y => (y, true)
      | none => (srcLast a d s, false)
  let shed := (n.shedPump 0 && decide (n.main.canvas.nspAt 0 = some d.idx)) ||
    (n.shedPump 1 && decide (n.main.canvas.nspAt 1 = some d.idx))
  { s with outs := [if shed then zeroOf a else r.1, natOut a (b2n r.2)], st := if r.2 then [r.1] else s.st }

/-- The bytes of a posted slot field by FORMAT (R119, R121). A single bit fills its byte's bit 0. -/
def fieldWidth (fmt : Nat) : Nat := if fmt = 0 ∨ fmt = 5 then 4 else if fmt = 1 ∨ fmt = 2 then 2 else 1

/-- Bytes put into a byte string at an offset, which grows with zeros where needed. -/
def putBytes (bs : Bytes) (off : Nat) (v : Bytes) : Bytes :=
  let b := bs ++ zeros (off + v.length - bs.length)
  b.take off ++ v ++ b.drop (off + v.length)

/-- The key of a slot on a plane. -/
def slotKey (plane slot : Nat) : Nat := 4096 * plane + slot

/-- Bytes posted into the transmit buffer of a slot, or into its mirror buffer (R121, R140, R311). -/
def Lane.postBytes (n : Lane) (m : Bool) (slot off : Nat) (v : Bytes) : Lane :=
  n.onMain (fun x =>
    if m then { x with mtx := assocPut x.mtx slot (putBytes ((assocGet x.mtx slot).getD []) off v) }
    else
      let b := (assocGet x.net.tx slot).getD ⟨[], [], false⟩
      let b := { b with data := putBytes b.data off v, posted := b.posted ++ (List.range v.length).map (fun i => off + i) }
      { x with net := { x.net with tx := assocPut x.net.tx slot b } })

/-- A command word posted into the staging of a unit's block, or into its mirror buffer (R121, R311). -/
def Lane.postWord (n : Lane) (m : Bool) (u : UnitId) (w : Nat) (v : Int) : Lane :=
  n.onMain (fun x =>
    if m then { x with mwords := x.mwords.set u (updAt (x.mwords.get u) w (fun _ => v)) }
    else { x with words := x.words.set u (updAt (x.words.get u) w (fun _ => v)) })

/-- A word the executive posts: into both buffers (R311). -/
def Lane.postBoth (n : Lane) (u : UnitId) (w : Nat) (v : Int) : Lane := (n.postWord false u w v).postWord true u w v

/-- The value a SNK selects (R121): X while EN reads 1, else IDLE. -/
def snkSelect (a : Run) (d : CellDef) (xs : List Nat) : Nat :=
  if flagOf a (inp a xs 1) then out a (inp a xs 0) else out a (pnum a (d.p 3))

/-- Whether a slot of a lane's plane carries actuation payloads (R256). -/
def Canvas.actSlot (cv : Canvas) (l : LaneId) (slot : Nat) : Bool :=
  cv.slots.any (fun e => e.tx && e.plane = l.idx && e.slot = slot && decide (e.kind = 2))

/-- The executive's part of an actuation payload, in the buffer its field was posted to (R161, R311): 16 bytes, the reserved ones 0, with AXIS and the
cycle of the measurement used in bytes 0 and 1; before any measurement that byte is free (log entry 137). -/
def Lane.stampAct (n : Lane) (l : LaneId) (m : Bool) (d : CellDef) : Lane :=
  let slot := wIndex (d.p 0) % 4096
  let x := n.main.canvas.payloadAt true d
  let head : Bytes := [BitVec.ofNat 8 x.2, BitVec.ofNat 8 ((assocGet n.main.net.seqs x.2).getD (Config.noSeq x.2).toNat)]
  let fill := fun (b : Bytes) => putBytes (b ++ zeros (x.1 + 16 - b.length)) x.1 head
  if n.main.canvas.actSlot l slot then
    n.onMain (fun x =>
      if m then { x with mtx := assocPut x.mtx slot (fill ((assocGet x.mtx slot).getD [])) }
      else
        let b := (assocGet x.net.tx slot).getD ⟨[], [], false⟩
        { x with net := { x.net with tx := assocPut x.net.tx slot { b with data := fill b.data } } })
  else n

/-- A SNK posts the value it selected (R121): a lane posts the slots of its own plane (R245), and raises an event in the first run, which
is reported (R365). -/
def Lane.postSnk (n : Lane) (l : LaneId) (a : Run) (d : CellDef) (sel : Nat) (v : Int) : Lane :=
  let w := d.p 0
  match wClass w with
  | 1 =>
    match UnitId.ofCode (wUnit w) with
    | some u => n.postWord a.m u (wIndex w) v
    | none => n
  | 2 =>
    if wUnit w = l.idx then
      (n.postBytes a.m (wIndex w % 4096) (pcount (d.p 1)) (leBytesI (fieldWidth (wFormat w)) v)).stampAct l a.m d
    else n
  | 3 => if !a.m && flagOf a (numOf a sel) then n.event l (wIndex w) else n
  | _ => n

/-- The order of SUM's operands in a lane (R303): wire order in lane A, its reverse in lane B. -/
def sumOrder (l : LaneId) (cv : Canvas) (d : CellDef) : List Nat :=
  let o := (cv.wires.filter (fun w => w.dcell = d.idx && (w.type = 0 || w.type = 1))).map (fun w => w.din)
  if l = .b then o.reverse else o

/-- The cells that take a wire from a duty of the cell `d`, an SVM or SIX. -/
def Canvas.dutyCells (cv : Canvas) (d : CellDef) : List Nat :=
  ((cv.wires.filter (fun w => w.type = 0 && w.scell = d.idx && decide (w.sout < 3))).map WireDef.dcell).dedup

/-- The cells a signal goes on to through cells of whatever kind and the SRCs of CLASS 0x5 that latch it, and those given. The first argument bounds
the steps. -/
def Canvas.onward (cv : Canvas) : Nat → List Nat → List Nat
  | 0, is => is
  | f + 1, is =>
    let wired := ((cv.wires.filter (fun w => w.type = 0 && is.contains w.scell)).map WireDef.dcell)
    let latched := (cv.cells.filter (fun x => x.kind = 1 && wClass (x.p 0) = 5 && is.contains (wIndex (x.p 0)))).map CellDef.idx
    let more := ((wired ++ latched).filter (fun i => !is.contains i)).dedup
    if more = [] then is else cv.onward f (is ++ more)

/-- The units whose command words the duties of an SVM or SIX reach, directly or through other cells. -/
def Canvas.dutyUnits (cv : Canvas) (d : CellDef) : List Nat :=
  (cv.onward cv.cells.length (cv.dutyCells d)).filterMap (fun i =>
    match cv.cell i with
    | some k => if k.kind = 2 ∧ wClass (k.p 0) = 1 then some (wUnit (k.p 0)) else none
    | none => none)

/-- The islands whose half-bridges the axis of a cell owns (R81, R126). -/
def Canvas.ownIslands (cv : Canvas) (d : CellDef) : List Nat :=
  ((cv.own.filter (fun o => o.2 = d.axis && decide (o.1 / 16777216 = 1))).map (fun o => o.1 / 65536 % 256)).dedup

/-- The modulation cap of the islands an SVM or SIX cell drives (R126, R173, R175), the lowest: of those its duties reach, else of those its axis
owns. -/
def sixCap (cv : Canvas) (d : CellDef) : Rat :=
  let us := if cv.dutyUnits d = [] then cv.ownIslands d else cv.dutyUnits d
  (us.map (fun u => (cv.capOf u : Rat) / 100)).foldl min 1

/-- Whether the SUM between a linked cell and a MIN input negates (R135). -/
def linkNegates (cv : Canvas) (minIdx k linked : Nat) : Bool :=
  match cv.wire minIdx k with
  | some w =>
    decide (w.scell ≠ linked) && (match cv.cell w.scell with
      | some p => decide (p.kind = 3) && decide (coef (p.p 1) < 0)
      | none => false)
  | none => false

/-- The RAMP that feeds the SP of a PID (R135). -/
def Canvas.rampBehind (cv : Canvas) (pid : Nat) : Option Nat :=
  match cv.wire pid 0 with
  | some w => if w.type = 0 ∧ w.sout = 0 then
      match cv.cell w.scell with
      | some r => if r.kind = 5 then some r.idx else none
      | none => none
    else none
  | none => none

/-- A RAMP marked as lost for the next period (R133, R135). -/
def Lane.loseRamp (n : Lane) (m : Bool) (i : Nat) : Lane := n.putCell m i { n.cellIn m i with lost := true }

/-- Whether a tracking link from a MIN to a cell acts in this tick (R135): both have run in this period, and the later of them in this tick. `ds` are
the cells that ran in it, `later` those that have yet to run in the round. -/
def linkActs (ds : List CellDef) (later : CellDef → Bool) (m p : CellDef) : Bool :=
  let ran := fun (d : CellDef) => ds.any (fun x => x.idx = d.idx)
  if ran m then !later p else m.round && p.round && ran p && !later m

/-- The tracking links of a MIN act on the cells whose input did not win, after they and it have run (R135). -/
def Lane.trackLinks (n : Lane) (a : Run) (ds : List CellDef) (later : CellDef → Bool) (d : CellDef) : Lane :=
  let s := n.cellIn a.m d.idx
  let win := s.nums.getD 0 0
  let y := inp a s.outs 0
  let lose := fun (n : Lane) (i : Nat) => match n.main.canvas.cell i with
    | some r => if linkActs ds later d r then n.loseRamp a.m i else n
    | none => n
  (n.main.canvas.wires.filter (fun w => w.type = 2 && w.scell = d.idx && w.sout ≠ win)).foldl (fun n w =>
    match n.main.canvas.cell w.dcell with
    | none => n
    | some p =>
      if p.kind = 6 then
        let t := if linkNegates n.main.canvas d.idx w.sout p.idx then y.neg a else y
        let n := if linkActs ds later d p then n.putCell a.m p.idx (trackPid a p (n.cellIn a.m p.idx) t) else n
        match n.main.canvas.rampBehind p.idx with
        | some r => lose n r
        | none => n
      else lose n p.idx) n

/-- The latched flags of a PLS or LIVE with LATCH 1 are kept in the always-on domain (R139), from the first run. -/
def Lane.keepFlags (n : Lane) (a : Run) (d : CellDef) (s : CellState) : Lane :=
  if !a.m ∧ (d.kind = 0x0D ∨ d.kind = 0x0E) ∧ pcount (d.p 4) = 1 then
    { n with aon := { n.aon with latched :=
      if s.flags = 0 then assocDel n.aon.latched d.idx else assocPut n.aon.latched d.idx s.flags } }
  else n

/-- Upsets of a run as (cell, output, bit): outputs that come out with a bit turned. -/
abbrev Flips := List (Nat × Nat × Nat)

/-- The outputs of a cell with the upsets of the run. -/
def flipOuts (fl : Flips) (i : Nat) (outs : List Nat) : List Nat :=
  (fl.filter (fun f => f.1 = i)).foldl (fun o f => updAt o f.2.1 (fun w => w ^^^ 2 ^ (f.2.2 % 32))) outs

/-- The task of a cell in lanes A and B, by core and number (R78, R304). -/
def Canvas.taskOf (cv : Canvas) (i : Nat) : Option Nat :=
  (cv.tasks.find? (fun t => t.2.2.2 = i)).map (fun t => 65536 * t.1 + t.2.1)

/-- Whether a cell posts a privileged output in a lane (R310). -/
def Canvas.privileged (cv : Canvas) (l : LaneId) (d : CellDef) : Bool :=
  let w := d.p 0
  decide (d.kind = 2) &&
    ((decide (wClass w = 1) && decide (4 ≤ wUnit w ∧ wUnit w ≤ 9)) ||
      (decide (wClass w = 2) && decide (wUnit w = l.idx) &&
        cv.slots.any (fun e => e.tx && e.plane = l.idx && e.slot = wIndex w % 4096 && e.kind = 2)))

/-- The task into whose signatures a cell is folded (R314): tasks with a privileged output are compared word for word. -/
def Canvas.signedTask (cv : Canvas) (l : LaneId) (d : CellDef) : Option Nat :=
  match cv.taskOf d.idx with
  | none => none
  | some t => if cv.cells.any (fun x => cv.privileged l x && decide (cv.taskOf x.idx = some t)) then none else some t

/-- The task into whose signatures the outputs of a cell are folded (R310, R314): of a task with a privileged output the other outputs that
its SNK cells post. -/
def Canvas.foldedTask (cv : Canvas) (l : LaneId) (d : CellDef) : Option Nat :=
  if d.kind = 2 then (if cv.privileged l d then none else cv.taskOf d.idx) else cv.signedTask l d

/-- The CRC-32 register of a signature with words folded in, low byte first (R308, R314). -/
def foldWords (r : Nat) (ws : List Nat) : Nat := crc32From r (ws.flatMap (leBytes 4))

/-- Words folded into one of the two signatures of a task (R314). -/
def Lane.fold (n : Lane) (m : Bool) (task : Nat) (ws : List Nat) : Lane :=
  n.onMain (fun x =>
    let s := (assocGet x.sigs task).getD (0xFFFFFFFF, 0xFFFFFFFF)
    { x with sigs := assocPut x.sigs task (if m then (s.1, foldWords s.2 ws) else (foldWords s.1 ws, s.2)) })

/-- The task under whose signature the executive's own outputs are folded, on core 0 (R310, R314, log entry 111). -/
def execTask : Nat := 4095

/-- The outputs of a cell as signatures take them (R308). -/
def foldOuts (m : Bool) (kind : Nat) (outs : List Nat) : List Nat :=
  (List.range outs.length).map (fun k => backWord m (neutralOut kind k) (outs.getD k 0))

/-- The stored states of a cell as signatures take them (R306, R308, R314): the integer counts are neutral. -/
def foldStates (m : Bool) (s : CellState) : List Nat := s.st.map (backWord m false) ++ s.nums ++ [s.flags]

/-- A cell that has run (R112, R118, R314): its outputs with the upsets, a NaN found at one, the fold into its task's signature. -/
def Lane.ranCell (n : Lane) (l : LaneId) (a : Run) (d : CellDef) (s : CellState) : Lane :=
  let n := n.putCell a.m d.idx { s with ran := true }
  let n := if procLane l && s.outs.any f32IsNan then n.failEvent l 130 else n
  if procLane l then
    match n.main.canvas.foldedTask l d with
    | some t => n.fold a.m t (foldOuts a.m d.kind s.outs)
    | none => n
  else n

/-- The key of a privileged output (R310): the unit code of a command block, or 4096 and more for a slot. -/
def outputKey (d : CellDef) : Nat := if wClass (d.p 0) = 1 then wUnit (d.p 0) else 4096 + wIndex (d.p 0) % 4096

/-- The core whose task posts a privileged output (R327); 0 where no cell posts it. -/
def Canvas.outputCore (cv : Canvas) (l : LaneId) (key : Nat) : Nat :=
  match cv.cells.find? (fun d => cv.privileged l d && decide (outputKey d = key)) with
  | some d => (cv.taskOf d.idx).getD 0 / 65536
  | none => 0

/-- A privileged output to which a NaN was posted never matches (R308). -/
def Lane.noteNan (n : Lane) (l : LaneId) (d : CellDef) (sel : Nat) : Lane :=
  if procLane l && f32IsNan sel && n.main.canvas.privileged l d then n.onMain (fun m => { m with nans := outputKey d :: m.nans }) else n

/-- One cell runs (R112). A SNK holds what it posts as its number. -/
def Lane.runCell (n : Lane) (l : LaneId) (a : Run) (fl : Flips) (vec : Option (List (Nat × Word))) (d : CellDef) : Lane :=
  let s := n.cellIn a.m d.idx
  let xs := (List.range (inputsOf d)).map (n.input a d)
  let flip := fun (r : CellState) => { r with outs := flipOuts fl d.idx r.outs }
  if d.kind = 1 then n.ranCell l a d (flip (n.runSrc a vec d s))
  else if d.kind = 2 then
    let sel := (flipOuts fl d.idx [snkSelect a d xs]).getD 0 0
    let v := snkValue a d (wFormat (d.p 0)) (numOf a sel)
    ((n.ranCell l a d { s with outs := [sel], nums := [ofSigned 32 v] }).noteNan l d sel).postSnk l a d sel v
  else
    let r := flip (evalKind a (sixCap n.main.canvas d) (sumOrder l n.main.canvas d) d s xs)
    (n.ranCell l a d r).keepFlags a d r

/-- Whether a cell's undelayed producers have all run (R114). -/
def cellReady (cv : Canvas) (waiting : List CellDef) (d : CellDef) : Bool :=
  cv.wires.all (fun w =>
    w.dcell ≠ d.idx || w.type ≠ 0 ||
      match cv.cell w.scell with
      | some p => p.delayed.testBit w.sout || !(waiting.any (fun x => x.idx = p.idx))
      | none => true)

/-- Things in the order in which they can be taken: each time the first that is ready among those that wait, else the first. `key` tells
them apart; the first number bounds how many there are. -/
def takeReady {α : Type} (key : α → Nat) (ready : List α → α → Bool) : Nat → List α → List α
  | 0, _ => []
  | k + 1, xs =>
    match (xs.find? (ready xs)).or xs.head? with
    | none => []
    | some x => x :: takeReady key ready k (xs.filter (fun y => key y ≠ key x))

/-- Cells producer-first (R114, R303): of the ready cells the lowest index first, in lane B the highest. -/
def cellOrder (l : LaneId) (cv : Canvas) (ds : List CellDef) : List CellDef :=
  takeReady CellDef.idx (cellReady cv) ds.length (if l = .b then ds.reverse else ds)

/-- The task a cell runs in; a cell of no task list is one of its own (log entry 6). -/
def Canvas.taskKey (cv : Canvas) (d : CellDef) : Nat := (cv.taskOf d.idx).getD (1048576 + d.idx)

/-- The cells of lanes A and B by their tasks (R303, R305): the tasks in list order, one that waits for a task of another core after it, and
the cells of each in the lane's order. -/
def taskOrder (l : LaneId) (cv : Canvas) (ds : List CellDef) : List CellDef :=
  let keys : List Nat := ((cv.tasks.map (fun (t : Nat × Nat × Nat × Nat) => 65536 * t.1 + t.2.1)) ++ ds.map cv.taskKey).dedup
  let ts : List (Nat × List CellDef) := (keys.map (fun k => (k, ds.filter (fun d => cv.taskKey d = k)))).filter (fun t => !t.2.isEmpty)
  let ready := fun (waiting : List (Nat × List CellDef)) (t : Nat × List CellDef) =>
    t.2.all (cellReady cv ((waiting.filter (fun (x : Nat × List CellDef) => x.1 ≠ t.1)).flatMap (fun (x : Nat × List CellDef) => x.2)))
  (takeReady (fun (t : Nat × List CellDef) => t.1) ready ts.length ts).flatMap (fun (t : Nat × List CellDef) => cellOrder l cv t.2)

/-- The cells of a tick in a lane's order (R54, R115, R305): tick work, the round work that paused in the tick before, the round work of the tick but
what has not run at +49.0 µs. -/
def workOrder (l : LaneId) (cv : Canvas) (tinr : Nat) (waiting cut : List Nat) : List CellDef :=
  let part := fun (f : CellDef → Bool) =>
    let ds := cv.cells.filter f
    if procLane l then taskOrder l cv ds else cellOrder l cv ds
  let runs := fun (d : CellDef) => d.round && !cut.contains d.idx
  part (fun d => !d.round) ++ part (fun d => runs d && waiting.contains d.idx) ++
    part (fun d => runs d && d.runsIn tinr && !waiting.contains d.idx)

/-- The round-rate cells that wait for the next tick's tick work (R305): of those due, the ones that had not run at +49.0 µs; none after the last tick
of the round. -/
def pausedCells (cv : Canvas) (tinr : Nat) (waiting cut : List Nat) : List Nat :=
  if tinr = 7 then []
  else (cv.cells.filter (fun d => d.round && cut.contains d.idx && (waiting.contains d.idx || d.runsIn tinr))).map CellDef.idx

/-- Whether a cell has yet to run in its round, or will not (R305). -/
def CellDef.later (tinr : Nat) (cut : List Nat) (d : CellDef) : Bool := d.round && (decide (tinr < d.tinr) || cut.contains d.idx)

/-- The cells run in an order, and then the tracking links act (R114, R135, R303). -/
def Lane.runCells (n : Lane) (l : LaneId) (a : Run) (fl : Flips) (vec : Option (List (Nat × Word))) (cut : List Nat) (ds : List CellDef) : Lane :=
  let mins := ds.filter (fun d => d.kind = 8)
  let others := n.main.canvas.cells.filter (fun d => d.kind = 8 && !mins.any (fun x => x.idx = d.idx))
  (mins ++ others).foldl (fun n d => n.trackLinks a ds (CellDef.later (n.main.time.tick % 8) cut) d) (ds.foldl (fun n d => n.runCell l a fl vec d) n)

/-- The cells an output of one of `is` reaches a command word through, and `is` themselves, going back from the SNKs of CLASS 0x1 (R130).
The first argument bounds the steps. -/
def behindWords (cv : Canvas) : Nat → List Nat → List Nat
  | 0, is => is
  | f + 1, is =>
    let more := (cv.cells.filter (fun d => !is.contains d.idx &&
      (cv.wires.any (fun w => w.type = 0 && w.scell = d.idx && is.contains w.dcell) ||
        cv.cells.any (fun x => x.kind = 1 && wClass (x.p 0) = 5 && wIndex (x.p 0) = d.idx && is.contains x.idx)))).map CellDef.idx
    if more = [] then is else behindWords cv f (is ++ more)

/-- A SUM that negates or passes: a single input, weight −1 or +1, BIAS 0 (R130, R135). -/
def CellDef.signSum (d : CellDef) : Bool :=
  decide (d.kind = 3) && decide (pcount (d.p 0) = 1) && decide (coef (d.p 1) = 1 ∨ coef (d.p 1) = -1) && decide (f32Rat (d.p 5) = 0)

/-- Whether the outputs of a cell reach command words only through MIN cells, LIM cells and negating SUM cells (R130). `back` are the cells
behind command words; the first argument bounds the length of the paths. -/
def onlyThrough (cv : Canvas) (back : List Nat) : Nat → Nat → Bool
  | 0, _ => false
  | f + 1, i =>
    !cv.cells.any (fun x => x.kind = 1 && wClass (x.p 0) = 5 && wIndex (x.p 0) = i && back.contains x.idx) &&
    (cv.wires.filter (fun w => w.type = 0 && w.scell = i && back.contains w.dcell)).all (fun w =>
      match cv.cell w.dcell with
      | none => true
      | some d =>
        if d.kind = 2 then decide (w.din = 0)
        else (d.kind = 8 || (d.kind = 4 && w.din = 0) || d.signSum) && w.sout = 0 && onlyThrough cv back f d.idx)

/-- The command word a cell's output reaches through MIN cells, LIM cells and negating SUM cells: the SNK and the sign of the path
(R130). The first argument bounds the length of the path. -/
def wordChain (cv : Canvas) : Nat → Nat → Rat → Option (CellDef × Rat)
  | 0, _, _ => none
  | f + 1, i, s =>
    (cv.wires.filter (fun w => w.type = 0 && w.scell = i && w.sout = 0)).findSome? (fun w =>
      match cv.cell w.dcell with
      | none => none
      | some d =>
        if d.kind = 2 then (if w.din = 0 ∧ wClass (d.p 0) = 1 then some (d, s) else none)
        else if d.kind = 8 then wordChain cv f d.idx s
        else if d.kind = 4 ∧ w.din = 0 then wordChain cv f d.idx s
        else if d.signSum then wordChain cv f d.idx (s * coef (d.p 1))
        else none)

/-- The SNK and the sign of a PID that is tracked in SYNC (R130). -/
def Canvas.trackedPid (cv : Canvas) (d : CellDef) : Option (CellDef × Rat) :=
  let words := (cv.cells.filter (fun x => x.kind = 2 && wClass (x.p 0) = 1)).map CellDef.idx
  if onlyThrough cv (behindWords cv cv.cells.length words) (cv.cells.length + 1) d.idx then wordChain cv (cv.cells.length + 1) d.idx 1 else none

/-- The value a PID is tracked to in SYNC (R130): the echoed word through the SNK's SCALE, rounded as every operation is (R116, R118), and the signs of
the path. -/
def Lane.trackTarget (n : Lane) (a : Run) (d : CellDef) : Option Num :=
  match n.main.canvas.trackedPid d with
  | none => none
  | some (k, s) =>
    match UnitId.ofCode (wUnit (k.p 0)) with
    | none => none
    | some u =>
      let v := n.main.units.get u
      let w := wIndex (k.p 0)
      if v.seen ∧ w < 4 ∧ coef (k.p 2) ≠ 0 then
        let x := ratio a.base (rnd a.base (i32At v.block (32 + 4 * w)) false) (coefN a (k.p 2))
        some (rep a (if s < 0 then x.neg a else x))
      else none

/-- The tracking of a lane in SYNC (R130): integrators after the period, and the delayed output of a cell that has not run. -/
def Lane.syncTrack (n : Lane) (a : Run) (before : Bool) : Lane :=
  (n.main.canvas.cells.filter (fun d => d.kind = 6)).foldl (fun n d =>
    match n.trackTarget a d with
    | none => n
    | some t =>
      let s := n.cellIn a.m d.idx
      if before then
        if s.ran then n
        else n.putCell a.m d.idx { s with prev := [out a (clampN a (pnum a (d.p 4)) (pnum a (d.p 5)) t), 0] }
      else if s.ran then n.putCell a.m d.idx (trackPid a d s t) else n) n

/-- The stored states of a task's cells are folded at its last run in the round (R314): tick-rate cells in the last tick, round-rate cells
in theirs. -/
def Lane.foldRound (n : Lane) (l : LaneId) (a : Run) (ds : List CellDef) (tinr : Nat) : Lane :=
  if procLane l then
    (ds.filter (fun d => d.round || tinr = 7)).foldl (fun n d =>
      match n.main.canvas.signedTask l d with
      | some t => n.fold a.m t (foldStates a.m (n.cellIn a.m d.idx))
      | none => n) n
  else n

/-- One run of the cells of a tick (R112-R142, R306), but for the round-rate cells that have not run at +49.0 µs (R305). -/
def Lane.runOnce (n : Lane) (l : LaneId) (a : Run) (fl : Flips) (vec : Option (List (Nat × Word))) (cut : List Nat) : Lane :=
  let tinr := n.main.time.tick % 8
  let n := if n.state = .sync then n.syncTrack a true else n
  let n := if tinr = 0 then n.latchSources a else n
  let ds := workOrder l n.main.canvas tinr n.main.waiting cut
  let n := n.runCells l a fl vec cut ds
  let n := if n.state = .sync then n.syncTrack a false else n
  n.foldRound l a ds tinr

/-- The register of a core that the k-th value takes in a run (R303): the primary allocation for the first run, ascending in lane A, descending in lane
B; the alternate one for the mirror run, rotated by half the register file in lane A, by a quarter in lane B. -/
def regOf (l : LaneId) (mirror : Bool) (k : Nat) : Nat :=
  let r := Config.registers
  let up := if l = .b then r - 1 - k % r else k % r
  if mirror then (up + r / (if l = .b then 4 else 2)) % r else up

/-- The cell outputs that a register of a core holds in a run (R303, R309). -/
def Canvas.heldIn (cv : Canvas) (l : LaneId) (core r : Nat) (mirror : Bool) : List (Nat × Nat) :=
  (cv.cells.filter (fun d => match cv.taskOf d.idx with | some t => decide (t / 65536 = core) | none => false)).flatMap (fun d =>
    ((List.range (max 1 (outputsOf d))).filter (fun k => decide (regOf l mirror (Config.valueNo l.idx cv.hash d.idx k) = r))).map (fun k => (d.idx, k)))

/-- The upsets of the cells in a run. -/
def flipsOf (l : LaneId) (cv : Canvas) (ups : List Upset) (m : Bool) : Flips :=
  ups.flatMap (fun u => match u with
    | .cell i mirror o bit => if mirror = m then [(i, o, bit)] else []
    | .reg core r bit => if procLane l then (cv.heldIn l core r m).map (fun x => (x.1, x.2, bit)) else []
    | _ => [])

/-- The round-rate cells that have not run at +49.0 µs of a tick of lane A or B (R305). -/
def cutOf (l : LaneId) (ups : List Upset) : List Nat :=
  ups.filterMap (fun u => match u with
    | .cut i => if procLane l then some i else none
    | _ => none)

/-- The cells of one tick: the first run, and in lanes A and B the mirror run (R306). -/
def Lane.runTick (n : Lane) (l : LaneId) (ups : List Upset) : Lane :=
  let n := (n.shiftCells (n.main.time.tick % 8)).onMain (fun m => { m with nans := [] })
  let cut := cutOf l ups
  let cv := n.main.canvas
  let n := n.runOnce l (runOf l false) (flipsOf l cv ups false) none cut
  let n := if procLane l then n.runOnce l (runOf l true) (flipsOf l cv ups true) none cut else n
  n.onMain (fun m => { m with waiting := pausedCells cv (m.time.tick % 8) m.waiting cut })

end Sys2Proof.Machine
end

