-- ==== Sys2Proof/Machine/LaneWork.lean ====
section
/-!
DEFINITION. The tick work of a lane beside its cells (R14, R140, R305): device supervision (R187, R195, R203, R214, R237), the shedding
steps that change voted words (R388, R389), the motor registers (R184), the release comparator (R310-R313), the input store and the verdict
check (R29, R317), and lane C's self-checks (R319-R321).
-/
namespace Sys2Proof.Machine
open Sys2Proof

/-- The voltage of a power bus as a lane takes it (R388): the median of the valid VBUS fields of its islands, the lower of two,
the only one. -/
def Lane.busVolts (n : Lane) (b : BusId) : Option Nat :=
  let vs := (busIslands b).filterMap (fun i =>
    let v := n.main.units.get (.isl i)
    if v.fresh && !v.stale then some ((u16At v.block 22 : Nat) : Int) else none)
  match sortInts vs with
  | [] => none
  | [a] => some a.toNat
  | [a, _] => some a.toNat
  | _ :: m :: _ => some m.toNat

/-- Steps 3 and 5 for one bus (R388, R389): the shedding of its pump with its hysteresis, and k of its winding in 1/800. -/
def busStep (v : Option Nat) (shed : Bool) (k : Nat) : Bool × Nat :=
  match v with
  | none => (shed, k)
  | some v => (if v < 2600 then true else if 2800 < v then false else shed, min 800 (v - 1600))

/-- A lane applies the bus steps (R388). -/
def Lane.busSteps (n : Lane) : Lane :=
  let a := busStep (n.busVolts .vp1) n.main.psh.1 n.main.kbus.1
  let b := busStep (n.busVolts .vp2) n.main.psh.2 n.main.kbus.2
  n.onMain (fun m => { m with psh := (a.1, b.1), kbus := (a.2, b.2) })

/-- ISLCMD of the comparator rotation (R195): one comparator per round, posted in its first tick. The place in the rotation
follows ROUND, so that all lanes post alike (log entry 17). -/
def testCommand (i : IslandId) (round tinr : Nat) : Nat :=
  if tinr = 0 then
    let k := round % (6 * i.legs + 3)
    let lc : Nat × Nat := if k < 6 * i.legs then (k / 6, k % 6) else (0, 6 + (k - 6 * i.legs))
    2 + 4 * lc.1 + 32 * lc.2
  else 0

/-- Whether supervision re-arms an island in this tick (R203). -/
def Lane.rearms (n : Lane) (i : IslandId) : Bool :=
  let v := n.main.units.get (.isl i)
  let b := v.block
  v.fresh && !v.stale && decide (v.rearmHold = 0) && (byteAt b 6).testBit 1 && (byteAt b 30).testBit 3 && !(byteAt b 28).testBit 4 &&
    (!n.main.canvas.mode.rearmp.testBit i.idx || (byteAt b 30).testBit 4)

/-- Whether one axis owns the three valve channels of an island (R436). -/
def Canvas.ownsValves (cv : Canvas) (i : IslandId) : Bool :=
  let base := if i = .i6 then 3 else 0
  match cv.ownerOf (resCode 2 (UnitId.isl i).code base) with
  | none => false
  | some o => decide (o < 128) && cv.owns o 2 (UnitId.isl i).code (base + 1) && cv.owns o 2 (UnitId.isl i).code (base + 2)

/-- The words device supervision posts to an island (R187, R195, R203, R436). -/
def Lane.superviseIsland (n : Lane) (i : IslandId) : Lane :=
  let u := UnitId.isl i
  let v := n.main.units.get u
  let r := n.rearms i
  let n := n.onMain (fun m => { m with units := m.units.set u { v with rearmHold := if r then 8 else v.rearmHold - 1 } })
  let n := n.postBoth u 12 ((b2n r + testCommand i n.main.time.round (n.main.time.tick % 8) : Nat) : Int)
  if i.isValve ∧ ¬ n.main.canvas.ownsValves i then n.postBoth u 3 1 else n

/-- The words device supervision posts to a feedback unit (R214). -/
def Lane.superviseFb (n : Lane) (f : FbId) : Lane :=
  let recs := n.main.canvas.unitRecs (UnitId.fb f).code
  (List.range 4).foldl (fun n c => n.postBoth (.fb f) c (if byteAt (recs.getD (c + 1) []) 0 = 0 then 0 else 7)) n

/-- A safety-I/O unit reports VOTER_FAULT to the lane (R19). -/
def Lane.sioFault (n : Lane) (x : SioId) : Bool := (byteAt (n.main.units.get (.sio x)).block 6).testBit 2

/-- The word device supervision posts to a safety-I/O unit (R237, R238): a restart takes one tick of SUPON 0 and waits until the voter is
sound (R243). -/
def Lane.superviseSio (n : Lane) (x : SioId) : Lane :=
  let rec1 := (n.main.canvas.unitRecs (UnitId.sio x).code).getD 1 []
  let m := ((List.range 8).filter (fun p => byteAt rec1 (4 * p) ≠ 0 && !(n.main.restartSup.contains (x.idx, p) && !n.sioFault x))).foldl setBit 0
  n.postBoth (.sio x) 0 (m : Int)

/-- Device supervision of one tick (owner 0xFE). A restart whose SUPON 0 went out in the last tick waits again where the unit now reports that its
voter failed (R243). -/
def Lane.supervise (n : Lane) : Lane :=
  let n := allIslands.foldl Lane.superviseIsland n
  let n := (n.superviseFb .fb1).superviseFb .fb2
  let bad := fun (r : Nat × Nat) => if r.1 = 0 then n.sioFault .sio1 else n.sioFault .sio2
  let n := n.onMain (fun m => { m with restartSup := m.restartSup ++ m.restartSent.filter bad })
  let n := (n.superviseSio .sio1).superviseSio .sio2
  n.onMain (fun m => { m with restartSup := m.restartSup.filter bad, restartSent := m.restartSup.filter (fun r => !bad r) })

/-- A quantity of a motor register: scaled, in 16 bits two's complement. DESIGN CHOICE (log entry 130): rounded to the nearest unit, ties away
from zero, and held at the ends of the field. -/
def reg16 (v : Rat) : Nat := ofSigned 16 (clampI (-32768) 32767 (roundAway v))

/-- What the registers of a motor show of its record (R184): MODE and NPP; MC and SHAPE; IQMAX and PREG. -/
def Canvas.motorFixed (cv : Canvas) (m : Nat) : Nat × Nat × Nat :=
  let rcd := cv.motorRec m
  (256 * b2n (byteAt rcd 0 = 1) + 512 * (byteAt rcd 1 % 32), 65536 * (cv.capOf (4 + m) % 256) + 16777216 * byteAt rcd 2,
   (clampI 0 65535 (roundAway (10 * f32Rat (u32At rcd 20)))).toNat + 65536 * (clampI 0 65535 (roundAway (f32Rat (u32At rcd 28)))).toNat)

/-- FAILOV and OVSC of a motor (R184), from its last registers and its new AXS_MSTATm. -/
def motorCounts (old : List Nat) (st : Nat) : Nat :=
  let s0 := old.getD 0 0
  let c0 := old.getD 7 0
  (if s0 % 4 = 0 ∧ st % 4 ≠ 0 then satAdd 16 (c0 % 65536) 1 else c0 % 65536) +
    65536 * (if !s0.testBit 3 ∧ st.testBit 3 then satAdd 16 (c0 / 65536) 1 else c0 / 65536)

/-- Whether an axis owns a half-bridge of a motor's island (R81, R184). -/
def Canvas.motorOwned (cv : Canvas) (m : Nat) : Bool :=
  (List.range 3).any (fun k => match cv.ownerOf (resCode 1 (4 + m) (3 * m + k)) with | some o => decide (o < 128) | none => false)

/-- The registers of a motor as the canvas is loaded (R12, R184): what its record gives. -/
def Canvas.motorLoaded (cv : Canvas) (m : Nat) : List Nat :=
  let f := cv.motorFixed m
  if (cv.loopAt m).isSome || cv.motorOwned m then [f.1, 0, 0, 0, f.2.1, 0, f.2.2, 0] else List.replicate 8 0

/-- The registers of a motor whose island an expert axis owns (R184): RUNQ and what the record gives; the rest is not stated (log entry 91). -/
def Lane.expertRegs (n : Lane) (l : LaneId) (m : Nat) (old : List Nat) : List Nat :=
  let f := n.main.canvas.motorFixed m
  let w := fun (k : Nat) => (Config.expertMotor l.idx m n.main.time.tick k).toNat
  let runq : Bool := match UnitId.ofCode (4 + m) with | some u => decide ((n.main.words.get u).getD 3 0 = 1) | none => false
  let st := clearBit (w 0 % 256) 2 + 4 * b2n runq + f.1
  [st, w 1, w 2 % 65536, w 3, w 4 % 65536 + f.2.1, w 5, f.2.2, motorCounts old st]

/-- The registers of one motor (R184) after the tick's cells, from those before. DESIGN CHOICE (log entry 131): ADV of a negative speed is its
angle modulo one turn. -/
def Lane.motorRegs (n : Lane) (l : LaneId) (m : Nat) (old : List Nat) : List Nat :=
  match n.main.canvas.loopAt m with
  | none => if n.main.canvas.motorOwned m then n.expertRegs l m old else List.replicate 8 0
  | some base =>
    let q := laneQ l
    let rcd := n.main.canvas.motorRec m
    let f := n.main.canvas.motorFixed m
    let six : Bool := byteAt rcd 0 = 1
    let o := fun (c k : Nat) => sig q ((n.cell (base + c)).outs.getD k 0)
    let bit := fun (c : Nat) => b2n (1 / 2 ≤ o c 0)
    let mc := n.main.canvas.capOf (4 + m)
    let spos : Bool := 1 / 2 ≤ o 29 0
    let regb := decide (o (if spos then 34 else 33) 1 = 1)
    let depth := if six then o 39 0 else o 48 3
    let ksrc := (roundZero (o 11 0)).toNat
    let st := ksrc % 4 + 4 * bit 22 + 8 * bit 19 + 16 * bit 29 + 32 * bit 3 + 64 * b2n regb +
      128 * b2n (!six && decide ((mc : Rat) / 100 < depth)) + f.1
    [st, reg16 (100 * o 35 0) + 65536 * reg16 (100 * o 25 3), reg16 (100 * o 25 2),
     (if six then 0 else reg16 (100 * o 43 0)) + 65536 * (if six then reg16 (4800 * o 36 0) else reg16 (100 * o 47 0)),
     (clampI 0 65535 (roundAway (32768 * depth))).toNat + f.2.1,
     reg16 (o 15 0) + 65536 * ofSigned 16 (roundAway (65536 * (o 24 0 - o 14 0))),
     f.2.2, motorCounts old st]

/-- The motor registers after a tick. -/
def Lane.motorTick (n : Lane) (l : LaneId) : Lane :=
  n.onMain (fun x => { x with motors := (List.range 4).map (fun m => n.motorRegs l m (x.motors.getD m [])) })

/-- Whether a lane sets WITHDRAW in its blocks (R29, R99, R100, R313). -/
def Lane.withdraws (n : Lane) : Bool := n.main.check.withdraw || n.loader.behind

/-- The words of a TRANSLATE block: the record a unit asks for (R91, R92), none when it asks for none. The set begins with record 0, as NEXT still
speaks of the lane's set before it (log entry 83). -/
def Lane.recordWords (n : Lane) (u : UnitId) : Option (List Int) :=
  let v := n.main.units.get u
  let rs := n.main.canvas.unitRecs u.code
  let k := if v.sentRec then byteAt v.block 14 else 0
  if n.loader.recordsDue ∧ v.fresh ∧ ¬ v.stale ∧ k < rs.length then
    some (((k + 256 * rs.length : Nat) : Int) :: (List.range 12).map (fun i => i32At (rs.getD k []) (4 * i)))
  else none

/-- The block of a lane for a unit in this tick (R18). -/
def Lane.blockFor (n : Lane) (l : LaneId) (words : List Int) : Bytes :=
  let c := n.main.check
  cmdBytes n.main.time.tick l.code (modeCode n.main.mode.mode) (stateCode n.state) c.verdict c.vtick n.withdraws words

/-- A block put on, or kept off, the link to a unit. -/
def Lane.post (n : Lane) (u : UnitId) (b : Option Bytes) : Lane :=
  n.onMain (fun m => { m with units := m.units.set u { m.units.get u with posted := b } })

/-- Whether the release comparator finds the two buffers of a unit's block alike (R310-R312): the header bytes are the executive's and stand
in both; an upset may strike a buffer, and a NaN never matches (R308). -/
def Lane.blockMatches (n : Lane) (ups : List Upset) (u : UnitId) : Bool :=
  !ups.contains (.mirrorBlock u) && !n.main.nans.contains u.code && decide (n.main.words.get u = n.main.mwords.get u)

/-- Whether the units' blocks of a unit are privileged in a lane (R310). -/
def privUnit (l : LaneId) (u : UnitId) : Bool := procLane l && (match u with | .isl _ => true | _ => false)

/-- A mismatch of a unit's block (R313): it is withheld. -/
def Lane.blockMismatch (l : LaneId) (n : Lane) (u : UnitId) : Lane :=
  (n.mismatch l 1 0 u.code (n.main.canvas.outputCore l u.code)).post u none

/-- The posting of one unit's block (R140, R312, R313): a mismatch withholds it, as does work not done in time. -/
def Lane.postUnit (l : LaneId) (ups : List Upset) (n : Lane) (u : UnitId) : Lane :=
  if ups.contains (.late u) then (n.onCheck (fun c => { c with late := setBit c.late u.idx })).post u none
  else if privUnit l u ∧ ¬ n.blockMatches ups u then n.blockMismatch l u
  else n.post u (some (n.blockFor l (n.main.words.get u)))

/-- The words of the units whose blocks are not privileged, in the two copies, as the executive's signature takes them (R310, R314); an upset may
strike one. -/
def Lane.foldWordsOf (n : Lane) (ups : List Upset) : Lane :=
  ([.fb .fb1, .fb .fb2, .sio .sio1, .sio .sio2] : List UnitId).foldl (fun n u =>
    let ws := fun (vs : List Int) => vs.map (ofSigned 32)
    let m := ws (n.main.mwords.get u)
    (n.fold false execTask (ws (n.main.words.get u))).fold true execTask
      (if ups.contains (.mirrorBlock u) then updAt m 0 (fun w => w ^^^ 1) else m)) n

/-- Whether the release comparator finds the two buffers of an actuation slot alike (R308, R310-R312). -/
def Lane.slotMatches (n : Lane) (l : LaneId) (ups : List Upset) (slot : Nat) : Bool :=
  match assocGet n.main.net.tx slot with
  | none => true
  | some b => !ups.contains (.mirrorSlot l.idx slot) && !n.main.nans.contains (4096 + slot) &&
      decide (b.data = (assocGet n.main.mtx slot).getD [])

/-- The release comparator of the actuation slots (R310-R313): a mismatch withholds the payload of the round. -/
def Lane.compareSlots (n : Lane) (l : LaneId) (ups : List Upset) : Lane :=
  (n.main.canvas.slots.filter (fun x => x.tx && x.plane = l.idx && x.kind = 2)).foldl (fun n x =>
    let b := (assocGet n.main.net.tx x.slot).getD ⟨[], [], false⟩
    if !procLane l || b.withheld || n.slotMatches l ups x.slot then n
    else (n.mismatch l 2 l.idx x.slot (n.main.canvas.outputCore l (4096 + x.slot))).onMain (fun m => { m with net := { m.net with
      tx := assocPut m.net.tx x.slot { b with withheld := true } } })) n

/-- An upset of the lane's hardware found in the tick work, but for those of buffers, outputs and postings of blocks (R312, R323, R325). -/
def Lane.upset (l : LaneId) (n : Lane) : Upset → Lane
  | .mirrorBlock _ => n
  | .mirrorSlot _ _ => n
  | .late _ => n
  | .lateSlot s => if procLane l && n.computing then n.onCheck (fun c => { c with lateSlots := s :: c.lateSlots }) else n
  | .cut _ => n
  | .cell _ _ _ _ => n
  | .reg _ _ _ => n
  | .mem errs => n.memClock l errs

/-- The schedule entries each engine of lane C evaluates in a tick of the round (R319). -/
def Canvas.engineEntries (cv : Canvas) (tinr : Nat) : List Nat :=
  let sched := Config.readSchedc (cv.sect 4)
  (List.range 32).map (fun e => (sched.filter (fun x => x.1 = e && x.2.1 = tinr)).length)

/-- Verdicts posted are counted and posted once; a dirty one makes the lane retry (R28, R29, R327). -/
def Lane.closeVerdict (n : Lane) : Lane :=
  let v := n.main.check.verdict
  if v = 0 then n
  else
    let n := n.onMem (fun g => if v = 1 then { g with clean := satAdd 16 g.clean 1 } else { g with dirty := satAdd 16 g.dirty 1 })
    let n := n.onCheck (fun c => { c with verdict := 0 })
    if v = 1 then n else n.askRetry 255

/-- What the input store takes of a tick, with the words posted in it and the cells cut off (R305, R317). -/
def Lane.inputs (n : Lane) (words : Ten (List Int)) (cut : List Nat) : TickInputs :=
  let m := n.main
  { tick := m.time.tick, round := m.time.round, state := n.state, units := m.units, bank := m.net.bank, view := m.office.view,
    cells := m.cells, mcells := m.mcells, latched := n.aon.latched, axs := m.axs, mode := m.mode, evt := m.evt, pvPend := m.pvPend,
    pvSev := m.pvSev, cpPrev := m.net.cpPrev, trSum := n.aon.trSum, kbus := m.kbus, psh := m.psh, words := words, waiting := m.waiting, cut := cut }

/-- TICK_WORK_START in a lane that computes (R140, R305, R313). -/
def Lane.tickWork (n : Lane) (l : LaneId) (ups : List Upset) : Lane :=
  let n := n.busSteps
  let n := n.onMain (fun m => { m with time := { m.time with
    tmax := max m.time.tmax (Config.workTime 0 l.idx m.time.tick % 65536) } })
  let before := n
  let n := n.runTick l ups
  let n := (n.supervise).motorTick l
  let n := if procLane l then n.foldWordsOf ups
    else n.onMain (fun m => { m with engCount := m.canvas.engineEntries (m.time.tick % 8) })
  let n := (ups.foldl (Lane.upset l) n).compareSlots l ups
  let n := allUnits.foldl (Lane.postUnit l ups) n
  let n := n.onMain (fun m => { m with store := before.inputs m.words (cutOf l ups) :: m.store.take 3 })
  (n.onCheck (fun c => { c with worked := true })).closeVerdict

/-- The block of a configuration record (R91): STATE is TRANSLATE, also in a lane that restarts (R96). -/
def Lane.recordBlock (n : Lane) (l : LaneId) (words : List Int) : Bytes :=
  cmdBytes n.main.time.tick l.code (modeCode n.main.mode.mode) 2 0 0 n.withdraws words

/-- TICK_WORK_START before SYNC: configuration records (R91). -/
def Lane.sendRecords (n : Lane) (l : LaneId) : Lane :=
  allUnits.foldl (fun n u =>
    match n.recordWords u with
    | some ws => (n.post u (some (n.recordBlock l ws))).onMain (fun m => { m with units := m.units.set u { m.units.get u with sentRec := true } })
    | none => n.post u none) n

/-- TICK_WORK_START (R91, R140, R305): the window that opens raises line 10 (R291). A lane in another state posts nothing, or records; its memories err as in any (R323, R325). -/
def execTickWorkStart (l : LaneId) (upsets : List Upset) (s : State) : Host.Outcome State Fault Refusal :=
  let n := if (s.lanes.get l).awake then (s.lanes.get l).raiseLine l 10 else s.lanes.get l
  if n.computing then .next (s.setLane l (n.tickWork l upsets))
  else if n.awake then
    let m := upsets.foldl (Lane.upset l) n
    .next (s.setLane l (if n.state = .translate ∨ n.state = .retrying then m.sendRecords l else m))
  else .next s

/-- Whether a unit's block is missing at the posting deadline (R56). -/
def CheckState.lateTo (c : CheckState) (u : UnitId) : Bool := !c.worked || c.late.testBit u.idx

/-- Tick work that is not complete at the deadline (R56, R316): TICK_OVERRUN, and a clean verdict waiting to be posted is dirty. -/
def Lane.overrun (n : Lane) (l : LaneId) : Lane :=
  (n.retryEvent l 0).onCheck (fun c => { c with failAge := some n.main.time.age, verdict := if c.verdict = 1 then 2 else c.verdict,
                                                withdraw := c.withdraw || decide (c.verdict = 1) })

/-- The engines of lane C whose count differs from the one SCHEDC gives (R319): those of `miss`, which have lost count, among them. -/
def Lane.miscounts (n : Lane) (miss : Nat) : Nat :=
  let want := n.main.canvas.engineEntries (n.main.time.tick % 8)
  ((List.range 32).filter (fun e => n.main.engCount.getD e 0 + b2n (miss.testBit e) ≠ want.getD e 0)).foldl setBit 0

/-- POSTING_DEADLINE (R56, R312, R319): a privileged block that is missing is a mismatch; `miss` are the engines of lane C that counted one
entry too many. -/
def execPostingDeadline (l : LaneId) (miss : Nat) (s : State) : Host.Outcome State Fault Refusal :=
  .next (s.onLane l Lane.computing (fun n =>
    let c := n.main.check
    let n := if !c.worked ∨ c.late ≠ 0 then n.overrun l else n
    let n := (allUnits.filter (fun u => privUnit l u && c.lateTo u)).foldl (Lane.blockMismatch l) n
    if l = .c ∧ n.miscounts miss ≠ 0 then (n.onMem (fun g => { g with eng := g.eng ||| n.miscounts miss })).failEvent l 15 else n))

/-- ROUND_OVERRUN (R305): the cells that had not run at the end of the round's last tick (`Upset.cut`) do not run in it. -/
def execRoundOverrun (l : LaneId) (s : State) : Host.Outcome State Fault Refusal :=
  .next (s.onLane l (fun n => n.computing && procLane l) (fun n => n.retryEvent l 131))

/-- The lane as it stood at the start of a stored tick's work (R317), its words those posted in that tick. -/
def Lane.asOf (n : Lane) (t : TickInputs) : Lane :=
  { n with
    state := t.state
    aon := { n.aon with latched := t.latched, trSum := t.trSum }
    main := { n.main with
      time := { n.main.time with tick := t.tick, round := t.round }, units := t.units, cells := t.cells, mcells := t.mcells, axs := t.axs,
      mode := t.mode, evt := t.evt, pvPend := t.pvPend, pvSev := t.pvSev, kbus := t.kbus, psh := t.psh, words := t.words, mwords := t.words,
      waiting := t.waiting, office := { n.main.office with view := t.view }, net := { n.main.net with bank := t.bank, cpPrev := t.cpPrev } } }

/-- The words a recomputation of a stored tick gives (R29): in lanes A and B the first or the mirror run, in lane C one of two other
engines. -/
def Lane.recompute (n : Lane) (l : LaneId) (t : TickInputs) (second : Bool) (fl : Flips) : Ten (List Int) :=
  let r := ((n.asOf t).shiftCells (t.tick % 8)).runOnce l (runOf l second) fl none t.cut
  if procLane l && second then r.main.mwords else r.main.words

/-- The block of lane C's canvas memory that holds a cell's entry (R321): 64 bytes each, 2560 to a block. -/
def cellBlock (i : Nat) : Nat := i / 40

/-- Whether a block of lane C's canvas memory, as read, has its reference CRC (R321). -/
def Lane.blockGood (n : Lane) (b : Nat) (bs : Bytes) : Bool := decide (n.main.cref[b]? = some (crc32 bs))

/-- The cells whose outputs a unit's words depend on. -/
def Canvas.cellsBehind (cv : Canvas) (code : Nat) : List Nat :=
  behindWords cv cv.cells.length
    ((cv.cells.filter (fun d => d.kind = 2 && wClass (d.p 0) = 1 && wUnit (d.p 0) = code)).map CellDef.idx)

/-- The units that hold a word. -/
def heldUnits (held : Nat) : List UnitId := allUnits.filter (fun u => held.testBit u.idx)

/-- Whether the recomputations of a disputed tick reproduce what the lane posted to the units that hold a word (R29). A tick in which the lane
posted nothing leaves nothing to reproduce (log entry 87). -/
def Lane.reproduces (n : Lane) (l : LaneId) (tick held : Nat) (ups : List Upset) : Bool :=
  match n.main.store.find? (fun t => t.tick = tick) with
  | none => true
  | some t => (heldUnits held).all (fun u => [false, true].all (fun second =>
      decide ((n.recompute l t second (flipsOf l n.main.canvas ups second)).get u = t.words.get u)))

/-- A block of lane C's canvas memory that is read as its reference CRC does not have it (R321): READBACK_CRC. -/
def Lane.readbackFail (n : Lane) (b : Nat) : Lane :=
  (n.onMem (fun g => { g with rbFail := true, rbFailBlock := b })).failEvent .c 17

/-- The readback of a verdict check (R29, R321): of the blocks that hold the cells behind the disputed words, each read as given or as it was
written. -/
def Lane.verdictReadback (n : Lane) (held : Nat) (read : List (Nat × Bytes)) : Lane :=
  let bs := ((heldUnits held).flatMap (fun u => (n.main.canvas.cellsBehind u.code).map cellBlock)).dedup
  (bs.filter (fun b => read.any (fun r => r.1 = b && !n.blockGood b r.2))).foldl Lane.readbackFail n

/-- VERDICT_CHECK (R29, R317, R321, R325, R326): memory errors of the check count as any other. -/
def execVerdictCheck (l : LaneId) (finds : CheckFinds) (s : State) : Host.Outcome State Fault Refusal :=
  .next (s.onLane l Lane.computing (fun n =>
    match n.main.check.checking with
    | none => n
    | some t =>
      let held := n.main.check.held
      let ok := n.reproduces l t held finds.upsets
      let n := finds.upsets.foldl (Lane.upset l) n
      (if procLane l then n else n.verdictReadback held finds.read).verdictDone ok))

/-- ENGINE_TEST (R320): lane C's engines in the tick with TINR 7. -/
def execEngineTest (failed : Nat) (s : State) : Host.Outcome State Fault Refusal :=
  .next (s.onLane .c Lane.computing (fun n =>
    if n.main.time.tick % 8 = 7 ∧ failed ≠ 0 then
      (n.onMem (fun g => { g with eng := g.eng ||| failed % 4294967296 })).failEvent .c 16
    else n))

/-- READBACK_CRC (R321): block ROUND[7:0] of lane C's canvas memory, in the tick with TINR 7, as read or as it was written. -/
def execReadbackCrc (read : Option Bytes) (s : State) : Host.Outcome State Fault Refusal :=
  .next (s.onLane .c Lane.computing (fun n =>
    if n.main.time.tick % 8 = 7 then
      let b := n.main.time.round % 256
      let good := n.blockGood b (read.getD (n.main.cmem.getD b []))
      let n := n.onMem (fun g => { g with rbBlock := b, rbPasses := if b = 255 then satAdd 16 g.rbPasses 1 else g.rbPasses })
      if good then n else n.readbackFail b
    else n))

end Sys2Proof.Machine
end

