-- ==== Sys2Proof/Machine/Memory.lean ====
section
/-!
DEFINITION. Byte memory as a canonical list of cells (R286, R302): addresses strictly rising, no cell holding 0, which is what an
unlisted byte reads as (log entry 20).
-/
namespace Sys2Proof.Machine
open Sys2Proof

/-- The byte at an address; 0 where none is listed. -/
def memGet : List Host.Cell → Nat → Byte
  | [], _ => 0
  | (k, v) :: r, a => if k = a then v else memGet r a

/-- A byte written: 0 removes its cell. -/
def memPut : List Host.Cell → Nat → Byte → List Host.Cell
  | [], a, b => if b = 0 then [] else [(a, b)]
  | (k, v) :: r, a, b =>
    if a < k then (if b = 0 then (k, v) :: r else (a, b) :: (k, v) :: r)
    else if a = k then (if b = 0 then r else (a, b) :: r)
    else (k, v) :: memPut r a b

/-- Bytes written from an address on. -/
def memPutAll (m : List Host.Cell) (a : Nat) (bs : Bytes) : List Host.Cell :=
  (bs.foldl (fun (s : List Host.Cell × Nat) b => (memPut s.1 s.2 b, s.2 + 1)) (m, a)).1

/-- Bytes read from an address on. -/
def memBytes (m : List Host.Cell) (a n : Nat) : Bytes := (List.range n).map (fun i => memGet m (a + i))

/-- Every address of a list of cells lies above a bound, rising, and no cell holds 0. -/
def memAbove : Nat → List Host.Cell → Bool
  | _, [] => true
  | lo, (k, v) :: r => decide (lo ≤ k) && decide (v ≠ 0) && memAbove (k + 1) r

/-- The canonical form. -/
def memWf (m : List Host.Cell) : Bool := memAbove 0 m

end Sys2Proof.Machine
end

