-- ==== Sys2Proof/Machine/Rings.lean ====
section
/-!
DEFINITION. The data movers of lanes A and B (R284-R299): the lane bus as a ring sees it, descriptors and their checks, bursts,
the end of a descriptor, request lines, and the DMA_ registers.
-/
namespace Sys2Proof.Machine
open Sys2Proof

/-- The owner of a ring (R285): 0xFE, the executive, where no OWN entry names it. -/
def Lane.ringOwner (n : Lane) (l : LaneId) (r : Nat) : Nat := (n.main.canvas.ownerOf (resCode 0x0A l.code r)).getD 0xFE

/-- Whether a ring is at the executive's disposal (R285): no OWN entry names it. -/
def Lane.sysRing (n : Lane) (l : LaneId) (r : Nat) : Bool := (n.main.canvas.ownerOf (resCode 0x0A l.code r)).isNone

/-- The owner of an SRAM buffer page (R81, R286). -/
def Lane.pageOwner (n : Lane) (l : LaneId) (addr : Nat) : Nat :=
  (n.main.canvas.ownerOf (resCode 0x0B l.code ((addr - 0x20000000) / 1024))).getD 0xFE

/-- The owner of a Carousel transmit slot (R81). -/
def Lane.slotOwner (n : Lane) (plane slot : Nat) : Nat :=
  match n.main.canvas.own.find? (fun o => o.1 / 16777216 = 9 && o.1 % 65536 = slotKey plane slot) with
  | some o => o.2
  | none => 0xFE

/-- The ranges of the lane bus (R286) with their base and size; FIFOs last. -/
inductive BusRange where
  | tcm | flash | sram | rx | tx | meas | cmd | canRx | canTx | svcRx | svcTx
  deriving DecidableEq, Repr

/-- The range an address lies in (R286). -/
def busRange (a : Nat) : Option BusRange :=
  if 0x01000000 ≤ a ∧ a < 0x01040000 then some .tcm
  else if 0x10000000 ≤ a ∧ a < 0x12000000 then some .flash
  else if 0x20000000 ≤ a ∧ a < 0x20400000 then some .sram
  else if 0x40000000 ≤ a ∧ a < 0x43000000 ∧ a % 0x1000000 < 0x800000 then some .rx
  else if 0x48000000 ≤ a ∧ a < 0x4B000000 ∧ a % 0x1000000 < 0x800000 then some .tx
  else if 0x50000000 ≤ a ∧ a < 0x50000280 then some .meas
  else if 0x50001000 ≤ a ∧ a < 0x50001280 then some .cmd
  else if a = 0x60000000 then some .canRx
  else if a = 0x60000100 then some .canTx
  else if a = 0x60000200 then some .svcRx
  else if a = 0x60000300 then some .svcTx
  else none

/-- A FIFO address does not advance (R286). -/
def isFifo (a : Nat) : Bool := decide (0x60000000 ≤ a)

/-- A byte of a run from an address: a FIFO address does not advance (R286). -/
def runAddr (a i : Nat) : Nat := if isFifo a then a else a + i

/-- Whether a range may be read, or written (R286). -/
def busSide (read : Bool) : BusRange → Bool
  | .tcm => true | .flash => read | .sram => true | .rx => read | .tx => true | .meas => read | .cmd => !read
  | .canRx => read | .canTx => !read | .svcRx => read | .svcTx => !read

/-- The bytes of a slot buffer with its status (R286): payload in 0-1439, status in 0x7F8-0x7FF. -/
def slotByte (e : Option RxEntry) (o : Nat) : Byte :=
  match e with
  | none => 0
  | some e =>
    if o < 1440 then e.data.getD o 0
    else if o = 0x7F8 then 1
    else if o = 0x7FC then BitVec.ofNat 8 (ofSigned 16 e.dev)
    else if o = 0x7FD then BitVec.ofNat 8 (ofSigned 16 e.dev / 256)
    else 0

/-- The stored states of a run in the order of the cells, each word little-endian (R303): the copy a lane keeps of them. -/
def Lane.stateCopy (n : Lane) (mirror : Bool) : Bytes :=
  n.main.canvas.cells.flatMap (fun d => (n.cellIn mirror d.idx).st.flatMap (leBytes 4))

/-- The byte of a copy of the stored states at an offset of shared SRAM (R303): in lane A the primary copies in ascending buffer pages with the mirror
copies above them, in lane B the mirror copies below. The first page is free, and that the words follow each other in cell order is log entry 7. -/
def Lane.stateByte (n : Lane) (l : LaneId) (o : Nat) : Option Byte :=
  let base := 1024 * (Config.statePage l.idx n.main.canvas.hash % 4096)
  let low := n.stateCopy (decide (l = .b))
  let high := n.stateCopy (decide (l ≠ .b))
  let above := base + 1024 * ((low.length + 1023) / 1024)
  if o < base then none
  else if o < base + low.length then low[o - base]?
  else if o < above then none
  else high[o - above]?

/-- A byte of the lane bus as a ring of lane l reads it (R286, R302), FIFOs apart: a lane holds transmit buffers of its own plane only (R258). -/
def Lane.busRead (n : Lane) (l : LaneId) (bank : List RxEntry) (a : Nat) : Byte :=
  match busRange a with
  | some .rx =>
    let p := a / 0x1000000 % 8
    let s := a % 0x1000000 / 0x800
    slotByte (bank.find? (fun e => e.plane = p && e.slot = s)) (a % 0x800)
  | some .tx =>
    match assocGet n.main.net.tx (a % 0x1000000 / 0x800) with
    | some b => if a / 0x1000000 % 8 = l.idx then b.data.getD (a % 0x800) 0 else 0
    | none => 0
  | some .meas =>
    match UnitId.ofCode (4 + a % 0x1000 / 0x40) with
    | some u => (n.main.units.get u).block.getD (a % 0x40) 0
    | none => 0
  | some .flash => n.loader.flashByte l (a - 0x10000000)
  | some .sram => (n.stateByte l (a - 0x20000000)).getD (memGet n.main.mem a)
  | _ => memGet n.main.mem a

/-- A byte popped from a FIFO, or read. -/
def Lane.busTake (n : Lane) (l : LaneId) (bank : List RxEntry) (a : Nat) : Lane × Byte :=
  match busRange a with
  | some .canRx => (n.onDma (fun d => { d with canRx := d.canRx.drop 1 }), n.main.dma.canRx.headD 0)
  | some .svcRx => (n.onDma (fun d => { d with svcRx := d.svcRx.drop 1 }), n.main.dma.svcRx.headD 0)
  | _ => (n, n.busRead l bank a)

/-- A byte written on the lane bus by a ring (R286, R296, R311), in the primary buffer of an output: a byte of a transmit buffer counts as posted. -/
def Lane.busPut (n : Lane) (a : Nat) (b : Byte) : Lane :=
  match busRange a with
  | some .tx =>
    let s := a % 0x1000000 / 0x800
    let o := a % 0x800
    n.postBytes false s o [b]
  | some .cmd =>
    match UnitId.ofCode (4 + a % 0x1000 / 0x40) with
    | some u =>
      let w := a % 0x40 / 4 - 2
      if 8 ≤ a % 0x40 ∧ w < 13 then
        let old := leBytes 4 (ofSigned 32 ((n.main.words.get u).getD w 0))
        n.postWord false u w (toSigned 32 (leNat (putBytes old (a % 4) [b])))
      else n
    | none => n
  | some .canTx => n.onDma (fun d => { d with canTx := d.canTx ++ [b] })
  | some .svcTx => n.onDma (fun d => { d with svcTx := d.svcTx ++ [b] })
  | _ => n.onMain (fun m => { m with mem := memPut m.mem a b })

/-- The copy of a byte a ring wrote into an output that the mirror run writes directly (R285, R311): of a field or word that no SNK cell posts it reads
the data the ring delivered; the SNK cells of the others write their own. -/
def Lane.mirrorPut (n : Lane) (l : LaneId) (a : Nat) (b : Byte) : Lane :=
  let cells := n.main.canvas.cells
  match busRange a with
  | some .tx =>
    let s := a % 0x1000000 / 0x800
    let o := a % 0x800
    let covers := fun (d : CellDef) => d.kind = 2 && wClass (d.p 0) = 2 && wUnit (d.p 0) = l.idx && wIndex (d.p 0) % 4096 = s &&
      decide (pcount (d.p 1) ≤ o ∧ o < pcount (d.p 1) + fieldWidth (wFormat (d.p 0)))
    if cells.any covers then n else n.postBytes true s o [b]
  | some .cmd =>
    match UnitId.ofCode (4 + a % 0x1000 / 0x40) with
    | some u =>
      let w := a % 0x40 / 4 - 2
      if 8 ≤ a % 0x40 ∧ w < 13 ∧ ¬ cells.any (fun d => d.kind = 2 && wClass (d.p 0) = 1 && wUnit (d.p 0) = u.code && wIndex (d.p 0) = w) then
        let old := leBytes 4 (ofSigned 32 ((n.main.mwords.get u).getD w 0))
        n.postWord true u w (toSigned 32 (leNat (putBytes old (a % 4) [b])))
      else n
    | none => n
  | _ => n

/-- A descriptor as fetched (R287). -/
structure Desc where
  next : Nat
  b4 : Nat
  b5 : Nat
  req : Nat
  b7 : Nat
  nsrc : Nat
  ndst : Nat
  sgl : Nat
  nfld : Nat
  b25 : Nat
  nrec : Nat
  rstr : Nat
  astr : Nat
  tail : Bytes
  deriving DecidableEq, Repr

/-- The descriptor at an address. -/
def Lane.desc (n : Lane) (a : Nat) : Desc :=
  let d := memBytes n.main.mem a 32
  ⟨u32At d 0, byteAt d 4, byteAt d 5, byteAt d 6, byteAt d 7, u16At d 8, u16At d 10, u32At d 12, byteAt d 24, byteAt d 25,
   u16At d 26, u16At d 28, u16At d 30, slice d 24 8⟩

/-- Source and destination width in bytes, mode and field width. -/
def Desc.sw (d : Desc) : Nat := 2 ^ (d.b4 % 4)
def Desc.dw (d : Desc) : Nat := 2 ^ (d.b4 / 4 % 4)
def Desc.crc (d : Desc) : Nat := d.b4 / 16 % 4
def Desc.mode (d : Desc) : Nat := d.b5 % 4
def Desc.fw (d : Desc) : Nat := 2 ^ (d.b25 % 4)

/-- List entry k: address and count (R288). -/
def Lane.sglEntry (n : Lane) (d : Desc) (k : Nat) : Nat × Nat :=
  let e := memBytes n.main.mem (d.sgl + 8 * k) 8
  (u32At e 0, u32At e 4)

/-- Whether every byte of a span lies in shared SRAM pages of the ring's owner (R287). -/
def Lane.inOwned (n : Lane) (l : LaneId) (owner a len : Nat) : Bool :=
  decide (busRange a = some .sram) && decide (busRange (a + len - 1) = some .sram) &&
    (List.range ((a + len - 1) / 1024 - a / 1024 + 1)).all (fun k => n.pageOwner l (a / 1024 * 1024 + 1024 * k) = owner)

/-- The fields of a descriptor by R287, for a wide ring or a narrow one. -/
def Desc.fieldsOk (d : Desc) (wide : Bool) : Bool :=
  decide (d.crc ≠ 3) && decide (d.mode ≠ 3) && decide (d.b5 < 4) && (decide (d.req < 96) || decide (d.req = 0x7F)) &&
    decide (d.b7 < 32) && decide (1 ≤ d.nsrc ∧ d.nsrc ≤ 64) && decide (1 ≤ d.ndst ∧ d.ndst ≤ 64) &&
    (if d.mode = 0 then d.tail == zeros 8
     else wide && decide (1 ≤ d.nfld ∧ d.nfld ≤ 64) && decide (d.b25 < 4) && decide (1 ≤ d.nrec ∧ d.nrec ≤ 1024)) &&
    (!wide || decide (d.crc = 0))

/-- The address ranges of one side (R288, R296): address and length; for the array side of gather and scatter its whole span. -/
def sideRanges (d : Desc) (src : Bool) (es : List (Nat × Nat)) : List (Nat × Nat) :=
  if d.mode = 0 then es
  else if (d.mode = 1) = src then es.map (fun e => (e.1, if e.2 = 0 then 0 else (e.2 - 1) * d.rstr + d.nfld * d.fw))
  else es.map (fun e => (e.1, (d.nfld - 1) * d.astr + d.nrec * d.fw))

/-- Check 2 (R286, R294): a range inside one range of R286, the buffers of one plane being one and the TCM of each core its own,
on an allowed side. -/
def rangeOk (read : Bool) (e : Nat × Nat) : Bool :=
  match busRange e.1 with
  | none => false
  | some r =>
    busSide read r && (isFifo e.1 || decide (e.2 = 0) ||
      (decide (busRange (e.1 + e.2 - 1) = some r) &&
        (decide (r ≠ .rx ∧ r ≠ .tx) || decide (e.1 / 0x1000000 = (e.1 + e.2 - 1) / 0x1000000)) &&
        (decide (r ≠ .tcm) || decide (e.1 / 0x10000 = (e.1 + e.2 - 1) / 0x10000))))

/-- Check 3 (R288, R296): in gather and scatter every address moved is a multiple of FW, those a stride gives too. -/
def alignOk (d : Desc) (ss ds : List (Nat × Nat)) : Bool :=
  if d.mode = 0 then
    ss.all (fun e => decide (e.1 % d.sw = 0 ∧ e.2 % d.sw = 0)) && ds.all (fun e => decide (e.1 % d.dw = 0 ∧ e.2 % d.dw = 0)) &&
      decide ((ss.map (fun e => e.2)).sum = (ds.map (fun e => e.2)).sum)
  else
    let recs := if d.mode = 1 then ss else ds
    let arr := if d.mode = 1 then ds else ss
    (ss ++ ds).all (fun e => decide (e.1 % d.fw = 0)) && recs.all (fun e => decide (e.2 ≤ 1) || decide (d.rstr % d.fw = 0)) &&
      (decide (d.nfld ≤ 1) || decide (d.astr % d.fw = 0)) && decide (d.nfld * d.fw ≤ d.rstr) && decide (d.nrec * d.fw ≤ d.astr) &&
      decide (d.nfld * d.nrec ≤ 65536) && decide ((recs.map (fun e => e.2)).sum = d.nrec) && decide (arr.length = 1) &&
      arr.all (fun e => decide (e.2 = 0))

/-- Check 4 (R286): the owner a destination range requires; an entry of no bytes writes no page. -/
def Lane.ownerOk (n : Lane) (l : LaneId) (owner : Nat) (e : Nat × Nat) : Bool :=
  if e.2 = 0 then true
  else match busRange e.1 with
  | some .sram =>
    (List.range ((e.1 + e.2 - 1) / 1024 - e.1 / 1024 + 1)).all (fun k => n.pageOwner l (e.1 / 1024 * 1024 + 1024 * k) = owner)
  | some .tx =>
    decide (e.1 / 0x1000000 % 8 = l.idx) &&
      (List.range ((e.1 + e.2 - 1) / 0x800 - e.1 / 0x800 + 1)).all (fun k =>
        n.slotOwner l.idx ((e.1 / 0x800 + k) % 4096) = owner)
  | _ => decide (owner = 0xFE)

/-- Whether two ranges share a byte; FIFOs are excluded (R295). -/
def share (a b : Nat × Nat) : Bool :=
  !isFifo a.1 && !isFifo b.1 && decide (0 < a.2 ∧ 0 < b.2) && decide (a.1 < b.1 + b.2) && decide (b.1 < a.1 + a.2)

/-- Whether an entry of a list shares a byte with a later one. -/
def selfShare : List (Nat × Nat) → Bool
  | [] => false
  | e :: r => r.any (share e) || selfShare r

/-- The bytes one entry names, in order. -/
def entryAddrs (e : Nat × Nat) : List Nat := (List.range e.2).map (runAddr e.1)

/-- The byte addresses of one side in the order they move (R288, R296). -/
def sideAddrs (d : Desc) (src : Bool) (es : List (Nat × Nat)) : List Nat :=
  if d.mode = 0 then es.flatMap entryAddrs
  else if (d.mode = 1) = src then
    es.flatMap (fun e => (List.range e.2).flatMap (fun j => (List.range (d.nfld * d.fw)).map (fun i => runAddr e.1 (j * d.rstr + i))))
  else
    let b := (es.headD (0, 0)).1
    (List.range d.nrec).flatMap (fun r => (List.range d.nfld).flatMap (fun f =>
      (List.range d.fw).map (fun i => runAddr b (f * d.astr + r * d.fw + i))))

/-- The bytes one side reads or writes, as ranges that cover exactly them: those the owner check and two entries that share a byte go by. -/
def sideSpans (d : Desc) (src : Bool) (es : List (Nat × Nat)) : List (Nat × Nat) :=
  if d.mode = 0 then es
  else if (d.mode = 1) = src then
    es.flatMap (fun e => (List.range e.2).map (fun j => (e.1 + j * d.rstr, d.nfld * d.fw)))
  else
    let b := (es.headD (0, 0)).1
    (List.range d.nfld).map (fun f => (b + f * d.astr, d.nrec * d.fw))

/-- The checks at fetch in order (R294): the code of the first that fails. The span of a record run or of the arrays is the whole of it
(R296). -/
def Lane.fetchCode (n : Lane) (l : LaneId) (r a : Nat) (d : Desc) (ss ds : List (Nat × Nat)) : Option Nat :=
  let owner := n.ringOwner l r
  if ¬ (n.inOwned l owner a 32 ∧ a % 8 = 0 ∧ d.fieldsOk (decide (24 ≤ r)) ∧ d.sgl % 8 = 0 ∧
        n.inOwned l owner d.sgl (8 * (d.nsrc + d.ndst))) then some 7
  else if (¬ n.sysRing l r ∧ 32 ≤ d.req ∧ d.req < 64) ∨
      ¬ ((sideRanges d true ss).all (rangeOk true) ∧ (sideRanges d false ds).all (rangeOk false)) then some 4
  else if ¬ alignOk d ss ds then some 3
  else if ¬ (sideSpans d false ds).all (n.ownerOk l owner) then some 5
  else
    let sp := sideRanges d true ss
    let dp := sideRanges d false ds
    if sp.any (fun x => dp.any (share x)) ∨ selfShare (sideSpans d false ds) ∨
        dp.any (fun x => share x (a, 32) || share x (d.sgl, 8 * (d.nsrc + d.ndst))) then some 2
    else none

/-- Whether the FIFO a request line watches stands as the line says (R291). The FIFOs' depth is not given: a transmit FIFO always has room (log
entry 125). -/
def Mover.fifoLine (d : Mover) (line : Nat) : Bool :=
  (decide (line = 64) && decide (d.canRx ≠ [])) || decide (line = 65) || (decide (line = 66) && decide (d.svcRx ≠ [])) || decide (line = 67)

/-- A FIFO's line requests a burst of a ring as long as the FIFO stands as it says. -/
def Lane.fifoRequest (n : Lane) (l : LaneId) (r : Nat) : Lane :=
  if n.main.dma.fifoLine (n.ring r).req then Lane.requestRing l (n.ring r).req n r else n

/-- A ring fetches the descriptor at its next address (R294): ACTIVE, or ERROR with the code. -/
def Lane.ringFetch (n : Lane) (l : LaneId) (r : Nat) : Lane :=
  let a := (n.ring r).next
  let d := n.desc a
  let ss := (List.range d.nsrc).map (n.sglEntry d)
  let ds := (List.range d.ndst).map (fun k => n.sglEntry d (d.nsrc + k))
  match n.fetchCode l r a d ss ds with
  | none =>
    (n.onRing r (fun g => { g with
      state := 2, code := 0, cur := a, next := d.next, req := d.req, burst := (d.b7 % 32 + 1) * 8,
      dw := if d.mode = 0 then d.dw else d.fw, srcs := sideAddrs d true ss, dsts := sideAddrs d false ds, hold := [], moved := 0,
      crcKind := d.crc, crcReg := if d.crc = 1 then 0xFFFFFFFF else 0xFFFF, evt := d.b4.testBit 6, haltAfter := d.b4.testBit 7,
      bank := none })).fifoRequest l r
  | some c =>
    let n := n.onRing r (fun g => { g with state := 4, code := c, cur := a })
    if c = 2 then (n.onDma (fun m => { m with overlapn := satAdd 16 m.overlapn 1 })).event l 134
    else n.onDma (fun m => { m with faultn := satAdd 16 m.faultn 1 })

/-- The CRC register of a ring after more bytes (R290). -/
def ringCrc (kind reg : Nat) (bs : Bytes) : Nat :=
  if kind = 1 then bs.foldl (fun r b => crc32Shift 8 (r ^^^ b.toNat)) reg else crc16 reg bs

/-- Source bytes of a burst read in order. -/
def Lane.takeBytes (n : Lane) (l : LaneId) (bank : List RxEntry) : List Nat → Lane × Bytes
  | [] => (n, [])
  | a :: r =>
    let x := n.busTake l bank a
    let y := Lane.takeBytes x.1 l bank r
    (y.1, x.2 :: y.2)

/-- Destination bytes written in order. -/
def Lane.putAll (n : Lane) : List (Nat × Byte) → Lane
  | [] => n
  | (a, b) :: r => Lane.putAll (n.busPut a b) r

/-- The copies of the mirror run of what a ring wrote, in order. -/
def Lane.mirrorAll (n : Lane) (l : LaneId) : List (Nat × Byte) → Lane
  | [] => n
  | (a, b) :: r => Lane.mirrorAll (n.mirrorPut l a b) l r

/-- One burst of a ring (R289-R291, R298): its source bytes fill the holding register, whole destination beats drain it; the descriptor keeps the
receive bank it began with. -/
def Lane.ringBurst (n : Lane) (l : LaneId) (r : Nat) : Lane :=
  let g := n.ring r
  let bank := g.bank.getD n.main.net.bank
  let x := n.takeBytes l bank (g.srcs.take g.burst)
  let held := g.hold ++ x.2
  let k := held.length / g.dw * g.dw
  let out := g.dsts.zip (held.take k)
  let n := (x.1.putAll out).mirrorAll l out
  (n.onRing r (fun _ => { g with
    bank := some bank, srcs := g.srcs.drop g.burst, dsts := g.dsts.drop k, hold := held.drop k, moved := g.moved + x.2.length,
    crcReg := ringCrc g.crcKind g.crcReg x.2, pend := g.pend - 1 })).fifoRequest l r

/-- Whether a ring waits for the datapath (R293): ACTIVE, bytes left, a request pending or REQ always. -/
def ringWaits (g : Ring) : Bool := decide (g.state = 2) && decide (g.srcs ≠ []) && (decide (0 < g.pend) || decide (g.req = 0x7F))

/-- A descriptor completes (R290, R294): CRCV, then DONE; the chain goes on, halts or ends. -/
def Lane.ringEnd (n : Lane) (l : LaneId) (r : Nat) : Lane :=
  let g := n.ring r
  let crc := if g.crcKind = 1 then g.crcReg ^^^ 0xFFFFFFFF else g.crcReg
  let m := if g.crcKind = 0 then n.main.mem else memPutAll n.main.mem (g.cur + 20) (leBytes 4 crc)
  let m := memPutAll m (g.cur + 16) (leBytes 4 g.moved)
  let st := if g.next = 0 then 0 else if g.haltAfter then 3 else 1
  let n := (n.onMain (fun x => { x with mem := m })).onRing r (fun g => { g with
    state := st, descn := satAdd 16 g.descn 1, hold := [], bank := none })
  if g.evt then n.event l 132 else n

/-- The watches on a receive slot raise their lines (R291). -/
def Lane.watchSlot (n : Lane) (l : LaneId) (plane slot : Nat) : Lane :=
  ((List.range 24).filter (fun k => decide (n.main.dma.watches.getD k 0 = slotKey plane slot + 16384))).foldl
    (fun n k => n.raiseLine l (72 + k)) n

/-- START of a ring (R299): accepted in IDLE, HALTED and ERROR. -/
def ringStart (g : Ring) : Ring :=
  if g.state = 1 ∨ g.state = 2 then g
  else { g with state := 1, code := 0, next := g.desc, req := 0x7F, srcs := [], dsts := [], hold := [], moved := 0 }

/-- STOP of a ring (R298, R299): bursts are whole, so the ring halts here. -/
def ringStop (g : Ring) : Ring :=
  if g.state = 1 ∨ g.state = 2 then { g with state := 3, code := 1, hold := [], bank := none } else g

/-- CLR of a ring (R299). -/
def ringClr (g : Ring) : Ring := { g with pend := 0, code := 0 }

/-- Lanes A and B with their main domain running have data movers (R284). -/
def hasDma (l : LaneId) (n : Lane) : Bool := procLane l && n.awake

/-- RING_START (R285, R299): of the executive. A ring that an OWN entry names is started by REGISTER_WRITE alone. -/
def execRingStart (l : LaneId) (r : Nat) (s : State) : Host.Outcome State Fault Refusal :=
  .next (s.onLane l (fun n => hasDma l n && n.sysRing l r) (fun n => n.onRing r ringStart))

/-- RING_STOP (R298). -/
def execRingStop (l : LaneId) (r : Nat) (s : State) : Host.Outcome State Fault Refusal :=
  .next (s.onLane l (hasDma l) (fun n => n.onRing r ringStop))

/-- RING_CLR (R299). -/
def execRingClr (l : LaneId) (r : Nat) (s : State) : Host.Outcome State Fault Refusal :=
  .next (s.onLane l (hasDma l) (fun n => n.onRing r ringClr))

/-- Whether a line is raised by REQUEST_LINE (R291): the end of an executive task, or a FIFO that stands as the line says. Every other line is raised
by what it stands for: a measurement block, the tick work, a round boundary, a mark, a watched slot. -/
def Lane.lineDue (n : Lane) (line : Nat) : Bool := decide (32 ≤ line ∧ line < 64) || n.main.dma.fifoLine line

/-- REQUEST_LINE (R291, R292). -/
def execRequestLine (l : LaneId) (line : Nat) (s : State) : Host.Outcome State Fault Refusal :=
  .next (s.onLane l (fun n => hasDma l n && n.lineDue line) (fun n => n.raiseLine l line))

/-- MARK (R291): an enabled mark in its tick, or in every tick. -/
def execMark (l : LaneId) (m : Nat) (s : State) : Host.Outcome State Fault Refusal :=
  .next (s.onLane l (hasDma l) (fun n =>
    let v := n.main.dma.marks.getD m 0
    if v.testBit 16 ∧ (v.testBit 17 ∨ v % 8 = n.main.time.tick % 8) then n.raiseLine l (16 + m) else n))

/-- DESCRIPTOR_FETCH (R294). -/
def execDescriptorFetch (l : LaneId) (r : Nat) (s : State) : Host.Outcome State Fault Refusal :=
  .next (s.onLane l (fun n => hasDma l n && decide ((n.ring r).state = 1)) (fun n => n.ringFetch l r))

/-- BURST (R293): of the lowest ring that waits. -/
def execBurst (l : LaneId) (r : Nat) (s : State) : Host.Outcome State Fault Refusal :=
  .next (s.onLane l (fun n => hasDma l n && decide ((List.range 32).find? (fun k => ringWaits (n.ring k)) = some r))
    (fun n => n.ringBurst l r))

/-- DMA_END (R290). -/
def execDmaEnd (l : LaneId) (r : Nat) (s : State) : Host.Outcome State Fault Refusal :=
  .next (s.onLane l (fun n => hasDma l n && decide ((n.ring r).state = 2) && decide ((n.ring r).srcs = []))
    (fun n => n.ringEnd l r))

/-- The memory index of a lane bus address (R322): TCM of core k, SRAM, flash. -/
def memIndex (a : Nat) : Nat :=
  match busRange a with
  | some .tcm => a / 0x10000 % 4
  | some .flash => 5
  | _ => 4

/-- BUSERR (R297, R325), on a read in a burst or at a fetch: the ring stops in ERROR; a ring the translator uses or of an axis makes the verdict dirty. -/
def execBuserr (l : LaneId) (r : Nat) (addr : Nat) (s : State) : Host.Outcome State Fault Refusal :=
  .next (s.onLane l (fun n => hasDma l n && decide ((n.ring r).state = 1 ∨ (n.ring r).state = 2)) (fun n =>
    let owner := n.ringOwner l r
    let n := n.onRing r (fun g => { g with
      state := 4, code := 6, cur := if g.state = 1 then g.next else g.cur, hold := [], bank := none })
    let n := ((n.onDma (fun m => { m with faultn := satAdd 16 m.faultn 1 })).event l 135).memUeCount (memIndex addr) addr
    if n.sysRing l r ∨ owner < 128 then n.failEvent l 3 else n.event l 3))

/-- DMA_ reads (R299). -/
def dmaRead (n : Lane) (l : LaneId) (off : Nat) : Option Nat :=
  let d := n.main.dma
  if ¬ procLane l then none
  else if off < 0x200 then
    let g := d.rings.getD (off / 16) {}
    if off % 16 = 0 then some 0
    else if off % 16 = 4 then some g.desc
    else if off % 16 = 8 then
      some (g.state + 256 * g.code + 65536 * g.pend + 1048576 * b2n (n.main.canvas.sects ≠ [] && n.sysRing l (off / 16)))
    else some (g.descn + 65536 * g.ovrqn.was)
  else if off < 0x240 then some (d.marks.getD ((off - 0x200) / 4) 0)
  else if off < 0x2A0 then some (d.watches.getD ((off - 0x240) / 4) 0)
  else if off = 0x2A0 then
    some (((List.range 32).filter (fun r => (d.rings.getD r {}).state = 1 || (d.rings.getD r {}).state = 2)).foldl setBit 0)
  else if off = 0x2A4 then some (d.overlapn + 65536 * d.faultn)
  else if 0x400 ≤ off ∧ off < 0x480 then some (d.rings.getD ((off - 0x400) / 4) {}).cur
  else none

/-- The RC fields of the DMA_ block cleared by a read (R299). -/
def dmaReadClear (n : Lane) (off : Nat) : Lane :=
  if off < 0x200 ∧ off % 16 = 12 then n.onRing (off / 16) (fun g => { g with descn := 0, ovrqn := g.ovrqn.cleared })
  else if off = 0x2A4 then n.onDma (fun d => { d with overlapn := 0, faultn := 0 })
  else n

/-- A write to the DMA_ block as it takes effect (R298, R299): STOP wins over START. -/
def dmaWrite (n : Lane) (off v mask : Nat) : Lane :=
  let m := v &&& mask
  if off < 0x200 then
    let r := off / 16
    if off % 16 = 0 then
      let n := if m.testBit 1 then n.onRing r ringStop else if m.testBit 0 then n.onRing r ringStart else n
      if m.testBit 2 then n.onRing r ringClr else n
    else if off % 16 = 4 then
      n.onRing r (fun g => if g.state = 1 ∨ g.state = 2 then g else { g with desc := clearMask g.desc mask ||| m })
    else n
  else if off < 0x240 then
    n.onDma (fun d => { d with marks := updAt d.marks ((off - 0x200) / 4) (fun x => (clearMask x mask ||| m) % 262144) })
  else if off < 0x2A0 then
    n.onDma (fun d => { d with watches := updAt d.watches ((off - 0x240) / 4) (fun x => (clearMask x mask ||| m) % 32768) })
  else n

end Sys2Proof.Machine
end

