-- ==== Sys2Proof/Machine/Carousel.lean ====
section
/-!
DEFINITION. Carousel reception in a lane (R245-R254, R260-R275, R331, R333, R347-R353): frames, partners and their echoes,
beacons, the join exchange, key epochs, cycle points, windows and PHY links.
-/
namespace Sys2Proof.Machine
open Sys2Proof

/-- The network state of a lane changed. -/
def Lane.onNet (n : Lane) (f : Net → Net) : Lane := n.onMain (fun m => { m with net := f m.net })

/-- MAC address of a node on a plane, and the group address of a plane (R249). -/
def macOf (plane ident : Nat) : Nat := 0x020056420000 + plane * 0x1000 + ident
def groupMac (plane : Nat) : Nat := 0x030056420000 + plane * 0x1000 + 0xFFF

/-- Fields of a frame (R250, R251), its bytes counted from the destination address. -/
def frDest (b : Bytes) : Nat := beNat (slice b 0 6)
def frType (b : Bytes) : Nat := beNat (slice b 12 2)
def frVersion (b : Bytes) : Nat := byteAt b 14 % 16
def frFlags (b : Bytes) : Nat := byteAt b 14 / 16
def frPlane (b : Bytes) : Nat := byteAt b 15 % 4
def frCycle (b : Bytes) : Nat := u24At b 16
def frSlot (b : Bytes) : Nat := u24At b 19 % 4096
def frSender (b : Bytes) : Nat := u24At b 19 / 4096
def frLen (b : Bytes) : Nat := u16At b 22 % 2048
def frKeyep (b : Bytes) : Nat := u16At b 24
def frPeer (b : Bytes) : Nat := u16At b 26 % 4096
def frHeader (b : Bytes) : Bytes := slice b 14 16
def frPayload (b : Bytes) : Bytes := slice b 30 (frLen b)
def frTag (b : Bytes) : Bytes := slice b (30 + frLen b) 8

/-- A 128-bit key of 16 bytes. -/
def key128 (b : Bytes) : BitVec 128 := BitVec.ofNat 128 (leNat (b.take 16))

/-- The tag of a header and payload under a key (R253). -/
def tagOf (key : BitVec 128) (header payload : Bytes) : Bytes :=
  let sender := u24At header 5 / 4096
  let iv := leBytes 2 sender ++ leBytes 2 (u16At header 12 % 4096) ++ leBytes 1 (byteAt header 1 % 4) ++
    leBytes 2 (u24At header 5 % 4096) ++ leBytes 3 (u24At header 2) ++ leBytes 2 (u16At header 10)
  beBytes 8 (gmac key iv (header ++ payload)).toNat

/-- The header of a frame (R251). -/
def headerOf (flags plane cycle slot sender len keyep dest : Nat) : Bytes :=
  [BitVec.ofNat 8 (1 + 16 * flags), BitVec.ofNat 8 plane] ++ leBytes 3 cycle ++ leBytes 3 (slot + 4096 * sender) ++ leBytes 2 len ++
    leBytes 2 keyep ++ leBytes 2 dest ++ zeros 2

/-- A frame from its destination address to the end of its padding (R250); without a key the tag is 0. -/
def frameOf (etype plane sender dest : Nat) (header payload : Bytes) (key : Option (BitVec 128)) : Bytes :=
  beBytes 6 (if dest = 4095 then groupMac plane else macOf plane dest) ++ beBytes 6 (macOf plane sender) ++ beBytes 2 etype ++ header ++
    payload ++ (match key with | some k => tagOf k header payload | none => zeros 8) ++ zeros (22 - payload.length)

/-- The message lengths of the join exchange (R347). -/
def joinLen (msg : Nat) : Nat := if msg = 1 then 196 else if msg = 2 then 256 else if msg = 3 then 64 else 36

/-- A JOIN payload (R347): DEV, the message and its fragment, and bytes of it. -/
def joinPay (dev : Int) (msg frag : Nat) (part : Bytes) : Bytes :=
  leBytesI 4 dev ++ [BitVec.ofNat 8 msg, BitVec.ofNat 8 frag] ++ leBytes 2 (joinLen msg) ++ part

/-- MSG4 (R347, R348): the epoch, and a group key encrypted. -/
def msg4Of (epoch : Nat) (kw : BitVec 128) (t3 : Bytes) (gk : BitVec 128) : Bytes :=
  leBytes 2 epoch ++ zeros 2 ++ gcmWrap kw t3 gk

/-- The beacon key of an epoch (R352). -/
def beaconKey (bk : Bytes) (epoch : Nat) : BitVec 128 := hkdf16 (key128 bk) (ascii "KT3128 BEACON" ++ leBytes 2 epoch)

/-- The receive entry of a slot on a plane and medium (R254, R256). -/
def Canvas.rxSlot (cv : Canvas) (plane medium slot : Nat) : Option SlotDef :=
  cv.slots.find? (fun e => !e.tx && e.plane = plane && e.medium = medium && e.slot = slot)

/-- The first slot of a partner on a plane by START (R270, R347): of those the controller transmits to it, or of those it sends in. -/
def Canvas.firstSlot (cv : Canvas) (tx : Bool) (plane ident : Nat) : Option SlotDef :=
  (cv.slots.filter (fun e => e.tx = tx && e.plane = plane && e.peer = ident && decide (e.kind ≠ 3))).foldl (fun (b : Option SlotDef) e => match b with
    | none => some e
    | some x => if e.start < x.start then some e else some x) none

/-- The acceptance half-width of an entry in ns (R256). -/
def Canvas.winOf (cv : Canvas) (e : SlotDef) : Nat := 10 * (if e.win = 0 then cv.net.wdef else e.win)

/-- The partners of a plane (R282): every sender and every addressee of its slot table, in rising order. -/
def Canvas.partnersOn (cv : Canvas) (plane : Nat) : List Nat :=
  ((cv.slots.filter (fun e => e.plane = plane && decide (e.kind ≠ 3) && decide (e.kind ≠ 4) && decide (e.peer ≠ 4095))).foldl
    (fun (m : List (Nat × Unit)) e => assocPut m e.peer ()) []).map (fun e => e.1)

/-- A partner as a lane sees it on a plane. -/
def Lane.partner (n : Lane) (plane ident : Nat) : Partner := (assocGet n.main.net.partners (slotKey plane ident)).getD {}

/-- A partner replaced. -/
def Lane.putPartner (n : Lane) (plane ident : Nat) (p : Partner) : Lane :=
  n.onNet (fun m => { m with partners := assocPut m.partners (slotKey plane ident) p })

/-- Rounds from `a` to `b` modulo the counter length (R53). -/
def roundsSince (a b : Nat) : Nat := (b + 16777216 - a) % 16777216

/-- A round that has been reached (R53). -/
def reached (round now : Nat) : Bool := decide (roundsSince round now < 8388608)

/-- Whether a lane receives Carousel frames: its canvas is known and the plane they come from is powered (R246). -/
def State.receives (s : State) (l : LaneId) (f : RxFrame) : Bool :=
  let n := s.lanes.get l
  decide (n.dom = .on) && (n.computing || (decide (n.state = .translate ∨ n.state = .retrying) && n.loader.recordsDue)) &&
    decide ((s.lanes.get f.plane).aon.pwr.phy = .on)

/-- Steps 1 to 3 of R254 (a NULL frame has L = 0, R252). -/
def Lane.frameSound (n : Lane) (f : RxFrame) : Bool :=
  let b := f.bytes
  let p := f.plane.idx
  let cv := n.main.canvas
  f.fcsOk && (decide (frDest b = macOf p cv.net.self) || decide (frDest b = groupMac p)) && decide (frType b = cv.net.etype) &&
    decide (frVersion b = 1) && decide (frPlane b = p) && decide (frFlags b ∈ [0, 1, 2, 4, 8]) &&
    decide (b.length = max 60 (38 + frLen b)) && decide (frLen b ≤ 1440) && (decide (frFlags b ≠ 1) || decide (frLen b = 0)) &&
    (match cv.rxSlot p f.medium (frSlot b) with | some e => decide (frLen b ≤ e.len) | none => true)

/-- A frame counted in CRS_RXERR.BAD. -/
def Lane.countBad (n : Lane) : Lane := n.onNet (fun m => { m with bad := satAdd 16 m.bad 1 })

/-- A frame counted in CRS_RXERR.SLOT. -/
def Lane.countSlot (n : Lane) : Lane := n.onNet (fun m => { m with slotErr := satAdd 16 m.slotErr 1 })

/-- A frame counted in CRS_TAGERR.TAG. -/
def Lane.countTag (n : Lane) : Lane := n.onNet (fun m => { m with tagErr := satAdd 16 m.tagErr 1 })

/-- Whether the previous key epoch is still accepted (R253). -/
def Net.oldOk (m : Net) (round : Nat) : Bool :=
  match m.oldUntil with | some r => decide (0 < roundsSince round r ∧ roundsSince round r ≤ 16) | none => false

/-- The key a received frame is tagged with, by its KEYEP (R253): none when the epoch is not accepted, and an inner none when no key
is held. -/
def Lane.rxKey (n : Lane) (plane : Nat) (b : Bytes) : Option (Option (BitVec 128)) :=
  let m := n.main.net
  let k := slotKey plane (frSender b)
  if frKeyep b = m.epoch then some (if frPeer b = 4095 then assocGet m.gk plane else assocGet m.keys k)
  else if (frKeyep b + 1) % 65536 = m.epoch ∧ m.oldOk n.main.time.round then
    some (if frPeer b = 4095 then assocGet m.oldGk plane else assocGet m.oldKeys k)
  else none

/-- Whether a frame's tag is right under a key, if there is one. -/
def tagRight (key : Option (BitVec 128)) (b : Bytes) : Bool :=
  match key with
  | some k => tagOf k (frHeader b) (frPayload b) == frTag b
  | none => false

/-- A join exchange of a lane, if one runs. -/
def Lane.join (n : Lane) (peer : Nat) : Option Join := assocGet n.main.net.joins peer

/-- A join exchange put, or dropped. -/
def Lane.putJoin (n : Lane) (peer : Nat) (j : Option Join) : Lane :=
  n.onNet (fun m => { m with joins := match j with | some x => assocPut m.joins peer x | none => assocDel m.joins peer })

/-- An EDGE or late frame of a partner (R266): four within 16 cycles make a RESYNC due, SILENT where it would be the eighth echo within 256 cycles; a
JOIN of that partner is then discarded (R281). Every lane judges every plane; it reports its own, and counts an echo on another as due (log entry
126). -/
def Lane.strike (n : Lane) (l : LaneId) (plane ident : Nat) : Lane :=
  let p := n.partner plane ident
  let r := n.main.time.round
  let late := (p.late.filter (fun x => roundsSince x r < 16)) ++ [r]
  if late.length < 4 then n.putPartner plane ident { p with late := late }
  else
    let syncs := p.syncs.filter (fun x => roundsSince x r < 256)
    if syncs.length < 7 then
      n.putPartner plane ident { p with late := [], syncs := if plane = l.idx then syncs else syncs ++ [r], resyncDue := true }
    else
      let n := n.putPartner plane ident { p with
        late := [], syncs := syncs ++ [r], resync := false, resyncDue := false, silenced := true, joined := false }
      if plane = l.idx then (n.putJoin ident none).event l 8 else n

/-- A frame outside its window (R265). -/
def Lane.frameLate (n : Lane) (l : LaneId) (plane ident : Nat) : Lane :=
  let n := (n.onNet (fun m => { m with late := satAdd 16 m.late 1 })).event l 7
  n.strike l plane ident

/-- A frame accepted (R254, R260, R266, R291). -/
def Lane.acceptFrame (n : Lane) (l : LaneId) (f : RxFrame) (dev : Int) (edge : Bool) : Lane :=
  let b := f.bytes
  let p := f.plane.idx
  let e : RxEntry := ⟨p, frSlot b, frPayload b, decide (frFlags b = 1), dev⟩
  let n := n.onNet (fun m => { m with rx := m.rx ++ [e], accept := satAdd 16 m.accept 1 })
  let n := n.putPartner p (frSender b) { n.partner p (frSender b) with heard := true, gap := false, edge := edge }
  let n := if edge then n.strike l p (frSender b) else n
  n.watchSlot l p (frSlot b)

/-- A STATUS frame of the controller's own (R254, R333). -/
def Lane.ownStatus (n : Lane) (l : LaneId) (f : RxFrame) : Lane :=
  let b := f.bytes
  if 0x010 ≤ frSlot b ∧ frSlot b ≤ 0x018 ∧ frFlags b = 0 then
    match n.rxKey f.plane.idx b with
    | some k =>
      if tagRight k b then
        if f.plane = l then n else n.onNet (fun m => { m with holders := m.holders ++ [u16At (frPayload b) 4 % 4096] })
      else n.countTag
    | none => n.countTag
  else n

/-- Steps 4 to 9 of R254 for a frame of the receive table. -/
def Lane.scheduledFrame (n : Lane) (l : LaneId) (f : RxFrame) : Lane :=
  let b := f.bytes
  let p := f.plane.idx
  let cv := n.main.canvas
  match cv.rxSlot p f.medium (frSlot b) with
  | none => n.countSlot
  | some e =>
    let pt := n.partner p (frSender b)
    let dev := f.arrive - (e.start : Int)
    let w : Int := (cv.winOf e : Nat)
    if e.peer ≠ frSender b ∨ (frPeer b ≠ cv.net.self ∧ frPeer b ≠ 4095) ∨ pt.silenced then n.countSlot
    else if frCycle b ≠ n.main.time.round then n.countSlot
    else if w < dev.natAbs then n.frameLate l p (frSender b)
    else
      match n.rxKey p b with
      | none => n.countTag
      | some k =>
        if ¬ (pt.joined ∧ tagRight k b) then n.countTag
        else if n.main.net.rx.any (fun x => x.plane = p && x.slot = frSlot b) then n.countSlot
        else n.acceptFrame l f dev (decide (w < 2 * dev.natAbs))

/-- The cycles a time master change, a contention or a loss of beacons leaves in RECOVERY (R263). -/
def recovery : Nat := 16

/-- Bytes 0-3 of the SHA-256 over the slot entries of the SLOTS section (R262). -/
def Canvas.sched (cv : Canvas) : Bytes := (shaBytes (slice (cv.sect 11) 64 (16 * cv.slots.length))).take 4

/-- A beacon followed, as step 1 of R270 observes it: two in succession of one master and of the lane's own schedule, 400 µs apart within 1 µs,
are one full valid cycle. The arrival is held against the lane's uncorrected time. -/
def Net.observe (m : Net) (sched : Bytes) (phase : Int) (f : RxFrame) : Net :=
  let b := f.bytes
  let who := u16At (frPayload b) 0 % 4096
  let at' := phase + f.arrive
  let full : Bool := slice (frPayload b) 4 4 = sched
  if m.heard then m
  else { m with
    observed := full && (match m.seenBcn with
      | some (w, c, a) => decide (w = who ∧ (c + 1) % 16777216 = frCycle b) && decide ((at' - a).natAbs ≤ 1000)
      | none => false)
    seenBcn := if full then some (who, frCycle b, at') else none }

/-- A master is followed (R268, R269, R274): its beacon taken as the cycle start of this round, on the lowest-lettered plane. The path delay
of another master is not known (R271). -/
def Lane.follow (n : Lane) (l : LaneId) (f : RxFrame) : Lane :=
  let b := f.bytes
  let m := n.main.net
  let who := u16At (frPayload b) 0 % 4096
  if n.state = .voting ∧ frCycle b ≠ n.main.time.round then
    (n.onNet (fun m => { m with foreign := satAdd 16 m.foreign 1 })).event l 10
  else
    let first : Bool := !m.heard || decide (f.plane.idx < m.heardPlane)
    let delay : Int := if m.role = 2 ∧ m.master = who then m.delay else 0
    let n := n.onNet (fun m => m.observe n.main.canvas.sched n.main.time.phase f)
    n.onNet (fun m => { m with
      delay := delay, clash := false
      recov := if m.role = 2 ∧ m.master ≠ who then recovery else m.recov
      role := 2, master := who, heard := true, bmiss := 0, mvalid := true, listening := false
      heardPlane := if first then f.plane.idx else m.heardPlane
      mofs := if first then f.arrive - delay else m.mofs
      mcycle := if first then frCycle b else m.mcycle
      relay := if first then frPayload b else m.relay
      epoch := frKeyep b })

/-- A foreign beacon in the contention window (R269). A lane that has met a node of its own RANK and ID is no master before it follows another. -/
def Lane.contend (n : Lane) (l : LaneId) (f : RxFrame) : Lane :=
  let pay := frPayload f.bytes
  let who := u16At pay 0 % 4096
  let rank := byteAt pay 2
  let cv := n.main.canvas.net
  let n := n.onNet (fun m => { m with recov := recovery })
  if rank = cv.rank ∧ who = cv.self then
    (n.onNet (fun m => { m with role := 0, listening := true, master := 0, beaconAt := none, clash := true })).event l 9
  else if cv.rank < rank ∨ (cv.rank = rank ∧ cv.self < who) then
    n.onNet (fun m => { m with role := 3, master := who, beaconAt := none })
  else n

/-- Whether a lane may beacon of its own (R268, R269, R353). -/
def Lane.mayBeacon (n : Lane) (keyRec : Nat) : Bool :=
  n.main.canvas.net.mcap && !n.main.net.mcapOff && !n.main.net.clash && decide (keyRec ≠ 0xFFFF)

/-- A valid beacon in lane l (R268, R269, R274). It counts as heard 3 µs after its arrival (R262). A master's own beacon that a follower
relays is no foreign one. DEDUCED (log entry 138): a beacon with SENDER = SELF on the plane the lane itself beacons on is another node's, and contends. -/
def Lane.beaconHeard (n : Lane) (l : LaneId) (f : RxFrame) : Lane :=
  let b := f.bytes
  let m := n.main.net
  let self := n.main.canvas.net.self
  let who := u16At (frPayload b) 0 % 4096
  let foreignSeen := fun (n : Lane) => (n.onNet (fun m => { m with foreign := satAdd 16 m.foreign 1 })).event l 10
  if m.listening then
    if who = self then
      if m.clash ∨ m.mcapOff ∨ ¬ n.main.canvas.net.mcap then n
      else n.onNet (fun m => { m with listening := false, startBeacon := true, heardSelf := true, epoch := frKeyep b })
    else n.follow l f
  else if (frSender b = self ∧ ¬ (f.plane = l ∧ (m.role = 1 ∨ m.startBeacon))) ∨ (m.role = 1 ∧ who = self ∧ frSender b ≠ self) then n
  else if m.role = 1 ∨ m.startBeacon then
    if m.beaconAt.isSome ∧ 0 ≤ f.arrive + 3000 ∧ f.arrive + 3000 ≤ 24000 then n.contend l f else foreignSeen n
  else if m.role = 2 ∧ who ≠ m.master ∧ m.bmiss = 0 then foreignSeen n
  else if m.role = 2 ∨ m.role = 3 then n.follow l f
  else n

/-- The Polvin core records the highest epoch used or heard (R353); the current one is that in use. -/
def State.noteEpoch (s : State) (e : Nat) (used : Bool := true) : State :=
  if s.polvin.dom = .on then
    { s with polvin := { s.polvin with keyRec := max s.polvin.keyRec e, keyEpoch := if used then e else s.polvin.keyEpoch } }
  else s

/-- A beacon arrives in lane l (R262). -/
def State.beacon (s : State) (l : LaneId) (f : RxFrame) : State :=
  let n := s.lanes.get l
  let b := f.bytes
  if ¬ n.frameSound f ∨ frFlags b ≠ 2 ∨ frLen b ≠ 16 then s.setLane l n.countBad
  else if ¬ tagRight (n.main.net.bk.map (fun k => beaconKey k (frKeyep b))) b then s.setLane l n.countTag
  else
    let n := n.beaconHeard l f
    (s.setLane l n).noteEpoch (frKeyep b) (n.main.net.epoch = frKeyep b)

/-- An exchange abandoned (R347, R348): where its authentication failed, MSG1 is taken again after 16 cycles. -/
def Lane.abandon (n : Lane) (l : LaneId) (peer : Nat) (auth : Bool) : Lane :=
  let n := n.putJoin peer none
  if auth then
    (n.putPartner l.idx peer { n.partner l.idx peer with retryAt := (n.main.time.round + 16) % 16777216 }).event l 13
  else n

/-- The exchanges of a lane for which the Polvin core draws or has drawn MSG2 (R348). -/
def Lane.msg2Peers (n : Lane) : List Nat := (n.main.net.joins.filter (fun e => e.2.stage = 2 ∨ e.2.stage = 5)).map (fun e => e.1)

/-- The random source failed (R367, TRNG_FAIL): a NEWCHAL in progress ends with RESULT STATE and no challenge, and the joins at MSG2 are
abandoned. -/
def State.randomFailed (s : State) : State :=
  let s := match s.polvin.cmd with
    | some (0, 0, w) => { s with polvin := { s.polvin with cmd := some (0, 1, w), chal := none } }
    | _ => s
  allLanes.foldl (fun s l => (s.lanes.get l).msg2Peers.foldl (fun s p => s.setLane l ((s.lanes.get l).abandon l p false)) s) s

/-- A lockout that a forced LOCKOUT starts (R345, R375): it is not entered in the log. -/
def Polvin.forcedLockout (p : Polvin) : Polvin :=
  let m := if p.lockMin = 0 then 1 else min 1024 (2 * p.lockMin)
  { p with locked := true, lockMin := m, lockLeft := m * 1200000 }

/-- A forced occurrence of a Polvin source with its reaction at every occurrence (R367, R375): a failure counted, a lockout started, the command
in progress refused with LOG, no random value drawn. -/
def State.forcePolvin (s : State) (n : Nat) : State :=
  if s.polvin.evt.had n true then s
  else if n = 0 then s.passFail true
  else
    let s := s.polvinEvent n true
    if n = 1 then { s with polvin := s.polvin.forcedLockout }
    else if n = 5 then
      match s.polvin.cmd with
      | some (b, 0, w) => { s with polvin := { s.polvin with cmd := some (b, 11, w) } }
      | _ => s
    else if n = 6 then s.randomFailed
    else s

/-- MSG2 (R347): the message, T3 and Z of an exchange, from MSG1, the ephemeral key and the value drawn for its signature, plane and SELF. -/
def msg2Of (p : Polvin) (msg1 : Bytes) (eph draw : BitVec 512) (plane self : Nat) : Bytes × Bytes × BitVec 256 :=
  let ephC := publicOf eph
  let dcert := p.dcert.getD (zeros 64)
  let t2 := shaBytes (msg1 ++ ephC ++ p.devPub ++ dcert ++ leBytes 1 plane ++ leBytes 2 self)
  let sig := ecdsaSign p.devKey (sha256 t2) draw
  (ephC ++ p.devPub ++ dcert ++ sig, shaBytes (t2 ++ sig), ecdh eph (slice msg1 0 64))

/-- The keys of an exchange (R348): K and KW. -/
def joinKeys (t3 : Bytes) (z : BitVec 256) (plane : Nat) : BitVec 128 × BitVec 128 :=
  let okm := bytes256 (hkdf32 t3 z (ascii "KT3128 KEYS" ++ leBytes 1 plane))
  (key128 okm, key128 (okm.drop 16))

/-- Whether the certificate of MSG1 and the signature of MSG3 are right (R347, R348). `checkCert`: an UNOWNED module's session
leaves the certificate unchecked (R339). -/
def joinAuth (p : Polvin) (checkCert : Bool) (msg1 t3 msg3 : Bytes) (ident : Nat) : Bool :=
  let cert := slice msg1 64 132
  let spub := slice cert 4 64
  (!checkCert || (match p.ipub with
    | some k => verifyMsg k (ascii "KT3128 PCERT" ++ leBytes 2 (u16At cert 0) ++ spub) (slice cert 68 64)
    | none => false)) &&
    decide (u16At cert 0 % 4096 = ident) && verifyMsg spub t3 (slice msg3 0 64)

/-- Whether a partner has a MEAS, SET or ACT slot on a plane (R272, R389). -/
def Lane.carries (n : Lane) (plane ident : Nat) : Bool :=
  n.main.canvas.slots.any (fun e =>
    e.plane = plane && e.peer = ident && (decide (e.kind = 1) || decide (e.kind = 2) || decide (e.kind = 7)))

/-- The exchanges whose MSG1 is whole and waits for the Polvin core (R272), by lane and partner. -/
def State.waitingJoins (s : State) : List (LaneId × Nat) :=
  allLanes.flatMap (fun l => ((s.lanes.get l).main.net.joins.filter (fun e => e.2.stage = 5)).map (fun e => (l, e.1)))

/-- The place of a waiting exchange in the order of R272: partners with MEAS, SET or ACT slots first, rising ID in each group. -/
def State.joinPlace (s : State) (w : LaneId × Nat) : Nat := (if (s.lanes.get w.1).carries w.1.idx w.2 then 0 else 4096) + w.2

/-- The exchange served next (R272); of one partner's on several planes that of the lowest-lettered plane (log entry 97). -/
def State.nextJoin (s : State) : Option (LaneId × Nat) :=
  s.waitingJoins.foldl (fun b w => match b with
    | none => some w
    | some x => if s.joinPlace w < s.joinPlace x then some w else some x) none

/-- The Polvin core prepares MSG2 of the exchange served next (R272, R347), and is free for another after 5 ms (log entry 97). -/
def State.serveJoin (s : State) : State :=
  match s.nextJoin with
  | some (l, peer) =>
    match (s.lanes.get l).join peer with
    | some j =>
      if s.polvin.dom = .on ∧ s.polvin.joinGap = 0 then
        let d := s.draw
        let e := d.2.draw
        let n := e.2.lanes.get l
        let x := msg2Of s.polvin j.got d.1 e.1 l.idx n.main.canvas.net.self
        let s := e.2.setLane l (n.putJoin peer (some { j with stage := 2, got := [], out := x.1, msg1 := j.got, t := x.2.1, z := x.2.2 }))
        { s with polvin := { s.polvin with joinGap := 100 } }
      else s
    | none => s
  | none => s

/-- A tick of the exchanges that wait (R272, R350): the lead lane's times the Polvin core; a core that is lost ends those of the lane. -/
def State.joinTick (s : State) (l : LaneId) : State :=
  if s.polvin.dom ≠ .on then
    s.setLane l (((s.waitingJoins.filter (fun w => w.1 = l)).map (fun w => w.2)).foldl (fun n p => (n.abandon l p false).event l 19) (s.lanes.get l))
  else if s.leadLane = some l then ({ s with polvin := { s.polvin with joinGap := s.polvin.joinGap - 1 } }).serveJoin
  else s

/-- MSG1 whole (R272, R347, R350): it waits for the Polvin core, or the exchange ends where the core does not answer. -/
def State.joinMsg1Whole (s : State) (l : LaneId) (peer : Nat) (msg : Bytes) (dev : Int) : State :=
  if s.polvin.dom ≠ .on then s.setLane l (((s.lanes.get l).abandon l peer false).event l 19)
  else (s.setLane l ((s.lanes.get l).putJoin peer (some ⟨peer, 5, msg, [], dev, [], [], 0, none, 0⟩))).serveJoin

/-- MSG3 whole (R348): keys derived and MSG4 due, or JOIN_AUTH. -/
def State.joinMsg3Whole (s : State) (l : LaneId) (j : Join) (msg : Bytes) : State :=
  let n := s.lanes.get l
  if s.polvin.dom ≠ .on then s.setLane l ((n.abandon l j.peer false).event l 19)
  else if joinAuth s.polvin true j.msg1 j.t msg j.peer then
    let k := joinKeys j.t j.z l.idx
    s.setLane l (n.putJoin j.peer (some { j with stage := 4, got := [], out := [], key := some k.1, kw := k.2 }))
  else s.setLane l (n.abandon l j.peer true)

/-- The message a stage of an exchange takes from the partner: MSG1 in 1, MSG3 in 3; as a follower MSG2 in 12, MSG4 in 14. -/
def stageMsg (stage : Nat) : Nat := if stage = 1 then 1 else if stage = 3 then 3 else if stage = 12 then 2 else if stage = 14 then 4 else 0

/-- Whether step 2 of R389 leaves a partner's JOIN unanswered: it has no MEAS, SET or ACT slot. -/
def Lane.shedJoin (n : Lane) (plane ident : Nat) : Bool :=
  n.aon.pwr.step2 && !n.carries plane ident

/-- A fragment of a join exchange taken by lane l (R270, R347). -/
def State.joinFragment (s : State) (l : LaneId) (peer : Nat) (pay : Bytes) (dev : Int) : State :=
  let n := s.lanes.get l
  let msg := byteAt pay 4
  let part := pay.drop 8
  let start : Join := ⟨peer, 1, [], [], dev, [], [], 0, none, 0⟩
  let j := match n.join peer with | some j => j | none => start
  if stageMsg j.stage ≠ msg ∨ u16At pay 6 ≠ joinLen msg ∨ byteAt pay 5 * part.length ≠ j.got.length then
    (match n.join peer with | some _ => s.setLane l (n.abandon l peer false) | none => s)
  else
    let got := (j.got ++ part).take (joinLen msg)
    let j := { j with got := got, dev := dev }
    if got.length < joinLen msg then s.setLane l (n.putJoin peer (some j))
    else if msg = 1 then s.joinMsg1Whole l peer got dev
    else if msg = 3 then s.joinMsg3Whole l j got
    else s.setLane l (n.putJoin peer (some j))

/-- A JOIN frame in lane l (R270): on its own plane, in the first slot of the partner's, within 8 µs; DEV of a master's answer to the first
JOIN, MSG2, gives the path delay (R271). -/
def State.joinFrame (s : State) (l : LaneId) (f : RxFrame) : State :=
  let n := s.lanes.get l
  let b := f.bytes
  let p := f.plane.idx
  let who := frSender b
  if ¬ n.frameSound f then s.setLane l n.countBad
  else if f.plane ≠ l ∨ frFlags b ≠ 4 then s
  else
    match n.main.canvas.rxSlot p f.medium (frSlot b) with
    | none => s
    | some e =>
      let dev := f.arrive - (e.start : Int)
      let pt := n.partner p who
      let silencedNow : Bool := pt.silenced && pt.syncs.getLast? == some n.main.time.round
      let soon : Bool := decide ((n.join who).isNone) && decide (0 < roundsSince n.main.time.round pt.retryAt) &&
        decide (roundsSince n.main.time.round pt.retryAt ≤ 16)
      if n.main.canvas.firstSlot false p who ≠ some e ∨ 8000 < dev.natAbs ∨ silencedNow ∨ soon ∨ n.shedJoin p who then s
      else
        let s := if n.main.net.role = 2 ∧ who = n.main.net.master ∧ byteAt (frPayload b) 4 = 2 then
            s.setLane l (n.onNet (fun m => { m with delay := divTrunc (i32At (frPayload b) 0) 2 }))
          else s
        s.joinFragment l who (frPayload b) dev

/-- A frame reaches lane l (R254): beacons and JOIN frames by their own rules. -/
def State.frameIn (s : State) (l : LaneId) (f : RxFrame) : State :=
  let n := s.lanes.get l
  let b := f.bytes
  if frFlags b = 2 then s.beacon l f
  else if frFlags b = 4 then s.joinFrame l f
  else if ¬ n.frameSound f then s.setLane l n.countBad
  else if frSender b = n.main.canvas.net.self then s.setLane l (n.ownStatus l f)
  else s.setLane l (n.scheduledFrame l f)

/-- A frame on the service port in lane l (R249, R254, R280, R338): the session rules stand in place of steps 4 to 6 of R254. A MSG1 is SESSION_OPEN, and
ignored while a session is open; without a session no other frame is one of it. Its request is SERVICE_REQUEST; its payload lands in the port's receive FIFO (log entry 125). Without a canvas ETYPE is its
default. -/
def State.portFrame (s : State) (l : LaneId) (f : RxFrame) : State :=
  let n := s.lanes.get l
  let b := f.bytes
  let c := n.main.canvas.net
  let sound : Bool := f.fcsOk && decide (frDest b = macOf 0 c.self ∨ frDest b = groupMac 0) && decide (frType b = if c.etype = 0 then 0x88B5 else c.etype) &&
    decide (frVersion b = 1) && decide (frPlane b = 0) && decide (frFlags b = 8) && decide (b.length = max 60 (38 + frLen b)) &&
    decide (frLen b ≤ 1440)
  let fresh : Bool := match s.port.rxCtr.get l with | some k => decide (k < frCycle b) | none => true
  if ¬ sound then s.setLane l n.countBad
  else if frSlot b = 0 ∧ byteAt (frPayload b) 4 = 1 then s
  else if ¬ s.port.up ∨ frSlot b ≠ 1 ∨ s.port.peer ≠ some (frSender b) ∨ frPeer b ≠ c.self ∨ ¬ fresh then s.setLane l n.countSlot
  else if frKeyep b ≠ 0 ∨ ¬ tagRight (some s.port.key) b then s.setLane l n.countTag
  else
    let n := n.onNet (fun m => { m with accept := satAdd 16 m.accept 1 })
    let s := s.setLane l ((n.onDma (fun d => if procLane l then { d with svcRx := d.svcRx ++ frPayload b } else d)).raiseLine l 66)
    { s with port := { s.port with idle := 0, rxCtr := s.port.rxCtr.set l (some (frCycle b)) } }

/-- FRAME_RECEIVE (R254); medium 9 is the service port. -/
def execFrameReceive (l : LaneId) (f : RxFrame) (s : State) : Host.Outcome State Fault Refusal :=
  .next (if f.medium = 9 then
    (if (s.lanes.get l).awake ∧ s.portLive then s.portFrame l f else s)
  else if s.receives l f then s.frameIn l f else s)

/-- BEACON_RECEIVE (R262). -/
def execBeaconReceive (l : LaneId) (f : RxFrame) (s : State) : Host.Outcome State Fault Refusal :=
  .next (if s.receives l f then s.beacon l f else s)

/-- JOIN_MSG1 (R347): a fragment of MSG1. -/
def execJoinMsg1 (l : LaneId) (f : RxFrame) (s : State) : Host.Outcome State Fault Refusal :=
  .next (if s.receives l f ∧ byteAt (frPayload f.bytes) 4 = 1 then s.joinFrame l f else s)

/-- JOIN_MSG3 (R348): a fragment of MSG3. -/
def execJoinMsg3 (l : LaneId) (f : RxFrame) (s : State) : Host.Outcome State Fault Refusal :=
  .next (if s.receives l f ∧ byteAt (frPayload f.bytes) 4 = 3 then s.joinFrame l f else s)

/-- JOIN_MSG2 (R349): a follower checks the master's MSG2; DEVPUB must be vouched for by DCERT under the integrator key. MSG3 is due,
its signature a free value (log entry 21). -/
def execJoinMsg2 (l : LaneId) (peer : Nat) (s : State) : Host.Outcome State Fault Refusal :=
  let n := s.lanes.get l
  match n.join peer with
  | none => .next s
  | some j =>
    if ¬ (n.computing ∧ j.stage = 12 ∧ j.got.length = 256) then .next s
    else
      let devpub := slice j.got 64 64
      let dcert := slice j.got 128 64
      let t2 := shaBytes (j.msg1 ++ j.got.take 192 ++ leBytes 1 l.idx ++ leBytes 2 peer)
      let ok : Bool := verifyMsg devpub t2 (slice j.got 192 64) &&
        (match s.polvin.ipub with | some k => verifyMsg k (ascii "KT3128 DEVCERT" ++ devpub) dcert | none => false)
      if ok ∧ s.polvin.dom = .on then
        let d := s.draw
        let z := ecdh (BitVec.ofNat 512 (leNat j.t)) (slice j.got 0 64)
        let t3 := shaBytes (t2 ++ slice j.got 192 64)
        let k := joinKeys t3 z l.idx
        .next (d.2.setLane l (n.putJoin peer (some { j with
          stage := 13, got := [], out := beBytes 64 d.1.toNat, t := t3, z := z, key := some k.1, kw := k.2 })))
      else .next (s.setLane l (n.abandon l peer false))

/-- The Polvin core hands the key of a partner to every running lane (R350), and keeps it with the epoch it serves. -/
def State.handKey (s : State) (plane peer : Nat) (k : BitVec 128) (epoch joinAt : Nat) : State :=
  { s with
    polvin := if s.polvin.dom = .on then { s.polvin with pkeys := assocPut s.polvin.pkeys (slotKey plane peer) k, pkEpoch := epoch } else s.polvin
    lanes := s.lanes.map (fun n =>
      if n.awake then
        let p := (assocGet n.main.net.partners (slotKey plane peer)).getD {}
        n.onNet (fun m => { m with
          keys := assocPut m.keys (slotKey plane peer) k
          partners := assocPut m.partners (slotKey plane peer)
            { p with joinAt := some joinAt, silenced := false, late := [], syncs := [], resyncDue := false } })
      else n) }

/-- The Polvin core hands the group key of a plane to every running lane (R350, R352). -/
def State.giveGroup (s : State) (plane : Nat) (k : BitVec 128) : State :=
  { s with polvin := { s.polvin with pgk := assocPut s.polvin.pgk plane k }
           lanes := s.lanes.map (fun n => if n.awake then n.onNet (fun m => { m with gk := assocPut m.gk plane k }) else n) }

/-- The next key of a chain (R351). -/
def nextKey (k : BitVec 128) : BitVec 128 := hkdf16 k (ascii "KT3128 NEXT")

/-- JOIN_MSG4 (R348, R351, R352): a follower takes the group key and the epoch of its master. K and GK are keys of the epoch MSG4 names: where the
epoch in use is one further, they advance to it. -/
def execJoinMsg4 (l : LaneId) (peer : Nat) (s : State) : Host.Outcome State Fault Refusal :=
  let n := s.lanes.get l
  match n.join peer with
  | none => .next s
  | some j =>
    if ¬ (n.computing ∧ j.stage = 14 ∧ j.got.length = 36) then .next s
    else
      match gcmUnwrap j.kw j.t (slice j.got 4 32), j.key with
      | some g, some k =>
        let on : Bool := decide (u16At j.got 0 + 1 = n.main.net.epoch)
        let e := if on then n.main.net.epoch else u16At j.got 0
        let g := if on then nextKey g else g
        let k := if on then nextKey k else k
        let s := s.setLane l (n.putJoin peer none)
        let s := (s.giveGroup l.idx g)
        let s := { s with lanes := s.lanes.map (fun n => if n.awake then n.onNet (fun m => { m with epoch := e }) else n) }
        .next ((s.handKey l.idx peer k e ((n.main.time.round + 1) % 16777216)).noteEpoch e)
      | _, _ => .next (s.setLane l (n.abandon l peer false))

/-- LISTEN_EXPIRY (R268, R353): nothing heard, and the controller may be master. -/
def execListenExpiry (l : LaneId) (s : State) : Host.Outcome State Fault Refusal :=
  .next (s.onLane l (fun n => n.computing && n.main.net.listening && !n.main.net.heard && n.mayBeacon s.polvin.keyRec)
    (fun n => n.onNet (fun m => { m with listening := false, startBeacon := true, heardSelf := false })))

/-- BEACON_LOST (R275, R353): a follower after 8 cycles without a valid beacon. -/
def execBeaconLost (l : LaneId) (s : State) : Host.Outcome State Fault Refusal :=
  .next (s.onLane l (fun n => n.computing && decide (n.main.net.role = 2 ∨ n.main.net.role = 3) && decide (8 ≤ n.main.net.bmiss))
    (fun n =>
      (n.onNet (fun m => { m with recov := recovery, startBeacon := n.mayBeacon s.polvin.keyRec, heardSelf := true })).event l 11))

/-- The keys of a lane advance by one epoch (R351, R353); that of an exchange is the key at the epoch its MSG4 names (R348), and advances once MSG4 has
begun. At epoch 0xFFFF a master stops beaconing and acts as with MCAP 0x00. -/
def Lane.advanceKeys (n : Lane) : Lane :=
  n.onNet (fun m =>
    if m.epoch = 0xFFFF then
      { m with role := if m.role = 1 then 0 else m.role, listening := m.listening || decide (m.role = 1), startBeacon := false,
               mcapOff := true }
    else { m with
      oldKeys := m.keys, oldGk := m.gk, oldUntil := some ((n.main.time.round + 16) % 16777216)
      keys := m.keys.map (fun e => (e.1, nextKey e.2)), gk := m.gk.map (fun e => (e.1, nextKey e.2)), epoch := m.epoch + 1
      joins := m.joins.map (fun e => (e.1, if e.2.stage = 4 ∧ e.2.out ≠ [] then { e.2 with key := e.2.key.map nextKey } else e.2)) })

/-- The keys the Polvin core keeps advance with those of the lanes (R351). -/
def Polvin.advanceKeys (p : Polvin) : Polvin :=
  if p.dom = .on ∧ p.pkEpoch ≠ 0xFFFF then
    { p with pkeys := p.pkeys.map (fun e => (e.1, nextKey e.2)), pgk := p.pgk.map (fun e => (e.1, nextKey e.2)), pkEpoch := p.pkEpoch + 1 }
  else p

/-- KEY_EPOCH_ADVANCE (R351, R353): in every running lane, at the start of the cycle 0xFF_FF00. -/
def execKeyEpochAdvance (s : State) : Host.Outcome State Fault Refusal :=
  let t := { s with lanes := s.lanes.map (fun n =>
    if n.awake ∧ n.main.time.round = 0xFFFF00 then n.advanceKeys else n) }
  .next (match t.leadLane with
    | some l => if (t.lanes.get l).main.time.round = 0xFFFF00 then
        ({ t with polvin := t.polvin.advanceKeys }).noteEpoch (t.lanes.get l).main.net.epoch else t
    | none => t)

/-- CYCLE_POINT (R264): an enabled point outside NORMAL, in a PHASE it names. -/
def execCyclePoint (l : LaneId) (k : Nat) (s : State) : Host.Outcome State Fault Refusal :=
  .next (s.onLane l (fun n =>
      let v := n.main.net.cps.getD k 0
      n.computing && decide (k < 8) && v.testBit 19 && decide (n.main.net.phase ≠ 0) && v.testBit (19 + n.main.net.phase))
    (fun n => (n.onNet (fun m => { m with cpev := setBit m.cpev k, cpNow := setBit m.cpNow k })).event l 12))

/-- ACCEPTANCE_WINDOW_CLOSE (R261, R291): a receive slot, given as 4096 × plane + slot, closes without an accepted frame. -/
def execAcceptanceWindowClose (l : LaneId) (slot : Nat) (s : State) : Host.Outcome State Fault Refusal :=
  .next (s.onLane l Lane.computing (fun n =>
    let p := slot / 4096
    let k := slot % 4096
    match n.main.canvas.slots.find? (fun e => !e.tx && e.plane = p && e.slot = k) with
    | none => n
    | some e =>
      if n.main.net.rx.any (fun x => x.plane = p && x.slot = k) then n
      else
        let pt := n.partner p e.peer
        (n.putPartner p e.peer { pt with gap := pt.gap || !pt.heard }).watchSlot l p k))

/-- TRUNK_LINK (R2, R282, R418): the trunk, or a segment the plane has; a segment without a SLOTS entry is held in high impedance. -/
def execTrunkLink (l : LaneId) (medium : Nat) (up : Bool) (s : State) : Host.Outcome State Fault Refusal :=
  .next (s.onLane l (fun n => n.awake && decide (n.aon.pwr.phy = .on)) (fun n => n.onNet (fun m =>
    if medium = 0 then { m with trunkUp := up }
    else if medium ≤ planeSegs l ∧ n.main.canvas.slots.any (fun e => e.plane = l.idx && e.medium = medium) then { m with segUp := if up then setBit m.segUp (medium - 1) else clearBit m.segUp (medium - 1) }
    else m)))

end Sys2Proof.Machine
end

