-- ==== Sys2Proof/Machine/LoaderCtl.lean ====
section
/-!
DEFINITION. The pending image and its registers in a lane (R98-R100, R106, R346), and the clearing and forcing of a lane's events
(R324, R369, R375).
-/
namespace Sys2Proof.Machine
open Sys2Proof

/-- The loader of a lane changed. -/
def Lane.onLoader (n : Lane) (f : Loader → Loader) : Lane := { n with loader := f n.loader }

/-- The pending image: the slot that is not active. -/
def Loader.pending (d : Loader) : Bytes := if d.aslot = 0 then d.slots.2 else d.slots.1

/-- The active image. -/
def Loader.active (d : Loader) : Bytes := if d.aslot = 0 then d.slots.1 else d.slots.2

/-- The pending image replaced. -/
def Loader.setPending (d : Loader) (b : Bytes) : Loader :=
  { d with slots := if d.aslot = 0 then (d.slots.1, b) else (b, d.slots.2) }

/-- START (R98, R105): a check is abandoned and the slot erased. BUSY while COMMITTED. STATE reads EMPTY, and CHECK does nothing, until the
slot is erased (log entry 93). -/
def Loader.begin (d : Loader) : Loader :=
  if d.state = .committed then d else { d with state := .empty, erasing := true, phash := zeros 32 }

/-- The slot of the pending image. -/
def Loader.pslot (d : Loader) : Nat := if d.aslot = 0 then 1 else 0

/-- The erasure completes (R98). -/
def Loader.erased (d : Loader) (l : LaneId) : Loader :=
  if d.erasing then
    { (d.setPending []).renew l (.image d.pslot) with erasing := false, torn := false, state := .receiving, phash := zeros 32 }
  else d

/-- CHECK (R98): the pending image is being checked. BUSY while COMMITTED. -/
def Loader.startCheck (d : Loader) : Loader :=
  if d.state = .committed ∨ d.erasing then d else { d with state := .checking }

/-- ABORT (R106). -/
def Loader.abort (d : Loader) : Loader :=
  if d.state = .committed then d else { d.setPending [] with state := .empty, erasing := false, torn := false, phash := zeros 32 }

/-- A word written to CNV_WIN (R98, R106): accepted only in RECEIVING; page and offset within the mapped page. Bytes of
the erased slot that nothing has written read as 0 (log entry 114). -/
def Loader.window (d : Loader) (offset : Nat) (value : Nat) : Loader :=
  if d.state = .receiving then d.setPending (putBytes d.pending (4096 * d.wbase + offset) (leBytes 4 value)) else d

/-- Whether canvas writes are open in a lane (R98, R346): mode, varnish; a status of R410 otherwise. -/
def State.cnvGate (s : State) (l : LaneId) : Nat :=
  let m := (s.lanes.get l).main.mode.mode
  if s.polvin.ipub.isNone then 1
  else if m ≠ .service ∧ m ≠ .sketch then 6
  else if s.polvin.varnish ∧ ¬ s.polvin.unlocked then 7
  else 0

/-- A lane that takes writes to its CNV_ block and commits: awake and not restarting (R98, R105). -/
def Lane.takesCanvas (n : Lane) : Bool := n.awake && decide (n.state ≠ .retrying)

/-- The R89 code a refused transfer or commit leaves in CNV_STATUS, by its reply status (R89, R98, R99). -/
def refusalCode (st : Nat) : Option Nat :=
  if st = 6 then some 0x32 else if st = 7 then some 6 else if st % 256 = 8 then some (st / 65536) else none

/-- A transfer or a commit refused in a lane. -/
def Lane.cnvRefused (n : Lane) (st : Nat) : Lane :=
  match refusalCode st with
  | some c => n.onLoader (fun d => { d with code := c })
  | none => n

/-- A change of a lane's pending image where the gate of R98 is open; where it is not, the refusal's code. -/
def State.cnvDo (s : State) (l : LaneId) (f : Lane → Lane) : State :=
  let n := s.lanes.get l
  if n.takesCanvas then s.setLane l (if s.cnvGate l = 0 then f n else n.cnvRefused (s.cnvGate l)) else s

/-- The R89 code with which a lane refuses a commit (R99); 0 when it accepts it. -/
def Loader.commitCode (d : Loader) (hash : Nat) : Nat :=
  if d.state ≠ .ready then 0x30 else if u16At d.phash 0 ≠ hash % 65536 then 0x31 else 0

/-- A lane rules on a commit (R99, R354, R355). -/
def State.commit (s : State) (l : LaneId) (w : Option Writer) (hash delay : Nat) (logOk : Bool) : State :=
  let n := s.lanes.get l
  let c := n.loader.commitCode hash
  if c ≠ 0 then s.setLane l (n.onLoader (fun d => { d with code := c }))
  else if delay < 16 ∨ 255 < delay then s
  else if ¬ logOk ∨ s.polvin.dom ≠ .on then
    { s.setLane l (n.onLoader (fun d => { d with code := 0x34 })) with
      polvin := { s.polvin with logBad := s.polvin.logBad || decide (s.polvin.dom = .on) } }
  else
    let t := (n.main.time.round + delay) % 16777216
    let s := s.setLane l (n.onLoader (fun d => { d with state := .committed, target := t, commit := some (d.phash, t), code := 0 }))
    ({ s with polvin := { s.polvin with logBad := false } }).logAs w 0x0C 0 t n.loader.phash

/-- The memory errors of a lane cleared (R324). -/
def MemRegs.cleared (g : MemRegs) : MemRegs := { g with sets := List.replicate 7 {} }

/-- A forced occurrence of a lane source (R375, R382): the reaction of a real one acts, once with a real one of the same boundary. -/
def Lane.force (n : Lane) (l : LaneId) (src : Nat) : Lane :=
  match evtDefault (laneKind l) src with
  | none => n
  | some _ =>
    if n.main.evt.had src true then n
    else
    let m := n.event l src true
    if src = 3 ∨ (15 ≤ src ∧ src ≤ 17) ∨ (128 ≤ src ∧ src ≤ 130) then m.selfFail src
    else if src ≤ 2 ∨ src = 131 then (if evtSevere m.main.evt src then m.askRetry src else m)
    else if src = 6 then
      let cuts := (m.main.net.cuts.filter (fun x => roundsSince x m.main.time.round < 256)) ++ [m.main.time.round]
      m.onNet (fun k => { k with cuts := cuts, silenced := k.silenced || decide (8 ≤ cuts.length) })
    else m

/-- START (R98). -/
def execStart (l : LaneId) (s : State) : Host.Outcome State Fault Refusal :=
  .next (s.cnvDo l (fun n => { n with loader := n.loader.begin, main := { n.main with service := { n.main.service with stream := none } } }))

/-- SLOT_ERASED (R98). -/
def execSlotErased (l : LaneId) (s : State) : Host.Outcome State Fault Refusal :=
  .next (s.onLane l Lane.awake (fun n => n.onLoader (fun d => d.erased l)))

/-- CNV_WIN_WRITE (R106). -/
def execCnvWinWrite (l : LaneId) (offset : Nat) (value : Word) (s : State) : Host.Outcome State Fault Refusal :=
  .next (if offset < 4096 ∧ offset % 4 = 0 then s.cnvDo l (fun n => n.onLoader (fun d => d.window offset value.toNat)) else s)

/-- CHECK (R98). -/
def execCheck (l : LaneId) (s : State) : Host.Outcome State Fault Refusal :=
  .next (s.cnvDo l (fun n =>
    { n with loader := n.loader.startCheck, main := { n.main with service := { n.main.service with stream := none } } }))

/-- LOAD_ABORT (R106). -/
def execLoadAbort (l : LaneId) (s : State) : Host.Outcome State Fault Refusal :=
  .next (s.cnvDo l (fun n => n.onLoader Loader.abort))

/-- CNV_CMT (R99). -/
def execCnvCmt (l : LaneId) (hash delay : Nat) (logOk : Bool) (s : State) : Host.Outcome State Fault Refusal :=
  .next (if (s.lanes.get l).takesCanvas ∧ s.cnvGate l = 0 then
    s.commit l ((s.lanes.get l).main.office.holder.map (s.pathOf l)) hash delay logOk else s.cnvDo l id)

/-- GO or ABORT on a shadow (R70-R72), ABORT winning; GO takes effect at the boundary `effect`. In the hand-over cycle the write sets STRADDLE, but
for an ABORT refused while PEND is 1. -/
def Shadow.commitBits (h : Shadow) (abort : Bool) (effect : Nat) (handOver : Bool) : Shadow :=
  if abort ∧ h.pend then h
  else
    let g := if abort then shadowAbort h else shadowGo h effect
    if handOver then g.straddled else g

/-- GO or ABORT in a lane (R71, R72): in the hand-over cycle a GO takes effect one boundary later. -/
def LaneMain.commitBits (m : LaneMain) (abort : Bool) : LaneMain :=
  { m with shadow := m.shadow.commitBits abort ((m.time.round + (if m.time.roundDue then 2 else 1)) % 16777216) m.time.roundDue }

/-- GO or ABORT in a unit (R71, R72), on the staging as its registers show it. -/
def UnitCommon.commitBits (c : UnitCommon) (abort : Bool) : UnitCommon :=
  { c.takenIn with shadow := c.takenIn.shadow.commitBits abort (if c.roundDue then 1 else 0) c.roundDue }

/-- GO (R70-R72). -/
def execGo (ag : Agent) (s : State) : Host.Outcome State Fault Refusal :=
  match ag with
  | .lane l => .next (s.onLane l Lane.computing (fun n => n.onMain (fun m => m.commitBits false)))
  | .unit u => .next (s.ifRuns u (fun s => s.setUnit u ((s.ucom.get u).commitBits false)))

/-- ABORT (R70-R72). -/
def execAbort (ag : Agent) (s : State) : Host.Outcome State Fault Refusal :=
  match ag with
  | .lane l => .next (s.onLane l Lane.computing (fun n => n.onMain (fun m => m.commitBits true)))
  | .unit u => .next (s.ifRuns u (fun s => s.setUnit u ((s.ucom.get u).commitBits true)))

/-- FORCE (R375). -/
def execForce (h : Holder) (src : Nat) (s : State) : Host.Outcome State Fault Refusal :=
  match h with
  | .lane l => .next (s.onLane l Lane.awake (fun n => n.force l src))
  | .unit u => .next (s.ifRuns u (fun s => s.forceUnit u src))
  | .polvin => .next (if s.polvin.dom = .on then s.forcePolvin src else s)

/-- SEVERE_CLEAR (R369). -/
def execSevereClear (h : Holder) (src : Nat) (s : State) : Host.Outcome State Fault Refusal :=
  match h with
  | .lane l => .next (s.onLane l Lane.awake (fun n => n.onMain (fun m => { m with evt := evtW1cSevere m.evt src })))
  | .unit u => .next (s.ifRuns u (fun s => s.setUnit u { s.ucom.get u with evt := evtW1cSevere (s.ucom.get u).evt src }))
  | .polvin => .next (if s.polvin.dom = .on then
      { s with polvin := { s.polvin with evt := evtW1cSevere s.polvin.evt src } } else s)

/-- CLRCE (R324): accepted only in SERVICE. -/
def execClrce (l : LaneId) (s : State) : Host.Outcome State Fault Refusal :=
  .next (s.onLane l (fun n => n.awake && decide (n.main.mode.mode = .service)) (fun n => n.onMem MemRegs.cleared))

/-- The windows of one source of a block closed where they have run out (R368). -/
def closeWindow (k : EvKind) (b : EvtBlock) (round src : Nat) : EvtBlock :=
  let c := evtCloseWindows k b round
  { b with counts := b.counts.map (fun e => if e.1 = src then ((c.counts.find? (fun x => x.1 = src)).getD e) else e) }

/-- WINDOW_EXPIRY (R368). -/
def execWindowExpiry (h : Holder) (src : Nat) (s : State) : Host.Outcome State Fault Refusal :=
  match h with
  | .lane l => .next (s.onLane l Lane.awake (fun n => n.onMain (fun m =>
      { m with evt := closeWindow (laneKind l) m.evt m.time.round src })))
  | .unit u => .next (s.ifRuns u (fun s =>
      let c := s.ucom.get u
      s.setUnit u { c with evt := closeWindow (unitKind u) c.evt c.round src }))
  | .polvin => .next (if s.polvin.dom = .on then
      { s with polvin := { s.polvin with evt := closeWindow .polvin s.polvin.evt s.polvinRound src } } else s)

end Sys2Proof.Machine
end

