-- ==== Sys2Proof/Machine/LaneRegs.lean ====
section
/-!
DEFINITION. The registers of a lane and of the Polvin core as a read returns them, the clearing of RC fields (R9, R73, R74, R106,
R184, R282, R327, R361, R383, R401, R413), and a write to a lane register as it takes effect.
-/
namespace Sys2Proof.Machine
open Sys2Proof

/-- TCK_ reads of a lane (R73). -/
def laneTckRead (n : Lane) (off : Nat) : Option Nat :=
  let t := n.main.time
  if off = 0 then some t.tick
  else if off = 4 then some (t.round + 16777216 * (t.tick % 8))
  else if off = 8 then some (ofSigned 16 t.median + 65536 * t.nrep + 1048576 * t.drift)
  else if off = 0xC then some (ofSigned 16 t.trim + 65536 * b2n t.limit + 131072 * b2n t.step)
  else if off = 0x10 then some (t.tmax + 65536 * t.rmax.was)
  else if off = 0x14 then some (commitRead n.main.shadow)
  else none

/-- LNK_ reads of a lane (R74). -/
def laneLnkRead (n : Lane) (off : Nat) : Option Nat :=
  if 0x100 ≤ off ∧ off < 0x128 then
    match UnitId.ofCode (4 + (off - 0x100) / 4) with
    | some u => some ((n.main.units.get u).crcerr + 65536 * (n.main.units.get u).late)
    | none => none
  else none

/-- STATE of CRS_PSTATn (R282). -/
def Lane.partnerState (n : Lane) (plane ident : Nat) : Nat :=
  if (n.main.canvas.partnersOn plane).contains ident then
    let p := n.partner plane ident
    if p.silenced then 3 else if p.joined then 2 else 1
  else 0

/-- CRS_ reads (R282). -/
def crsRead (n : Lane) (l : LaneId) (off : Nat) : Option Nat :=
  let m := n.main.net
  let c := n.main.canvas.net
  let r := n.main.time.round
  if off = 0 then some (m.role + 4 * m.phase + 16 * b2n m.trunkUp + 32 * (m.segUp % 256) + 65536 * m.master)
  else if off = 4 then some r
  else if off = 8 then some (ofSigned 16 (clampI (-32768) 32767 m.mofs) + 65536 * b2n m.mvalid)
  else if off = 0xC then some (c.self + 4096 * (c.rank % 64) + 262144 * b2n c.mcap + 524288 * (c.latch % 512))
  else if off = 0x10 then some (c.etype + 65536 * (c.wdef % 1024))
  else if off = 0x14 then some (m.accept + 65536 * m.late)
  else if off = 0x18 then some (m.bad + 65536 * m.slotErr)
  else if off = 0x1C then some m.tagErr
  else if off = 0x20 then some (m.nulls + 65536 * m.guard)
  else if off = 0x24 then some (m.bmiss + 256 * b2n m.silenced + 65536 * m.foreign)
  else if off = 0x28 then
    let ps := n.main.canvas.partnersOn l.idx
    some ((ps.filter (fun p => (n.partner l.idx p).joined)).length % 2048 + 65536 * (ps.length % 2048))
  else if 0x40 ≤ off ∧ off < 0x60 then some (m.cps.getD ((off - 0x40) / 4) 0)
  else if off = 0x60 then some m.cpev
  else if 0x1004 ≤ off ∧ off ≤ 0x1000 + 4 * 4094 then
    let p := (off - 0x1000) / 4
    let x := n.partner l.idx p
    some (n.partnerState l.idx p + 4 * b2n x.edge + 8 * b2n x.resyncLast +
      16 * (x.late.filter (fun y => roundsSince y r < 16)).length + 256 * (x.syncs.filter (fun y => roundsSince y r < 256)).length +
      65536 * x.miss.was)
  else none

/-- MEM_ reads (R327). -/
def memRead (n : Lane) (l : LaneId) (off : Nat) : Option Nat :=
  let g := n.aon.mem
  if off < 0x100 * memCount l then
    let s := g.sets.getD (off / 0x100) {}
    let o := off % 0x100
    if o = 0 then some (s.ce + 65536 * s.ue)
    else if o = 4 then some (s.ovf + 65536 * s.entries.length)
    else if o = 8 then some s.ueaddr
    else if 0x10 ≤ o ∧ o < 0x50 then
      let e := s.entries[(o - 0x10) / 8]?
      if o % 8 = 0 then some ((e.map (fun e => e.addr)).getD 0)
      else some ((e.map (fun e => e.hit + 65536 * (e.pos % 128) + 8388608 * b2n e.chk)).getD 0)
    else none
  else if off = 0x800 then some 0
  else if off = 0x804 then some (g.mirn + 65536 * g.sign.was)
  else if off = 0x808 then some (g.clean + 65536 * g.dirty)
  else if off = 0x80C then (if procLane l then some g.lastmm else none)
  else if off = 0x810 then (if procLane l then none else some (g.rbBlock + 256 * b2n g.rbFail + 65536 * g.rbPasses))
  else if off = 0x814 then (if procLane l then none else some g.rbFailBlock)
  else if off = 0x818 then (if procLane l then none else some g.eng)
  else none

/-- The entries to RETRYING within the last 60 s (R377). -/
def Aon.recent (a : Aon) : List Nat := a.restarts.filter (fun t => a.ms < t + 60000)

/-- EVT_ reads of a lane (R383). -/
def laneEvtRead (n : Lane) (l : LaneId) (off : Nat) : Option Nat :=
  if off = 0x90 then
    some (n.aon.recent.length + 4 * b2n n.aon.retired + 8 * b2n n.aon.pendrec + 65536 * n.aon.total)
  else if off = 0x94 then some (n.aon.causeSrc + 65536 * (n.aon.causeMs % 65536))
  else evtRead (laneKind l) { n.main.evt with first := n.aon.first } off

/-- Commander entry of a partner ID (R328). -/
def Canvas.cmdrIdx (cv : Canvas) (ident : Nat) : Option Nat := (List.range cv.cmdrs.length).find? (fun k => (cv.cmdrs[k]?.map (fun c => c.id)) = some ident)

/-- OWN_ reads (R361). -/
def ownRead (s : State) (n : Lane) (off : Nat) : Option Nat :=
  let o := n.main.office
  let cv := n.main.canvas
  if off = 0 then
    let h := o.holder.getD 0
    some (h + 4096 * (((o.holder.bind cv.cmdrIdx).getD 0) % 8) + 32768 * b2n o.holder.isNone + 65536 * cv.cmdrs.length +
      1048576 * b2n s.port.up)
  else if off = 4 then some (o.round + 16777216 * o.cause)
  else if 0x10 ≤ off ∧ off < 0x30 then
    let k := (off - 0x10) / 4
    match cv.cmdrs[k]? with
    | none => some 0
    | some c =>
      let x := o.cmdrs.getD k {}
      some (c.id + 4096 * c.prio + 32768 * b2n c.svcok + 65536 * b2n x.present + 131072 * b2n x.claim + 262144 * min x.miss 7)
  else if off = 0x30 then some (65536 * (o.spsucc % 4096))
  else if off = 0x34 then some (o.changes.was + 65536 * o.refused.was)
  else none

/-- The code of CNV_STATUS.STATE (R106). -/
def cnvCode : CnvState → Nat
  | .empty => 0 | .receiving => 1 | .checking => 2 | .translating => 3 | .ready => 4 | .refused => 5 | .committed => 6

/-- CNV_ reads of a lane (R106). -/
def cnvRead (n : Lane) (l : LaneId) (off : Nat) : Option Nat :=
  let d := n.loader
  if off = 0 then
    some (cnvCode d.state + 256 * d.code + 65536 * d.aslot + 131072 * b2n d.asigned + 262144 * b2n (d.acached && procLane l) +
      524288 * b2n d.behind)
  else if off = 4 then some (d.errSect + 256 * d.errOfs)
  else if off = 8 then some d.errArg
  else if off = 0xC then some (d.errSecond + 256 * d.errFirst)
  else if off = 0x10 then some 0
  else if off = 0x14 then some (4096 * d.wbase)
  else if off = 0x1C then some d.target
  else if 0x20 ≤ off ∧ off < 0x40 then some (wordOf d.ahash ((off - 0x20) / 4))
  else if 0x40 ≤ off ∧ off < 0x60 then
    some (if d.state = .empty ∨ d.state = .receiving then 0 else wordOf d.phash ((off - 0x40) / 4))
  else if off = 0x60 then some d.aepoch
  else if off = 0x64 then some (d.tickPm % 1024 + 65536 * (d.roundPm % 1024))
  else if off = 0x68 then some (if procLane l then d.cache.length + 8 * b2n d.hit + 65536 * d.corrupt else 0)
  else if off = 0x6C then some (d.tsync % 65536)
  else if off = 0x70 then some (if procLane l then d.patch else 0)
  else if 0x1000 ≤ off ∧ off < 0x2000 then some 0
  else none

/-- The code of a domain state (R385). -/
def domCode : DomState → Nat
  | .on => 0 | .retention => 1 | .off => 2

/-- The highest lane step in force (R401). -/
def PwrRegs.lshed (p : PwrRegs) : Nat := if p.step4 then 3 else if p.step2 then 2 else if p.step1 then 1 else 0

/-- PWR_ reads of a lane (R401). -/
def pwrRead (n : Lane) (off : Nat) : Option Nat :=
  let p := n.aon.pwr
  if off = 0 then
    some (domCode p.phy + 4 * b2n p.pll + 8 * p.lshed + 32 * (if p.cancelling then 2 else if p.sleepAt.isSome then 1 else 0) +
      128 * b2n n.aon.halt)
  else if off = 4 then some (p.vl % 65536 + 65536 * (p.vlmin % 65536))
  else if off = 8 then
    some (128 * n.main.kbus.1 / 800 + 256 * (128 * n.main.kbus.2 / 800) + 65536 * b2n n.main.psh.1 + 131072 * b2n n.main.psh.2)
  else if off = 0xC then
    some (b2n p.pin + 2 * (p.src % 32) + 64 * b2n p.replayed + 128 * b2n p.slot.isSome + 256 * b2n (p.slot.any (fun t => t ≠ .on)))
  else if off = 0x10 then some (p.timer % 16777216)
  else if off = 0x14 then some (p.refDom + 16 * p.refCause + 256 * p.refStep + 65536 * p.refCount)
  else if off = 0x18 then
    some ((allUnits.map (fun u => domCode (p.unitDom.get u) * 4 ^ u.idx)).sum + 1048576 * domCode p.polvinDom)
  else none

/-- AXS_ reads (R184, R413). -/
def axsRead (n : Lane) (off : Nat) : Option Nat :=
  if off < 0x100 then some (n.main.axs.getD (off / 4) 0)
  else if 0x400 ≤ off ∧ off < 0x480 then some ((n.main.motors.getD ((off - 0x400) / 32) []).getD (off % 32 / 4) 0)
  else none

/-- A register of lane l as the lane returns it; none where the address names no register. -/
def laneRead (s : State) (l : LaneId) (addr : Nat) : Option Nat :=
  let n := s.lanes.get l
  let off := addrOff addr
  if off % 4 ≠ 0 then none
  else match addrBlock addr with
  | 1 => laneTckRead n off
  | 2 => laneLnkRead n off
  | 9 => crsRead n l off
  | 0xA => dmaRead n l off
  | 0xB => memRead n l off
  | 0xC => laneEvtRead n l off
  | 0xD => ownRead s n off
  | 0xF => cnvRead n l off
  | 0x10 => pwrRead n off
  | 0x11 => canRead n l off
  | 0x12 => axsRead n off
  | _ => none

/-- A register of the Polvin core (R362, R383). -/
def polvinRead (s : State) (addr : Nat) : Option Nat :=
  let off := addrOff addr
  if off % 4 ≠ 0 then none
  else match addrBlock addr with
  | 0xE => secRead s.polvin off
  | 0xC => evtRead .polvin s.polvin.evt off
  | _ => none

/-- The RC fields of a lane cleared by a read (R9). -/
def laneReadClear (n : Lane) (l : LaneId) (addr : Nat) : Lane :=
  let off := addrOff addr
  match addrBlock addr with
  | 1 => if off = 0x10 then n.onMain (fun m => { m with time := { m.time with tmax := 0, rmax := m.time.rmax.cleared } }) else n
  | 2 =>
    match UnitId.ofCode (4 + (off - 0x100) / 4) with
    | some u => if 0x100 ≤ off then
        n.onMain (fun m => { m with units := m.units.set u { m.units.get u with crcerr := 0, late := 0 } }) else n
    | none => n
  | 9 =>
    if off = 0x14 then n.onNet (fun m => { m with accept := 0, late := 0 })
    else if off = 0x18 then n.onNet (fun m => { m with bad := 0, slotErr := 0 })
    else if off = 0x1C then n.onNet (fun m => { m with tagErr := 0 })
    else if off = 0x20 then n.onNet (fun m => { m with nulls := 0, guard := 0 })
    else if off = 0x24 then n.onNet (fun m => { m with foreign := 0 })
    else if 0x1004 ≤ off then
      let p := (off - 0x1000) / 4
      n.putPartner l.idx p { n.partner l.idx p with miss := (n.partner l.idx p).miss.cleared }
    else n
  | 0xA => dmaReadClear n off
  | 0xB =>
    if off = 0x804 then n.onMem (fun g => { g with mirn := 0, sign := g.sign.cleared })
    else if off = 0x808 then n.onMem (fun g => { g with clean := 0, dirty := 0 })
    else if off = 0x810 then n.onMem (fun g => { g with rbPasses := 0 })
    else n
  | 0xC => if off = 0x90 then { n with aon := { n.aon with total := 0 } } else n
  | 0xD => if off = 0x34 then n.onMain (fun m => { m with office := { m.office with changes := m.office.changes.cleared, refused := m.office.refused.cleared } }) else n
  | 0xF => if off = 0x68 then n.onLoader (fun d => { d with corrupt := 0 }) else n
  | 0x10 =>
    if off = 4 then { n with aon := { n.aon with pwr := { n.aon.pwr with vlmin := 0xFFFF } } }
    else if off = 0x14 then { n with aon := { n.aon with pwr := { n.aon.pwr with refCount := 0 } } }
    else n
  | 0x11 => canReadClear n off
  | 0x12 =>
    if 0x400 ≤ off ∧ off < 0x480 ∧ off % 32 = 0x1C then
      n.onMain (fun x => { x with motors := updAt x.motors ((off - 0x400) / 32) (fun r => updAt r 7 (fun _ => 0)) })
    else n
  | _ => n

/-- A write to OWN_CTRL.SPSUCC as it takes effect (R361); the request bits act by rows of their own. -/
def ownWrite (o : Office) (v mask : Nat) : Office :=
  { o with spsucc := (clearMask (65536 * o.spsucc) mask ||| (v &&& mask)) / 65536 % 4096 }

/-- A write to a CNV_ register of a lane as it takes effect (R98, R106): ABORT, then START, then CHECK of one write. -/
def cnvWrite (n : Lane) (off v mask : Nat) : Lane :=
  let m := v &&& mask
  if off = 0x10 then
    let n := if m.testBit 2 then n.onLoader Loader.abort else n
    let n := if m.testBit 0 then n.onLoader Loader.begin else n
    let n := if m.testBit 1 then n.onLoader Loader.startCheck else n
    if m.testBit 0 ∨ m.testBit 1 then n.onMain (fun x => { x with service := { x.service with stream := none } }) else n
  else if off = 0x14 then n.onLoader (fun d => { d with wbase := (clearMask (4096 * d.wbase) mask ||| m) / 4096 % 1024 })
  else if 0x1000 ≤ off ∧ off < 0x2000 then n.onLoader (fun d => d.window (off - 0x1000) m)
  else n

/-- A write to the EVT_ block of a lane (R369, R375, R383). -/
def laneEvtWrite (n : Lane) (l : LaneId) (off v mask : Nat) : Lane :=
  if 0x60 ≤ off ∧ off < 0x80 then (wordSources ((off - 0x60) / 4) (v &&& mask)).foldl (fun n k => n.force l k) n
  else
    let e := evtWrite (laneKind l) { n.main.evt with first := n.aon.first } off v mask
    { n with main := { n.main with evt := e }, aon := { n.aon with first := e.first } }

/-- A write to a register of lane l as it takes effect (R9, R13), but for TCK_COMMIT.GO and ABORT. -/
def laneWrite (n : Lane) (l : LaneId) (addr v mask : Nat) : Lane :=
  let off := addrOff addr
  let m := v &&& mask
  match addrBlock addr with
  | 1 => if off = 0x14 ∧ m.testBit 3 then n.onMain (fun x => { x with shadow := x.shadow.clearStraddle }) else n
  | 9 =>
    if 0x40 ≤ off ∧ off < 0x60 then
      n.onNet (fun x => { x with cps := updAt x.cps ((off - 0x40) / 4) (fun c => (clearMask c mask ||| m) % 8388608) })
    else if off = 0x60 then n.onNet (fun x => { x with cpev := clearMask x.cpev (clearMask m x.cpNow) })
    else n
  | 0xA => if procLane l then dmaWrite n off v mask else n
  | 0xB => if off = 0x800 ∧ m.testBit 0 then n.onMem MemRegs.cleared else n
  | 0xC => laneEvtWrite n l off v mask
  | 0xD => if off = 0x30 then n.onMain (fun x => { x with office := ownWrite x.office v mask }) else n
  | 0xF => cnvWrite n off v mask
  | 0x10 =>
    if off = 0xC then
      { n with aon := { n.aon with pwr := { n.aon.pwr with src := clearMask n.aon.pwr.src (clearMask (m / 2 % 32) n.aon.pwr.srcNow),
                                                           replayed := n.aon.pwr.replayed && !m.testBit 6 } } }
    else if off = 0x10 then
      { n with aon := { n.aon with pwr := { n.aon.pwr with timer := (clearMask n.aon.pwr.timer mask ||| m) % 16777216 } } }
    else n
  | 0x12 => if off < 0x100 then n.onMain (fun x => { x with axs := updAt x.axs (off / 4) (fun c => clearMask c mask ||| m) }) else n
  | _ => n

/-- The bit of PERM's MODES for a device mode (R102). -/
def modeBit (m : Mode) (modes : Nat) : Bool := decide (1 ≤ modeCode m) && modes.testBit (modeCode m - 1)

/-- The PERM entries that pass step 2 of R103 for a writer, an address and the written bits. -/
def Lane.permits (n : Lane) (who addr mask : Nat) : List PermDef :=
  n.main.canvas.perms.filter (fun p =>
    decide (p.first ≤ addr ∧ addr ≤ p.last) && decide (clearMask mask p.fmask = 0) && modeBit n.main.mode.mode p.modes &&
      (match n.main.canvas.cmdrIdx who with | some k => p.cmdrs.testBit k | none => false))

/-- Registers writable only in SERVICE (R209, R327). -/
def serviceOnly (addr : Nat) : Bool :=
  decide (addrBlock addr = 4 ∧ addrOff addr = 4) || decide (addrBlock addr = 0xB ∧ addrOff addr = 0x800)

/-- Step 2 of R103 at the boundary (R98, R103, R408). The registers of R411, and OWN_CTRL, judge for themselves, but for SEC_RETIRE.CLR and
OWN_CTRL.SKETCH, which only SERVICE takes (R337, R359, R414). -/
def Lane.stillPermitted (n : Lane) (l : LaneId) (w : ShadowWrite) : Bool :=
  let a := w.acc.addr
  let m := n.main.mode.mode
  let v := w.acc.value.toNat &&& w.acc.mask.toNat
  if addrUnit a = 14 ∧ addrBlock a = 0xE then decide (addrOff a ≠ 0xC ∨ bitsOf v 6 4 = 0 ∨ m = .service)
  else if addrUnit a = l.code ∧ addrBlock a = 0xD then decide (addrOff a ≠ 0x30 ∨ v.testBit 4 = false ∨ m = .service)
  else if addrUnit a = 15 ∨ (addrUnit a = l.code ∧ addrBlock a = 0xF) then decide (m = .service ∨ m = .sketch)
  else (!serviceOnly a || decide (m = .service)) &&
    (match w.who with | some x => decide (n.permits x.id a w.acc.mask.toNat ≠ []) | none => true)

/-- Whether lane l's copy of a write it forwarded still stands for a unit (R103): step 2 passes in the mode in force. -/
def Lane.standsFor (n : Lane) (l : LaneId) (a : RegAcc) : Bool :=
  match n.main.sent.find? (fun w => w.acc = a) with
  | some w => n.stillPermitted l w
  | none => true

/-- A unit at its boundary without the lanes' copies of writes that no longer pass step 2 of R103 (log entry 81). -/
def State.dropLapsed (s : State) (u : UnitId) : State :=
  s.setUnit u ((s.ucom.get u).eachLink (fun l k => { k with writes := k.writes.filter ((s.lanes.get l).standsFor l) }))

/-- Whether a write to a unit's COMMIT group has lapsed in lane l (R103): step 2 fails in the mode in force. -/
def Lane.groupLapsed (n : Lane) (l : LaneId) (a : RegAcc) : Bool :=
  match n.main.groupSent.find? (fun w => w.acc = a) with
  | some w => !n.stillPermitted l w
  | none => false

/-- Whether a group write stands at a unit's boundary: in two of the lanes it admits, or in its only one (R404; log entry 81). -/
def State.groupStands (s : State) (c : UnitCommon) (a : RegAcc) : Bool :=
  decide (min 2 c.admitted.length ≤ (c.admitted.filter (fun l => !(s.lanes.get l).groupLapsed l a)).length)

/-- Lane l after a unit's boundary: PERM_LAPSE where a group write of its lapsed (R103); it keeps those that still wait. -/
def Lane.groupDone (n : Lane) (l : LaneId) (u : UnitId) (c : UnitCommon) (gone : List ShadowWrite) : Lane :=
  let v := n.main.units.get u
  let waits := fun (a : RegAcc) => c.shadow.staged.any (fun w => w.acc = a) || c.shadow.due.any (fun w => w.acc = a && decide (w.effect ≠ 0)) ||
    (c.links.get l).next.contains a || v.fwd.contains a || v.later.contains a
  let n := if gone.any (fun w => n.groupLapsed l w.acc) then n.event l 5 else n
  n.onMain (fun m => { m with groupSent := m.groupSent.filter (fun w => addrUnit w.acc.addr ≠ u.code || waits w.acc) })

/-- The group writes of a unit that are to take effect at its boundary are held to step 2 of R103 once more: those that fail it are discarded. -/
def State.groupRound (s : State) (u : UnitId) : State :=
  let c := (s.ucom.get u).takenIn
  let gone := c.shadow.due.filter (fun w => decide (w.effect = 0) && inGroup c.shadow w.acc.addr && !s.groupStands c w.acc)
  let d := { c with shadow := { c.shadow with due := c.shadow.due.filter (fun w => !gone.contains w) } }
  allLanes.foldl (fun s l => s.setLane l ((s.lanes.get l).groupDone l u c gone)) (s.setUnit u d)

end Sys2Proof.Machine
end

