-- ==== Sys2Proof/Machine/ModeCtl.lean ====
section
/-!
DEFINITION. Modes and stops in a lane (R38-R46, R139, R146, R147, R376): the faults in force as the blocks of the last tick and the
template flags show them, the mode they give, controlled stops, HALT, SERVICE and SKETCH.
-/
namespace Sys2Proof.Machine
open Sys2Proof

/-- The mode state of a lane changed. -/
def Lane.onMode (n : Lane) (f : ModeState → ModeState) : Lane := n.onMain (fun m => { m with mode := f m.mode })

/-- The cell that carries the vehicle speed (R146): BIND6 of STEER, or the SRC named by VSPEED. -/
def Canvas.speedCell (cv : Canvas) : Option Nat :=
  match cv.axes.find? (fun a => a.kind = 1) with
  | some a => some (a.first + 14)
  | none => if cv.mode.vspeed = 0xFFFF then none else some cv.mode.vspeed

/-- The vehicle speed in km/h as a lane last presented it, as a magnitude; 0 without a canvas. -/
def Lane.speed (n : Lane) (l : LaneId) : Rat :=
  match n.main.canvas.speedCell with
  | some i => let v := sig (laneQ l) ((n.cell i).outs.getD 0 0); if v < 0 then -v else v
  | none => 0

/-- Ticks of standstill that R42 and R46 ask for: 2 s. -/
def standTicks : Nat := 40000

/-- STAT of a lane in a unit's last block (R20). -/
def UnitView.stat (v : UnitView) (x : LaneId) : Nat := byteAt v.block 5 / 4 ^ x.idx % 4

/-- The units whose blocks of the last tick the lane received. -/
def Lane.heardUnits (n : Lane) : List UnitId := allUnits.filter (fun u => (n.main.units.get u).was)

/-- The lanes a unit admits, as its block shows: STAT 0b00 or 0b01 (R39, R47). -/
def Lane.admits (n : Lane) (u : UnitId) : Nat := (allLanes.filter (fun x => (n.main.units.get u).stat x ≤ 1)).length

/-- No unit heard votes a lane, and not every one withdrew it for disagreement, which is no fault in force (R39, R49, R376). -/
def Lane.unvoted (n : Lane) (x : LaneId) : Bool :=
  n.heardUnits.all (fun u => decide (2 ≤ (n.main.units.get u).stat x)) &&
    n.heardUnits.any (fun u => !((n.main.units.get u).stat x = 3 && (n.main.units.get u).disag.get x))

/-- Every unit heard votes a lane: it is VOTING again (R39). -/
def Lane.votedAll (n : Lane) (x : LaneId) : Bool :=
  !n.heardUnits.isEmpty && n.heardUnits.all (fun u => decide ((n.main.units.get u).stat x ≤ 1))

/-- A lane is lost (R39, R49, R376): from the boundary at which no unit votes it until it is VOTING again. -/
def Lane.laneLost (n : Lane) (x : LaneId) : Bool := (n.main.mode.lost.get x || n.unvoted x) && !n.votedAll x

/-- The lost lanes as they stand at a round boundary. -/
def Lane.lostRound (n : Lane) : Lane :=
  n.onMode (fun m => { m with lost := ⟨n.laneLost .a, n.laneLost .b, n.laneLost .c⟩ })

/-- The single links lost (R49): units that withdrew a lane for missing blocks while others vote it. -/
def Lane.linkFaults (n : Lane) : Nat :=
  (allLanes.map (fun x =>
    if n.laneLost x then 0
    else (n.heardUnits.filter (fun u => (n.main.units.get u).stat x = 3 && (n.main.units.get u).missing.get x)).length)).sum

/-- Whether the lane received a unit's block in the last tick. -/
def Lane.hears (n : Lane) (u : UnitId) : Bool := (n.main.units.get u).was

/-- CAUSE of an island as its block shows it (R201). -/
def Lane.islandCause (n : Lane) (i : IslandId) : Nat := byteAt (n.main.units.get (.isl i)).block 29 % 16

/-- The feedback unit on a power bus (R384). -/
def busFb : BusId → FbId
  | .vp1 => .fb1 | .vp2 => .fb2

/-- A power bus is lost (R49): none of its units is heard, or an island of it shows cause 0xD (R376). -/
def Lane.busLost (n : Lane) (b : BusId) : Bool :=
  (!(n.hears (.fb (busFb b))) && (busIslands b).all (fun i => !n.hears (.isl i))) ||
    (busIslands b).any (fun i => n.hears (.isl i) && decide (n.islandCause i = 0xD))

/-- The power stages are inhibited, as every island heard reports by CAUSE 0xB (R35, R201): the other lanes are in HALT, or in SKETCH (log entry
82). -/
def Lane.inhibited (n : Lane) : Bool :=
  let is := allIslands.filter (fun i => n.hears (.isl i))
  !is.isEmpty && is.all (fun i => decide (n.islandCause i = 0xB))

/-- An island fault of its own (R49, R376): not heard while its bus stands, admitting no lane, or in safe state by a counted cause; CAUSE 0xB
counts only where R49 counts it, on a line stuck asserted while lane C does not assert its lines to all islands (log entry 135). -/
def Lane.islandFault (n : Lane) (i : IslandId) : Bool :=
  let c := n.islandCause i
  !n.busLost i.bus &&
    (!n.hears (.isl i) || decide (n.admits (.isl i) = 0) || decide (2 ≤ c ∧ c ≤ 0xA) || decide (c = 0xE) ||
      (decide (c = 0xB) && !n.inhibited && decide (n.main.mode.mode ≠ .sketch ∧ n.main.mode.mode ≠ .halt)))

/-- An island is out of use: by its bus or by a fault of its own. -/
def Lane.islandOut (n : Lane) (i : IslandId) : Bool := n.busLost i.bus || n.islandFault i

/-- A feedback or safety-I/O unit is lost (R49, R376). -/
def Lane.unitFault (n : Lane) (u : UnitId) : Bool :=
  !n.hears u || decide (n.admits u = 0) || (byteAt (n.main.units.get u).block 6).testBit 2

/-- A feedback unit is out of use. -/
def Lane.fbOut (n : Lane) (f : FbId) : Bool := n.busLost (if f = .fb1 then .vp1 else .vp2) || n.unitFault (.fb f)

/-- CHOPPER_FAULT of a bus (R199, R376): an occurrence seen in an event symbol, latched while the bit of the blocks stands. The bit alone
also stands for HOT, which is no fault in force (R200, log entry 24). -/
def Lane.chopperOut (n : Lane) (b : BusId) : Bool :=
  (busIslands b).any (fun i =>
    let v := n.main.units.get (.isl i)
    n.hears (.isl i) && (byteAt v.block 28).testBit 0 && v.chop)

/-- A flag a cell presents. -/
def Lane.flagOf (n : Lane) (l : LaneId) (i : Nat) : Bool := flagIn (laneQ l) ((n.cell i).outs.getD 0 0)

/-- The unit whose block carries a bound sensor is out of use: the sensor is lost with it, in one failure (R49). -/
def Lane.sourceOut (n : Lane) (w : Nat) : Bool :=
  decide (wClass w = 1) &&
    (match UnitId.ofCode (wUnit w) with
    | some (.fb f) => n.fbOut f
    | some (.sio x) => n.unitFault (.sio x)
    | _ => false)

/-- The faults that the flags of two redundant sensors count as beside the units that carry them (R49, R147): `dis` those of a disagreement that
neither sensor explains. A sensor lost with its unit is out, and the unit's loss counts for it (log entry 135). -/
def pairFaults (f1 f2 out1 out2 fdis : Bool) (dis : Nat) : Nat :=
  (if (f1 || out1) && (f2 || out2) then 2 else if f1 || out1 || f2 || out2 then 1 else if fdis then dis else 0) - (b2n out1 + b2n out2)

/-- The faults the template flags of one axis count as (R147), and the resolvers of STEER (R49). -/
def Lane.axisFaults (n : Lane) (l : LaneId) (a : AxisDef) : Nat :=
  let f := fun k => n.flagOf l (a.first + k)
  let out := fun k => n.sourceOut (a.bind k)
  if a.kind = 1 then
    pairFaults (f 41) (f 42) (out 0) (out 1) (f 43) 2 + b2n (f 8 && !out 2) + b2n (f 9 && !out 3)
  else if a.kind = 2 then pairFaults (f 31) (f 32) (out 0) (out 1) (f 33) 1
  else if a.kind = 3 then b2n ((f 19 && !out 0) || (f 20 && !out 1) || (f 21 && !out 0 && !out 1))
  else 0

/-- Both resolvers are lost (R51). -/
def Lane.resolversOut (n : Lane) (l : LaneId) : Bool :=
  n.main.canvas.axes.any (fun a => a.kind = 1 && n.flagOf l (a.first + 8) && n.flagOf l (a.first + 9))

/-- The partners on one medium of a plane. -/
def Canvas.mediumPartners (cv : Canvas) (plane medium : Nat) : List Nat :=
  (cv.partnersOn plane).filter (fun p => cv.slots.any (fun e => e.plane = plane && e.medium = medium && e.peer = p))

/-- A cable is lost (R49): no joined partner on it was heard in the last cycle, and one of them was heard on another plane. The traffic of a lost
lane's plane is lost with the lane. -/
def Lane.cableOut (n : Lane) (plane medium : Nat) : Bool :=
  let ps := (n.main.canvas.mediumPartners plane medium).filter (fun p => (n.partner plane p).joined)
  !allLanes.any (fun x => decide (x.idx = plane) && n.laneLost x) && !ps.isEmpty && ps.all (fun p => (n.partner plane p).missFlag) &&
    ps.any (fun p => (List.range 3).any (fun q => q ≠ plane && (n.partner q p).joined && !(n.partner q p).missFlag))

/-- The faults in force (R39, R49, R147, R376). -/
def Lane.faults (n : Lane) (l : LaneId) : Nat :=
  (allLanes.filter n.laneLost).length + n.linkFaults + b2n (n.busLost .vp1) + b2n (n.busLost .vp2) +
    (allIslands.filter n.islandFault).length +
    ([FbId.fb1, FbId.fb2].filter (fun f => !n.busLost (if f = .fb1 then .vp1 else .vp2) && n.unitFault (.fb f))).length +
    ([SioId.sio1, SioId.sio2].filter (fun x => n.unitFault (.sio x))).length +
    b2n (n.chopperOut .vp1) + b2n (n.chopperOut .vp2) +
    (n.main.canvas.axes.map (n.axisFaults l)).sum +
    ((List.range 27).filter (fun k => n.cableOut (k / 9) (k % 9))).length

/-- The counts of admitted lanes, over the units that admit any (R39). -/
def Lane.admitCounts (n : Lane) : List Nat := (n.heardUnits.map n.admits).filter (fun k => k ≠ 0)

/-- The mode R39 gives from the counts and the faults in force; none when no unit heard admits a lane. -/
def modeOf (counts : List Nat) (faults : Nat) : Option Mode :=
  if counts = [] then none
  else if counts.any (fun k => k = 1) then some .tightrope
  else if 2 ≤ faults then some .tightrope
  else if counts.all (fun k => k = 3) then some .full
  else some .duplex

/-- The mode of R39 in a lane. -/
def Lane.derived (n : Lane) (l : LaneId) : Option Mode := modeOf n.admitCounts (n.faults l)

/-- The losses that call for a controlled stop at once (R51). -/
def Lane.stopNow (n : Lane) (l : LaneId) : Bool :=
  (n.islandOut .i1 && n.islandOut .i2) || (n.islandOut .i3 && n.islandOut .i4) || (n.islandOut .i5 && n.islandOut .i6) ||
    (n.fbOut .fb1 && n.fbOut .fb2) || n.resolversOut l || (n.unitFault (.sio .sio1) && n.unitFault (.sio .sio2))

/-- The modes in which the vehicle drives. -/
def driveMode (m : Mode) : Bool := decide (m = .full ∨ m = .duplex ∨ m = .tightrope)

/-- HALT is entered (R42, R44): held in the always-on domain, the park brake to be applied. -/
def Lane.halt (n : Lane) : Lane :=
  let n := n.onMode (fun m => { m with mode := .halt, stop := false, park := true })
  { n with aon := { n.aon with halt := true } }

/-- SKETCH is entered (R45): held in the always-on domain. -/
def Lane.enterSketch (n : Lane) : Lane :=
  let n := n.onMode (fun m => { m with mode := .sketch })
  { n with aon := { n.aon with sketch := true } }

/-- The start-up rule of R44 for a lane without a mode: FULL on three lanes, DUPLEX on two unless the canvas requires FULL. -/
def startMode (fullstart : Bool) (counts : List Nat) : Mode :=
  if counts = [] then .none
  else if counts.all (fun k => k = 3) then .full
  else if !fullstart && counts.all (fun k => 2 ≤ k) then .duplex
  else .none

/-- The mode of a voting lane at its round boundary (R39, R40, R42, R44, R51). HALT, SKETCH and SERVICE stay. -/
def Lane.modeRound (n : Lane) (l : LaneId) : Lane :=
  match n.main.mode.mode with
  | .halt => n
  | .sketch => n
  | .service => n
  | .none =>
    if n.inhibited then n.halt
    else n.onMode (fun m => { m with
      mode := if m.started then (n.derived l).getD .none else startMode n.main.canvas.fullstart n.admitCounts })
  | .full | .duplex | .tightrope =>
    let sios := n.unitFault (.sio .sio1) && n.unitFault (.sio .sio2)
    let noSio := if sios then n.main.mode.noSio + 8 else 0
    let stop := n.main.mode.stop || n.stopNow l
    n.onMode (fun m => { m with
      stop := stop, noSio := noSio
      park := m.park || decide (0 < noSio ∧ n.main.canvas.mode.stopt * 20000 ≤ noSio)
      mode := if stop then .tightrope else (n.derived l).getD m.mode })

/-- Whether the park brake is applied as the lane sees it (R46, R394): the voted words of V2 and V5 are 0. -/
def Lane.parkApplied (n : Lane) : Bool :=
  [IslandId.i5, IslandId.i6].all (fun i =>
    let v := n.main.units.get (.isl i)
    !(v.was || v.fresh) || decide (i32At v.block 40 = 0))

/-- SERVICE is left by itself when the vehicle moves or the park brake is released (R46). -/
def Lane.serviceLost (n : Lane) (l : LaneId) : Bool :=
  decide (n.main.mode.mode = .service) && (decide (1 / 2 ≤ n.speed l) || !n.parkApplied)

/-- Whether a cell holds its flags latched (R137, R138): a PLS or LIVE with LATCH 1. -/
def CellDef.latching (d : CellDef) : Bool := decide (d.kind = 0x0D ∨ d.kind = 0x0E) && decide (pcount (d.p 4) = 1)

/-- The latched flags of a lane's cells cleared (R139), with the counts that set them (R166): those of the other cells stay. -/
def Lane.clearLatched (n : Lane) : Lane :=
  let clear := fun (cv : Canvas) (cs : List (Nat × CellState)) => cs.map (fun e =>
    match cv.cell e.1 with
    | some d => if d.latching then (e.1, { e.2 with flags := 0, nums := [] }) else e
    | none => e)
  let n := n.onMain (fun m => { m with cells := clear m.canvas m.cells, mcells := clear m.canvas m.mcells })
  { n with aon := { n.aon with latched := [] } }

/-- SERVICE is entered by a lane (R44, R46, R139). -/
def Lane.enterService (n : Lane) : Lane :=
  let n := n.clearLatched.onMode (fun m => { m with mode := .service, stop := false, park := true })
  { n with aon := { n.aon with halt := false } }

/-- The other lanes as lane l enters SERVICE (R139): the latched flags are cleared in all lanes together; each takes its mode by itself (log entry
82). -/
def State.serviceOthers (s : State) (l : LaneId) : State :=
  (allLanes.filter (fun x => x ≠ l)).foldl (fun s x => s.setLane x (s.lanes.get x).clearLatched) s

/-- Whether a lane runs in SERVICE. -/
def Lane.inService (n : Lane) : Bool := n.awake && decide (n.main.mode.mode = .service)

/-- Plane A's domain as lane A enters SERVICE without having reached SYNC (R280, R339): the service port's PHY powers up in it (log entry 128). -/
def Lane.portPhy (n : Lane) (l : LaneId) : Lane :=
  if l = .a ∧ ¬ n.computing then { n with aon := { n.aon with pwr := { n.aon.pwr with phy := .on } } } else n

/-- SERVICE is entered in lane l; the first lane's entry is that of the module, and logged with the writer that asked (R354, R355). -/
def State.serviceIn (s : State) (l : LaneId) (w : Option Writer) : State :=
  let first : Bool := allLanes.all (fun x => !(s.lanes.get x).inService)
  let s := (s.setLane l ((s.lanes.get l).enterService.portPhy l)).syncInhibit
  if first then (s.serviceOthers l).logAs w 0x0E 0 0 s.devHash else s

/-- SERVICE is left in lane l for a mode (R46, R338, R342, R354, R407); with the last voting lane's exit the session, the unlocking and the
challenge end, and the exit is logged with the writer that asked. -/
def State.serviceOut (s : State) (l : LaneId) (w : Option Writer) (f : Lane → Lane) : State :=
  let last : Bool := allLanes.all (fun x => decide (x = l) || !(decide ((s.lanes.get x).state = .voting) && (s.lanes.get x).inService))
  let n := f (s.lanes.get l)
  let s := (s.setLane l (n.onMain (fun m => { m with service := { m.service with stream := none } }))).syncInhibit
  if last then (s.serviceLeft.sessionDown).logAs w 0x0F 0 0 s.devHash else s

/-- A lane without SERVICE's conditions leaves it for HALT (R46). -/
def State.serviceCheck (s : State) (l : LaneId) : State :=
  if (s.lanes.get l).serviceLost l then s.serviceOut l none Lane.halt else s

/-- The commander entry of a writer that holds the office with SVCOK (R337). -/
def Lane.serviceHolder (n : Lane) (who : Nat) : Bool :=
  decide (n.main.office.holder = some who) && n.main.canvas.cmdrs.any (fun c => c.id = who && c.svcok)

/-- An accepted SVCREQ takes effect (R46, R337, R360), whoever then holds the office. -/
def State.svcreq (s : State) (l : LaneId) (w : Writer) : State :=
  let n := s.lanes.get l
  let m := n.main.mode
  if ¬ (n.computing ∧ s.polvin.ipub.isSome) then s
  else if (m.mode = .full ∨ m.mode = .duplex ∨ m.mode = .halt) ∧ ¬ m.stop ∧ standTicks ≤ m.slow ∧ n.parkApplied then s.serviceIn l (some w)
  else s.setLane l (n.onMain (fun x => { x with office := { x.office with refused := x.office.refused.add 1 } }))

/-- An accepted SVCEXIT takes effect (R46): the mode R39 gives. -/
def State.svcexit (s : State) (l : LaneId) (w : Writer) : State :=
  let n := s.lanes.get l
  if n.computing ∧ n.main.mode.mode = .service ∧ s.polvin.ipub.isSome then
    s.serviceOut l (some w) (fun n => n.onMode (fun m => { m with mode := (n.derived l).getD .none, park := false, started := true }))
  else s

/-- An accepted SKETCH takes effect (R45, R337): from SERVICE; the park brake stays applied. -/
def State.sketch (s : State) (l : LaneId) (w : Writer) : State :=
  let n := s.lanes.get l
  if n.computing ∧ n.main.mode.mode = .service ∧ s.polvin.ipub.isSome then s.serviceOut l (some w) Lane.enterSketch else s

/-- TIGHTROPE_LIMIT (R41): the controlled stop begins. -/
def execTightropeLimit (l : LaneId) (s : State) : Host.Outcome State Fault Refusal :=
  .next (s.onLane l (fun n => n.computing && decide (n.main.mode.mode = .tightrope) &&
      decide (n.main.canvas.mode.trlim * 20000 ≤ n.aon.trSum))
    (fun n => n.onMode (fun m => { m with stop := true })))

/-- STANDSTILL (R42): a controlled stop is complete. -/
def execStandstill (l : LaneId) (s : State) : Host.Outcome State Fault Refusal :=
  let n := s.lanes.get l
  .next (if n.computing ∧ n.main.mode.stop ∧ standTicks ≤ n.main.mode.slow then (s.setLane l n.halt).syncInhibit else s)

/-- The time a lane has to reach its mode (R44), in ms. -/
def Lane.startLimit (n : Lane) : Nat := if n.loader.acached then 400 else 2500

/-- Whether the canvas of a lane, loaded or still to be, requires FULL to start (R44). -/
def Lane.needsFull (n : Lane) : Bool :=
  if n.main.canvas.hash = [] then (parseCanvas n.loader.active).fullstart else n.main.canvas.fullstart

/-- The mode of a lane that does not vote while the units it hears admit no lane (R391): the start-up rule of R44 applies to it. HALT and SKETCH
stay, and the SERVICE of an UNOWNED controller (log entry 63). -/
def Lane.startsAnew (n : Lane) (unowned : Bool) : Lane :=
  let m := n.main.mode
  if n.state ≠ .voting ∧ n.admitCounts = [] ∧ m.mode ≠ .halt ∧ m.mode ≠ .sketch ∧ ¬ (m.mode = .service ∧ unowned) then
    n.onMode (fun m => { m with mode := .none, started := false, stop := false, park := false })
  else n

/-- STARTUP_TIMEOUT (R44, R391): the units show a lane on its PLL that too few lanes reached VOTING. One that is off its PLL is a lost lane, which
decides nothing (R49, R392, log entry 136). -/
def execStartupTimeout (l : LaneId) (s : State) : Host.Outcome State Fault Refusal :=
  let n := (s.lanes.get l).startsAnew s.polvin.ipub.isNone
  .next (if n.awake ∧ n.state ≠ .retrying ∧ n.aon.pwr.pll ∧ n.main.mode.mode = .none ∧ ¬ n.main.mode.started ∧
      n.main.mode.startMs + n.startLimit ≤ n.aon.ms ∧ startMode n.needsFull n.admitCounts = .none then
    (s.setLane l n.halt).syncInhibit else s)

/-- SVCREQ (R337). -/
def execSvcreq (l : LaneId) (sender : Nat) (s : State) : Host.Outcome State Fault Refusal :=
  .next (if (s.lanes.get l).serviceHolder sender then s.svcreq l (s.pathOf l sender) else s)

/-- SVCEXIT (R46, R337): by the Ringmaster. -/
def execSvcexit (l : LaneId) (sender : Nat) (s : State) : Host.Outcome State Fault Refusal :=
  .next (if (s.lanes.get l).main.office.holder = some sender then s.svcexit l (s.pathOf l sender) else s)

/-- SKETCH (R337): by a Ringmaster with SVCOK, under varnish with UNLOCK. -/
def execSketch (l : LaneId) (sender : Nat) (s : State) : Host.Outcome State Fault Refusal :=
  .next (if (s.lanes.get l).serviceHolder sender ∧ (¬ s.polvin.varnish ∨ s.polvin.unlocked) then s.sketch l (s.pathOf l sender) else s)

end Sys2Proof.Machine
end

