-- ==== Sys2Proof/Machine/Templates.lean ====
section
/-!
DEFINITION. The expansion of the axis templates (R143-R163, R167-R182, R366): the cells, wires and tracking links each template
stands for, and their comparison with CELLS and WIRES (EXPAND, R86). A word the manual does not state for a cell of a template
(log entry 25) is the free `Config.templateWord`.
-/
namespace Sys2Proof.Machine
open Sys2Proof

/-- A refusal as CNV_STATUS.CODE, CNV_ERRLOC, CNV_ERRARG and CNV_ERROWN report it (R89, R90). -/
structure Refuse where
  code : Nat
  sect : Nat := 0xFF
  ofs : Nat := 0
  arg : Nat := 0
  first : Nat := 0
  second : Nat := 0
  deriving DecidableEq, Repr

/-- The first refusal among a list of findings. -/
def firstOf {α : Type} (xs : List α) (f : α → Option Refuse) : Option Refuse := xs.findSome? f

/-- A refusal where a condition fails. -/
def need (ok : Bool) (r : Refuse) : Option Refuse := if ok then none else some r

/-- A list with positions. -/
def indexed {α : Type} (xs : List α) : List (Nat × α) := (List.range xs.length).zip xs

/-- A binary32 parameter within bounds. DESIGN CHOICE (log entry 150): a decimal bound is taken exactly, so that the binary32 value nearest to it may lie
outside. -/
def inRange (w : Nat) (lo hi : Rat) : Bool :=
  !f32IsNan w && !f32IsInf w && decide (lo ≤ f32Exact w) && decide (f32Exact w ≤ hi)

/-- What an input of a template cell is wired to: an output of a cell of the same template, of a cell of another axis, or a
constant. -/
inductive TIn where
  | cell (name : String) (out : Nat)
  | far (idx out : Nat)
  | con (v : Rat)
  deriving DecidableEq, Repr

/-- One cell of an expansion: its name in the manual's table, kind, inputs and parameters (`none` where the manual states
nothing), delayed outputs, rate. -/
structure TCell where
  name : String
  kind : Nat
  ins : List (Option TIn) := []
  params : List (Option Nat) := []
  delayed : Nat := 0
  round : Bool := false
  deriving DecidableEq, Repr

/-- A tracking link of an expansion: the linked cell, its MIN cell and the MIN input. -/
structure TLink where
  chain : String
  min : String
  input : Nat
  deriving DecidableEq, Repr

/-- An expansion: its cells in order and its tracking links. -/
structure TExp where
  cells : List TCell := []
  links : List TLink := []
  deriving DecidableEq, Repr

/-- Expansions one after the other. -/
def TExp.append (a b : TExp) : TExp := ⟨a.cells ++ b.cells, a.links ++ b.links⟩

/-- A parameter as its binary32 word: computed values are rounded once (log entry 25). -/
def rp (v : Rat) : Option Nat := some (roundF32 v)

/-- Output 0 of a cell. -/
def o0 (n : String) : Option TIn := some (.cell n 0)

/-- An output of a cell. -/
def oN (n : String) (k : Nat) : Option TIn := some (.cell n k)

/-- A wired constant. -/
def kc (v : Rat) : Option TIn := some (.con v)

/-- A SOURCE or TARGET word (R119, R121). -/
def srcWord (cls fmt unit idx : Nat) : Nat := 268435456 * cls + 16777216 * fmt + 1048576 * unit + idx

/-- An SRC: SOURCE, SOFS, SCALE and LATCH. OFFSET is 0 where the manual gives the SCALE, since the row then gives the quantity itself. -/
def tSrc (n : String) (w : Nat) (sofs : Option Nat) (scale : Option Nat) (latch : Bool) : TCell :=
  { name := n, kind := 1, params := [some w, sofs, scale, if scale = none then none else rp 0, rp (b2n latch : Nat)] }

/-- An SRC that reads a flag: bit `b` of a byte of a measurement block. -/
def tFlag (n : String) (unit byte b : Nat) : TCell := tSrc n (srcWord 1 4 unit byte) (rp (b : Nat)) (rp 1) false

/-- A SNK. -/
def tSnk (n : String) (w : Nat) (scale idle : Option Nat) (x en : Option TIn) : TCell :=
  { name := n, kind := 2, ins := [x, en], params := [some w, none, scale, idle] }

/-- A SUM of weighted inputs. -/
def tSum (n : String) (xs : List (Option TIn × Rat)) (bias : Rat) : TCell :=
  { name := n, kind := 3, ins := xs.map (fun x => x.1),
    params := rp (xs.length : Nat) :: (List.range 4).map (fun i => (xs[i]?).bind (fun x => rp x.2)) ++ [rp bias] }

/-- A negation. -/
def tNeg (n : String) (x : Option TIn) : TCell := tSum n [(x, -1)] 0

/-- A MIN. -/
def tMin (n : String) (xs : List (Option TIn)) : TCell := { name := n, kind := 8, ins := xs, params := [rp (xs.length : Nat)] }

/-- A SEL. -/
def tSel (n : String) (k : Option TIn) (xs : List (Option TIn)) : TCell :=
  { name := n, kind := 9, ins := k :: xs, params := [rp (xs.length : Nat)] }

/-- A CMP. -/
def tCmp (n : String) (x : Option TIn) (on off : Rat) (inv : Bool) : TCell :=
  { name := n, kind := 15, ins := [x], params := [rp on, rp off, rp (b2n inv : Nat)] }

/-- A TBL from its entries. -/
def tTbl (n : String) (x : Option TIn) (x0 dx : Option Nat) (y : Nat → Rat) : TCell :=
  { name := n, kind := 16, ins := [x], params := x0 :: dx :: (List.range 33).map (fun i => rp (y i)) }

/-- A PLS with UP 1, DN 1 and LATCH 1. -/
def tPls (n : String) (a b : Option TIn) (win limit : Nat) : TCell :=
  { name := n, kind := 13, ins := [a, b], params := [some win, rp 1, rp 1, some limit, rp 1] }

/-- A LIVE. -/
def tLive (n : String) (x act fresh : Option TIn) (delta actmin nfreeze ndead : Nat) (latch : Bool) : TCell :=
  { name := n, kind := 14, ins := [x, act, fresh], params := [some delta, some actmin, some nfreeze, some ndead, rp (b2n latch : Nat)] }

/-- A PID of one region: KP, KIT, AD, CD, UMIN, UMAX, UDIS. -/
def tPid (n : String) (sp meas en : Option TIn) (ps : List (Option Nat)) : TCell :=
  { name := n, kind := 6, ins := [sp, meas, none, en], params := ps ++ [rp 1] }

/-- A LIM or a RAMP. -/
def tLim (n : String) (x lo hi : Option TIn) (up dn : Option Nat) : TCell := { name := n, kind := 4, ins := [x, lo, hi], params := [up, dn] }
def tRamp (n : String) (tgt meas en : Option TIn) (up dn : Rat) : TCell := { name := n, kind := 5, ins := [tgt, meas, en], params := [rp up, rp dn] }

/-- The channel a SOURCE word of a feedback block names, and the word of another of its fields (R217). -/
def fbField (w fmt ofs : Nat) : Nat := srcWord 1 fmt (wUnit w) (16 + 10 * ((wIndex w - 16) / 10) + ofs)

/-- The SOURCE of POS of the feedback channel a resource code names (R81, R217). -/
def fbSource (code : Nat) : Nat :=
  let u := code / 65536 % 16
  let c := code % 65536 - if u = 11 then 4 else 0
  srcWord 1 0 u (16 + 10 * c)

/-- The feedback channel a SOURCE word of a feedback block reads, as a resource (R81, R217). -/
def fbRes (w : Nat) : Nat := resCode 3 (wUnit w) ((wIndex w - 16) / 10 + if wUnit w = 11 then 4 else 0)

/-- The valve channel of a current word, as a resource (R81, R187). -/
def valveRes (w : Nat) : Nat := resCode 2 (wUnit w) (wIndex w + if wUnit w = 9 then 3 else 0)

/-- The sensor resource a SOURCE word of a measurement block reads (R81, R217, R241), 0 where it reads none: a feedback channel, a safety input
by its analog slot or its bit, a sensor supply. -/
def srcRes (cv : Canvas) (w sofs : Nat) : Nat :=
  let u := wUnit w
  let x := wIndex w
  let input := fun (i : Nat) => resCode 5 u (i + if u = 13 then 24 else 0)
  if u = 10 ∨ u = 11 then (if 16 ≤ x ∧ x < 56 then fbRes w else 0)
  else if u = 12 ∨ u = 13 then
    if 16 ≤ x ∧ x < 48 then
      let c := byteAt ((cv.unitRecs u).getD 1 []) (32 + (x - 16) / 2)
      if c < 24 then input c else if 0x20 ≤ c ∧ c < 0x28 then resCode 6 u (c - 0x20 + if u = 13 then 8 else 0) else 0
    else if 48 ≤ x ∧ x ≤ 50 then input (8 * (x - 48) + sofs % 8)
    else 0
  else 0

/-- The fold of R153: a demand `x` and its negation `neg` held under limits, in the order of the manual's rows. -/
def tFold (up dn out : String) (x neg : Option TIn) (lu ld : List (Option TIn)) : List TCell :=
  [tMin up (x :: lu), tMin dn (neg :: ld), tSum out [(o0 up, 1), (o0 dn, -1), (x, -1)] 0]

/-- 50 µs in seconds. -/
def tickS : Rat := 1 / 20000

/-- e to the power of a small rational. -/
def expRat (x : Rat) : Rat := 1 + x * (1 + x / 2 * (1 + x / 3 * (1 + x / 4 * (1 + x / 5 * (1 + x / 6 * (1 + x / 7 * (1 + x / 8)))))))

/-- A lane event SNK: EN is wired to 1 (log entry 25). -/
def tEvt (n : String) (num : Nat) (x : Option TIn) : TCell := tSnk n (srcWord 3 0 0 num) none none x (kc 1)

/-- The 74 cells of the steering axis before its motor loops (R148, R150); `ev` is its first lane event number. -/
def steerCells (a : AxisDef) (ev : Nat) : TExp :=
  let b := a.bind
  let p := fun k => f32Rat (a.par k)
  let w := fun k => some (a.par k)
  let rmax := p 4
  let safe := fun (n : String) (u : Nat) => tFlag n u 6 1
  let live := fun (n x f : String) => tLive n (o0 x) (o0 "RATE") (o0 f) (a.par 12) (a.par 13) (a.par 14) (a.par 15) true
  let thirty := fun (n : String) (x : Option TIn) (x0 : Rat) => tTbl n x (rp x0) (rp (32 / p 3)) (fun i => rmax * (1 - (i : Rat) / 32))
  let cells1 : List TCell :=
    [tSrc "RWA1" (b 0) none none false, tSrc "RWA2" (b 1) none none false,
     tSrc "NEW1" (fbField (b 0) 4 8) (rp 0) (rp 1) false, tSrc "NEW2" (fbField (b 1) 4 8) (rp 0) (rp 1) false,
     tSrc "TH1" (b 2) none (rp (360 / (65536 * p 0))) false, tSrc "TH2" (b 3) none (rp (360 / (65536 * p 0))) false,
     tSrc "W1" (fbField (b 2) 1 4) none (rp (6 / p 0)) false, tSrc "W2" (fbField (b 3) 1 4) none (rp (6 / p 0)) false,
     tSrc "TL1" (fbField (b 2) 4 8) (rp 1) (rp 1) false, tSrc "TL2" (fbField (b 3) 4 8) (rp 1) (rp 1) false,
     safe "SAFE1" 4, safe "SAFE2" 5,
     tSrc "SP" (b 4) none none true, tSrc "SPEN" (b 5) none none true, tSrc "VSPD" (b 6) none none true,
     tSrc "TMP1" (b 7) none none false, tSrc "TMP2" (b 8) none none false, tSrc "TR" (srcWord 3 0 0 1) (rp 0) (rp 1) false,
     tPls "PLSA" (o0 "RWA1") (o0 "RWA2") (a.par 8) (a.par 9), tNeg "NDIFF" (oN "PLSA" 1),
     tCmp "DP" (oN "PLSA" 1) (p 8) (8 / 10 * p 8) false, tCmp "DN" (o0 "NDIFF") (p 8) (8 / 10 * p 8) false,
     tSel "RATE" (o0 "TL1") [o0 "W1", o0 "W2"],
     tSum "THR1" [(o0 "TH1", 1), (o0 "ALN1", 1)] 0, tSum "THR2" [(o0 "TH2", 1), (o0 "ALN2", 1)] 0,
     tSel "THR" (o0 "TL1") [o0 "THR1", o0 "THR2"],
     tSel "ALNSP1" (o0 "KA") [o0 "THR1", o0 "PLSA"], tSel "ALNSP2" (o0 "KA") [o0 "THR2", o0 "PLSA"]]
  let aln := fun (n sp m : String) =>
    { tPid n (o0 sp) (o0 m) (kc 1) [rp 0, rp 1, rp 0, rp 0, rp (-3600), rp 3600, none] with delayed := 1 }
  let cells2 : List TCell :=
    [aln "ALN1" "ALNSP1" "THR1", aln "ALN2" "ALNSP2" "THR2",
     tPls "PLS1R" (o0 "RWA1") (o0 "THR") (a.par 10) (a.par 11), tPls "PLS2R" (o0 "RWA2") (o0 "THR") (a.par 10) (a.par 11),
     live "LIVE1" "RWA1" "NEW1", live "LIVE2" "RWA2" "NEW2",
     tSum "F1S" [(oN "PLS1R" 2, 1), (o0 "LIVE1", -1)] 1, tSum "F2S" [(oN "PLS2R" 2, 1), (o0 "LIVE2", -1)] 1,
     tCmp "F1" (o0 "F1S") (3 / 4) (1 / 4) false, tCmp "F2" (o0 "F2S") (3 / 4) (1 / 4) false,
     tSum "K" [(o0 "F2", 1), (o0 "F1", 2), (o0 "DP", 4), (o0 "DN", 4)] 0, tCmp "KA" (o0 "K") (3 / 4) (1 / 4) true,
     tSel "POS" (o0 "K") [o0 "PLSA", o0 "RWA1", o0 "RWA2", o0 "THR", o0 "THR", o0 "RWA1", o0 "RWA2", o0 "THR"],
     tEvt "EV1" ev (o0 "F1"), tEvt "EV2" (ev + 1) (o0 "F2"), tEvt "EVD" (ev + 2) (oN "PLSA" 2),
     tRamp "SPR" (o0 "SP") (o0 "POS") (o0 "SPEN") (p 5 * tickS) (p 5 * tickS),
     { name := "PPOS", kind := 6, ins := [o0 "SPR", o0 "POS", o0 "VSPD", o0 "SPEN"],
       params := [w 19, rp 0, rp 0, rp 0, rp (-rmax), rp rmax, rp 0, rp 3, w 18, w 16, w 17, none, none, none, none, none,
                  w 20, rp 0, rp 0, rp 0, w 21, rp 0, rp 0, rp 0] },
     tNeg "NW" (o0 "PPOS"), tSel "RMX" (o0 "TR") [kc rmax, kc (rmax / 2)], tNeg "NPOS" (o0 "POS"),
     thirty "CUP" (o0 "POS") (p 1 - p 3), thirty "CDN" (o0 "NPOS") (-(p 2) - p 3)]
  let pid : TCell := tPid "PRATE" (o0 "WREF") (o0 "RATE") (kc 1) [w 22, rp (p 23 * tickS), rp 0, rp 0, rp (-(p 6)), rp (p 6), none]
  let cells3 : List TCell :=
    tFold "MUP" "MDN" "WREF" (o0 "PPOS") (o0 "NW") [o0 "RMX", o0 "CUP"] [o0 "RMX", o0 "CDN"] ++
    [pid, tNeg "NT" (o0 "PRATE"),
     tSum "L1S" [(o0 "SAFE1", 1), (oN "SAFE1" 1, -1)] 1, tSum "L2S" [(o0 "SAFE2", 1), (oN "SAFE2" 1, -1)] 1,
     tCmp "L1" (o0 "L1S") (3 / 4) (1 / 4) false, tCmp "L2" (o0 "L2S") (3 / 4) (1 / 4) false,
     tSum "KL" [(o0 "L1", 1), (o0 "L2", 2)] 0, tSel "TMX" (o0 "KL") [kc (p 6), kc (p 6 / 2), kc (p 6 / 2), kc 0],
     tNeg "NT1" (o0 "TMP1"), tNeg "NT2" (o0 "TMP2"), tMin "NTM" [o0 "NT1", o0 "NT2"], tNeg "TMPX" (o0 "NTM"),
     tTbl "DER" (o0 "TMPX") (w 24) (rp (32 / (p 25 - p 24))) (fun i => p 6 - (p 6 - p 26) * (i : Rat) / 32)] ++
    tFold "TUP" "TDN" "TREF" (o0 "PRATE") (o0 "NT") [o0 "TMX", o0 "DER"] [o0 "TMX", o0 "DER"] ++
    [tSum "IQH" [(o0 "TREF", 1 / (2 * p 7))] 0, tSum "IQF" [(o0 "TREF", 1 / p 7)] 0,
     tSel "IQ1" (o0 "KL") [o0 "IQH", kc 0, o0 "IQF", kc 0], tSel "IQ2" (o0 "KL") [o0 "IQH", o0 "IQF", kc 0, kc 0]]
  ⟨cells1 ++ cells2 ++ cells3, [⟨"PRATE", "TUP", 0⟩, ⟨"PRATE", "TDN", 0⟩]⟩

/-- The motor record of a motor (R168). -/
structure MotorRec where
  six : Bool
  npp : Nat
  shape : Nat
  kpi : Nat
  kii : Nat
  eofs1 : Nat
  eofs2 : Nat
  iqmax : Nat
  ktm : Nat
  preg : Nat
  deriving DecidableEq, Repr

/-- Reading a motor record (R168). -/
def readMotor (r : Bytes) : MotorRec :=
  ⟨decide (byteAt r 0 = 1), byteAt r 1, byteAt r 2, u32At r 4, u32At r 8, u32At r 12, u32At r 16, u32At r 20, u32At r 24, u32At r 28⟩

/-- NTOP of R169 in rpm. -/
def MotorRec.ntop (r : MotorRec) : Rat := 60000 / (r.npp : Rat)

/-- An entry of the regeneration table (R178). -/
def MotorRec.regen (r : MotorRec) (i : Nat) : Rat :=
  min (f32Rat r.iqmax) (f32Rat r.preg / (f32Rat r.ktm * (2 * piRat) * ((i : Rat) + 1) * r.ntop / 32 / 60))

/-- Names of a motor loop carry the motor's number. -/
def mn (m : Nat) (s : String) : String := s ++ "#" ++ toString m

/-- The modulator rows 22-25 of SVM (R169). -/
def svmRows (m : Nat) (r : MotorRec) (mc : Rat) : TExp :=
  let q := mn m
  let pid := fun (n : String) (sp meas : Option TIn) =>
    tPid (q n) sp meas (o0 (q "ENM")) [some r.kpi, rp (f32Rat r.kii * tickS), rp 0, rp 0, rp (-60), rp 60, rp 0]
  let lim := fun (n : String) (v : Rat) => tSum (q n) [(o0 (q "VB"), v)] 0
  ⟨[pid "PD" (kc 0) (oN (q "CPK") 2), pid "PQ" (o0 (q "IQS")) (oN (q "CPK") 3),
    lim "VDL" (3 / 10 * mc * sqrtRat (1 / 3)), lim "VQL" (mc * sqrtRat (91 / 300)), tNeg (q "NVD") (o0 (q "PD"))] ++
    tFold (q "MD1") (q "MD2") (q "VD") (o0 (q "PD")) (o0 (q "NVD")) [o0 (q "VDL")] [o0 (q "VDL")] ++
    [tNeg (q "NVQ") (o0 (q "PQ"))] ++ tFold (q "MQ1") (q "MQ2") (q "VQ") (o0 (q "PQ")) (o0 (q "NVQ")) [o0 (q "VQL")] [o0 (q "VQL")] ++
    [{ name := q "MOD", kind := 11, ins := [o0 (q "VD"), o0 (q "VQ"), o0 (q "TADV"), o0 (q "VB")], params := [rp mc] }],
   [⟨q "PD", q "MD1", 0⟩, ⟨q "PD", q "MD2", 0⟩, ⟨q "PQ", q "MQ1", 0⟩, ⟨q "PQ", q "MQ2", 0⟩]⟩

/-- The modulator rows 22-25 of soft six-step (R175). -/
def sixRows (m : Nat) (r : MotorRec) (mc : Rat) : TExp :=
  let q := mn m
  ⟨[tPid (q "PQ") (o0 (q "IQS")) (oN (q "CPK") 3) (o0 (q "ENM"))
      [rp (f32Rat r.kpi / 48), rp (f32Rat r.kii * tickS / 48), rp 0, rp 0, rp (-mc), rp mc, rp 0],
    tNeg (q "NU") (o0 (q "PQ")), tMin (q "MX") [o0 (q "PQ"), o0 (q "NU")], tNeg (q "AMP") (o0 (q "MX")),
    tCmp (q "DIR") (o0 (q "PQ")) (1 / 1000) (-1 / 1000) true,
    { name := q "MOD", kind := 12, ins := [o0 (q "TADV"), o0 (q "AMP"), o0 (q "DIR")], params := [rp (r.shape : Nat)] }], []⟩

/-- The motor loop of a motor (R167-R178): its record, cap, own and alternate position channel, current demand, event number. DESIGN CHOICE (log
entry 129): BIAS of EA is EOFS1 in a pump, whose EOFS2 is ignored. -/
def motorLoop (m : Nat) (r : MotorRec) (mc : Rat) (own alt : Nat) (iqd : Option TIn) (ev : Nat) : TExp :=
  let q := mn m
  let u := 4 + m
  let o := fun n => o0 (q n)
  let cent := rp (1 / 100)
  let turn := rp (1 / 65536)
  let npp : Rat := (r.npp : Rat)
  let sel4 := fun (n a b : String) => tSel (q n) (o "KTH") [o a, o b, o a, o a]
  let head : List TCell :=
    [tSrc (q "IA") (srcWord 1 1 u 16) none cent false, tSrc (q "IB") (srcWord 1 1 u 18) none cent false,
     tSrc (q "VB") (srcWord 1 2 u 22) none cent false, tFlag (q "CF") u 28 0, tFlag (q "SF") u 6 1,
     tSrc (q "TO") (fbField own 2 6) none turn false, tSrc (q "TA") (fbField alt 2 6) none turn false,
     tSrc (q "TLO") (fbField own 4 8) (rp 1) (rp 1) false, tSrc (q "TLA") (fbField alt 4 8) (rp 1) (rp 1) false,
     tSrc (q "NO") (fbField own 1 4) none (rp 1) false, tSrc (q "NA") (fbField alt 1 4) none (rp 1) false,
     tSum (q "KTH") [(o "TLO", 1), (o "TLA", 2)] 0,
     tSum (q "EO") [(o "TO", npp)] (f32Rat r.eofs1), tSum (q "EA") [(o "TA", npp)] (f32Rat (if m < 2 then r.eofs2 else r.eofs1)),
     sel4 "TH" "EO" "EA", sel4 "N" "NO" "NA", tNeg (q "NN") (o "N"), tMin (q "MN") [o "NN", o "N"], tNeg (q "AN") (o "MN"),
     tCmp (q "OVS") (o "AN") (105 / 100 * r.ntop) r.ntop false,
     tSum (q "SFS") [(o "TLO", 1), (o "TLA", 1), (o "OVS", 2)] 0, tCmp (q "SAFEQ") (o "SFS") (3 / 2) (3 / 2) false,
     tSum (q "RUN") [(o "SAFEQ", -1)] 1, tSum (q "ENM") [(o "SF", -1)] 1,
     tSum (q "TADV") [(o "TH", 1), (o "N", npp * (5 / 4000000))] 0,
     { name := q "CPK", kind := 10, ins := [o "IA", o "IB", o "TH"] },
     tTbl (q "REG") (o "AN") (rp 0) (rp (32 / r.ntop)) r.regen, tTbl (q "REG0") (o "AN") none none (fun _ => 0),
     tSel (q "RG") (o "CF") [o "REG", o "REG0"], tCmp (q "SPOS") (o "N") 10 (-10) false,
     tSel (q "LUP") (o "SPOS") [o "RG", kc (f32Rat r.iqmax)], tSel (q "LDN") (o "SPOS") [kc (f32Rat r.iqmax), o "RG"],
     tNeg (q "NQ") iqd] ++
    tFold (q "MUP") (q "MDN") (q "IQS") iqd (o "NQ") [o "LUP"] [o "LDN"]
  let duty := fun (n : String) (k : Nat) => tSnk (q n) (srcWord 1 0 u k) (rp 65536) none (oN (q "MOD") k) (kc 1)
  let tail : List TCell :=
    [duty "S0" 0, duty "S1" 1, duty "S2" 2, tSnk (q "SR") (srcWord 1 0 u 3) (rp 1) none (o "RUN") (kc 1), tEvt (q "EVO") ev (o "OVS")]
  ((⟨head, []⟩ : TExp).append (if r.six then sixRows m r mc else svmRows m r mc)).append ⟨tail, []⟩

/-- STEER in full (R150, R171). -/
def steerExp (cv : Canvas) (a : AxisDef) (ev : Nat) : TExp :=
  let loop := fun (m own alt : Nat) (iq : String) =>
    motorLoop m (readMotor (cv.motorRec m)) ((cv.capOf (4 + m) : Rat) / 100) (a.bind own) (a.bind alt) (o0 iq) (ev + 3 + m)
  ((steerCells a ev).append (loop 0 2 3 "IQ1")).append (loop 1 3 2 "IQ2")

/-- The two pressure sensors of BRAKE and PUMP with their diagnosis (R157, R159): out of range, dead or frozen, and which is lost. -/
def rangeCells (lo hi : Rat) : List TCell :=
  [tCmp "LOA" (o0 "PA") lo (lo - 1) true, tCmp "LOB" (o0 "PB") lo (lo - 1) true,
   tCmp "HIA" (o0 "PA") hi (hi - 1) false, tCmp "HIB" (o0 "PB") hi (hi - 1) false]

/-- The sums and comparisons that find a sensor lost (R157, R159). -/
def lostCells : List TCell :=
  [tSum "FAS" [(o0 "LOA", 1), (o0 "HIA", 1), (o0 "LIVEA", -1)] 1, tSum "FBS" [(o0 "LOB", 1), (o0 "HIB", 1), (o0 "LIVEB", -1)] 1,
   tCmp "FA" (o0 "FAS") (3 / 4) (1 / 4) false, tCmp "FB" (o0 "FBS") (3 / 4) (1 / 4) false,
   tSum "K" [(o0 "FB", 1), (o0 "FA", 2), (oN "PLSP" 2, 4)] 0]

/-- The 34 cells of a brake circuit (R157). The open-loop parameters come from the FAULT section (R79, R156): the first BRAKE axis
is circuit 1. -/
def brakeExp (cv : Canvas) (a : AxisDef) (ev : Nat) : TExp :=
  let b := a.bind
  let p := fun k => f32Rat (a.par k)
  let w := fun k => some (a.par k)
  let circuit := ((cv.axes.filter (fun x => x.kind = 2)).takeWhile (fun x => x.axis ≠ a.axis)).length
  let i0 := f32Rat (cv.mode.loops.getD (2 * circuit) 0)
  let ig := f32Rat (cv.mode.loops.getD (2 * circuit + 1) 0)
  let live := fun (n s : String) => tLive n (o0 s) (o0 "ERR") (oN s 1) (a.par 7) (a.par 8) (a.par 9) (a.par 10) true
  let valve := fun (n : String) (k : Nat) => tSnk n (b k) (rp 1) (rp 0) (o0 "IOUT") (kc 1)
  ⟨[tSrc "PA" (b 0) none none false, tSrc "PB" (b 1) none none false, tSrc "DEM" (b 2) none none true,
    tSrc "DEC" (srcWord 3 0 0 5) (rp 0) (rp 1) false, tSum "STP" [(o0 "DEC", p 6)] 0, tNeg "NDEM" (o0 "DEM"), tNeg "NSTP" (o0 "STP"),
    tMin "MXN" [o0 "NDEM", o0 "NSTP"], tNeg "PSPR" (o0 "MXN"), tLim "PSP" (o0 "PSPR") (kc 0) (kc (p 0)) (rp 0) (rp 0),
    tPls "PLSP" (o0 "PA") (o0 "PB") (a.par 1) (a.par 2), tMin "MINP" [o0 "PA", o0 "PB"]] ++
   rangeCells (p 11) (p 12) ++
   [tSum "ERR" [(o0 "PSP", 1), (o0 "PLSP", -1)] 0, live "LIVEA" "PA", live "LIVEB" "PB"] ++ lostCells ++
   [tTbl "KOL" (o0 "K") (rp 0) (rp 1) (fun i => if i = 3 ∨ 7 ≤ i then 1 else 0),
    tSel "PMEAS" (o0 "K") [o0 "PLSP", o0 "PA", o0 "PB", o0 "PLSP", o0 "MINP", o0 "PA", o0 "PB", o0 "PLSP"],
    tPid "PPID" (o0 "PSP") (o0 "PMEAS") (kc 1) [w 3, rp (p 4 * tickS), rp 0, rp 0, rp 0, w 5, none],
    tSum "IOL" [(o0 "PSP", ig)] i0, tSel "IOUT" (o0 "KOL") [o0 "PPID", o0 "IOL"], valve "VA" 3, valve "VB" 4,
    tEvt "EVA" ev (o0 "FA"), tEvt "EVB" (ev + 1) (o0 "FB"), tEvt "EVD" (ev + 2) (oN "PLSP" 2)], []⟩

/-- The 23 cells of the charging logic, at round rate (R159). -/
def chargeCells (a : AxisDef) (ev : Nat) : TExp :=
  let b := a.bind
  let p := fun k => f32Rat (a.par k)
  let live := fun (n s : String) => tLive n (o0 s) (o0 "CHG") (oN s 1) (a.par 6) (roundF32 (1 / 2)) (a.par 7) (a.par 8) true
  ⟨([tSrc "PA" (b 0) none none false, tSrc "PB" (b 1) none none false, tPls "PLSP" (o0 "PA") (o0 "PB") (a.par 4) (a.par 5),
     tMin "MINP" [o0 "PA", o0 "PB"]] ++ rangeCells (p 9) (p 10) ++ [live "LIVEA" "PA", live "LIVEB" "PB"] ++ lostCells ++
    [tSel "PMEAS" (o0 "K") [o0 "PLSP", o0 "PA", o0 "PB", kc 0, o0 "MINP", o0 "PA", o0 "PB", kc 0],
     { tCmp "CHG" (o0 "PMEAS") (p 1) (p 0) true with delayed := 1 }, tCmp "LOW" (o0 "PMEAS") (p 2 + 5) (p 2) true,
     tSum "NSPD" [(o0 "CHG", p 3)] 0, tEvt "EVA" ev (o0 "FA"), tEvt "EVB" (ev + 1) (o0 "FB"), tEvt "EVD" (ev + 2) (oN "PLSP" 2),
     tEvt "EVL" (ev + 3) (o0 "LOW")]).map (fun c => { c with round := true }), []⟩

/-- The speed block of a pump (R180). -/
def speedBlock (m : Nat) (r : MotorRec) (a : AxisDef) : TExp :=
  let q := mn m
  let p := fun k => f32Rat (a.par k)
  ⟨[tSrc (q "NSP") (srcWord 5 5 0 (a.first + 18)) (rp 0) none true, tLim (q "TGT") (o0 (q "NSP")) (kc 0) (kc (p 15)) (rp 0) (rp 0),
    tRamp (q "RMP") (o0 (q "TGT")) (o0 (q "N")) (o0 (q "ENM")) (p 13 * tickS) (p 14 * tickS),
    tPid (q "PS") (o0 (q "RMP")) (o0 (q "N")) (o0 (q "ENM"))
      [some (a.par 11), rp (p 12 * tickS), rp 0, rp 0, rp (-(f32Rat r.iqmax)), some r.iqmax, rp 0]],
   [⟨q "PS", q "MUP", 0⟩, ⟨q "PS", q "MDN", 0⟩]⟩

/-- PUMP in full (R159, R171). -/
def pumpExp (cv : Canvas) (a : AxisDef) (ev : Nat) : TExp :=
  let loop := fun (m bnd : Nat) =>
    let r := readMotor (cv.motorRec m)
    let s := fbSource (a.bind bnd)
    (speedBlock m r a).append (motorLoop m r ((cv.capOf (4 + m) : Rat) / 100) s s (o0 (mn m "PS")) (ev + 2 + m))
  ((chargeCells a ev).append (loop 2 2)).append (loop 3 3)

/-- The 9 cells of the park brake (R160). -/
def parkExp (a : AxisDef) : TExp :=
  let p := fun k => f32Rat (a.par k)
  let d := p 1 - p 0
  ⟨[tSrc "REQ" (a.bind 0) none none true, tSrc "APL" (srcWord 3 0 0 6) (rp 0) (rp 1) false, tSum "RQ" [(o0 "REQ", 1), (o0 "APL", -1)] 0,
    tCmp "REL" (o0 "RQ") (3 / 4) (1 / 4) false,
    { name := "HP", kind := 7, ins := [o0 "REL"], params := [rp d, rp (-d), rp 0, rp (-(expRat (-(tickS / p 2)))), rp 0] },
    tSum "I" [(o0 "REL", p 0), (o0 "HP", 1)] 0, tLim "IL" (o0 "I") (kc 0) (kc 5000) (rp 0) (rp 0),
    tSnk "VA" (a.bind 1) (rp 1) none (o0 "IL") (kc 1), tSnk "VB" (a.bind 2) (rp 1) none (o0 "IL") (kc 1)], []⟩

/-- A SOURCE or TARGET word with another FORMAT. -/
def withFormat (w fmt : Nat) : Nat := w - 16777216 * (wFormat w) + 16777216 * fmt

/-- The set-point cells of a remote axis: one SRC, or those of TRAILER (R163), whose last SUM takes the place of that SRC. -/
def remoteSp (cv : Canvas) (a : AxisDef) : List TCell :=
  if a.kind = 5 then
    let p := fun k => f32Rat (a.par k)
    let psp := fun (k : Nat) => (cv.axes.find? (fun x => x.kind = 2 && x.axis = a.bind k)).map (fun x => TIn.far (x.first + 9) 0)
    [tSrc "DEMT" (a.bind 4) none none false, tSrc "APL" (srcWord 3 0 0 6) (rp 0) (rp 1) false,
     tSum "T1" [(psp 7, -(p 14))] 0, tSum "T2" [(psp 8, -(p 14))] 0, tNeg "T3" (o0 "DEMT"), tSum "T4" [(o0 "APL", -(p 15))] 0,
     tMin "TM" [o0 "T1", o0 "T2", o0 "T3", o0 "T4"], tNeg "SP" (o0 "TM")]
  else [tSrc "SP" (a.bind 4) none none false]

/-- The cells of a remote axis, at round rate (R162, R163), with the fields of R161: M1 at byte 4 of the payload, M2 at 8, PFAULT in byte 2,
DRIVE at 4 and CMD at 2. The payload offset a binding names stands in no word of it (log entry 25). EN of the remote PID and of its SNKs is
the constant 1 (log entry 25). -/
def remoteExp (cv : Canvas) (a : AxisDef) (ev : Nat) : TExp :=
  let b := a.bind
  let p := fun k => f32Rat (a.par k)
  let w := fun k => some (a.par k)
  let base := fun (k : Nat) => (Config.templateWord a.bytes k 200).toNat % 1425
  let at' := fun (k o : Nat) => rp ((base k + o : Nat) : Rat)
  let m := fun (n : String) (k o : Nat) => tSrc n (b k) (at' (k % 2) o) (w 0) false
  let snk := fun (n : String) (t k o : Nat) (scale : Option Nat) (x : String) =>
    { tSnk n t scale none (o0 x) (kc 1) with params := [some t, at' k o, scale, none] }
  let two := fun (n x y : String) => tSel n (o0 "KPL") [o0 x, o0 y]
  ⟨([m "M1P1" 0 4, m "M1P2" 1 4, m "M2P1" 2 8, m "M2P2" 3 8, tSrc "STP1" (withFormat (b 0) 4) (at' 0 2) (rp 1) false,
     tSrc "STP2" (withFormat (b 1) 4) (at' 1 2) (rp 1) false] ++ remoteSp cv a ++
    [tSrc "TR" (srcWord 3 0 0 1) (rp 0) (rp 1) false, tCmp "KPL" (oN "M1P1" 1) (3 / 4) (1 / 4) true,
     two "M1" "M1P1" "M1P2", two "M2" "M2P1" "M2P2", two "PF" "STP1" "STP2", tPls "PLSM" (o0 "M1") (o0 "M2") (a.par 4) (a.par 5),
     tSum "FR" [(oN "M1P1" 1, 1), (oN "M1P2" 1, 1)] 0, tLim "SPL" (o0 "SP") (kc (p 1)) (kc (p 2)) none none,
     tSum "ERR" [(o0 "SPL", 1), (o0 "PLSM", -1)] 0,
     tLive "LIV" (o0 "PLSM") (o0 "ERR") (o0 "FR") (a.par 10) (a.par 11) (a.par 12) (a.par 9) false,
     tSum "FS" [(oN "PLSM" 2, 1), (o0 "PF", 1), (o0 "LIV", -1)] 1, tCmp "FLT" (o0 "FS") (3 / 4) (1 / 4) false,
     tPid "PID" (o0 "SPL") (o0 "PLSM") (kc 1) [w 6, rp (p 7 / 2500), none, none, rp (-(p 8)), rp (p 8), none],
     tNeg "NU" (o0 "PID"), tSel "RMX" (o0 "TR") [kc (p 8), kc (p 8 * p 13)]] ++
    tFold "DUP" "DDN" "DRV" (o0 "PID") (o0 "NU") [o0 "RMX"] [o0 "RMX"] ++
    [tSel "OUT" (o0 "FLT") [o0 "DRV", kc (p 3)], tSum "CMD" [(o0 "FLT", 1)] 1,
     snk "OUT1" (b 5) 5 4 none "OUT", snk "OUT2" (b 6) 6 4 none "OUT",
     snk "CMD1" (withFormat (b 5) 3) 5 2 (rp 1) "CMD", snk "CMD2" (withFormat (b 6) 3) 6 2 (rp 1) "CMD",
     tEvt "EVF" ev (o0 "FLT")]).map (fun c => { c with round := true }),
   [⟨"PID", "DUP", 0⟩, ⟨"PID", "DDN", 0⟩]⟩

/-- The lane events a template takes (R366). -/
def eventsOf (kind : Nat) : Nat :=
  match kind with
  | 1 => 5 | 2 => 3 | 3 => 6 | 5 => 1 | 6 => 1 | 7 => 1 | _ => 0

/-- The first event number of an axis (R366). -/
def firstEvent (cv : Canvas) (k : Nat) : Nat := 32 + ((cv.axes.take k).map (fun a => eventsOf a.kind)).sum

/-- The expansion of an entry of AXES (R143). -/
def expansionOf (cv : Canvas) (a : AxisDef) (ev : Nat) : TExp :=
  match a.kind with
  | 1 => steerExp cv a ev
  | 2 => brakeExp cv a ev
  | 3 => pumpExp cv a ev
  | 4 => parkExp a
  | 5 => remoteExp cv a ev
  | 6 => remoteExp cv a ev
  | 7 => remoteExp cv a ev
  | _ => {}

/-- Where a name stands in an expansion. -/
def TExp.pos (x : TExp) (n : String) : Nat := (x.cells.takeWhile (fun c => c.name ≠ n)).length

/-- Whether an input is wired as a template says. -/
def inputAgrees (cv : Canvas) (a : AxisDef) (x : TExp) (pos k : Nat) (t : Option TIn) : Bool :=
  match cv.wire (a.first + pos) k, t with
  | some w, some (.cell n o) => decide (w.type = 0 ∧ w.scell = a.first + x.pos n ∧ w.sout = o)
  | some w, some (.far i o) => decide (w.type = 0 ∧ w.scell = i ∧ w.sout = o)
  | some w, some (.con v) => decide (w.type = 1 ∧ w.const = roundF32 v)
  | some w, none => decide (w.type = 1) && decide (w.const = (Config.templateWord a.bytes pos (64 + k)).toNat)
  | none, _ => false

/-- The number of parameters a cell needs (R112, R127). -/
def paramsNeeded (d : CellDef) : Nat :=
  match d.kind with
  | 1 => 5 | 2 => 4 | 3 => 6 | 4 => 2 | 5 => 2
  | 6 => if pcount (d.p 7) ≤ 1 then 14 else 44
  | 7 => 5 | 8 => 1 | 9 => 1 | 0xB => 1 | 0xC => 1 | 0xD => 5 | 0xE => 5 | 0xF => 3 | 0x10 => 35 | _ => 0

/-- Whether a cell of CELLS is the one the template gives, with no more CONT entries than its parameters need (R145). -/
def cellAgrees (cv : Canvas) (a : AxisDef) (x : TExp) (pos : Nat) (t : TCell) (d : CellDef) : Bool :=
  decide (d.idx = a.first + pos) && decide (d.kind = t.kind) && d.round == t.round && !d.expert && decide (d.axis = a.axis) &&
    decide (d.delayed = t.delayed) && decide (d.ncont = (paramsNeeded d - 1) / 14) &&
    (!t.round || decide (d.tinr = (Config.templateWord a.bytes pos 128).toNat % 8)) &&
    (indexed t.params).all (fun e => decide (d.p e.1 = e.2.getD (Config.templateWord a.bytes pos e.1).toNat)) &&
    (indexed t.ins).all (fun e => inputAgrees cv a x pos e.1 e.2)

/-- Whether the tracking links of an axis are those of its template. -/
def linksAgree (cv : Canvas) (a : AxisDef) (x : TExp) : Bool :=
  let got := (cv.wires.filter (fun w => w.type = 2 && decide (a.first ≤ w.dcell) && decide (w.dcell < a.first + x.cells.length))).map
    (fun w => (w.dcell, w.scell, w.sout))
  let want := x.links.map (fun l => (a.first + x.pos l.chain, a.first + x.pos l.min, l.input))
  decide (got.length = want.length) && want.all (fun e => decide (e ∈ got))

/-- Whether the expansion of an entry of AXES stands in CELLS and WIRES (R86, R143, R145). -/
def axisAgrees (cv : Canvas) (k : Nat) (a : AxisDef) : Bool :=
  let x := expansionOf cv a (firstEvent cv k)
  let run := (cv.cells.dropWhile (fun d => d.idx ≠ a.first)).take x.cells.length
  if a.kind = 0 then true
  else decide (a.ncell = x.cells.length) && decide (run.length = x.cells.length) &&
    (indexed (x.cells.zip run)).all (fun e => cellAgrees cv a x e.1 e.2.1 e.2.2) && linksAgree cv a x

/-- The resources a template binds (R145, R148, R156, R159-R161): half-bridges, valve channels, feedback channels, the safety inputs of pressure
sensors, transmit slots. -/
def boundRes (cv : Canvas) (a : AxisDef) : List Nat :=
  let bridges := fun (us : List Nat) => us.flatMap (fun u => (List.range (bridgesOf u).2).map (fun k => resCode 1 u ((bridgesOf u).1 + k)))
  let slot := fun (w : Nat) => slotRes (wUnit w) (wIndex w % 4096)
  let inputs := ([0, 1].map (fun k => srcRes cv (a.bind k) (((cv.cell (a.first + k)).map (fun d => pcount (d.p 1))).getD 0))).filter (fun r => r ≠ 0)
  match a.kind with
  | 1 => bridges [4, 5] ++ [0, 1, 2, 3].map (fun k => fbRes (a.bind k))
  | 2 => inputs ++ [3, 4].map (fun k => valveRes (a.bind k))
  | 3 => inputs ++ bridges [6, 7] ++ [a.bind 2, a.bind 3]
  | 4 => [1, 2].map (fun k => valveRes (a.bind k))
  | 5 | 6 | 7 => [5, 6].map (fun k => slot (a.bind k))
  | _ => []

/-- The agreement windows a template writes into VOTE (R170, R187): unit, word, W. -/
def boundVotes (a : AxisDef) : List (Nat × Nat × Nat) :=
  let motor := fun (us : List Nat) => us.flatMap (fun u => [(u, 0, 64), (u, 1, 64), (u, 2, 64), (u, 3, 0)])
  let valve : Nat → List (Nat × Nat × Nat) := fun k => [(wUnit (a.bind k), wIndex (a.bind k), 20), (wUnit (a.bind k), 3, 0)]
  match a.kind with
  | 1 => motor [4, 5]
  | 2 => valve 3 ++ valve 4
  | 3 => motor [6, 7]
  | 4 => valve 1 ++ valve 2
  | _ => []

/-- The soft limits STEER loads into both SENT channels (R153), in counts by SCALE and OFFSET of the sensor's SRC (log entry 25). -/
def softLimitsOk (cv : Canvas) (a : AxisDef) : Bool :=
  let p := fun k => f32Rat (a.par k)
  [0, 1].all (fun k =>
    let w := a.bind k
    let r := (cv.unitRecs (wUnit w)).getD ((wIndex w - 16) / 10 + 1) []
    match cv.cell (a.first + k) with
    | none => false
    | some d =>
      let s := coef (d.p 2)
      let cnt := fun (deg : Rat) => roundAway ((deg - f32Rat (d.p 3)) / s)
      let x := cnt (p 2 - p 3)
      let y := cnt (p 1 + p 3)
      decide (s ≠ 0 ∧ i32At r 8 = min x y ∧ i32At r 12 = max x y))

/-- EXPAND (R86, R143, R145): every template is expanded in CELLS, OWN, VOTE and the soft limits, and no cell but an expert one lies outside
the expansions. -/
def checkExpand (cv : Canvas) : Option Refuse :=
  (firstOf (indexed cv.axes) (fun e =>
    let a := e.2
    (need (axisAgrees cv e.1 a) ⟨0x1B, 7, 192 * e.1, a.axis, 0, 0⟩).or
      ((firstOf (boundRes cv a) (fun r => need (decide (cv.ownerOf r = some a.axis)) ⟨0x1B, 3, 0, r, 0, 0⟩)).or
      ((need ((boundVotes a).all (fun v => cv.vote.contains v)) ⟨0x1B, 6, 0, a.axis, 0, 0⟩).or
      (need (decide (a.kind ≠ 1) || softLimitsOk cv a) ⟨0x1B, 14, 0, a.axis, 0, 0⟩))))).or
    (firstOf (indexed cv.cells) (fun e => need (e.2.expert || cv.axes.any (fun a => decide (a.kind ≠ 0) && decide (a.first ≤ e.2.idx) &&
      decide (e.2.idx < a.first + a.ncell))) ⟨0x1B, 1, cv.cellOfs e.1, e.2.idx, 0, 0⟩))

/-- Whether an input of a cell carries what its signal output is made of, and not a limit, a selector or a flag (R123-R137). -/
def signalInput (kind k : Nat) : Bool :=
  match kind with
  | 3 | 7 | 8 | 0xD | 0x10 => true
  | 4 => decide (k = 0)
  | 5 => decide (k ≤ 1)
  | 9 | 0xC => decide (1 ≤ k) && decide (kind = 9 ∨ k = 1)
  | _ => false

/-- The outputs a cell makes its signal of: those wired to its signal inputs, or the one it latches (R119). -/
def signalFrom (cv : Canvas) (d : CellDef) : List (Nat × Nat) :=
  if d.kind = 1 then (if wClass (d.p 0) = 5 then [(wIndex (d.p 0), pcount (d.p 1))] else [])
  else ((List.range (inputsOf d)).filter (signalInput d.kind)).filterMap (fun k =>
    (cv.wire d.idx k).bind (fun w => if w.type = 0 then some (w.scell, w.sout) else none))

/-- The outputs that feed one of `xs` through whatever cells but PIDs, and `xs` (R173, R175). The first argument bounds the steps. -/
def signalsBehind (cv : Canvas) : Nat → List (Nat × Nat) → List (Nat × Nat)
  | 0, xs => xs
  | f + 1, xs =>
    let more := ((xs.filterMap (fun x => cv.cell x.1)).flatMap (fun d => if d.kind = 6 then [] else signalFrom cv d)).filter (fun x => !xs.contains x)
    if more = [] then xs else signalsBehind cv f (xs ++ more.dedup)

/-- The PID cells whose U feeds the amplitude of a SIX (R173, R175). -/
def pidsBehind (cv : Canvas) (d : CellDef) : List CellDef :=
  ((signalsBehind cv (8 * cv.cells.length) (signalFrom cv d)).filter (fun x => x.2 = 0)).filterMap (fun x =>
    (cv.cell x.1).bind (fun p => if p.kind = 6 then some p else none))

/-- The ranges of motors, caps and canvas sources that depend on several sections (R168, R173, R177, R180, R366). -/
def crossRanges (cv : Canvas) : Option Refuse :=
  let taken := firstEvent cv cv.axes.length
  let num := fun (d : CellDef) => wIndex (d.p 0)
  let evts := cv.cells.filter (fun d => d.kind = 2 && wClass (d.p 0) = 3)
  let pumpOk := fun (a : AxisDef) => [2, 3].all (fun (m : Nat) =>
    let r := readMotor (cv.motorRec m)
    let n := f32Rat (a.par 15)
    inRange (a.par 11) (1 / 10000) 1 && inRange (a.par 12) 0 100 && inRange (a.par 13) 100 100000 && inRange (a.par 14) 100 100000 &&
      decide (f32Rat (a.par 3) ≤ n) && decide (n * (r.npp : Rat) ≤ 60000))
  (firstOf (indexed cv.axes) (fun e => need ((decide (e.2.kind ≠ 1) || [0, 1].all (fun (m : Nat) =>
      decide (f32Rat (readMotor (cv.motorRec m)).ktm = f32Rat (e.2.par 7)))) && (decide (e.2.kind ≠ 3) || pumpOk e.2))
    ⟨0x11, 7, 192 * e.1, 0, 0, 0⟩)).or
    ((firstOf (indexed cv.cells) (fun e =>
      let cap := f32Rat (roundF32 (sixCap cv e.2))
      need (if e.2.kind = 11 then decide (f32Rat (e.2.p 0) ≤ cap)
        else if e.2.kind = 12 then (pidsBehind cv e.2).all (fun d => decide (f32Rat (d.p 5) ≤ cap))
        else if e.2.kind = 2 ∧ wClass (e.2.p 0) = 3 ∧ e.2.expert = true then decide (taken ≤ num e.2) else true)
        ⟨0x11, 1, cv.cellOfs e.1, 0, 0, 0⟩)).or
    (need (decide (taken ≤ 128) && decide (((evts.map num).dedup).length ≤ 96)) ⟨0x11, 7, 0, 0, 0, 0⟩))

/-- Bindings within what a template binds (R148, R156, R159-R162): units, words and kinds, and for a remote axis signed 32-bit fields. -/
def bindOk (a : AxisDef) : Bool :=
  let w := a.bind
  let from' := fun (k lo hi : Nat) => decide (wClass (w k) = 1) && decide (lo ≤ wUnit (w k) ∧ wUnit (w k) ≤ hi)
  let valve := fun (k u x : Nat) => decide (w k = srcWord 1 0 u x)
  match a.kind with
  | 1 => (List.range 4).all (fun k => from' k 10 11) && decide (w 9 = 0 ∧ w 10 = 0 ∧ w 11 = 0)
  | 2 => from' 0 12 13 && from' 1 12 13 && ((valve 3 8 0 && valve 4 9 0) || (valve 3 8 1 && valve 4 9 1))
  | 3 => from' 0 12 13 && from' 1 12 13 && [2, 3].all (fun k => decide (w k / 16777216 = 3))
  | 4 => valve 1 8 2 && valve 2 9 2
  | 5 | 6 | 7 => [0, 1, 2, 3, 5, 6].all (fun k => decide (wClass (w k) = 2) && decide (wFormat (w k) = 0))
  | _ => true

/-- Bindings that must lie on different units (R50, R148, R156, R159). -/
def bindSplit (cv : Canvas) : Option Refuse :=
  firstOf (indexed cv.axes) (fun e =>
    let w := e.2.bind
    let apart := fun (i j : Nat) => need (decide (wUnit (w i) ≠ wUnit (w j))) ⟨0x16, 7, 192 * e.1, srcRes cv (w j) 0, 0, 0⟩
    if e.2.kind = 1 then (apart 0 1).or (apart 2 3) else if e.2.kind = 2 ∨ e.2.kind = 3 then apart 0 1 else none)

end Sys2Proof.Machine
end

