-- ==== Sys2Proof/Machine/CanvasCheck.lean ====
section
/-!
DEFINITION. The structural check of a canvas in lanes A and B and the schedule and parameter checks of lane C (R81, R82, R84, R86, R88-R90,
R110, R117, R119-R138, R145, R149, R156-R163, R168, R191, R204, R215, R232, R236, R257, R328, R329, R366, R370, R409, R436).
-/
namespace Sys2Proof.Machine
open Sys2Proof

/-- A count or code: an integer within bounds (R117). -/
def countOk (w lo hi : Nat) : Bool := inRange w lo hi && decide ((f32Exact w).den = 1)

/-- A coefficient in its scaled form (R117). -/
def coefOk (w : Nat) : Bool :=
  let c := f32Exact w
  let m := if c < 0 then -c else c
  !f32IsNan w && !f32IsInf w && decide (m < 2147483648) && (decide (m = 0) || decide (1 / 8589934592 ≤ m))

/-- A parameter in Q15.16 (R117). -/
def q15Ok (w : Nat) : Bool :=
  let c := f32Exact w
  let m := if c < 0 then -c else c
  inRange w (-32768) (2147483647 / 65536) && (decide (m = 0) || decide (1 / 131072 ≤ m))

/-- The INDEX of an event source (R374): STATUS or SEVERE, the own block with a canvas source or a unit code 0x4-0xE, and 0 between. -/
def eventIndexOk (x : Nat) : Bool :=
  decide (bitsOf x 19 16 = 1 ∨ bitsOf x 19 16 = 2) && decide (bitsOf x 11 8 = 0) &&
    (if bitsOf x 15 12 = 0 then decide (32 ≤ x % 256 ∧ x % 256 ≤ 127) else decide (4 ≤ bitsOf x 15 12 ∧ bitsOf x 15 12 ≤ 14))

/-- The ranges of an SRC's SOURCE (R119, R146, R374); byte 6 bit 1 is the SAFE bit the templates read (R19, R148, log entry 25). -/
def sourceOk (w sofs : Nat) : Bool :=
  let x := wIndex w
  decide (wFormat w ≤ 5) &&
    (match wClass w with
    | 1 => decide (4 ≤ wUnit w) && decide (wUnit w ≤ 13) && decide (sofs < 8) &&
        (decide (8 ≤ x ∧ x ≤ 59) || decide (x = 6 ∧ wFormat w = 4 ∧ sofs = 1))
    | 2 => decide (wUnit w ≤ 2) && decide (x ≤ 4095) && decide (sofs < 1440)
    | 3 => decide (wUnit w = 0) && decide (sofs = 0) && (decide (x ≤ 7) || eventIndexOk x)
    | 4 => decide (wUnit w = 0) && decide (sofs = 0) && decide (x < 64)
    | 5 => decide (wUnit w = 0)
    | _ => false)

/-- The ranges of a SNK's TARGET (R121, R366). -/
def targetOk (w sofs : Nat) : Bool :=
  let x := wIndex w
  match wClass w with
  | 1 => decide (4 ≤ wUnit w) && decide (wUnit w ≤ 13) && decide (x ≤ 12) && decide (wFormat w = 0)
  | 2 => decide (wUnit w ≤ 2) && decide (x ≤ 4095) && decide (sofs < 1440) && decide (wFormat w ≤ 5)
  | 3 => decide (wUnit w = 0) && decide (32 ≤ x) && decide (x ≤ 127) && decide (wFormat w ≤ 5)
  | _ => false

/-- The poles of a BQD lie inside the unit circle (R125): |A2| below 1 and |A1| below 1 + A2. -/
def polesOk (a1 a2 : Rat) : Bool := decide (a2 < 1) && decide (-1 < a2) && decide (a1 < 1 + a2) && decide (-(1 + a2) < a1)

/-- The parameters of a cell within their ranges (R117, R119-R138). DESIGN CHOICE (log entry 118): a negative RUP or RDN of LIM is refused. -/
def cellRange (d : CellDef) : Bool :=
  let p := d.p
  let qs := fun (a n : Nat) => (List.range n).all (fun i => q15Ok (p (a + i)))
  let cs := fun (a n : Nat) => (List.range n).all (fun i => coefOk (p (a + i)))
  decide (d.axis < 128 ∨ d.axis = 0xFE) && decide (d.idx ≤ 8191) && decide (d.ncont ≤ 3) && (d.round || decide (d.tinr = 0)) &&
  (match d.kind with
  | 1 => sourceOk (p 0) (pcount (p 1)) && countOk (p 1) 0 1439 && coefOk (p 2) && q15Ok (p 3) && countOk (p 4) 0 1
  | 2 => targetOk (p 0) (pcount (p 1)) && countOk (p 1) 0 1439 && coefOk (p 2) && q15Ok (p 3)
  | 3 => countOk (p 0) 1 4 && cs 1 4 && q15Ok (p 5)
  | 4 => qs 0 2 && decide (0 ≤ f32Rat (p 0)) && decide (0 ≤ f32Rat (p 1))
  | 5 => qs 0 2 && decide (0 < f32Rat (p 0)) && decide (0 < f32Rat (p 1))
  | 6 =>
    let k := pcount (p 7)
    countOk (p 7) 1 8 && cs 0 4 && qs 4 3 && decide (f32Rat (p 4) ≤ f32Rat (p 5)) && q15Ok (p 8) && decide (0 ≤ f32Rat (p 8)) &&
      (List.range (k - 1)).all (fun j => q15Ok (p (9 + j)) && cs (16 + 4 * j) 4) &&
      (List.range (k - 2)).all (fun j => decide (f32Rat (p (9 + j)) < f32Rat (p (10 + j))))
  | 7 => cs 0 5 && polesOk (f32Rat (p 3)) (f32Rat (p 4))
  | 8 => countOk (p 0) 2 8
  | 9 => countOk (p 0) 1 8
  | 0xB => q15Ok (p 0)
  | 0xC => q15Ok (p 0) && inRange (p 0) 0 20
  | 0xD => q15Ok (p 0) && countOk (p 1) 1 65535 && countOk (p 2) 1 65535 && countOk (p 3) 1 65535 && countOk (p 4) 0 1
  | 0xE => qs 0 2 && countOk (p 2) 1 65535 && countOk (p 3) 1 65535 && countOk (p 4) 0 1
  | 0xF => qs 0 2 && decide (f32Rat (p 1) ≤ f32Rat (p 0)) && countOk (p 2) 0 1
  | 0x10 => q15Ok (p 0) && coefOk (p 1) && decide (0 < f32Rat (p 1)) && qs 2 33
  | _ => true)

/-- Whether every cell is followed by as many CONT entries of its own index as its NCONT says, and no other CONT entry stands anywhere
(R109, R110). `due` counts the CONT entries of cell `idx` still to come. -/
def contsOk : List Bytes → Nat → Nat → Bool
  | [], due, _ => decide (due = 0)
  | e :: r, due, idx =>
    if byteAt e 2 = 0 then decide (0 < due) && decide (u16At e 0 = idx) && contsOk r (due - 1) idx
    else decide (due = 0) && contsOk r (byteAt e 5) (u16At e 0)

/-- FORMAT of the cell records (R108, R110, R111): kinds, CONT entries and parameters provided, wire types. -/
def cellFormat (cv : Canvas) (raw : Bytes) : Option Refuse :=
  (need (contsOk (entriesOf raw 64) 0 0) ⟨2, 1, 0, 0, 0, 0⟩).or
    ((firstOf (indexed cv.cells) (fun e => need (decide (e.2.kind ≤ 0x10) && decide (paramsNeeded e.2 ≤ 14 * (1 + e.2.ncont)))
      ⟨2, 1, cv.cellOfs e.1, e.2.idx, 0, 0⟩)).or
    (firstOf (indexed cv.wires) (fun e => need (decide (e.2.type ≤ 2)) ⟨2, 2, 12 * e.1, 0, 0, 0⟩)))

/-- The resources an axis must own for a SNK to write a command word (R436); none for a word no SNK may name. -/
def wordNeeds (unit word : Nat) : Option (List Nat) :=
  if 4 ≤ unit ∧ unit ≤ 7 ∧ word ≤ 3 then
    some ((List.range 3).map (fun k => resCode 1 unit ((bridgesOf unit).1 + k)))
  else if unit = 8 ∨ unit = 9 then
    let base := if unit = 9 then 3 else 0
    if word ≤ 2 then some [resCode 2 unit (base + word)]
    else if word = 3 then some ((List.range 3).map (fun k => resCode 2 unit (base + k)))
    else none
  else none

/-- The record of a feedback channel (R215) and its resource. -/
def Canvas.fbRecord (cv : Canvas) (u c : Nat) : Bytes := (cv.unitRecs u).getD (c + 1) []
def fbChan (u c : Nat) : Nat := resCode 3 u (c + if u = 11 then 4 else 0)

/-- The connector pin a channel's COPIN names, as a resource (R81, R215, R421). -/
def pinRes (u pin : Nat) : Nat := resCode 8 u (256 * 6 + pin)

/-- OWNER rules of the units' records (R215, R236, R421): the timer of an owned channel and the pin of a compare output belong to the channel's owner, one pin is
named under one owner, and the timer of a pulsed supply to no one but 0xFE. DESIGN CHOICE (log entry 147): FIRST is 0xFE where the timer or pin that is
lacking has no owner. -/
def unitOwners (cv : Canvas) : Option Refuse :=
  let lacks := fun (r first second : Nat) => (some ⟨0x10, 14, 0, r, first, second⟩ : Option Refuse)
  let chans := [10, 11].flatMap (fun u => (List.range 4).map (fun c => (u, c)))
  let live := chans.filter (fun x => byteAt (cv.fbRecord x.1 x.2) 35 ≠ 0xFF)
  let owner := fun (x : Nat × Nat) => cv.ownerOf (fbChan x.1 x.2)
  let timers := firstOf chans (fun x =>
    let timer := resCode 7 x.1 (byteAt (cv.fbRecord x.1 x.2) 34)
    if owner x = none ∨ cv.ownerOf timer = owner x then none else lacks timer ((cv.ownerOf timer).getD 0xFE) ((owner x).getD 0xFE))
  let compare := firstOf (indexed live) (fun e =>
    let x := e.2
    let b := cv.fbRecord x.1 x.2
    let pin := pinRes x.1 (byteAt b 35)
    match (live.take e.1).find? (fun y => y.1 = x.1 && byteAt (cv.fbRecord y.1 y.2) 35 = byteAt b 35 && owner y ≠ owner x) with
    | some y => lacks pin ((owner y).getD 0xFE) ((owner x).getD 0xFE)
    | none =>
      if cv.ownerOf pin = owner x then none else lacks pin ((cv.ownerOf pin).getD 0xFE) ((owner x).getD 0xFE))
  let pulsed := firstOf ([12, 13].flatMap (fun u => (List.range 8).map (fun p => (u, p)))) (fun x =>
    match cv.ownerOf (resCode 7 x.1 x.2) with
    | some o => if byteAt ((cv.unitRecs x.1).getD 1 []) (4 * x.2 + 1) = 1 ∧ o ≠ 0xFE then lacks (resCode 7 x.1 x.2) 0xFE o else none
    | none => none)
  (timers.or compare).or pulsed

/-- OWNER (R86, R122, R145, R236, R421, R436). A canvas source no SNK may name, outside 32-127 or taken by a template, is left to RANGE (R366).
DESIGN CHOICE (log entry 147): FIRST is 0 where the resource a SNK lacks has no owner. -/
def checkOwner (cv : Canvas) : Option Refuse :=
  let dup := firstOf (indexed cv.own) (fun e =>
    match (cv.own.take e.1).find? (fun o => o.1 = e.2.1) with
    | some o => some ⟨0x10, 3, 8 * e.1, e.2.1, o.2, e.2.2⟩
    | none => none)
  let remote := firstOf (indexed cv.own) (fun e =>
    if e.2.1 / 16777216 ≠ 9 ∧ cv.axes.any (fun a => a.axis = e.2.2 && decide (5 ≤ a.kind)) then
      some ⟨0x10, 3, 8 * e.1, e.2.1, e.2.2, e.2.2⟩ else none)
  let word := firstOf (indexed cv.cells) (fun e =>
    let d := e.2
    let w := d.p 0
    if d.kind = 2 ∧ wClass w = 1 then
      match wordNeeds (wUnit w) (wIndex w) with
      | none => some ⟨0x10, 1, cv.cellOfs e.1, w, d.axis, d.axis⟩
      | some rs =>
        match rs.find? (fun r => cv.ownerOf r ≠ some d.axis) with
        | some r => some ⟨0x10, 1, cv.cellOfs e.1, r, (cv.ownerOf r).getD 0, d.axis⟩
        | none => none
    else if d.kind = 2 ∧ wClass w = 2 then
      let r := slotRes (wUnit w) (wIndex w % 4096)
      need (decide (cv.ownerOf r = some d.axis)) ⟨0x10, 1, cv.cellOfs e.1, r, (cv.ownerOf r).getD 0, d.axis⟩
    else none)
  let twice := firstOf (indexed cv.cells) (fun e =>
    let w := e.2.p 0
    let span := fun (d : CellDef) => (pcount (d.p 1), pcount (d.p 1) + fieldWidth (wFormat (d.p 0)))
    if e.2.kind ≠ 2 then none
    else match (cv.cells.take e.1).find? (fun o =>
      let v := o.p 0
      o.kind = 2 && wClass v = wClass w && wIndex v = wIndex w &&
        (if wClass w = 1 then wUnit v = wUnit w
         else if wClass w = 2 then wUnit v = wUnit w && decide ((span o).1 < (span e.2).2) && decide ((span e.2).1 < (span o).2)
         else decide (firstEvent cv cv.axes.length ≤ wIndex w ∧ wIndex w ≤ 127))) with
    | some o => some ⟨0x10, 1, cv.cellOfs e.1, w, o.axis, e.2.axis⟩
    | none => none)
  (dup.or remote).or ((word.or twice).or (unitOwners cv))

/-- The unit code of the lane or unit that holds a pin of J4-J7 (R81, R416, R418-R420, R422): 40, 64, 48 and 20 contacts from 1. -/
def pinHolder (conn pin : Nat) : Option Nat :=
  if pin = 0 then none
  else match conn with
  | 4 => if pin ≤ 16 then some 1 else if pin ≤ 32 then some 2 else if pin ≤ 40 then some 3 else none
  | 5 => if pin ≤ 32 then some 12 else if pin ≤ 64 then some 13 else none
  | 6 => if pin ≤ 24 then some 10 else if pin ≤ 48 then some 11 else none
  | 7 => if pin ≤ 6 then some 8 else if pin ≤ 12 then some 9 else if pin ≤ 16 then some 12 else if pin ≤ 20 then some 13 else none
  | _ => none

/-- Whether a resource code names a resource of the unit it names (R81). -/
def resOk (code : Nat) : Bool :=
  let k := code / 16777216
  let u := code / 65536 % 256
  let x := code % 65536
  match k with
  | 1 => decide (4 ≤ u) && decide (u ≤ 9) && decide ((bridgesOf u).1 ≤ x) && decide (x < (bridgesOf u).1 + (bridgesOf u).2)
  | 2 => decide (u = 8 ∧ x ≤ 2) || decide (u = 9 ∧ 3 ≤ x ∧ x ≤ 5)
  | 3 => decide (u = 10 ∧ x ≤ 3) || decide (u = 11 ∧ 4 ≤ x ∧ x ≤ 7)
  | 4 => decide (u = 10 ∧ x ≤ 63) || decide (u = 11 ∧ 64 ≤ x ∧ x ≤ 127)
  | 5 => decide (u = 12 ∧ x ≤ 23) || decide (u = 13 ∧ 24 ≤ x ∧ x ≤ 47)
  | 6 => decide (u = 12 ∧ x ≤ 7) || decide (u = 13 ∧ 8 ≤ x ∧ x ≤ 15)
  | 7 => decide (4 ≤ u ∧ u ≤ 13 ∧ x ≤ 15)
  | 8 => decide (pinHolder (x / 256) (x % 256) = some u)
  | 9 => decide (x / 4096 ≤ 2 ∧ u = x / 4096 + 1)
  | 0xA => decide ((u = 1 ∨ u = 2) ∧ x ≤ 31)
  | 0xB => decide (1 ≤ u ∧ u ≤ 3 ∧ x ≤ 4095)
  | _ => false

/-- The parameter ranges of an axis template: P index, bounds (R149, R156, R159, R160, R162, R163). -/
def axisRanges (kind : Nat) : List (Nat × Rat × Rat) :=
  match kind with
  | 1 => [(0, 5, 200), (1, 5, 60), (2, -60, -5), (3, 1, 20), (4, 5, 120), (6, 1, 200), (7, 1 / 100, 2), (8, 1 / 10, 5), (9, 1, 65535),
          (10, 1 / 10, 5), (11, 1, 65535), (12, 1 / 100, 1), (13, 1 / 2, 20), (14, 1, 65535), (15, 1, 65535), (16, 0, 60), (17, 0, 60),
          (18, 0, 5), (19, 1 / 10, 100), (20, 1 / 10, 100), (21, 1 / 10, 100), (22, 1 / 1000, 10), (23, 0, 1000), (24, 40, 150),
          (25, 40, 150)]
  | 2 => [(0, 10, 400), (1, 1 / 2, 50), (2, 1, 65535), (3, 0, 500), (4, 0, 10000), (5, 100, 5000), (6, 1, 100), (7, 1 / 10, 10),
          (8, 1, 50), (9, 1, 65535), (10, 1, 65535)]
  | 3 => [(2, 20, 300), (3, 100, 6000), (4, 1 / 2, 50), (5, 1, 65535), (6, 1 / 10, 10), (7, 1, 65535), (8, 1, 65535)]
  | 4 => [(0, 100, 5000), (1, 100, 5000), (2, 1 / 200, 1)]
  | 5 => [(5, 1, 65535), (9, 1, 65535), (12, 1, 65535), (13, 1 / 10, 1)]
  | 6 => [(5, 1, 65535), (9, 1, 65535), (12, 1, 65535), (13, 1 / 10, 1)]
  | 7 => [(5, 1, 65535), (9, 1, 65535), (12, 1, 65535), (13, 1 / 10, 1)]
  | _ => []

/-- The relations between the parameters of an axis template (R149, R156, R159, R160). -/
def axisRelations (a : AxisDef) : Bool :=
  let p := fun k => f32Rat (a.par k)
  match a.kind with
  | 1 => decide (p 3 < p 1) && decide (p 3 < -p 2) && decide (p 6 ≤ 2 * p 7 * 80) && decide (15 / 10 * p 12 ≤ p 14 * p 13 * (5 / 100000)) &&
      decide (p 4 ≤ p 5) && decide (p 5 ≤ 4 * p 4) && decide (p 16 < p 17) && decide (p 24 < p 25) && inRange (a.par 26) 0 (p 6)
  | 2 => decide (p 11 < 0) && decide (p 0 < p 12)
  | 3 => decide (p 2 < p 0) && decide (p 0 < p 1) && decide (p 9 < 0) && decide (p 1 < p 10)
  | 4 => decide (p 0 ≤ p 1)
  | _ => true

/-- The number of parameters a template uses (R149, R156, R159, R160, R162, R163, R180). -/
def axisPars (kind : Nat) : Nat :=
  match kind with
  | 1 => 27 | 2 => 13 | 3 => 16 | 4 => 3 | 5 => 16 | 6 => 14 | 7 => 14 | _ => 0

/-- LOCAL and PARTNER of an entry by its kind, its reserved bits and bytes and unused parameters, which are 0 (R144, R145), and no parameter that
is no number. DESIGN CHOICE (log entry 92): RANGE is what an entry that breaks this gets. -/
def axisFields (a : AxisDef) : Bool :=
  let b := a.bytes
  let loc := (byteAt b 2).testBit 0
  decide (byteAt b 2 < 2) && decide (byteAt b 3 = 0) && decide (u16At b 8 < 4096) && slice b 10 6 == zeros 6 &&
    (if a.kind = 0 then true else if a.kind ≤ 4 then loc else !loc) &&
    (if loc then decide (a.partner = 0) else decide (a.partner ≤ 4094) && (decide (a.kind = 0) || decide (1 ≤ a.partner))) &&
    (List.range 32).all (fun k => decide (k < axisPars a.kind) || decide (a.par k = 0)) &&
    (List.range 32).all (fun k => !f32IsNan (a.par k) && !f32IsInf (a.par k))

/-- An AXES entry within its ranges (R143-R145). -/
def axisOk (a : AxisDef) : Bool :=
  decide (a.axis < 128) && decide (a.kind ≤ 7) && axisFields a && bindOk a &&
    (axisRanges a.kind).all (fun r => inRange (a.par r.1) r.2.1 r.2.2) && axisRelations a

/-- The fields of the mode record of FAULT, each with its byte offset (R79, R90, R146). DESIGN CHOICE (log entry 148): its reserved bytes are not
looked at. -/
def modeFinds (cv : Canvas) (raw : Bytes) : List (Bool × Nat) :=
  let m := cv.mode
  let npp := fun k => byteAt (cv.motorRec k) 1
  let isl := fun k => (cv.unitRecs (4 + k)).getD 2 []
  [(decide (u16At raw 0 ≤ 976), 0), (decide (30 ≤ m.trlim ∧ m.trlim ≤ 600), 2), (inRange m.decel (1 / 2) 4, 4),
    (decide (10 ≤ m.stalw ∧ m.stalw ≤ 120), 8),
    (if m.vspeed = 0xFFFF then cv.axes.any (fun a => a.kind = 1)
     else match cv.cell m.vspeed with | some d => decide (d.kind = 1) && d.expert | none => false, 10)] ++
    (List.range 4).map (fun k =>
      let b := m.base.getD k 0
      ((if m.ssc.getD k 0 = 2 then decide (1 ≤ b ∧ b * npp k ≤ 60000) else decide (b = 0)) && decide (u16At (isl k) 6 = b), 12 + 2 * k)) ++
    (List.range 6).map (fun k => (decide (m.ssc.getD k 0 ≤ if k < 4 then 2 else 1) && decide (byteAt (isl k) 0 = m.ssc.getD k 0) &&
      (decide (k < 4) || decide (u16At (isl k) 6 = 0)), 20 + k)) ++
    [(decide (m.rearmp < 64), 26)] ++
    (List.range 4).map (fun k => (inRange (m.loops.getD k 0) 0 (if k % 2 = 0 then 5000 else 100), 28 + 4 * k)) ++
    [(decide (1 ≤ m.stopt ∧ m.stopt ≤ 120), 44)]

/-- RANGE at the first field of a list that is out of its range, in a section. -/
def findRange (sect : Nat) (fs : List (Bool × Nat)) : Option Refuse := firstOf fs (fun f => need f.1 ⟨0x11, sect, f.2, 0, 0, 0⟩)

/-- The kind of an event block by unit code (R363). -/
def evtKindOf (u : Nat) : Option EvKind :=
  match LaneId.ofCode u with
  | some l => some (laneKind l)
  | none => match UnitId.ofCode u with | some x => some (unitKind x) | none => if u = 14 then some .polvin else none

/-- The event entries of FAULT, each with its byte offset (R90, R368, R370); set reserved bits refuse them (log entry 92). -/
def eventFinds (cv : Canvas) : List (Bool × Nat) :=
  (indexed cv.events).map (fun e =>
    let u := e.2.1
    let n := e.2.2.1
    let c := e.2.2.2.1
    let b := slice (cv.sect 9) (64 + 8 * e.1) 8
    (decide (c.cunit ≠ 3) && decide (byteAt b 6 < 8) && decide (byteAt b 7 = 0) &&
    (match evtKindOf u with
      | none => false
      | some k =>
        match evtDefault k n with
        | none => false
        | some d => !evtFixed k n || decide (c.window = d.1 ∧ c.thresh = d.2)) &&
    !((cv.events.take e.1).any (fun x => x.1 = u && x.2.1 = n)) &&
    (!(decide (u ≤ 3) && decide (32 ≤ n) && decide (n ≤ 127)) ||
      (List.range 3).all (fun k => cv.events.any (fun x => x.1 = k + 1 && x.2.1 = n && x.2.2 = e.2.2.2))), 64 + 8 * e.1))

/-- The motor record of island I(m+1) within its ranges (R168); set reserved bytes refuse it (log entry 92). -/
def motorRecOk (cv : Canvas) (m : Nat) : Bool :=
  let b := cv.motorRec m
  let f := fun (o : Nat) (lo hi : Rat) => inRange (u32At b o) lo hi
  let turn := fun (o : Nat) => f o 0 1 && decide (f32Exact (u32At b o) < 1)
  decide (byteAt b 3 = 0) && slice b 32 16 == zeros 16 && decide (byteAt b 0 ≤ 1) && decide (2 ≤ byteAt b 1 ∧ byteAt b 1 ≤ 16) && decide (byteAt b 2 ≤ 20) && f 4 (1 / 100) 50 && f 8 0 100000 &&
    turn 12 && (decide (2 ≤ m) || turn 16) && f 20 1 (if m < 2 then 80 else 30) && f 24 (1 / 100) 2 && f 28 0 2000

/-- The island record of an island within its ranges (R191); set reserved bytes refuse it (log entry 92). -/
def islandRecOk (b : Bytes) : Bool :=
  let dt := u16At b 2
  let mp := u16At b 4
  decide (200 ≤ dt ∧ dt ≤ 1000 ∧ dt % 25 = 0) && decide (100 ≤ mp ∧ mp ≤ 500 ∧ mp % 25 = 0) && decide (byteAt b 1 = 0) &&
    slice b 8 40 == zeros 40

/-- A valve entry within its ranges (R204); set reserved bytes refuse it (log entry 92). -/
def valveRecOk (b : Bytes) : Bool :=
  decide (u16At b 0 ≤ 1000) && decide (50 ≤ u16At b 2 ∧ u16At b 2 ≤ 400) && decide (byteAt b 4 ≤ 1) && inRange (u32At b 8) 0 4 &&
    inRange (u32At b 12) 0 2000 && slice b 5 3 == zeros 3

/-- Whether a pin is a compare output of a feedback unit (R421): K4 of a SENT channel or K5 of an OFF one. -/
def comparePin (cv : Canvas) (u pin : Nat) : Bool :=
  (List.range 4).any (fun c =>
    let n := c + if u = 11 then 4 else 0
    let mode := byteAt (cv.fbRecord u c) 0
    (decide (mode = 3) && decide (pin = 6 * n + 4)) || (decide (mode = 0) && decide (pin = 6 * n + 5)))

/-- A compare entry of a channel (R224, R226, R228, R421): a direction where it is armed, no pulse of 0 µs, and none without a compare output. -/
def compareRecOk (cv : Canvas) (u c e : Nat) : Bool :=
  let w := u16At ((cv.unitRecs u).getD (5 + 2 * c + e / 8) []) (6 * (e % 8) + 4)
  (!w.testBit 0 || decide (bitsOf w 2 1 ≠ 0)) && (!w.testBit 4 || (decide (w / 256 ≠ 0) && decide (byteAt (cv.fbRecord u c) 35 ≠ 0xFF)))

/-- The record of a feedback channel within its ranges in whatever mode (R215, R421), with its compare entries; CPR counts in QUAD alone, ZOFS not
in QUAD. Set reserved bytes refuse it (log entry 92). -/
def channelRecOk (cv : Canvas) (u c : Nat) : Bool :=
  let b := cv.fbRecord u c
  let partner := byteAt (cv.fbRecord u (if c % 2 = 0 then c + 1 else c - 1)) 0
  decide (byteAt b 0 ≤ 3) && slice b 36 12 == zeros 12 &&
    (decide (byteAt b 1 ≤ 2) && decide (byteAt b 2 ≤ 4) && decide (byteAt b 3 ≤ 2) &&
      (decide (byteAt b 0 ≠ 1) || (decide (4 ≤ u32At b 4 ∧ u32At b 4 ≤ 1048576) && decide (byteAt b 1 = 0 ∨ partner = 0))) &&
      decide (i32At b 8 < i32At b 12) && decide (1 ≤ u16At b 16 ∧ u16At b 16 ≤ 1000) && decide (100 ≤ u16At b 18 ∧ u16At b 18 ≤ 700) &&
      decide (64 ≤ u16At b 22 ∧ u16At b 22 ≤ 8192) && decide (50 ≤ u16At b 24 ∧ u16At b 24 ≤ 400) &&
      decide (100 ≤ u16At b 26 ∧ u16At b 26 ≤ 2000) && (decide (byteAt b 0 = 1) || decide (u32At b 28 ≤ 65535)) && decide (30 ≤ u16At b 32 ∧ u16At b 32 ≤ 900) &&
      decide (byteAt b 34 ≤ 15) && (decide (byteAt b 35 = 0xFF) || comparePin cv u (byteAt b 35)) &&
      (List.range 16).all (compareRecOk cv u c))

/-- The input entry of input i of a safety-I/O unit (R232). -/
def Canvas.inputRec (cv : Canvas) (u i : Nat) : Bytes := slice ((cv.unitRecs u).getD (2 + i / 6) []) (8 * (i % 6)) 8

/-- The supply record and slot map of a safety-I/O unit (R236). -/
def Canvas.supplyRec (cv : Canvas) (u : Nat) : Bytes := (cv.unitRecs u).getD 1 []
def Canvas.slotCodes (cv : Canvas) (u : Nat) : List Nat := (List.range 16).map (fun k => byteAt (cv.supplyRec u) (32 + k))

/-- A safety input within its ranges (R232, R236). -/
def inputRecOk (cv : Canvas) (u i : Nat) : Bool :=
  let b := cv.inputRec u i
  let sup := cv.supplyRec u
  let mode := byteAt b 0
  let src := byteAt b 1
  decide (mode ≤ 2) && decide (src ≤ 7 ∨ src = 255) && decide (1 ≤ byteAt b 2 ∧ byteAt b 2 ≤ 16) && decide (byteAt b 3 ≤ 1) &&
    (decide (mode ≠ 1) || (decide (50 ≤ u16At b 4 ∧ u16At b 4 ≤ 3000) && decide (u16At b 6 + 20 ≤ u16At b 4))) &&
    (decide (mode ≠ 2) || (decide (u16At b 4 = 0 ∧ u16At b 6 = 0) && (decide (src = 255) || decide (byteAt sup (4 * src + 1) = 0)) &&
      decide ((cv.slotCodes u).count i = 1)))

/-- A code of the analog slot map (R236). -/
def slotCodeOk (cv : Canvas) (u c : Nat) : Bool :=
  decide (c = 255) || (decide ((cv.slotCodes u).count c = 1) && (decide (0x20 ≤ c ∧ c ≤ 0x27) ||
    (decide (c ≤ 0x17) && decide (byteAt (cv.inputRec u c) 0 = 2))))

/-- The unit records that lie outside their ranges, each as the resource it configures (R90, R168, R191, R204, R215, R232, R236). -/
def recordFinds (cv : Canvas) : List (Bool × Nat) :=
  let sio := fun (u : Nat) =>
    (List.range 8).map (fun p => (decide (byteAt (cv.supplyRec u) (4 * p) ≤ 2) && decide (byteAt (cv.supplyRec u) (4 * p + 1) ≤ 1) &&
      decide (u16At (cv.supplyRec u) (4 * p + 2) = 0),
      resCode 6 u (p + if u = 13 then 8 else 0))) ++
    (List.range 24).map (fun i => (inputRecOk cv u i, resCode 5 u (i + if u = 13 then 24 else 0))) ++
    [((cv.slotCodes u).all (slotCodeOk cv u), resCode 5 u (if u = 13 then 24 else 0))]
  (List.range 4).map (fun m => (motorRecOk cv m, resCode 1 (4 + m) (3 * m))) ++
    (List.range 6).map (fun i => (islandRecOk ((cv.unitRecs (4 + i)).getD 2 []), resCode 1 (4 + i) (bridgesOf (4 + i)).1)) ++
    [8, 9].flatMap (fun u => (List.range 3).map (fun c =>
      (valveRecOk (slice ((cv.unitRecs u).getD 1 []) (16 * c) 16), resCode 2 u (c + if u = 9 then 3 else 0)))) ++
    [10, 11].flatMap (fun u => (List.range 4).map (fun c => (channelRecOk cv u c, fbChan u c))) ++ sio 12 ++ sio 13

/-- The fields of the header of SLOTS, each with its byte offset (R90, R256, R276). -/
def netFinds (cv : Canvas) (raw : Bytes) : List (Bool × Nat) :=
  let h := cv.net
  [(decide (1 ≤ h.self ∧ h.self ≤ 4094), 0), (decide (h.rank ≤ 63), 2), (decide (byteAt raw 3 ≤ 1), 3),
    (decide (0x600 ≤ h.etype) && decide (h.etype ∉ [0x800, 0x806, 0x86DD, 0x8100, 0x88A8, 0x88F7]), 4),
    (decide (200 ≤ h.latch ∧ h.latch ≤ 390), 6), (decide (50 ≤ h.wdef ∧ h.wdef ≤ 800), 8),
    (decide (1 ≤ u16At raw 10 ∧ u16At raw 10 ≤ 12288), 10), (decide (h.canMode.1 ≤ 2), 12), (decide (h.canMode.2 ≤ 2), 13),
    (decide (h.canAddr.1 ≤ 0xFD), 14), (decide (h.canAddr.2 ≤ 0xFD), 15), (decide (h.canName.1 ≠ h.canName.2), 24)]

/-- The entries of SLOTS within their ranges (R90, R256), with the resource of a transmit slot as the argument, 0 of a receive slot, which is none
(R81). The transmit slots above the 1024 of a plane (R2) are out of range. -/
def slotRange (cv : Canvas) : Option Refuse :=
  firstOf (indexed cv.slots) (fun x =>
    let e := x.2
    need (decide (e.plane ≤ 2) && decide (e.medium ≤ 8) && decide (e.kind ≤ 7) && decide (e.len ≤ 1440) &&
        decide (e.win = 0 ∨ (50 ≤ e.win ∧ e.win ≤ 800)) &&
        (!(e.tx && decide (0x40 ≤ e.slot)) ||
          decide (((cv.slots.take x.1).filter (fun y => y.tx && y.plane = e.plane && 0x40 ≤ y.slot)).length < 1024)))
      ⟨0x11, 11, 64 + 16 * x.1, if e.tx then slotRes e.plane e.slot else 0, 0, 0⟩)

/-- The test vectors run 1 to 64 ticks (R87). -/
def vectorsRange (cv : Canvas) : Bool := (Config.readTestvec (cv.sect 13)).all (fun v => decide (1 ≤ v.length ∧ v.length ≤ 64))

/-- The register range, modes and owner of a PERM entry (R102). DESIGN CHOICE (log entry 148): reserved bits of MODES are refused, those of byte 15 not
looked at. -/
def permRange (e : PermDef) : Bool := decide (e.first ≤ e.last) && decide (e.modes < 64) && decide (e.owner < 128 ∨ 0xFE ≤ e.owner)

/-- VOTE (R24): every word supervision posts is marked with W = 0, no word declared not voted is marked, and units, words and windows are within
their widths. -/
def voteOk (cv : Canvas) : Bool :=
  cv.vote.all (fun v => decide (4 ≤ v.1 ∧ v.1 ≤ 13 ∧ v.2.1 ≤ 12 ∧ v.2.2 < 65536) && !unvotedWord v.1 v.2.1 &&
    (!supervisedWord v.1 v.2.1 || decide (v.2.2 = 0))) &&
    (List.range 10).all (fun u => (List.range 13).all (fun w => !supervisedWord (4 + u) w || cv.vote.contains (4 + u, w, 0)))

/-- TASKS (R78, R300): cores 0-3, ticks of the round, cells that exist. -/
def tasksOk (cv : Canvas) : Bool := cv.tasks.all (fun t => decide (t.1 < 4) && decide (t.2.2.1 < 8) && (cv.cell t.2.2.2).isSome)

/-- RANGE (R86 and the sections' own rules). CNV_ERRARG carries the resource concerned, 0 where the refusal concerns none; the offset is that of
the entry or field, 0 in a section whose layout the manual does not give. -/
def checkRange (cv : Canvas) : Option Refuse :=
  (firstOf (indexed cv.own) (fun e => need (resOk e.2.1 && decide (e.2.2 < 128 ∨ 0xFE ≤ e.2.2)) ⟨0x11, 3, 8 * e.1, e.2.1, 0, 0⟩)).or
    ((need (decide (cv.cells.length ≤ 8192)) ⟨0x11, 1, cv.cellOfs 8192, 0, 0, 0⟩).or
    ((need (tasksOk cv) ⟨0x11, 5, 0, 0, 0, 0⟩).or ((need (voteOk cv) ⟨0x11, 6, 0, 0, 0, 0⟩).or
    ((firstOf (indexed cv.cells) (fun e => need (cellRange e.2) ⟨0x11, 1, cv.cellOfs e.1, 0, 0, 0⟩)).or
    ((findRange 7 ((indexed cv.axes).map (fun e => (decide (e.1 < 128) && axisOk e.2 && decide
      (((cv.axes.take (e.1 + 1)).filter (fun a => (byteAt a.bytes 2).testBit 0)).length ≤ 12), 192 * e.1)))).or
    ((findRange 9 (modeFinds cv (cv.sect 9) ++ eventFinds cv)).or
    ((findRange 10 ((indexed cv.perms).map (fun e => (decide (e.1 < 256) && permRange e.2, 16 * e.1)))).or
    (((findRange 11 (netFinds cv (cv.sect 11))).or (slotRange cv)).or
    ((need (vectorsRange cv) ⟨0x11, 13, 0, 0, 0, 0⟩).or
    ((firstOf (recordFinds cv) (fun f => need f.1 ⟨0x11, 14, 0, f.2, 0, 0⟩)).or (crossRanges cv)))))))))))

/-- The wires that carry signals into a cell. -/
def Canvas.wiresTo (cv : Canvas) (i : Nat) : List WireDef := cv.wires.filter (fun w => w.dcell = i && decide (w.type ≤ 1))

/-- Rule 1 of R88: every input is wired. -/
def wiredAll (cv : Canvas) (d : CellDef) : Bool :=
  (List.range (inputsOf d)).all (fun k => (cv.wiresTo d.idx).any (fun w => w.din = k))

/-- Rule 1 of R88: the wire at a position is the first of its input, from an output that exists to a cell that exists. -/
def wireOnce (cv : Canvas) (k : Nat) (w : WireDef) : Bool :=
  decide (w.type = 2) || ((cv.cell w.dcell).isSome && !((cv.wiresTo w.dcell).any (fun v => v.din = w.din && decide (v ≠ w))) &&
    !((cv.wires.take k).any (fun v => v.dcell = w.dcell && v.din = w.din && decide (v.type ≤ 1))) &&
    (w.type = 1 || (match cv.cell w.scell with | some p => decide (w.sout < outputsOf p) | none => false)))

/-- Rule 3 of R88: no wire beyond a cell's inputs (R112). -/
def fanIn (cv : Canvas) (w : WireDef) : Bool :=
  decide (w.type = 2) || (match cv.cell w.dcell with | some d => decide (w.din < inputsOf d) | none => true)

/-- The cells left when those whose undelayed producers have gone are taken away. -/
def peel (cv : Canvas) (waiting : List CellDef) : List CellDef := waiting.filter (fun d => !cellReady cv waiting d)

/-- The cells that no order of running reaches: those on closed paths of undelayed outputs, and behind them (rule 2 of R88). -/
def stuckCells (cv : Canvas) : Nat → List CellDef → List CellDef
  | 0, ws => ws
  | k + 1, ws => if (peel cv ws).length = ws.length then ws else stuckCells cv k (peel cv ws)

/-- Rule 2 of R88 on a wire: it does not join two cells of a closed path without a delayed output. -/
def wireFree (stuck : List CellDef) (w : WireDef) : Bool :=
  decide (w.type ≠ 0) || !(stuck.any (fun d => d.idx = w.dcell) &&
    stuck.any (fun d => d.idx = w.scell && !d.delayed.testBit w.sout))

/-- Whether an output reaches a MIN input directly or through one negating SUM (R135). -/
def drivesMin (cv : Canvas) (src minIdx k : Nat) : Bool :=
  match cv.wire minIdx k with
  | none => false
  | some w => w.type = 0 && w.sout = 0 && (w.scell = src ||
      (match cv.cell w.scell with
        | some p => p.signSum && (match cv.wire p.idx 0 with | some v => v.type = 0 && v.scell = src && v.sout = 0 | none => false)
        | none => false))

/-- Rule 4 of R88: a tracking link joins a MIN to a PID or RAMP that drives that input (R135), one link an input. -/
def trackOk (cv : Canvas) (w : WireDef) : Bool :=
  match cv.cell w.dcell, cv.cell w.scell with
  | some p, some m =>
    decide (m.kind = 8) && decide (w.sout < inputsOf m) && decide (w.din = 255) &&
      decide ((cv.wires.filter (fun v => v.type = 2 && v.scell = w.scell && v.sout = w.sout)).length = 1) &&
      (if p.kind = 6 then drivesMin cv p.idx m.idx w.sout
       else decide (p.kind = 5) && (drivesMin cv p.idx m.idx w.sout ||
        cv.cells.any (fun q => q.kind = 6 && drivesMin cv q.idx m.idx w.sout &&
          (match cv.wire q.idx 0 with | some v => v.type = 0 && v.scell = p.idx && v.sout = 0 | none => false))))
  | _, _ => false

/-- Rule 5 of R88 on a wire: a tick-rate cell reads a round-rate output only through a latching SRC. -/
def rateOk (cv : Canvas) (w : WireDef) : Bool :=
  decide (w.type ≠ 0) || (match cv.cell w.dcell, cv.cell w.scell with | some d, some p => d.round || !p.round | _, _ => true)

/-- CLASS 0x5 on its own terms (R119). -/
def latchOk (cv : Canvas) (d : CellDef) : Bool :=
  decide (d.kind ≠ 1 ∨ wClass (d.p 0) ≠ 5) ||
    (d.latches && decide (wFormat (d.p 0) = 5) &&
      (match cv.cell (wIndex (d.p 0)) with | some p => p.round && decide (pcount (d.p 1) < outputsOf p) | none => false))

/-- The lane C cost of a cell in cycles (R112). -/
def cellCycles (cv : Canvas) (d : CellDef) : Nat :=
  let base := match d.kind with
    | 1 => 4 | 2 => 6 | 3 => 8 | 4 => 10 | 5 => 12 | 6 => if 1 < pcount (d.p 7) then 30 else 24 | 7 => 14
    | 8 => 4 + 2 * pcount (d.p 0) + 3 * (cv.wires.filter (fun w => w.type = 2 && w.scell = d.idx)).length
    | 9 => 6 | 0xA => 18 | 0xB => 28 | 0xC => 22 | 0xD => 12 | 0xE => 10 | 0xF => 6 | 0x10 => 12 | _ => 0
  base + popCount 8 d.delayed

/-- The cycles of a list of cells. -/
def sumCycles (cv : Canvas) (cells : List Nat) : Nat :=
  (cells.map (fun i => match cv.cell i with | some d => cellCycles cv d | none => 0)).sum

/-- SCHEDC in the order of one engine and tick. -/
def engineTick (sched : List (Nat × Nat × Nat)) (e t : Nat) : List Nat :=
  (sched.filter (fun x => x.1 = e && x.2.1 = t)).map (fun x => x.2.2)

/-- The start and end cycle of a cell in a tick by SCHEDC (R88): engine, start, end. -/
def schedSpan (cv : Canvas) (sched : List (Nat × Nat × Nat)) (t i : Nat) : Option (Nat × Nat × Nat) :=
  match sched.find? (fun x => x.2.1 = t && x.2.2 = i) with
  | none => none
  | some x =>
    let before := (engineTick sched x.1 t).takeWhile (fun c => c ≠ i)
    let s := sumCycles cv before
    some (x.1, s, s + sumCycles cv [i])

/-- Rule 7 of R88: every cell scheduled exactly once per period of its rate. -/
def scheduledOnce (sched : List (Nat × Nat × Nat)) (d : CellDef) : Bool :=
  let n := fun (t : Nat) => (sched.filter (fun x => x.2.1 = t && x.2.2 = d.idx)).length
  if d.round then (List.range 8).all (fun t => decide (n t = if t = d.tinr then 1 else 0)) else (List.range 8).all (fun t => decide (n t = 1))

/-- Rule 6 of R88: a producer lies before its consumers in the same tick. -/
def producersFirst (cv : Canvas) (sched : List (Nat × Nat × Nat)) (d : CellDef) : Bool :=
  (List.range 8).all (fun t =>
    match schedSpan cv sched t d.idx with
    | none => true
    | some c => (cv.wiresTo d.idx).all (fun w =>
        w.type = 1 || (match cv.cell w.scell with
          | none => true
          | some p => p.delayed.testBit w.sout || (match schedSpan cv sched t p.idx with
            | none => p.round && (!d.round || decide (p.tinr ≤ d.tinr))
            | some q => decide (q.2.2 ≤ c.2.1)))))

/-- WIRING (R86, R88); the argument is the number of the rule. Rules 6 and 7 are judged on SCHEDC, whose layout is not given. -/
def checkWiring (cv : Canvas) : Option Refuse :=
  let sched := Config.readSchedc (cv.sect 4)
  let cell := fun (f : CellDef → Bool) (r : Nat) => firstOf (indexed cv.cells) (fun e => need (f e.2) ⟨0x12, 1, cv.cellOfs e.1, r, 0, 0⟩)
  let wire := fun (f : Nat → WireDef → Bool) (r : Nat) => firstOf (indexed cv.wires) (fun e => need (f e.1 e.2) ⟨0x12, 2, 12 * e.1, r, 0, 0⟩)
  let stuck := stuckCells cv cv.cells.length cv.cells
  ((cell (wiredAll cv) 1).or (wire (wireOnce cv) 1)).or
    ((wire (fun _ => wireFree stuck) 2).or
    ((wire (fun _ => fanIn cv) 3).or
    ((wire (fun _ w => decide (w.type ≠ 2) || trackOk cv w) 4).or
    (((wire (fun _ => rateOk cv) 5).or (cell (latchOk cv) 5)).or
    ((need (cv.cells.all (producersFirst cv sched)) ⟨0x12, 4, 0, 6, 0, 0⟩).or (need (cv.cells.all (scheduledOnce sched)) ⟨0x12, 4, 0, 7, 0, 0⟩))))))

/-- The most a cell costs in lanes A and B in ns (R112). -/
def cellBoundNs (cv : Canvas) (d : CellDef) : Nat :=
  let base := match d.kind with
    | 1 => 40 | 2 => 50 | 3 => 60 | 4 => 70 | 5 => 80 | 6 => 160 | 7 => 90
    | 8 => 30 + 10 * pcount (d.p 0) + 20 * (cv.wires.filter (fun w => w.type = 2 && w.scell = d.idx)).length
    | 9 => 40 | 0xA => 120 | 0xB => 200 | 0xC => 160 | 0xD => 80 | 0xE => 70 | 0xF => 40 | 0x10 => 90 | _ => 0
  base + 5 * popCount 8 d.delayed

/-- What a cell costs in the translated code of lane A or B in ns (R55): never above the bound of R112 (log entry 7). -/
def cellNs (l : LaneId) (im : Bytes) (cv : Canvas) (d : CellDef) : Nat := min (Config.cellNs l.idx im d.idx) (cellBoundNs cv d)

/-- The cells of a core in the order of its task list, those of one rate (R78, R305). -/
def Canvas.coreCells (cv : Canvas) (core : Nat) (round : Bool) : List CellDef :=
  (((cv.tasks.filter (fun t => t.1 = core)).map (fun t => t.2.2.2)).dedup.filterMap cv.cell).filter (fun d => d.round = round)

/-- The cost of a list of cells in lane A or B. -/
def sumNs (l : LaneId) (im : Bytes) (cv : Canvas) (ds : List CellDef) : Nat := (ds.map (cellNs l im cv)).sum

/-- The worst tick and round of core c of lane A or B in ns (R54). -/
def coreFigures (l : LaneId) (im : Bytes) (cv : Canvas) (c : Nat) : Nat × Nat :=
  let t := sumNs l im cv (cv.coreCells c false)
  (t, 8 * t + sumNs l im cv (cv.coreCells c true))

/-- The worst tick and round of cell engine e in cycles (R54), by SCHEDC: the tick figure is of tick work. -/
def engineFigures (cv : Canvas) (e : Nat) : Nat × Nat :=
  let sched := Config.readSchedc (cv.sect 4)
  let tickWork := fun (t : Nat) => (engineTick sched e t).filter (fun i => match cv.cell i with | some d => !d.round | none => false)
  (((List.range 8).map (fun t => sumCycles cv (tickWork t))).foldl max 0,
   ((List.range 8).map (fun t => sumCycles cv (engineTick sched e t))).sum)

/-- When a SNK has posted in lane l at worst, in 0.1 ns from the start of its tick (R141): in lanes A and B the cells of its core before it in
list order, tick work first, with the ring time its post waits for (R293, log entry 7), in lane C the end of its entry. -/
def postAt (l : LaneId) (im : Bytes) (cv : Canvas) (d : CellDef) : Nat :=
  if procLane l then
    let core := ((cv.tasks.find? (fun t => t.2.2.2 = d.idx)).map (fun t => t.1)).getD 0
    let run := cv.coreCells core false ++ (if d.round then (cv.coreCells core true).filter (fun x => x.tinr = d.tinr) else [])
    30000 + 10 * (sumNs l im cv (run.takeWhile (fun x => x.idx ≠ d.idx)) + cellNs l im cv d + Config.ringNs l.idx im d.idx)
  else
    let sched := Config.readSchedc (cv.sect 4)
    30000 + 25 * ((List.range 8).map (fun t => match schedSpan cv sched t d.idx with | some x => x.2.2 | none => 0)).foldl max 0

/-- The SNKs of a unit's command words. -/
def unitSnks (cv : Canvas) (code : Nat) : List CellDef := cv.cells.filter (fun d => d.kind = 2 && wClass (d.p 0) = 1 && wUnit (d.p 0) = code)

/-- When a unit's command block is complete in lane l at worst, in 0.1 ns (R141): its last SNK. -/
def completeAt (l : LaneId) (im : Bytes) (cv : Canvas) (code : Nat) : Nat := ((unitSnks cv code).map (postAt l im cv)).foldl max 0

/-- The core or cell engine a cell runs on in lane l (R90). -/
def coreOf (l : LaneId) (cv : Canvas) (d : CellDef) : Nat :=
  if procLane l then ((cv.tasks.find? (fun t => t.2.2.2 = d.idx)).map (fun t => t.1)).getD 0
  else (((Config.readSchedc (cv.sect 4)).find? (fun x => x.2.2 = d.idx)).map (fun x => x.1)).getD 0

/-- The core or cell engine that completes a unit's command block (R90, R141); 0 for a block no SNK fills. -/
def lastCore (l : LaneId) (im : Bytes) (cv : Canvas) (code : Nat) : Nat :=
  (((unitSnks cv code).find? (fun d => postAt l im cv d = completeAt l im cv code)).map (coreOf l cv)).getD 0

/-- The figures BUDGET states (R55, R78, R141): for a core or engine of a lane its tick and round; the posting time and tick of a SNK; the
completion of a command block. -/
def statedLoad (cv : Canvas) (lane k : Nat) : Nat × Nat :=
  ((Config.readBudget (cv.sect 12)).find? (fun b => b.1 = lane && b.2.1 = k)).elim (0, 0) (fun b => b.2.2)
def statedPosting (cv : Canvas) (lane cell : Nat) : Option (Nat × Nat) :=
  ((Config.readPosting (cv.sect 12)).find? (fun b => b.1 = lane && b.2.1 = cell)).map (fun b => b.2.2)
def statedCompletion (cv : Canvas) (lane unit : Nat) : Option Nat :=
  ((Config.readCompletion (cv.sect 12)).find? (fun b => b.1 = lane && b.2.1 = unit)).map (fun b => b.2.2)

/-- The posting times and completions of a lane against those BUDGET states (R141), with the core or engine concerned (R90). -/
def checkPosting (l : LaneId) (im : Bytes) (cv : Canvas) : Option Refuse :=
  let snks := cv.cells.filter (fun d => d.kind = 2)
  let units := (List.range 10).map (fun u => 4 + u)
  (firstOf units (fun u => need (decide (completeAt l im cv u ≤ 350000)) ⟨0x13, 12, 0, lastCore l im cv u, 0, 0⟩)).or
    ((firstOf snks (fun d => need (decide (statedPosting cv l.code d.idx = some (postAt l im cv d, if d.round then d.tinr else 0)))
      ⟨0x15, 12, 0, coreOf l cv d, 0, 0⟩)).or
    (firstOf units (fun u => need (decide ((statedCompletion cv l.code u).getD 0 = completeAt l im cv u))
      ⟨0x15, 12, 0, lastCore l im cv u, 0, 0⟩)))

/-- The engines' limits and figures (R54, R55): `over` is the code of an engine above a limit. -/
def checkEngines (cv : Canvas) (overTick overRound : Nat) : Option Refuse :=
  let es := List.range 32
  (firstOf es (fun e => need (decide ((engineFigures cv e).1 ≤ 11520)) ⟨overTick, 12, 0, e, 0, 0⟩)).or
    ((firstOf es (fun e => need (decide ((engineFigures cv e).2 ≤ 132480)) ⟨overRound, 12, 0, e, 0, 0⟩)).or
    (firstOf es (fun e => need (decide (engineFigures cv e = statedLoad cv 3 e)) ⟨0x15, 12, 0, e, 0, 0⟩)))

/-- BUDGET_TICK, BUDGET_ROUND, BUDGET_MISMATCH in lanes A and B (R54, R55, R86, R141, R318); the argument is the core or engine. -/
def checkBudget (l : LaneId) (im : Bytes) (cv : Canvas) : Option Refuse :=
  let cs := List.range 4
  let f := coreFigures l im cv
  (firstOf cs (fun c => need (decide ((f c).1 ≤ 28800)) ⟨0x13, 12, 0, c, 0, 0⟩)).or
    ((firstOf cs (fun c => need (decide ((f c).2 ≤ 331200 ∧ 2 * (f c).1 ≤ 46000)) ⟨0x14, 12, 0, c, 0, 0⟩)).or
    ((firstOf cs (fun c => need (decide (f c = statedLoad cv l.code c)) ⟨0x15, 12, 0, c, 0, 0⟩)).or
    ((checkEngines cv 0x13 0x14).or (checkPosting l im cv))))

/-- CNV_BUDGET of a lane (R106): the worst tick and round use of its cores or engines, in 0.1 % of the window. -/
def budgetUse (l : LaneId) (im : Bytes) (cv : Canvas) : Nat × Nat :=
  let fs := if procLane l then (List.range 4).map (coreFigures l im cv) else (List.range 32).map (engineFigures cv)
  let w := if procLane l then (32000, 368000) else (12800, 147200)
  ((fs.map (fun f => 1000 * f.1 / w.1)).foldl max 0 % 1024, (fs.map (fun f => 1000 * f.2 / w.2)).foldl max 0 % 1024)

/-- The SRC of CLASS 0x1 an input of a cell is wired directly to (R86): its SOURCE and SOFS. -/
def srcUnit (cv : Canvas) (i k : Nat) : Option (Nat × Nat) :=
  match cv.wire i k with
  | some w => if w.type = 0 then
      match cv.cell w.scell with
      | some p => if p.kind = 1 ∧ wClass (p.p 0) = 1 then some (p.p 0, pcount (p.p 1)) else none
      | none => none
    else none
  | none => none

/-- The planes on which an axis has slots of its partner (R50, R145): those its cells read and write that SLOTS lists. -/
def axisPlanes (cv : Canvas) (a : AxisDef) (tx : Bool) : List Nat :=
  ((cv.cells.filter (fun d => d.axis = a.axis && d.kind = (if tx then 2 else 1) && wClass (d.p 0) = 2 &&
    cv.slots.any (fun x => x.tx = tx && x.plane = wUnit (d.p 0) && x.slot = wIndex (d.p 0) % 4096 && x.peer = a.partner))).map
    (fun d => wUnit (d.p 0))).dedup

/-- The first transmit slot of an axis, as a resource. -/
def axisSlot (cv : Canvas) (a : AxisDef) : Nat :=
  ((cv.own.find? (fun o => o.2 = a.axis && decide (o.1 / 16777216 = 9))).map (fun o => o.1)).getD 0

/-- SPLIT (R50, R86, R145); the argument is the sensor or the slot concerned (R90). -/
def checkSplit (cv : Canvas) : Option Refuse :=
  let pls := firstOf (indexed cv.cells) (fun e =>
    if e.2.kind = 0xD then
      match srcUnit cv e.2.idx 0, srcUnit cv e.2.idx 1 with
      | some a, some b => need (decide (wUnit a.1 ≠ wUnit b.1 ∨ wUnit a.1 < 10)) ⟨0x16, 1, cv.cellOfs e.1, srcRes cv b.1 b.2, 0, 0⟩
      | _, _ => none
    else none)
  let remote := firstOf (indexed cv.axes) (fun e =>
    let a := e.2
    if a.partner ≠ 0 then
      need (decide (2 ≤ (axisPlanes cv a true).length) && decide (2 ≤ (axisPlanes cv a false).length)) ⟨0x16, 7, 192 * e.1, axisSlot cv a, 0, 0⟩
    else none)
  (pls.or remote).or (bindSplit cv)

/-- COMMANDER (R86, R329). -/
def checkCommander (cv : Canvas) (raw : Bytes) : Option Refuse :=
  let bad : Refuse := ⟨0x19, 8, 0, 0, 0, 0⟩
  let setOk := fun (c : CmdrDef) => (List.range 3).all (fun p =>
    let k := c.sets.getD p 0
    decide (k = 0) || cv.slots.any (fun e => !e.tx && e.plane = p && e.slot = k && decide (e.kind = 7) && e.peer = c.id))
  (need (decide (cv.cmdrs.length ≤ 8)) bad).or
    ((firstOf (indexed cv.cmdrs) (fun e => need (decide (byteAt raw (16 * e.1 + 2) ≤ 7) && decide (1 ≤ e.2.id ∧ e.2.id ≤ 4094) &&
      !((cv.cmdrs.take e.1).any (fun c => c.id = e.2.id)) && setOk e.2 && e.2.sets.any (fun k => decide (k ≠ 0)))
      { bad with ofs := 16 * e.1 })).or
    (need (cv.cmdrs.any (fun c => c.svcok) &&
      cv.slots.all (fun e => decide (e.kind ≠ 7) || (decide (8 ≤ e.len) && cv.cmdrs.any (fun c => c.id = e.peer)))) bad))

/-- PERMIT (R86). -/
def checkPermit (cv : Canvas) : Option Refuse :=
  firstOf (indexed cv.perms) (fun e =>
    let b0 := e.2.first / 1048576
    let n := e.2.last / 1048576 + 1 - b0
    let covers := (List.range (min n 256)).any (fun k => decide ((b0 + k) % 256 ∈ [0xD, 0xE, 0xF]))
    need (!covers && cv.own.any (fun o => o.2 = e.2.owner)) ⟨0x1A, 10, 16 * e.1, e.2.first, 0, 0⟩)

/-- W(L) of R250 in ps: on a trunk of plane A or B, of plane C, or on a segment. -/
def wirePs (plane medium len : Nat) : Nat :=
  (max (len + 24) 46 + 38) * 8 * (if medium ≠ 0 then 100000 else if plane = 2 then 1000 else 100)

/-- The window of an entry in ps. -/
def Canvas.winPs (cv : Canvas) (e : SlotDef) : Nat := 1000 * cv.winOf e

/-- The end of an entry's frame in ps. -/
def endPs (e : SlotDef) : Nat := 1000 * e.start + wirePs e.plane e.medium e.len

/-- A slot number used as R255 reserves it, or free. -/
def reservedOk (e : SlotDef) : Bool :=
  if 0x40 ≤ e.slot then decide (e.kind ≠ 3 ∧ e.kind ≠ 4 ∧ e.kind ≠ 5 ∧ e.kind ≠ 6)
  else if e.slot ≤ 8 then decide (e.kind = 3) && decide (e.medium = e.slot) && decide (e.start = 0)
  else if 0x10 ≤ e.slot ∧ e.slot ≤ 0x18 then decide (e.kind = 4) && decide (e.medium = e.slot - 0x10) && e.tx && decide (e.peer = 4095)
  else if 0x19 ≤ e.slot ∧ e.slot ≤ 0x1C then decide (e.kind = 5) && decide (e.medium = 0) && !e.tx
  else if 0x1D ≤ e.slot ∧ e.slot ≤ 0x20 then decide (e.kind = 6) && decide (e.medium = 0) && e.tx
  else false

/-- Whether two entries of one trunk direction or of one segment keep apart (R257). -/
def apartOk (cv : Canvas) (a b : SlotDef) : Bool :=
  if a.plane ≠ b.plane ∨ a.medium ≠ b.medium ∨ b.start < a.start then true
  else if a.medium = 0 then a.tx ≠ b.tx || decide (endPs a ≤ 1000 * b.start)
  else decide (endPs a + 9600000 + cv.winPs a + cv.winPs b ≤ 1000 * b.start)

/-- Whether a cell depends, through wires, on a source that reads a SET slot or the view (R257). -/
def fromSet (cv : Canvas) : Nat → Nat → Bool
  | 0, _ => false
  | f + 1, i =>
    match cv.cell i with
    | none => false
    | some d =>
      (decide (d.kind = 1 ∧ wClass (d.p 0) = 2) && (decide (wIndex (d.p 0) = 0x3F) ||
        cv.slots.any (fun e => !e.tx && e.plane = wUnit (d.p 0) && e.slot = wIndex (d.p 0) && decide (e.kind = 7)))) ||
      (cv.wiresTo i).any (fun w => w.type = 0 && fromSet cv f w.scell)

/-- When the last field of a transmit slot is posted at worst, in 0.1 ns from the start of the cycle (R141, R257), by BUDGET's figures of the
lane whose plane it is. -/
def slotPosted (cv : Canvas) (x : SlotDef) : Nat :=
  ((cv.cells.filter (fun d => d.kind = 2 && wClass (d.p 0) = 2 && wUnit (d.p 0) = x.plane && wIndex (d.p 0) % 4096 = x.slot)).map (fun d =>
    match statedPosting cv (x.plane + 1) d.idx with | some p => p.1 + 500000 * p.2 | none => 0)).foldl max 0

/-- Whether an entry carries JOIN frames (R270, R347): the first a partner sends in, or the first addressed to a partner that sends. -/
def Canvas.carriesJoin (cv : Canvas) (x : SlotDef) : Bool :=
  decide (x.kind ≠ 3 ∧ x.peer ≠ 4095) && decide (cv.firstSlot x.tx x.plane x.peer = some x) && (cv.firstSlot false x.plane x.peer).isSome

/-- SLOTS (R86, R257, R347, R409). -/
def checkSlots (cv : Canvas) : Option Refuse :=
  let es := indexed cv.slots
  let at' := fun (k arg : Nat) => (⟨0x18, 11, 64 + 16 * k, arg, 0, 0⟩ : Refuse)
  let one := firstOf es (fun e =>
    let x := e.2
    let w := cv.winPs x
    let setDerived : Bool := x.tx && cv.cells.any (fun d => d.kind = 2 && wClass (d.p 0) = 2 && wUnit (d.p 0) = x.plane &&
      wIndex (d.p 0) = x.slot && fromSet cv cv.cells.length d.idx)
    need (reservedOk x && !((cv.slots.take e.1).any (fun y => y.plane = x.plane && y.slot = x.slot)) &&
      (decide (x.kind = 3) || (decide (w ≤ 1000 * x.start) && decide (endPs x + w ≤ 400000000))) &&
      (x.tx || decide (3 ≤ x.kind ∧ x.kind ≤ 5) || cv.slots.any (fun y => y.tx && y.plane = x.plane && y.peer = x.peer)) &&
      (decide (x.kind ≠ 2) || decide (endPs x + w + 10000000 ≤ 1000000 * cv.net.latch)) &&
      (!(decide (x.kind = 2) && x.tx || setDerived) || decide (slotPosted cv x + 20000 ≤ 10 * x.start)) &&
      (decide (x.plane ≠ 2) || decide (x.kind ≠ 0 ∧ x.kind ≠ 5 ∧ x.kind ≠ 6 ∧ x.medium ≤ 4)) &&
      (!cv.carriesJoin x || decide (16 ≤ x.len)) &&
      (decide (x.kind ≠ 6) || decide (110000 ≤ x.start ∧ 64 ≤ x.len)) &&
      (decide (x.kind ≠ 5) || cv.slots.any (fun y => decide (y.kind = 6) && y.plane = x.plane && y.peer = x.peer))) (at' e.1 x.slot))
  let gaps := firstOf es (fun e => firstOf es (fun f => if e.1 = f.1 then none else need (apartOk cv e.2 f.2) (at' f.1 f.2.slot)))
  let crowd := firstOf (List.range 3) (fun p =>
    (need (decide ((cv.partnersOn p).length ≤ if p = 2 then 256 else 1024)) (at' 0 0)).or
      (firstOf (List.range 8) (fun m => need (decide ((cv.mediumPartners p (m + 1)).length ≤ 7)) (at' 0 0))))
  one.or (gaps.or crowd)

/-- The structural check of lanes A and B (R86), in the order of its list. -/
def structureCheck (l : LaneId) (im : Bytes) : Option Refuse :=
  let cv := parseCanvas im
  (cellFormat cv (imgSect im 1)).or
    ((checkOwner cv).or ((checkRange cv).or ((checkWiring cv).or ((checkBudget l im cv).or ((checkSplit cv).or
    ((checkCommander cv (imgSect im 8)).or ((checkPermit cv).or
    ((checkExpand cv).or (checkSlots cv)))))))))

/-- Steps 3 and 4 of lane C (R84, R88): the schedule with its cycle sums, the figures and posting times, then the parameters. -/
def scheduleCheck (im : Bytes) : Option Refuse :=
  let cv := parseCanvas im
  let sched := Config.readSchedc (imgSect im 4)
  (need (decide (sched.length ≤ 8192) && sched.all (fun x => decide (x.1 < 32) && decide (x.2.1 < 8) && (cv.cell x.2.2).isSome) &&
      cv.cells.all (scheduledOnce sched) && cv.cells.all (producersFirst cv sched)) ⟨0x17, 4, 0, 0, 0, 0⟩).or
    (((checkEngines cv 0x13 0x14).or (checkPosting .c im cv)).or
    ((firstOf (indexed cv.cells) (fun e => need (cellRange e.2) ⟨0x11, 1, cv.cellOfs e.1, 0, 0, 0⟩)).or
    (need (vectorsRange cv) ⟨0x11, 13, 0, 0, 0, 0⟩)))

/-- The rings of a lane that no OWN entry names (R285). -/
def Canvas.freeRings (cv : Canvas) (l : LaneId) : Nat :=
  ((List.range 32).filter (fun r => (cv.ownerOf (resCode 0xA l.code r)).isNone)).length

/-- What exceeds lanes A and B (R89, R285, R304): more than 256 tasks on a core, code and state that do not fit, or more free rings needed than the
lane has. -/
def fits (l : LaneId) (im : Bytes) (cv : Canvas) : Bool :=
  (List.range 4).all (fun c => decide ((((cv.tasks.filter (fun t => t.1 = c)).map (fun t => t.2.1)).dedup).length ≤ 256)) &&
    Config.fitsMemory l.idx im && decide (Config.ringsNeeded l.idx im ≤ cv.freeRings l)

/-- Step 3 of R84, and step 4 but for the code generator, in a lane: its refusal, if any. -/
def laneCheck (l : LaneId) (im : Bytes) : Option Refuse :=
  if l = .c then scheduleCheck im
  else (structureCheck l im).or ((need (fits l im (parseCanvas im)) ⟨0x1C, 5, 0, 0, 0, 0⟩).or
    (need (Config.translatable l.idx im) ⟨0x20, 1, 0, 0, 0, 0⟩))

/-- One output of a test vector against the value a SNK posted (R87): within the agreement window of a voted word, else within the tolerance
stated. -/
def outputOk (cv : Canvas) (n : Lane) (x : Nat × Int × Nat) : Bool :=
  let got := toSigned 32 ((n.cell x.1).nums.getD 0 0)
  let tol := match cv.cell x.1 with
    | some d => if wClass (d.p 0) = 1 then (cv.windowOf (wUnit (d.p 0)) (wIndex (d.p 0))).getD x.2.2 else x.2.2
    | none => x.2.2
  decide ((got - x.2.1).natAbs ≤ tol)

/-- The ticks of a test vector on the cells of a lane (R87): every SRC presents the value given, VALID 1; the first tick is TINR 0 (log entry
88). -/
def vectorRun (l : LaneId) (cv : Canvas) : Nat → List (List (Nat × Word) × List (Nat × Int × Nat)) → Lane → Bool
  | _, [], _ => true
  | k, v :: vs, n =>
    let n := n.onMain (fun m => { m with time := { m.time with tick := k } })
    let n := (n.shiftCells (k % 8)).runOnce l (runOf l false) [] (some v.1) []
    v.2.all (outputOk cv n) && vectorRun l cv (k + 1) vs n

/-- Step 5 of R84: TESTVEC on the translated code or the cell engines (R87). -/
def vectorsPass (l : LaneId) (cv : Canvas) : Bool :=
  (Config.readTestvec (cv.sect 13)).all (fun v => vectorRun l cv 0 v { state := .voting, main := { canvas := cv } })

/-- A refusal reported by the loader (R90). -/
def Loader.report (d : Loader) (r : Refuse) : Loader :=
  { d with code := r.code, errSect := r.sect, errOfs := r.ofs, errArg := r.arg, errFirst := r.first, errSecond := r.second }

end Sys2Proof.Machine
end

