-- ==== Sys2Proof/Machine/Office.lean ====
section
/-!
DEFINITION. The office of Ringmaster in a lane (R328-R339, R361): presence, claims and releases of a cycle, election and vacancy, the
view, and the service-port session.
-/
namespace Sys2Proof.Machine
open Sys2Proof

/-- The office of a lane changed. -/
def Lane.onOffice (n : Lane) (f : Office → Office) : Lane := n.onMain (fun m => { m with office := f m.office })

/-- The entries a commander's SET slots hold in the bank of the cycle just ended, lowest-lettered plane first (R331). -/
def Lane.setFrames (n : Lane) (c : CmdrDef) : List RxEntry :=
  (List.range 3).filterMap (fun p =>
    let k := c.sets.getD p 0
    if k = 0 then none else n.main.net.bank.find? (fun e => e.plane = p && e.slot = k))

/-- A commander judged at the boundary that ends a cycle (R331, R338). `peer` is the peer of an open session. -/
def Lane.judgeCmdr (n : Lane) (peer : Option Nat) (c : CmdrDef) (x : CmdrState) : CmdrState :=
  let fs := n.setFrames c
  let data := fs.find? (fun e => !e.null)
  let mine : Bool := peer = some c.id
  let o := n.main.office
  let ctrl := (data.map (fun e => byteAt e.data 0)).getD 0
  let succ := (data.map (fun e => u16At e.data 2 % 4096)).getD 0
  let present := !fs.isEmpty || mine
  let ctrl := if mine && o.sprel then 2 else if mine && o.spclaim then 1 else ctrl
  let succ := if mine && o.sprel then o.spsucc else succ
  { present := present, claim := decide (ctrl = 1), miss := if present then 0 else min 7 (x.miss + 1), heard := !fs.isEmpty,
    ctrl := some (ctrl, succ) }

/-- The commander entries with their judgements. -/
def Lane.judged (n : Lane) : List (CmdrDef × CmdrState) := n.main.canvas.cmdrs.zip n.main.office.cmdrs

/-- The winner among the candidates (R332): highest PRIO, then lowest ID. -/
def winner (cs : List CmdrDef) : Option Nat :=
  (cs.foldl (fun (b : Option CmdrDef) c => match b with
    | none => some c
    | some d => if d.prio < c.prio ∨ (d.prio = c.prio ∧ c.id < d.id) then some c else some d) none).map (fun c => c.id)

/-- The holder changes at this boundary, with its cause (R361); a vacancy raises RM_VACANT (R334). -/
def Lane.setHolder (n : Lane) (l : LaneId) (h : Option Nat) (cause : Nat) : Lane :=
  let n := n.onOffice (fun o => { o with holder := h, away := 0, round := n.main.time.round, cause := cause, changes := o.changes.add 1 })
  if h = none then n.event l 14 else n

/-- Step 3 of R332: a vacant office goes to a claimant of the cycle. -/
def Lane.elect (n : Lane) (l : LaneId) : Lane :=
  if n.main.office.holder = none then
    match winner ((n.judged.filter (fun e => e.2.claim)).map (fun e => e.1)) with
    | some w => n.setHolder l (some w) 0
    | none => n
  else n

/-- The judgement of a holder, if it has an entry. -/
def Lane.holderState (n : Lane) : Option CmdrState :=
  match n.main.office.holder with
  | none => none
  | some h => (n.judged.find? (fun e => e.1.id = h)).map (fun e => e.2)

/-- Whether the holder was absent in the last four cycles (R332), one without a commander entry too. -/
def Lane.holderGone (n : Lane) : Bool :=
  match n.holderState with
  | some x => decide (4 ≤ x.miss)
  | none => n.main.office.holder.isSome && decide (4 ≤ n.main.office.away)

/-- The Ringmaster view (R335) of the cycle just ended. -/
def Lane.makeView (n : Lane) : Lane :=
  let frames : List (Nat × Bytes) := match n.main.office.holder with
    | none => []
    | some h =>
      match n.main.canvas.cmdrs.find? (fun c => c.id = h) with
      | none => []
      | some c => ((n.setFrames c).filter (fun e => !e.null)).map (fun e => (e.plane, e.data))
  let at' := fun (p : Nat) => match frames.find? (fun f => f.1 = p) with
    | some f => some f.2
    | none => frames.head?.map (fun f => f.2)
  n.onOffice (fun o => { o with view := ⟨at' 0, at' 1, at' 2⟩ })

/-- Steps 1 (session end) and 2 of R332: the office after a release or the end of the holder's session. -/
def Lane.releases (n : Lane) (l : LaneId) : Lane :=
  match n.main.office.holder, n.holderState with
  | some h, st =>
    let ended : Bool := n.main.office.endedPeer = some h && !((st.map (fun x => x.heard)).getD false)
    if ended then n.setHolder l none 4
    else match st.bind (fun x => x.ctrl) with
      | some (2, succ) =>
        if succ ≠ h ∧ n.judged.any (fun e => e.1.id = succ && e.2.claim) then n.setHolder l (some succ) 1 else n.setHolder l none 2
      | _ => n
  | none, _ => n

/-- The office at the boundary that ends a cycle (R331, R332, R335), after the banks are handed over. The vacancy by TIMEOUT is
RM_VACANT, whose election follows it. -/
def Lane.officeRound (n : Lane) (l : LaneId) (peer : Option Nat) : Lane :=
  let cs := n.judged.map (fun e => n.judgeCmdr peer e.1 e.2)
  let h := n.main.office.holder
  let n := n.onOffice (fun o => { o with cmdrs := cs ++ o.cmdrs.drop cs.length, away := if peer = h then 0 else min 7 (o.away + 1) })
  let n := n.releases l
  let n := if h ≠ none ∧ n.main.office.holder ≠ none ∧ ¬ n.holderGone then
      let k := (n.judged.filter (fun e => e.2.claim && some e.1.id ≠ h && some e.1.id ≠ n.main.office.holder)).length
      n.onOffice (fun o => { o with refused := o.refused.add k })
    else n.elect l
  (n.onOffice (fun o => { o with spclaim := false, sprel := false, endedPeer := none })).makeView

/-- A lane that does not compute at the boundary that ends a cycle (R338, R339): the peer of an ended session gives up the office. -/
def Lane.benchRound (n : Lane) (l : LaneId) : Lane :=
  match n.main.office.endedPeer with
  | none => n
  | some p => (if n.main.office.holder = some p then n.setHolder l none 4 else n).onOffice (fun o => { o with endedPeer := none })

/-- The peer of a session with an UNOWNED controller holds the Ringmaster role for the session (R339), in every running lane. DESIGN CHOICE (log
entry 141): OWN_TERM shows it with CAUSE 0. -/
def State.benchHolder (s : State) (peer : Nat) : State :=
  if s.polvin.ipub.isNone then
    allLanes.foldl (fun s l => s.onLane l Lane.awake (fun n => n.setHolder l (some peer) 0)) s
  else s

/-- RM_VACANT (R332, R334): the Ringmaster was absent for four cycles; then the election. -/
def execRmVacant (l : LaneId) (s : State) : Host.Outcome State Fault Refusal :=
  .next (s.onLane l (fun n => n.computing && n.holderGone) (fun n => ((n.setHolder l none 3).elect l).makeView))

/-- Whether a session peer may claim in lane l (R338). -/
def State.sessionPeer (s : State) (who : Nat) : Bool := s.port.up && decide (s.port.peer = some who)

/-- SPCLAIM (R338): a CLAIM in the cycle that begins. -/
def execSpclaim (l : LaneId) (s : State) : Host.Outcome State Fault Refusal :=
  .next (s.onLane l (fun n => n.computing && s.port.up) (fun n => n.onOffice (fun o => { o with spclaim := true })))

/-- SPREL (R338): a RELEASE naming the successor, in the cycle that begins. -/
def execSprel (l : LaneId) (succ : Nat) (s : State) : Host.Outcome State Fault Refusal :=
  .next (s.onLane l (fun n => n.computing && s.port.up)
    (fun n => n.onOffice (fun o => { o with sprel := true, spsucc := succ % 4096 })))

/-- A frame of the module that opens a session (R338): SLOT 0x000, no tag; its counter reads 0 (log entry 100). -/
def State.openFrame (s : State) (peer msg : Nat) (bs : Bytes) : Bytes :=
  let c := s.lanes.a.main.canvas.net
  let pay := joinPay 0 msg 0 bs
  frameOf (if c.etype = 0 then 0x88B5 else c.etype) 0 c.self peer (headerOf 8 0 0 0 c.self pay.length 0 peer) pay none

/-- SESSION_OPEN (R338, R339): the four messages of the join exchange on the port, MSG1 and MSG3 as the peer sends them, MSG2 and MSG4 sent; the peer
is a commander with SVCOK, or any while UNOWNED, whose certificate is then not checked. PLANE is that of lane A's domain, whose epoch and group key
MSG4 gives; where there is none, what stands for it is a free value (log entry 100). -/
def execSessionOpen (msgs : SessionMsgs) (s : State) : Host.Outcome State Fault Refusal :=
  let msg1 := msgs.msg1
  let msg3 := msgs.msg3
  let peer := msgs.peer
  .next (if s.portLive ∧ ¬ s.port.up ∧ msg1.length = 196 ∧ msg3.length = 64 then
    if s.polvin.dom ≠ .on then s.setLane .a (s.lanes.a.event .a 19)
    else
      let d := s.draw
      let e := d.2.draw
      let x := msg2Of s.polvin msg1 d.1 e.1 0 s.lanes.a.main.canvas.net.self
      let f2 := e.2.openFrame peer 2 x.1
      let g := (assocGet s.lanes.a.main.net.gk 0).getD (BitVec.ofNat 128 e.2.draw.1.toNat)
      let k := joinKeys x.2.1 x.2.2 0
      let f4 := e.2.openFrame peer 4 (msg4Of s.lanes.a.main.net.epoch k.2 x.2.1 g)
      let known : Bool := s.polvin.ipub.isNone || s.lanes.a.main.canvas.cmdrs.any (fun c => c.id = peer && c.svcok)
      if known && joinAuth s.polvin s.polvin.ipub.isSome msg1 x.2.1 msg3 peer then
        ({ e.2.draw.2 with port := { up := true, peer := some peer, key := k.1, rxCtr := Tri.all none, txCtr := Tri.all 0, idle := 0, out := [f2, f4] } }).benchHolder peer
      else { e.2.setLane .a (e.2.lanes.a.event .a 13) with port := { s.port with out := [f2] } }
  else s)

/-- SESSION_END (R338): 10 s without a valid frame, a counter at its end, or SERVICE left. -/
def execSessionEnd (s : State) : Host.Outcome State Fault Refusal :=
  .next (if s.port.up ∧ (200000 ≤ s.port.idle ∨ s.port.txCtr.toList.any (fun c => decide (0xFFFFFF ≤ c)) ∨ s.port.rxCtr.toList.any (fun c => c = some 0xFFFFFF) ∨ ¬ s.portLive)
    then s.sessionDown else s)

end Sys2Proof.Machine
end

