-- ==== Sys2Proof/Machine/Boot.lean ====
section
/-!
DEFINITION. The life of a lane from supplies good to SYNC, its restarts, retirement and the change of its canvas (R36, R37, R44, R84-R105,
R301, R339, R346, R354, R377-R379, R390-R392).
-/
namespace Sys2Proof.Machine
open Sys2Proof

/-- The always-on domain of a lane changed. -/
def Lane.onAon (n : Lane) (f : Aon → Aon) : Lane := { n with aon := f n.aon }

/-- The power registers of a lane changed. -/
def Lane.onPwr (n : Lane) (f : PwrRegs → PwrRegs) : Lane := n.onAon (fun a => { a with pwr := f a.pwr })

/-- The R89 code of the Polvin core's verdict on an image (R85, R95); 0 when it accepts it. R95 refuses an equal EPOCH with another hash and
names no code: the model gives ROLLBACK (log entry 95). -/
def verdictOf (p : Polvin) (im : Bytes) : Nat :=
  let h := imgHash im
  match p.ipub with
  | none => 4
  | some k =>
    if slice im 32 32 ≠ p.keyId then 4
    else if ¬ ecdsaVerify k h (imgSignature im) then 3
    else if imgEpoch im < p.erec then 5
    else if imgEpoch im = p.erec ∧ p.erecHash ≠ zeros 32 ∧ p.erecHash ≠ hashBytes h then 5
    else 0

/-- The refusal for the verdict on an image, or for an unsigned image under varnish (R85, R95, R104): the offset is that of the header field
or block concerned (log entry 92). -/
def verdictRefuse (p : Polvin) (im : Bytes) : Option Refuse :=
  if imgSigned im then
    match verdictOf p im with
    | 0 => none
    | 3 => some { code := 3, ofs := imgLength im - 64 }
    | 4 => some { code := 4, ofs := 32 }
    | c => some { code := c, ofs := 8 }
  else if p.varnish then some { code := 6, ofs := 6 }
  else none

/-- Step 1 of R84 on the image in slot k of a lane: format and patch level (R89, R90, R105, R325). -/
def formatRefuse (l : LaneId) (d : Loader) (k : Nat) : Option Refuse :=
  let im := d.slot k
  if k = d.pslot ∧ d.torn then some { code := 2 }
  else if im = [] then some { code := 1 }
  else match (formatFind im).or (d.badImage l k) with
    | some (x, o) => some { code := 2, sect := x, ofs := o }
    | none => if procLane l ∧ d.patch < u32At im 24 then some { code := 8, ofs := 24 } else none

/-- A boot load or a check is logged with its code (R89, R354). -/
def State.logLoad (s : State) (l : LaneId) (code : Nat) (h : Bytes) : State := s.logEvent 0x0B code l.code h

/-- A lane refuses its image at boot or in TRANSLATE (R37, R84, R90): it stays where it is. -/
def State.refuseImage (s : State) (l : LaneId) (r : Refuse) : State :=
  let n := s.lanes.get l
  (s.setLane l (n.onLoader (fun d => { d.report r with verdictDue := false }))).logLoad l r.code n.loader.ahash

/-- A lane refuses its pending image (R90, R98). -/
def State.refuseCheck (s : State) (l : LaneId) (r : Refuse) : State :=
  let n := s.lanes.get l
  (s.setLane l (n.onLoader (fun d => { d.report r with state := .refused }))).logLoad l r.code (hashBytes (imgHash n.loader.pending))

/-- A lane that holds its verdict, and runs on its PLL, moves on to TRANSLATE (R37, R392). A lane back from RETENTION waits for the check
of its code (R390), one whose mask ROM failed or whose retirement record is not read stays (R325, R378). -/
def Lane.leaveBoot (n : Lane) : Lane :=
  if n.state = .boot ∧ n.loader.recRead ∧ ¬ n.loader.romBad ∧ n.aon.pwr.pll ∧ n.loader.verified ∧ ¬ n.loader.retained then { n with state := .translate } else n

/-- The mode a lane boots in (R44, R45, R104, R339): SERVICE while UNOWNED; SKETCH for an unsigned image, SERVICE left for it; HALT or SKETCH
where the lane's always-on domain holds it (log entry 82). -/
def State.bootMode (s : State) (l : LaneId) (unsigned : Bool) : State :=
  let n := s.lanes.get l
  if s.polvin.ipub.isNone ∧ s.polvin.dom = .on then (if n.main.mode.mode = .service then s else s.serviceIn l none)
  else if n.main.mode.mode = .service then (if unsigned then s.serviceOut l none Lane.enterSketch else s)
  else if n.aon.halt then (s.setLane l n.halt).syncInhibit
  else if unsigned ∨ n.aon.sketch then (s.setLane l n.enterSketch).syncInhibit
  else s

/-- A lane at BOOT takes its executive patch; a change of level is logged (R301, R354). -/
def State.bootPatch (s : State) (l : LaneId) : State :=
  let d := (s.lanes.get l).loader
  if procLane l ∧ d.patch ≠ d.patchLevel l then
    (s.setLane l ((s.lanes.get l).onLoader (fun d => { d with patch := d.patchLevel l }))).logEvent 0x12 0 (d.patchLevel l) d.ahash
  else s

/-- Steps 1 and 2 of R84 at boot: format, hash, and the request for a verdict; an unsigned image as R104 has it. -/
def State.bootImage (s : State) (l : LaneId) : State :=
  let s := s.bootPatch l
  let n := s.lanes.get l
  let im := n.loader.active
  match formatRefuse l n.loader n.loader.aslot with
  | some r => (s.bootMode l false).refuseImage l r
  | none =>
    let n := n.onLoader (fun d => { d with ahash := hashBytes (imgHash im), aepoch := imgEpoch im, asigned := imgSigned im })
    let s := (s.setLane l n).bootMode l (!imgSigned im && !s.polvin.varnish)
    let n := s.lanes.get l
    if imgSigned im then s.setLane l (n.onLoader (fun d => { d with verdictDue := true }))
    else match verdictRefuse s.polvin im with
    | some r => s.refuseImage l r
    | none => (s.setLane l (n.onLoader (fun d => { d with verified := true })).leaveBoot).logEvent 0x0D 0 0 n.loader.ahash

/-- A lane in BOOT reads its retirement record, once the Polvin core runs (R37, R339, R378): RETIRED where one stands, whether or not its own flag
does; SERVICE where the core holds no key. -/
def State.readRecord (s : State) (l : LaneId) : State :=
  let s := s.polvinWakes
  let n := s.lanes.get l
  if n.state ≠ .boot ∨ n.loader.recRead ∨ s.polvin.dom ≠ .on then s
  else if s.polvin.retired.testBit l.idx then
    let s := s.laneDown l .retired .off
    s.setLane l ((s.lanes.get l).onAon (fun a => { a with retired := true }))
  else
    let s := s.setLane l (n.onLoader (fun d => { d with recRead := true })).leaveBoot
    if s.polvin.ipub.isNone ∧ n.main.mode.mode = .none then s.serviceIn l none else s

/-- A recorded commit makes its slot the active one (R99, R105). -/
def Loader.activate (d : Loader) : Loader :=
  match d.commit with
  | some _ => { d with aslot := 1 - d.aslot, commit := none, ahead := true, state := .empty, target := 0, phash := zeros 32 }
  | none => d

/-- What the core records at a commit (R95, R346): the highest epoch, and the varnish's hash for a signed image. -/
def State.commitRecord (s : State) (h : Bytes) (epoch : Nat) (signed : Bool) : State :=
  if s.polvin.dom ≠ .on ∨ ¬ signed then s
  else
    let p := s.polvin
    let s := if p.erec ≤ epoch then { s with polvin := { p with erec := epoch, erecHash := h } } else s
    if s.polvin.varnish ∧ s.polvin.vhash ≠ h then
      { s with polvin := { s.polvin with vhash := h } }.logEvent 7 0 1 h
    else s

/-- The pending image becomes the active one (R99, R101, R105): the epoch record follows, and a signed one ends SKETCH. -/
def State.takeCommit (s : State) (l : LaneId) (h : Bytes) : State :=
  let im := (s.lanes.get l).loader.pending
  let s := s.polvinWakes.commitRecord h (imgEpoch im) (imgSigned im)
  s.setLane l ((s.lanes.get l).onAon (fun a => { a with hash := h, epoch := imgEpoch im, sketch := a.sketch && !imgSigned im }))

/-- SUPPLIES_GOOD (R37, R44, R139, R378, R387, R392): a lane starts from OFF into BOOT, its latched flags clear, or into RETIRED where a
retirement stands. -/
def execSuppliesGood (l : LaneId) (s : State) : Host.Outcome State Fault Refusal :=
  let n := s.lanes.get l
  .next (if n.state = .off ∧ n.dom ≠ .retention ∧ n.aon.on then
    if n.aon.retired then s.laneDown l .retired .off
    else
      let s := match n.loader.commit with | some (h, _) => s.takeCommit l h | none => s
      let n := s.lanes.get l
      let m : LaneMain := { mode := { startMs := n.aon.ms } }
      let n := { n with state := .boot, dom := .on, main := m, loader := (n.loader.restart).activate, aon := { n.aon with latched := [] } }
      ((s.setLane l (n.onPwr (fun p => { p with pll := false, src := setBit p.src 4 }))).bootImage l).readRecord l
  else s)

/-- LANE_RESET (R37): any state to OFF. -/
def execLaneReset (l : LaneId) (s : State) : Host.Outcome State Fault Refusal :=
  .next (s.laneDown l .off (if (s.lanes.get l).dom = .on then .on else .off))

/-- CLOCK_SWITCH (R392). -/
def execClockSwitch (l : LaneId) (s : State) : Host.Outcome State Fault Refusal :=
  .next (s.onLane l Lane.awake (fun n => (n.onPwr (fun p => { p with pll := true })).leaveBoot))

/-- SIGNATURE_VERDICT (R85, R95). -/
def execSignatureVerdict (l : LaneId) (s : State) : Host.Outcome State Fault Refusal :=
  let n := s.lanes.get l
  .next (if n.awake ∧ n.state = .boot ∧ n.loader.verdictDue ∧ s.polvin.dom = .on then
    match verdictRefuse s.polvin n.loader.active with
    | none => s.setLane l (n.onLoader (fun d => { d with verdictDue := false, verified := true, code := 0 })).leaveBoot
    | some r => s.refuseImage l r
  else s)

/-- POLVIN_TIMEOUT (R85, R105, R354): at boot, or in the check of a pending image; the attempt is logged with its code. -/
def execPolvinTimeout (l : LaneId) (s : State) : Host.Outcome State Fault Refusal :=
  let n := s.lanes.get l
  .next (if n.awake ∧ n.state = .boot ∧ n.loader.verdictDue then (s.laneEvent l 19).refuseImage l { code := 7 }
    else if n.awake ∧ n.loader.state = .checking then (s.laneEvent l 19).refuseCheck l { code := 7 }
    else s)

/-- The event settings of a lane and its COMMIT group from its canvas (R71, R370). DESIGN CHOICE (log entry 144): a GROUP entry over registers of the
Polvin core, which has no TCK_COMMIT, puts a write to them in the group of each lane that takes it. -/
def Lane.configure (n : Lane) (l : LaneId) : Lane :=
  let cv := n.main.canvas
  let es := (cv.events.filter (fun e => e.1 = l.code)).map (fun e => e.2)
  let gs := (cv.perms.filter (fun p => p.group)).map (fun p => (p.first, p.last))
  n.onMain (fun m => { m with evt := evtConfigure m.evt es, shadow := { m.shadow with ranges := gs } })

/-- A lane without keys takes those the Polvin core handed out, with their partners (R350, log entry 23). -/
def State.keyShare (s : State) (l : LaneId) : State :=
  let p := s.polvin
  if p.dom = .on ∧ (s.lanes.get l).main.net.keys = [] ∧ p.pgk ≠ [] then
    s.setLane l ((s.lanes.get l).onNet (fun m => { m with
      keys := p.pkeys, gk := p.pgk, epoch := p.pkEpoch
      partners := p.pkeys.foldl (fun ps k => assocPut ps k.1 { ((assocGet ps k.1).getD {}) with joined := true }) m.partners }))
  else s

/-- The cache with a translation's entry (R94): an entry of the same key goes; the new one replaces the oldest entry of neither image. DESIGN
CHOICE (log entry 145): where all four belong to an image it replaces the oldest. -/
def cacheWith (d : Loader) (h code : Bytes) : List CacheEntry :=
  let es := d.cache.filter (fun e => e.hash ≠ h ∨ e.patch ≠ d.patch)
  let es := if es.length < 4 then es
    else match es.findIdx? (fun e => e.hash ≠ d.ahash ∧ e.hash ≠ d.phash) with
      | some k => es.eraseIdx k
      | none => es.drop 1
  let place := ((List.range 4).find? (fun k => es.all (fun e => e.place ≠ k))).getD 0
  es ++ [⟨place, h, d.patch, code, sha256 code⟩]

/-- A translation kept in the cache (R94), in flash that then reads right. -/
def Loader.cached (d : Loader) (l : LaneId) (h code : Bytes) : Loader :=
  let es := cacheWith d h code
  let d := { d with hit := false, cache := es }
  match es.getLast? with
  | some e => d.renew l (.cache e.place)
  | none => d

/-- The cache entry of an image (R94). -/
def Loader.entryFor (d : Loader) (h : Bytes) : Option CacheEntry := d.cache.find? (fun e => e.hash = h && e.patch = d.patch)

/-- Whether the code of a cache entry, as stored or as read back, has the SHA-256 stored with it (R94). -/
def CacheEntry.sound (e : CacheEntry) (read : Option Bytes) : Bool := decide (sha256 (read.getD e.code) = e.sha)

/-- Whether a cache entry may be used (R94, R325): it reads right, and its SHA-256 is the stored one. -/
def Loader.usable (d : Loader) (l : LaneId) (e : CacheEntry) (read : Option Bytes) : Bool :=
  (d.badIn l (.cache e.place)).isNone && e.sound read

/-- Step 4 of R84 in lanes A and B: the translation, or the cache entry that stands in for it; CACHE_CORRUPT where the entry fails (R94, R104).
Lane C has neither. -/
def Lane.translate (n : Lane) (l : LaneId) (im : Bytes) (read : Option Bytes) : Lane :=
  let h := hashBytes (imgHash im)
  let code := Config.translation l.idx im
  if ¬ procLane l then n
  else if ¬ imgSigned im then n.onLoader (fun d => { d with hit := false })
  else
    match n.loader.entryFor h with
    | some e =>
      if n.loader.usable l e read then n.onLoader (fun d => { d with hit := true })
      else (n.onLoader (fun d => { d.cached l h code with corrupt := satAdd 16 d.corrupt 1 })).event l 4
    | none => n.onLoader (fun d => d.cached l h code)

/-- The test vectors' refusal (R87). -/
def vectorRefuse : Refuse := { code := 0x21, sect := 13 }

/-- A lane holds its canvas checked and translated (R91, R94, R106, R317): its cells, settings and figures stand, lane C's block references are
taken, and the unit configuration records are due. RBSTAT.FAIL and MEM_ENG tell of the time since (R327, log entry 117). -/
def Lane.carry (n : Lane) (l : LaneId) : Lane :=
  let im := n.loader.active
  let cv := parseCanvas im
  let b := budgetUse l im cv
  let blocks := if procLane l then [] else (List.range 256).map (Config.canvasBlock (hashBytes (imgHash im)))
  let n := n.onLoader (fun d => { d with code := 0, recordsDue := true, retained := false, acached := d.hit, tickPm := b.1, roundPm := b.2 })
  let n := n.onMem (fun g => { g with rbFail := false, eng := 0 })
  (n.onMain (fun m => { m with canvas := cv, cmem := blocks, cref := blocks.map crc32,
                               motors := (List.range 4).map cv.motorLoaded })).configure l

/-- The Polvin core takes its event entries with the load of a lane, where it has none yet or no lane computes (R370, log entry 96). -/
def State.polvinLoads (s : State) (l : LaneId) : State :=
  if s.polvin.dom = .on ∧ (¬ s.polvin.evt.loaded ∨ allLanes.all (fun x => !(s.lanes.get x).computing)) then s.polvinEntries l else s

/-- A lane has loaded its canvas: the always-on record follows (R95), and the load is logged. -/
def State.loaded (s : State) (l : LaneId) : State :=
  let n := s.lanes.get l
  let n := (n.carry l).onAon (fun a => { a with hash := n.loader.ahash, epoch := n.loader.aepoch })
  (((s.setLane l n).polvinLoads l).keyShare l).logLoad l 0 n.loader.ahash

/-- Steps 3 and 5 of R84 on an image in a lane (R86, R87). -/
def stepsRefuse (l : LaneId) (im : Bytes) : Option Refuse :=
  (laneCheck l im).or (need (vectorsPass l (parseCanvas im)) vectorRefuse)

/-- Steps 3 to 5 of R84 on the active image; the translation stands where steps 3 and 4 pass. -/
def State.loadSteps (s : State) (l : LaneId) (read : Option Bytes) : State :=
  let n := s.lanes.get l
  let im := n.loader.active
  match laneCheck l im with
  | some r => s.refuseImage l r
  | none =>
    let s := s.setLane l (n.translate l im read)
    if vectorsPass l (parseCanvas im) then s.loaded l else s.refuseImage l vectorRefuse

/-- Steps 1 to 4 of R84 on the pending image (R98, R105): TRANSLATING where they pass (log entry 89). -/
def State.checkSteps (s : State) (l : LaneId) (read : Option Bytes) : State :=
  let n := s.lanes.get l
  let im := n.loader.pending
  match formatRefuse l n.loader n.loader.pslot with
  | some r => s.refuseCheck l r
  | none =>
    let s := s.setLane l (n.onLoader (fun d => { d with phash := hashBytes (imgHash im) }))
    if s.polvin.dom ≠ .on then (s.laneEvent l 19).refuseCheck l { code := 7 }
    else match (verdictRefuse s.polvin im).or (laneCheck l im) with
      | some r => s.refuseCheck l r
      | none =>
        let n := s.lanes.get l
        s.setLane l ((n.translate l im read).onLoader (fun d => { d with hit := n.loader.hit, state := .translating }))

/-- Step 5 of R84 on the pending image: READY or REFUSED (R98). -/
def State.checkVectors (s : State) (l : LaneId) : State :=
  let n := s.lanes.get l
  if n.loader.state = .translating then
    if vectorsPass l (parseCanvas n.loader.pending) then
      (s.setLane l (n.onLoader (fun d => { d with state := .ready, code := 0 }))).logLoad l 0 (hashBytes (imgHash n.loader.pending))
    else s.refuseCheck l vectorRefuse
  else s

/-- Whether the code a lane kept through RETENTION passes its check (R390): lanes A and B by the SHA-256 of their cache entry, lane C by its
readback. An image without an entry, as an unsigned one, does not pass (log entry 90). -/
def Lane.retainedGood (n : Lane) (l : LaneId) (read : Option Bytes) : Bool :=
  let im := n.loader.active
  let code := read.getD (Config.translation l.idx im)
  if procLane l then (match n.loader.entryFor (hashBytes (imgHash im)) with | some e => e.sound (some code) | none => false)
  else code == Config.translation l.idx im

/-- A lane back from RETENTION whose code does not pass loads as from OFF (R390); CACHE_CORRUPT where there was something to compare. -/
def State.reloadRetained (s : State) (l : LaneId) : State :=
  let n := s.lanes.get l
  let none' : Bool := procLane l && (n.loader.entryFor (hashBytes (imgHash n.loader.active))).isNone
  let m := if none' then n.onLoader (fun d => d.restart)
    else (n.onLoader (fun d => { d.restart with corrupt := satAdd 16 d.corrupt 1 })).event l 4
  let keep : LaneMain := { mode := n.main.mode, evt := m.main.evt }
  ((s.setLane l { m with main := keep }).bootImage l).readRecord l

/-- Whether a lane back from RETENTION holds the canvas of its image in its kept registers and memory (R385, R390). -/
def Lane.keepsCanvas (n : Lane) : Bool := decide (n.main.canvas.hash = hashBytes (imgHash n.loader.active))

/-- A lane whose canvas was kept through RETENTION holds it again (R385, R390): its records are due, its registers stand. -/
def State.resumed (s : State) (l : LaneId) : State :=
  let n := (s.lanes.get l).onLoader (fun d => { d with code := 0, recordsDue := true, retained := false, acached := d.hit })
  ((s.setLane l n).keyShare l).logLoad l 0 n.loader.ahash

/-- TRANSLATION_DONE (R84, R87, R94, R98, R390): steps 3 to 5 in TRANSLATE; in BOOT after RETENTION the check of the retained code first, which
stands in for steps 2 and 4; else, in lanes A and B, steps 1 to 4 on a pending image in CHECKING. What is read back of
the cached code and of the code kept through RETENTION is given where it is not what was stored. -/
def execTranslationDone (l : LaneId) (cached kept : Option Bytes) (s : State) : Host.Outcome State Fault Refusal :=
  let n := s.lanes.get l
  .next (
    if n.dom = .on ∧ n.state = .translate ∧ ¬ n.loader.recordsDue then s.loadSteps l cached
    else if n.dom = .on ∧ n.state = .boot ∧ n.loader.retained ∧ n.aon.pwr.pll then
      if n.retainedGood l kept then
        let s := s.setLane l { n with state := .translate, loader := { n.loader with retained := false } }
        match stepsRefuse l n.loader.active with
        | some r => s.refuseImage l r
        | none => if n.keepsCanvas then s.resumed l else s.loaded l
      else s.reloadRetained l
    else if n.awake ∧ procLane l ∧ n.loader.state = .checking then s.checkSteps l cached
    else s)

/-- CHECK_DONE (R84, R98, R105): the pending image is READY or REFUSED. -/
def execCheckDone (l : LaneId) (code : Option Bytes) (s : State) : Host.Outcome State Fault Refusal :=
  let n := s.lanes.get l
  .next (if n.awake then (if n.loader.state = .checking then s.checkSteps l code else s).checkVectors l else s)

/-- A lane enters RETRYING (R37, R96, R377): one entry and one count. -/
def Lane.enterRetrying (n : Lane) (src : Nat) : Lane :=
  let a := n.aon
  let d := n.loader
  let r := d.restart
  { n with
    state := .retrying
    main := { n.main.retrying with mode := { n.main.retrying.mode with startMs := a.ms } }
    loader := { r with ahash := d.ahash, aepoch := d.aepoch, asigned := d.asigned, acached := d.acached, verified := true,
                       hit := d.hit, tickPm := d.tickPm, roundPm := d.roundPm }
    aon := { a with restarts := (a.restarts ++ [a.ms]).drop (a.restarts.length + 1 - 3), total := satAdd 16 a.total 1, causeSrc := src,
                    causeMs := a.ms } }

/-- RETRYING_ENTRY (R37, R377): a Retry source is due in the lane. -/
def execRetryingEntry (l : LaneId) (s : State) : Host.Outcome State Fault Refusal :=
  let n := s.lanes.get l
  .next (match n.main.check.retry with
    | some src =>
      if n.computing then
        if 3 ≤ n.aon.recent.length then s.retire l src else (s.setLane l (n.enterRetrying src)).syncInhibit
      else s
    | none => s)

/-- RESTART_DONE (R94, R96): the image hash against the always-on record; then the cached translation, steps 3 and 5, and records are due. -/
def execRestartDone (rd : CodeRead) (s : State) : Host.Outcome State Fault Refusal :=
  .next (s.onLane rd.lane (fun n => decide (n.dom = .on) && decide (n.state = .retrying) && !n.loader.recordsDue) (fun n =>
    let im := n.loader.active
    if hashBytes (imgHash im) ≠ n.aon.hash then n.onLoader (fun d => d.report { code := 0x31 })
    else match stepsRefuse rd.lane im with
      | some r => n.onLoader (fun d => d.report r)
      | none => (n.translate rd.lane im rd.code).carry rd.lane))

/-- RESTART_TIMEOUT (R377): 180 ms without reaching SYNC. -/
def execRestartTimeout (l : LaneId) (s : State) : Host.Outcome State Fault Refusal :=
  let n := s.lanes.get l
  .next (if n.dom = .on ∧ n.state = .retrying ∧ n.aon.causeMs + 180 ≤ n.aon.ms then s.retire l 0xFF else s)

/-- RETIREMENT_RECORD_WRITE (R378): written and logged, or POLVIN_LOST. -/
def execRetirementRecordWrite (l : LaneId) (answered : Bool) (s : State) : Host.Outcome State Fault Refusal :=
  let n := s.lanes.get l
  .next (if n.aon.on ∧ n.aon.pendrec then
    if answered ∧ s.polvin.dom = .on then
      let s := { s with polvin := { s.polvin with retired := setBit s.polvin.retired l.idx } }
      let s := s.logEvent 0x10 0 l.code s.devHash
      (s.setLane l (n.onAon (fun a => { a with pendrec := false }))).clearWaiting
    else s.laneEvent l 19
  else s)

/-- WITHDRAW = 1 in every block of this tick (R99, R389). -/
def Lane.withdrawAll (n : Lane) (l : LaneId) : Lane :=
  allUnits.foldl (fun n u => n.post u (some (n.blockFor l (n.main.words.get u)))) (n.onCheck (fun c => { c with withdraw := true }))

/-- The views of the units with nothing but the blocks still on the links. -/
def keepPosted (t : Ten UnitView) : Ten UnitView :=
  allUnits.foldl (fun x u => x.set u { posted := (t.get u).posted }) (Ten.all {})

/-- COMMIT_TARGET (R99, R101, R382): at the target round, or the first one it runs after it, the lane makes the pending slot active, updates the records and restarts through
BOOT. SERVICE is kept. -/
def execCommitTarget (l : LaneId) (s : State) : Host.Outcome State Fault Refusal :=
  let n := s.lanes.get l
  .next (match n.loader.commit with
    | some (h, t) =>
      if n.awake ∧ n.loader.state = .committed ∧ reached t n.main.time.round then
        let s := s.takeCommit l h
        let n := s.lanes.get l
        let keep : ModeState := if n.main.mode.mode = .service then { mode := .service, park := true, startMs := n.aon.ms }
          else { startMs := n.aon.ms }
        let units := keepPosted (n.withdrawAll l).main.units
        let n := { n with state := .boot, main := { mode := keep, time := n.main.time, units := units }, loader := (n.loader.restart).activate }
        (((s.setLane l n).syncInhibit).bootImage l).readRecord l
      else s
    | none => s)

/-- What a lane that boots had to leave until the Polvin core runs (R95, R378): the epoch of the commit it has taken, and its retirement
record. -/
def State.polvinServes (s : State) (l : LaneId) : State :=
  let d := (s.lanes.get l).loader
  (if (s.lanes.get l).awake ∧ d.ahead then s.commitRecord d.ahash d.aepoch d.asigned else s).readRecord l

/-- POLVIN_POWER_UP (R95, R353, R354, R362, R370, R378): what the core keeps in its NVM stays, its registers take their reset values, its event
entries stand again, and the lanes that wait for it go on. -/
def execPolvinPowerUp (s : State) : Host.Outcome State Fault Refusal :=
  let p := s.polvin
  let s := { s with polvin := { p with
    dom := .on, unlocked := false, chal := none, nsalt := zeros 16, busy := false, result := 0, cmd := none, clrWait := none,
    win := zeros 256, logSel := 0, seen := [], entry := none, slot := none, att := {}, evt := {}, keyEpoch := 0,
    joinGap := 0, pkeys := [], pgk := [], pkEpoch := 0, given := (0, 0), cmdWin := zeros 256, leftSvc := false } }
  let s := s.polvinCanvas
  let s := if 0xF000 ≤ s.polvin.keyRec then s.polvinEvent 2 else s
  .next (allLanes.foldl State.polvinServes (s.logEvent 1 0 s.suppliesGood s.devHash))

end Sys2Proof.Machine
end

