-- ==== Sys2Proof/Machine/Power.lean ====
section
/-!
DEFINITION. Supplies, shedding, retention, sleep and wake (R68, R384-R402).
-/
namespace Sys2Proof.Machine
open Sys2Proof

/-- A lane input measured in mV (R387, R401). -/
def Lane.measure (n : Lane) (mv : Nat) : Lane := n.onPwr (fun p => { p with vl := mv / 10, vlmin := min p.vlmin (mv / 10) })

/-- LANE_SHED (R387, R389): the steps whose threshold the input has fallen below; step 1 closes a session in lane A. -/
def execLaneShed (l : LaneId) (mv : Nat) (s : State) : Host.Outcome State Fault Refusal :=
  let n := s.lanes.get l
  .next (if n.aon.on then
    let s := s.setLane l ((n.measure mv).onPwr (fun p => { p with
      step1 := p.step1 || decide (mv < 9000), step2 := p.step2 || decide (mv < 8000), step4 := p.step4 || decide (mv < 7200) }))
    if l = .a ∧ mv < 9000 then s.sessionDown else s
  else s)

/-- SHED_RELEASE (R387): the steps whose release threshold the input has risen above. -/
def execShedRelease (l : LaneId) (mv : Nat) (s : State) : Host.Outcome State Fault Refusal :=
  .next (s.onLane l (fun n => n.aon.on) (fun n => (n.measure mv).onPwr (fun p => { p with
    step1 := p.step1 && !decide (9500 < mv), step2 := p.step2 && !decide (8500 < mv), step4 := p.step4 && !decide (7700 < mv) })))

/-- The blocks a lane has posted reach their units. -/
def State.lastBlocks (s : State) (l : LaneId) : State :=
  allUnits.foldl (fun s u => match ((s.lanes.get l).main.units.get u).posted with
    | some bs => s.ifRuns u (fun s => s.receiveBlock u l bs 0)
    | none => s) s

/-- The main domain of a lane enters RETENTION (R67, R385, R389, R395): its registers kept, both ends of its links reset, its plane off, its timer
started; `slept` where it went to sleep and did not drop out. -/
def State.laneSleeps (s : State) (l : LaneId) (slept : Bool) : State :=
  let s := (s.linksDown l).planeDown l
  let n := allUnits.foldl (fun n u => n.onUnit u UnitView.linkReset) (s.lanes.get l)
  let n := n.onPwr (fun p => { p with
    pll := false, sleepAt := none, cancelling := false, timerLeft := 1000 * p.timer, slept := slept, firstMs := none, pslot := none })
  (s.setLane l { n with state := .off, dom := .retention }).syncInhibit

/-- DROP_OUT (R387, R389, R400): WITHDRAW in the blocks of this tick, which still arrive (log entry 121), then RETENTION. A lane that sleeps is then
out by its supply. -/
def execDropOut (l : LaneId) (s : State) : Host.Outcome State Fault Refusal :=
  let n := s.lanes.get l
  .next (if n.awake then
    let n := if n.computing then n.withdrawAll l else n
    ((s.setLane l n).lastBlocks l).laneSleeps l false
  else if n.dom = .retention then s.setLane l (n.onPwr (fun p => { p with slept := false }))
  else s)

/-- MAIN_OFF (R37, R387): the main domain of the lane is OFF; what the always-on domain records, a retirement too, stays. -/
def execMainOff (l : LaneId) (s : State) : Host.Outcome State Fault Refusal :=
  .next (if (s.lanes.get l).dom = .off ∧ (s.lanes.get l).state = .off then s else s.laneDown l .off .off)

/-- What no power cycle clears of an always-on domain (R379): the restart history with its count of ms, and a retirement, recorded or still to
be. DEDUCED (log entry 26): R379 says so of them, R385 that the content is lost. -/
def Aon.lasting (a : Aon) : Aon := { ms := a.ms, sub := a.sub, restarts := a.restarts, retired := a.retired, pendrec := a.pendrec }

/-- ALWAYS_ON_OFF (R379, R385, R387): below 4.0 V the always-on domain loses its content. -/
def execAlwaysOnOff (l : LaneId) (s : State) : Host.Outcome State Fault Refusal :=
  let s := s.laneDown l .off .off
  .next (s.setLane l { s.lanes.get l with aon := { (s.lanes.get l).aon.lasting with on := false } })

/-- ALWAYS_ON_POWER_UP (R379, R385, R387): the records start cleared. -/
def execAlwaysOnPowerUp (l : LaneId) (s : State) : Host.Outcome State Fault Refusal :=
  .next (s.onLane l (fun n => !n.aon.on) (fun n => { n with aon := n.aon.lasting }))

/-- The mode of a lane back from RETENTION (R45, R391): HALT, SKETCH and the SERVICE of an UNOWNED controller where they are held; the start-up
rule, its limit counted from the first lane's return, where one returned before it with no lane admitted; else as kept, until SYNC shows
whether a lane votes (log entry 63). -/
def State.returnMode (s : State) (l : LaneId) : ModeState :=
  let n := s.lanes.get l
  let m := n.main.mode
  if n.aon.halt then { mode := .halt, park := true, startMs := n.aon.ms }
  else if n.aon.sketch ∨ (n.loader.active ≠ [] ∧ ¬ imgSigned n.loader.active ∧ m.mode ≠ .service) then
    { mode := .sketch, park := m.park, startMs := n.aon.ms }
  else match n.aon.pwr.firstMs with
    | none => { m with noSio := 0, startMs := n.aon.ms }
    | some t => if m.mode = .service ∧ s.polvin.ipub.isNone then { m with noSio := 0, startMs := n.aon.ms }
      else { slow := m.slow, startMs := t, lost := m.lost }

/-- The return of a lane while no unit admits one reaches the lanes still in RETENTION: the units' wake logic relays it to their always-on
domains (R391, R396, R397, log entry 63). -/
def State.noteReturn (s : State) (l : LaneId) : State :=
  if allUnits.all (fun u => (s.ucom.get u).admitted = []) then
    (allLanes.filter (fun x => x ≠ l)).foldl (fun s x =>
      let n := s.lanes.get x
      if n.dom = .retention ∧ n.aon.on then s.setLane x (n.onPwr (fun p => { p with firstMs := p.firstMs.or (some n.aon.ms) })) else s) s
  else s

/-- What a lane does not take up again on its return from RETENTION (R390): the steps of its time, the verdicts, and what was under way on its
plane. -/
def LaneMain.back (k : LaneMain) (m : ModeState) : LaneMain :=
  { k with
    time := { k.time with step := true, trim := 0, limit := false, drift := 0, roundDue := false }
    mode := m, check := {}
    net := { k.net with role := 0, listening := false, toListen := false, heard := false, joins := [], rx := [], bank := [], tx := [],
                        sent := none, beaconAt := none, startBeacon := false } }

/-- A lane returns from RETENTION by a source (R385, R390, R393): through BOOT, its registers and its translation retained, its links to be
trained again. -/
def State.laneReturns (s : State) (l : LaneId) (src : Nat) : State :=
  let m := s.returnMode l
  let s := (s.linksDown l).noteReturn l
  let n := s.lanes.get l
  let d := { n.loader with retained := true, recordsDue := false, verified := false, verdictDue := false }
  let n := { n with state := .boot, dom := .on, main := n.main.back m, loader := d }
  (s.setLane l (n.onPwr (fun p => { p with pll := false, src := setBit p.src src, slept := false, firstMs := none }))).syncInhibit

/-- The conditions of R394 in a lane. -/
def Lane.maySleep (n : Lane) : Bool :=
  n.computing && decide (standTicks ≤ n.aon.pwr.pinLow) && decide (standTicks ≤ n.main.mode.slow) && n.parkApplied &&
    decide (n.main.mode.mode ≠ .service) && !n.loader.erasing && n.loader.commit.isNone &&
    decide (n.loader.state ≠ .receiving ∧ n.loader.state ≠ .checking ∧ n.loader.state ≠ .translating ∧ n.loader.state ≠ .committed)

/-- What holds a lane at its stop point (R396, R401): the CAUSE of PWR_REFUSE, 0 when nothing does. -/
def Lane.sleepCause (n : Lane) : Nat :=
  if n.loader.erasing ∨ n.loader.state = .checking ∨ n.loader.state = .translating then 1
  else if n.main.shadow.due ≠ [] ∨ n.main.shadow.pend then 2
  else if n.main.dma.rings.any (fun r => r.state = 1 ∨ r.state = 2) then 3
  else if ¬ n.maySleep then 7
  else 0

/-- What holds a unit at its stop point (R396): an island not OPEN or SHORT, or a coil not parked. -/
def State.unitCause (s : State) (u : UnitId) : Nat :=
  match u with
  | .isl i =>
    let p := s.isl.get i
    if p.sw ≠ 1 ∧ p.sw ≠ 2 then 4 else if i.isValve ∧ p.valves.any (fun v => !v.park) then 5 else 0
  | _ => 0

/-- What holds the Polvin core (R396): a command, whose log entry is written as it completes. -/
def State.polvinCause (s : State) : Nat := if s.polvin.busy then 6 else 0

/-- A lane sends SLEEP on its ten links (R395); one that no unit admits is ignored. -/
def State.sendSleep (s : State) (l : LaneId) : State :=
  if allUnits.all (fun u => !(s.ucom.get u).admitted.contains l) then s
  else allUnits.foldl (fun s u =>
    let c := s.ucom.get u
    if c.dom = .on ∧ (c.links.get l).up then
      let k := c.slp
      s.setUnit u { c with slp := { k with heard := setBit k.heard l.idx, since := match k.since with | none => some 0 | some x => some x } }
    else s) s

/-- A request for a lane's main domain acts (R398): a lane wakes from sleep, and sleeps while the conditions of R394 hold (R400). -/
def State.laneRequest (s : State) (l : LaneId) (target : DomState) : State :=
  let n := s.lanes.get l
  match target with
  | .on => if n.dom = .retention ∧ n.aon.pwr.slept ∧ n.aon.on then s.laneReturns l 3 else s
  | .retention => if n.awake ∧ n.maySleep then s.laneSleeps l true else s
  | .off => if n.dom = .off then s else s.laneDown l .off .off

/-- A request for a plane acts (R385, R398): it has no RETENTION. -/
def State.planeRequest (s : State) (l : LaneId) (target : DomState) : State :=
  let n := s.lanes.get l
  match target with
  | .on => if n.computing ∨ (l = .a ∧ n.inService) then s.setLane l (n.onPwr (fun p => { p with phy := .on })) else s
  | .retention => s
  | .off => s.planeDown l

/-- A request for the Polvin core's domain acts (R385, R398): what its registers hold is lost in OFF. -/
def State.polvinRequest (s : State) (target : DomState) : State :=
  match target with
  | .on => if s.polvin.dom = .retention then { s with polvin := { s.polvin with dom := .on } } else s
  | .retention => if s.polvin.dom = .on ∧ s.polvinCause = 0 then { s with polvin := { s.polvin with dom := .retention } } else s
  | .off => { s with polvin := { s.polvin with dom := .off } }

/-- The requests that waited for a lane's main domain and its plane act as a change ends with the lane ON (R398): a wake has then been answered,
and shows as one. -/
def State.laneSlot (s : State) (l : LaneId) : State :=
  let p := (s.lanes.get l).aon.pwr
  let woken : Bool := p.slot = some .on ∧ p.replay ≠ 0
  let s := s.setLane l ((s.lanes.get l).onPwr (fun p => { p with
    slot := none, pslot := none, replay := 0, src := p.src ||| p.replay, replayed := p.replayed || woken }))
  let s := match p.pslot with | some t => s.planeRequest l t | none => s
  match p.slot with | some t => s.laneRequest l t | none => s

/-- A lane at its stop point sleeps (R395); a request for OFF that waited acts, one to sleep has been met, a wake awaits its replay (R397,
R398). -/
def State.laneStops (s : State) (l : LaneId) : State :=
  let w := (s.lanes.get l).aon.pwr.slot
  let s := s.laneSleeps l true
  if w = some .off then s.laneDown l .off .off
  else if w = some .retention then s.setLane l ((s.lanes.get l).onPwr (fun p => { p with slot := none }))
  else s

/-- A lane whose entry has ended runs on, with its plane (R395, R396). -/
def State.laneStays (s : State) (l : LaneId) : State :=
  let n := s.lanes.get l
  (s.setLane l (n.onPwr (fun p => { p with
    cancelling := false, sleepAt := none, acks := 0, phy := if n.computing then .on else p.phy }))).laneSlot l

/-- A CANCEL (R395): entry ends in every lane and unit, and what had stopped runs. -/
def State.cancelSleep (s : State) : State :=
  let s := allUnits.foldl (fun s u => let c := s.ucom.get u; if c.dom = .on then (s.setUnit u { c with slp := {} }).unitSlot u c.slp.slot else s) s
  allLanes.foldl (fun s l => if (s.lanes.get l).aon.pwr.sleepAt.isSome then s.laneStays l else s) s

/-- Whether a lane holds SLEEP_ACK from every unit whose link to it is up (R395). -/
def State.allAcked (s : State) (l : LaneId) : Bool :=
  allUnits.all (fun u => !((s.ucom.get u).links.get l).up || (s.lanes.get l).aon.pwr.acks.testBit u.idx)

/-- Sleep entry of a lane at its round boundary up to its stop point (R394, R395, R396): s, the count of boundaries, and s+4; past s+2 only
with the acknowledgements and its plane OFF, else a CANCEL. -/
def State.sleepRound (s : State) (l : LaneId) : State :=
  let n := s.lanes.get l
  let p := n.aon.pwr
  match p.sleepAt with
  | none =>
    if p.cancelling then (if allUnits.all (fun u => (s.ucom.get u).dom ≠ .retention) then s.laneStays l else s)
    else if 0 < p.holdoff then s.setLane l (n.onPwr (fun p => { p with holdoff := p.holdoff - 1 }))
    else if n.maySleep then (s.setLane l (n.onPwr (fun p => { p with sleepAt := some 0, acks := 0 }))).sendSleep l
    else s
  | some k =>
    let s := s.setLane l (n.onPwr (fun p => { p with sleepAt := some (k + 1) }))
    if 3 ≤ k + 1 ∧ ¬ (p.phy = .off ∧ s.allAcked l) then s.cancelSleep
    else if 4 ≤ k + 1 ∧ n.sleepCause = 0 then s.laneStops l
    else s

/-- Every powered lane interface has signalled sleep to the Polvin core (R395). -/
def State.lanesAsleep (s : State) : Bool :=
  allLanes.all (fun l => (s.lanes.get l).dom ≠ .on ∨ (s.lanes.get l).state = .off) && allLanes.any (fun l => (s.lanes.get l).dom = .retention)

/-- The Polvin core's stop point comes one round after the last lane's (R395). -/
def State.polvinSleeps (s : State) : State :=
  if s.polvin.dom = .on ∧ s.polvin.entry = none ∧ s.lanesAsleep then { s with polvin := { s.polvin with entry := some 0 } } else s

/-- A request that waited for the Polvin core's domain acts as a change ends (R398). -/
def State.polvinSlot (s : State) : State :=
  match s.polvin.slot with
  | none => s
  | some t => { s with polvin := { s.polvin with slot := none } }.polvinRequest t

/-- The Polvin core on the ticks of the always-on domains (R395, log entry 19): at s+5, eight ticks after the last lane, it enters RETENTION
with nothing outstanding. -/
def State.polvinEntry (s : State) (l : LaneId) : State :=
  match s.polvin.entry with
  | none => s
  | some k =>
    if s.timeLane ≠ some l then s
    else if ¬ s.lanesAsleep ∨ s.polvin.dom ≠ .on then { s with polvin := { s.polvin with entry := none } }.polvinSlot
    else if 7 ≤ k ∧ s.polvinCause = 0 then { s with polvin := { s.polvin with dom := .retention, entry := none } }.polvinSlot
    else { s with polvin := { s.polvin with entry := some (k + 1) } }

/-- Sleep entry of a unit at its round boundary (R395): RETENTION at s+3 after its acknowledgement, with nothing outstanding. -/
def State.unitSleepRound (s : State) (u : UnitId) : State :=
  let c := s.ucom.get u
  match c.slp.since with
  | none => s
  | some k =>
    if 3 ≤ k + 1 ∧ ¬ c.slp.ack then (s.setUnit u { c with slp := {} }).unitSlot u c.slp.slot
    else if 3 ≤ k + 1 ∧ s.unitCause u = 0 then (s.unitSleeps u).unitSlot u c.slp.slot
    else s.setUnit u { c with slp := { c.slp with since := some (k + 1) } }

/-- SLEEP (R395): at s+1 a unit that has SLEEP from every lane it admits answers SLEEP_ACK on its links. -/
def execSleep (u : UnitId) (s : State) : Host.Outcome State Fault Refusal :=
  .next (s.ifRuns u (fun s =>
    let c := s.ucom.get u
    if c.slp.since = some 1 ∧ c.admitted ≠ [] ∧ c.admitted.all (fun l => c.slp.heard.testBit l.idx) then
      let s := s.setUnit u { c with slp := { c.slp with ack := true } }
      allLanes.foldl (fun s l =>
        if (c.links.get l).up then s.setLane l ((s.lanes.get l).onPwr (fun p => { p with acks := setBit p.acks u.idx })) else s) s
    else s))

/-- SLEEP_ACK (R395): at s+2 a lane with the acknowledgement of every unit whose link is up turns its plane off; any other cancels. -/
def execSleepAck (l : LaneId) (s : State) : Host.Outcome State Fault Refusal :=
  let p := (s.lanes.get l).aon.pwr
  .next (if p.sleepAt = some 2 then
    if s.allAcked l then s.planeDown l else s.cancelSleep
  else s)

/-- CANCEL (R395). -/
def execCancel (l : LaneId) (s : State) : Host.Outcome State Fault Refusal :=
  .next (if (s.lanes.get l).aon.pwr.sleepAt.isSome then s.cancelSleep else s)

/-- A unit that entry has stopped is to return (R396). -/
def State.unitsReturn (s : State) : State :=
  allUnits.foldl (fun s u =>
    let c := s.ucom.get u
    if c.dom = .retention then s.setUnit u { c with slp := { returning := true, slot := c.slp.slot } }
    else (s.setUnit u { c with slp := {} }).unitSlot u c.slp.slot) s

/-- A refusal is recorded in every lane (R396, R401), and no new entry begins for 16 rounds. -/
def PwrRegs.refuse (p : PwrRegs) (dom cause step : Nat) : PwrRegs :=
  { p with refDom := dom, refCause := cause, refStep := step % 8, refCount := satAdd 16 p.refCount 1, holdoff := 16, sleepAt := none,
           cancelling := p.cancelling || p.sleepAt.isSome || p.slept, acks := 0 }

/-- The group returns in the reverse order of stopping (R396): lane main domains, then units, then planes and the Polvin core. A lane that
dropped out was not stopped by the entry (R400). -/
def State.refuseSleep (s : State) (dom cause step : Nat) : State :=
  let asleep := fun (l : LaneId) => decide ((s.lanes.get l).dom = .retention) && (s.lanes.get l).aon.pwr.slept
  let s := s.unitsReturn
  let s := allLanes.foldl (fun s l => s.setLane l ((s.lanes.get l).onPwr (fun p => p.refuse dom cause step))) s
  let s := allLanes.foldl (fun s l => if asleep l ∧ (s.lanes.get l).aon.on then s.laneReturns l 3 else s) s
  s.polvinWakes

/-- SLEEP_REFUSAL (R396): a member of the group with work outstanding during entry. -/
def execSleepRefusal (h : Holder) (s : State) : Host.Outcome State Fault Refusal :=
  let step := ((allLanes.filterMap (fun l => (s.lanes.get l).aon.pwr.sleepAt)).foldl max 0)
  .next (match h with
    | .lane l =>
      let n := s.lanes.get l
      if n.aon.pwr.sleepAt.isSome ∧ n.sleepCause ≠ 0 then s.refuseSleep l.code n.sleepCause step else s
    | .unit u =>
      let c := s.ucom.get u
      if c.slp.since.isSome ∧ s.unitCause u ≠ 0 then s.refuseSleep u.code (s.unitCause u) (c.slp.since.getD 0) else s
    | .polvin =>
      if s.polvin.dom = .on ∧ s.polvinCause ≠ 0 ∧ allLanes.all (fun l => (s.lanes.get l).dom ≠ .on) then
        s.refuseSleep 14 s.polvinCause 5 else s)

/-- The bit of a wake source in PWR_WAKE.SRC (R393, R401). -/
def wakeBit : WakeSource → Nat
  | .pin => 0 | .can => 1 | .timer => 2 | .link => 3 | .supply => 4

/-- Whether a wake source can occur in a lane (R393): CAN when its port's mode is not OFF, TIMER when it has run out in sleep. -/
def Lane.mayWake (n : Lane) (l : LaneId) : WakeSource → Bool
  | .can => decide (n.canSet l ≠ 0)
  | .timer => decide (n.dom = .retention) && decide (n.aon.pwr.timer ≠ 0) && decide (n.aon.pwr.timerLeft = 0)
  | _ => true

/-- The domains a waking lane starts (R393, R398): its units, by them the other lanes that sleep, and the Polvin core. -/
def State.wakeAll (s : State) (l : LaneId) (src : Nat) : State :=
  let s := if (s.lanes.get l).dom = .retention then s.laneReturns l src else s
  let s := allUnits.foldl (fun s u => let c := s.ucom.get u; if c.dom = .retention then s.unitReturns u else s) s
  let s := allLanes.foldl (fun s x =>
    if x ≠ l ∧ (s.lanes.get x).dom = .retention ∧ (s.lanes.get x).aon.pwr.slept ∧ (s.lanes.get x).aon.on then s.laneReturns x 3 else s) s
  s.polvinWakes

/-- Sleep entry still runs in some member of the group (R395, R397). -/
def State.entering (s : State) : Bool :=
  allLanes.any (fun l => (s.lanes.get l).aon.pwr.sleepAt.isSome) || allUnits.any (fun u => (s.ucom.get u).slp.since.isSome) || s.polvin.entry.isSome

/-- A wake source occurs in a lane (R393, R397, R400): latched; during entry it waits for the replay. A lane that dropped out is kept out by its
supply (R390). -/
def State.wake (s : State) (l : LaneId) (src : WakeSource) : State :=
  let n := s.lanes.get l
  let p := n.aon.pwr
  let b := wakeBit src
  if n.aon.on ∧ n.mayWake l src then
    if (p.slept ∧ s.entering) ∨ p.sleepAt.isSome then
      s.setLane l (n.onPwr (fun p => { p with replay := setBit p.replay b, slot := some .on }))
    else if p.slept then s.wakeAll l b
    else s.setLane l (n.onPwr (fun p => { p with src := setBit p.src b, srcNow := setBit p.srcNow b }))
  else s

/-- WAKE (R393, R397, R400). -/
def execWake (l : LaneId) (src : WakeSource) (s : State) : Host.Outcome State Fault Refusal := .next (s.wake l src)

/-- RETENTION_RETURN (R387, R390, R393): above 7.5 V a lane that dropped out returns; to one that sleeps this is a wake. -/
def execRetentionReturn (l : LaneId) (s : State) : Host.Outcome State Fault Refusal :=
  let n := s.lanes.get l
  .next (if n.dom = .retention ∧ n.aon.on then (if n.aon.pwr.slept then s.wake l .supply else s.laneReturns l 4) else s)

/-- WAKE_REPLAY (R397): entry is complete and a wake waits. -/
def execWakeReplay (l : LaneId) (s : State) : Host.Outcome State Fault Refusal :=
  let n := s.lanes.get l
  .next (if n.aon.pwr.slept ∧ n.aon.pwr.slot = some .on ∧ ¬ s.entering then
    let b := ((List.range 5).find? (fun i => n.aon.pwr.replay.testBit i)).getD 3
    let n := n.onPwr (fun p => { p with src := p.src ||| p.replay, replay := 0, slot := none, replayed := true })
    (s.setLane l n).wakeAll l b
  else s)

/-- Whether a state change of a lane's main domain is in progress (R398): sleep entry or its end, or a start up to SYNC. -/
def Lane.changing (n : Lane) : Bool :=
  n.aon.pwr.sleepAt.isSome || n.aon.pwr.cancelling || (decide (n.dom = .on) && decide (n.state = .boot ∨ n.state = .translate))

/-- DOMAIN_REQUEST (R398, R400): one change at a time, the newest request waiting in the single slot of a domain in change; one that replaces
a waiting wake ends its replay. -/
def execDomainRequest (d : Domain) (target : DomState) (s : State) : Host.Outcome State Fault Refusal :=
  .next (match d with
    | .laneMain l =>
      let n := s.lanes.get l
      if n.changing then
        s.setLane l (n.onPwr (fun p => { p with slot := some target, replay := if target = .on then p.replay else 0 }))
      else s.laneRequest l target
    | .unit u =>
      let c := s.ucom.get u
      if c.slp.since.isSome ∨ c.slp.returning then s.setUnit u { c with slp := { c.slp with slot := some target } } else s.unitRequest u target
    | .plane p =>
      let n := s.lanes.get p
      if n.aon.pwr.sleepAt.isSome ∨ n.aon.pwr.cancelling then s.setLane p (n.onPwr (fun p => { p with pslot := some target }))
      else s.planeRequest p target
    | .polvin =>
      if s.polvin.entry.isSome then { s with polvin := { s.polvin with slot := some target } } else s.polvinRequest target)

/-- WAKE_REQUEST (R68, R386, R393, R397): a receiver in RETENTION starts, one in entry wakes after it; one that is OFF, as a plane that does not
run, does not hear it. -/
def execWakeRequest (d : Domain) (s : State) : Host.Outcome State Fault Refusal :=
  match d with
  | .laneMain l => .next (if (s.lanes.get l).dom = .off then s else s.wake l .link)
  | .unit u =>
    let c := s.ucom.get u
    .next (if c.dom = .retention then s.unitReturns u
      else if c.slp.since.isSome then s.setUnit u { c with slp := { c.slp with slot := some .on } }
      else s)
  | .plane _ => .next s
  | .polvin => .next s.polvinWakes

end Sys2Proof.Machine
end

