-- ==== Sys2Proof/Machine/Ticks.lean ====
section
/-!
DEFINITION. The ticks and rounds of lanes and units (R37, R52-R63, R260, R263, R266, R268, R273-R275, R315), and what a lane takes from
the units' blocks and event symbols (R19, R92, R93, R373).
-/
namespace Sys2Proof.Machine
open Sys2Proof

/-- A tick of a lane's always-on domain (R41, R377, R387, R393, R394): its time, its input voltage, and its wake input. -/
def Lane.aonTick (n : Lane) (vl : Nat) (pin : Bool) : Lane :=
  n.onAon (fun a =>
    let a := { a with first := a.first.tick }
    let whole : Bool := decide (20 ≤ a.sub + 1)
    { a with
      ms := if whole then a.ms + 1 else a.ms, sub := if whole then 0 else a.sub + 1
      trSum := if n.computing ∧ n.main.mode.mode = .tightrope then a.trSum + 1 else a.trSum
      pwr := { a.pwr with
        srcNow := 0, vl := vl, vlmin := min a.pwr.vlmin vl, pin := pin, pinLow := if pin then 0 else a.pwr.pinLow + 1
        timerLeft := if whole ∧ n.dom = .retention then a.pwr.timerLeft - 1 else a.pwr.timerLeft } })

/-- The ticks a port stays in bus-off (R276): 128 times 11 bits, at the arbitration rate of its mode (log entry 124). -/
def CanPort.recovery (mode : Nat) : Nat := if mode = 2 then 57 else 113

/-- A tick of a lane's CAN port (R276, R283): the age of the last command in ms, and the end of bus-off. -/
def CanPort.tick (c : CanPort) (mode : Nat) : CanPort :=
  let c := if c.busoff then
      (if CanPort.recovery mode ≤ c.offTicks + 1 then { c with busoff := false, offTicks := 0, tec := 0, rxErr := 0, errpass := false }
       else { c with offTicks := c.offTicks + 1 })
    else c
  if 20 ≤ c.sub + 1 then { c with sub := 0, cage := satAdd 16 c.cage 1 } else { c with sub := c.sub + 1 }

/-- A tick of a lane's main domain (R52, R57, R58): counters, the tick mark on all ten links, and what belongs to one tick begins
anew. -/
def Lane.mainTick (n : Lane) (l : LaneId) : Lane :=
  let still : Bool := n.computing && decide (n.speed l < 1 / 2)
  n.onMain (fun m =>
    let t := (m.time.tick + 1) % 4294967296
    { m with
      time := { m.time with tick := t, age := m.time.age + 1, roundDue := decide (t % 8 = 0) }
      units := allUnits.foldl (fun x u =>
        let v := x.get u
        x.set u { v with was := v.fresh, fresh := false, posted := none, mark := some t, fwd := v.fwd ++ v.later, later := [] }) m.units
      evt := m.evt.tick
      shadow := { m.shadow with straddling := false }
      check := { m.check with worked := false, late := 0 }
      engCount := List.replicate 32 0
      mode := { m.mode with slow := if still then m.mode.slow + 1 else 0 }
      can := m.can.tick (n.canSet l) })

/-- TICK_BOUNDARY of a lane (R272, R338, R345). Lane A times the service-port session, the lowest-lettered lane with its supply on the Polvin core (log entry 19). -/
def State.laneTick (s : State) (l : LaneId) (vl : Nat) (pin : Bool) : State :=
  if (s.lanes.get l).aon.on then
    let s := ((s.polvinTime l).polvinEntry l).joinTick l
    let s := if l = .a ∧ s.port.up then { s with port := { s.port with idle := s.port.idle + 1 } } else s
    let n := (s.lanes.get l).aonTick vl pin
    s.setLane l (if n.awake then n.mainTick l else n)
  else s

/-- TICK_BOUNDARY (R57) of one lane or unit; a record set whose 8 ticks without admission have passed is loaded (R93). -/
def execTickBoundary (smp : TickSample) (s : State) : Host.Outcome State Fault Refusal :=
  .next (match smp with
    | .lane l vl pin => s.laneTick l vl pin
    | .island i p => s.ifRuns (.isl i) (fun s => s.putIsl i (islandTick i (unitTick (s.ucom.get (.isl i)), s.isl.get i) p) |>.loadUnit (.isl i))
    | .fb f feed => s.ifRuns (.fb f) (fun s => s.putFb f (feedbackTick (unitTick (s.ucom.get (.fb f))) (s.fbk.getF f) feed) |>.loadUnit (.fb f))
    | .sio x p => s.ifRuns (.sio x) (fun s => s.putSio x (safetyTick x (unitTick (s.ucom.get (.sio x))) (s.sio.getS x) (s.sio.getS (if x = .sio1 then .sio2 else .sio1)).ran p) |>.loadUnit (.sio x)))

/-- The median of offsets (R61): of an even number the mean of the two middle values, rounded toward zero; 0 of none. -/
def medianOf (vs : List Int) : Int :=
  let o := sortInts vs
  let k := o.length / 2
  if o.length % 2 = 1 then o.getD k 0 else if o = [] then 0 else divTrunc (o.getD (k - 1) 0 + o.getD k 0) 2

/-- The offsets of a round are spent: TCK_OFFSET reports them (R73), and the next round starts with none. NREP counts the units with a
valid block in the round, one with OFS_ALL 0x8000 included (log entry 80). -/
def LaneTime.spent (t : LaneTime) : LaneTime :=
  { t with median := medianOf t.ofsAll, nrep := t.reporters.dedup.length, ofsAll := [], ofsAdm := [], admSeen := false, reports := 0, reporters := [] }

/-- The time of a lane in VOTING at its round boundary (R61, R63): the trim of the coming round, at most 80 ns; TRIM is 250 a ns. -/
def LaneTime.trimmed (t : LaneTime) (mofs : Int) : LaneTime :=
  let want := mofs - medianOf t.ofsAll
  let c := clampI (-80) 80 want
  let drift := if 1000 < (medianOf t.ofsAll).natAbs then min 255 (t.drift + 1) else 0
  { t.spent with trim := 250 * c, limit := decide (c ≠ want), step := false, drift := drift, phase := t.phase + c,
                 round := (t.round + 1) % 16777216 }

/-- The time of a follower, a lane that deferred among them (R269), that does not vote and has heard no valid beacon in the round (R275): its
own timebase, with no step. -/
def LaneTime.alone (t : LaneTime) : LaneTime :=
  { t.spent with trim := 0, limit := false, step := true, drift := 0, round := (t.round + 1) % 16777216, lastTick := none, admTick := none }

/-- The time of a lane that does not vote at its round boundary (R62, R274): its phase steps by the master's offset, else by the whole median
OFS_ADM where a majority of the blocks has one (log entry 123), else by half the median OFS_ALL where no unit admits a lane, else not at all;
where it steps, its TICK and ROUND follow the units': the TICK of the last block received, in the majority case of the last with an OFS_ADM (log
entry 77). `master`: offset and cycle of the beacon
heard. -/
def LaneTime.stepped (t : LaneTime) (master : Option (Int × Nat)) : LaneTime :=
  let adm : Bool := decide (t.reports < 2 * t.ofsAdm.length)
  let d := match master with
    | some (o, _) => o
    | none => if adm then -(medianOf t.ofsAdm) else if t.admSeen then 0 else -(divTrunc (medianOf t.ofsAll) 2)
  let follow : Option Nat := if adm && master.isNone then t.admTick else if !t.admSeen || master.isSome then t.lastTick else none
  let tick := match follow with | some k => (k + 1) % 4294967296 | none => t.tick
  let round := match master, follow with
    | some (_, c), _ => (c + 1) % 16777216
    | none, some _ => tick / 8 % 16777216
    | none, none => (t.round + 1) % 16777216
  { t.spent with
    trim := 0, limit := false, step := true, drift := 0, phase := t.phase + d, tick := tick, round := round, lastTick := none
    admTick := none }

/-- The marks of a boundary at which a lane steps carry the TICK it steps to (R58, R62). -/
def Lane.remark (n : Lane) : Lane :=
  n.onMain (fun m => { m with units := allUnits.foldl (fun x u =>
    let v := x.get u
    x.set u { v with mark := v.mark.map (fun _ => m.time.tick) }) m.units })

/-- The time of a lane at its round boundary, with TICK_DRIFT where its offset stays above 1 µs (R61). -/
def Lane.timeRound (n : Lane) (l : LaneId) : Lane :=
  let m := n.main.net
  let beacon := if m.role = 2 ∧ m.heard then some (m.mofs, m.mcycle) else none
  let set := fun (t : LaneTime) => n.onMain (fun x => { x with time := { t with
    roundDue := false, rmax := t.rmax.begun.raise (Config.workTime 1 l.idx t.tick % 65536) } })
  if n.state = .voting then
    let n := set (n.main.time.trimmed ((beacon.map (fun b => b.1)).getD 0))
    if 8 ≤ n.main.time.drift then n.retryEvent l 1 else n
  else if 2 ≤ m.role ∧ ¬ m.heard then set n.main.time.alone
  else (set (n.main.time.stepped beacon)).remark

/-- As long as a follower is neither joined nor in an exchange, its cycle start is the bare arrival of the beacons (R271): its first JOIN departs on it. -/
def Lane.bareArrival (n : Lane) (l : LaneId) : Lane :=
  let m := n.main.net
  let p := n.partner l.idx m.master
  if m.role = 2 ∧ ¬ p.joined ∧ p.joinAt = none ∧ (n.join m.master).isNone then
    n.onNet (fun m => { m with delay := 0, mofs := m.mofs + m.delay })
  else n

/-- PHASE (R263). -/
def phaseOf (mode : Mode) (recov : Nat) : Nat :=
  if mode = .none then 1 else if mode = .sketch ∨ mode = .service then 2 else if 0 < recov then 3 else 0

/-- A partner at the boundary that ends a cycle (R261, R266, R270): MISS, whether RESYNC was sent in it, and whether it is joined from now on. -/
def Partner.cycle (p : Partner) (round : Nat) : Partner :=
  let joins : Bool := p.joinAt = some round
  { p with
    missFlag := !p.heard, miss := p.miss.begun.add (b2n !p.heard), edge := p.edge, heard := false, gap := false
    resyncLast := p.resync, resync := false
    joined := p.joined || joins, joinAt := if joins then none else p.joinAt }

/-- The partners of every plane at the boundary that ends a cycle. -/
def Lane.partnerRound (n : Lane) : Lane :=
  (List.range 3).foldl (fun n p =>
    (n.main.canvas.partnersOn p).foldl (fun n k => n.putPartner p k ((n.partner p k).cycle n.main.time.round)) n) n

/-- The network of a lane at its round boundary (R260, R263, R264, R268, R275), the banks handed over before. What a ring left unwritten when it stopped
counts for the cycle that ends (R258). -/
def Lane.netRound (n : Lane) : Lane :=
  let n := n.partnerRound.onCheck (fun c => { c with lateSlots := [] })
  n.onNet (fun m => { m with
    phase := phaseOf n.main.mode.mode m.recov, recov := m.recov - 1
    bmiss := if m.role = 1 ∨ m.heard then 0 else satAdd 8 m.bmiss 1
    mvalid := m.heard, heard := false, heardPlane := 3
    beaconAt := none
    holdersLast := m.holders, holders := []
    cpPrev := m.cpNow, cpNow := 0
    tx := m.tx.map (fun e => (e.1, { e.2 with posted := [], withheld := false })) }) |>.onDma (fun d => { d with
      rings := d.rings.map (fun g => if g.state = 1 ∨ g.state = 2 then g else { g with dsts := [] }) })

/-- The receive banks are handed to the cells (R260), after which the round boundary and the hyper-round boundary raise their lines (R52, R291). -/
def Lane.handOver (n : Lane) (l : LaneId) : Lane :=
  let n := (n.onNet (fun m => { m with bank := m.rx, rx := [] })).noteSeqs.raiseLine l 11
  if n.main.time.round % 256 = 0 then n.raiseLine l 12 else n

/-- The group key of a lane's plane as it begins to beacon (R350, R352): what it or the Polvin core holds, else a fresh draw of the core, which
hands it to every lane. -/
def State.groupKey (s : State) (l : LaneId) : State :=
  if s.polvin.dom = .on then
    match (assocGet (s.lanes.get l).main.net.gk l.idx).or (assocGet s.polvin.pgk l.idx) with
    | some k => s.giveGroup l.idx k
    | none => let d := s.draw; d.2.giveGroup l.idx (BitVec.ofNat 128 d.1.toNat)
  else s

/-- The epoch the Polvin core gives a controller that begins beaconing after listening (R353): the record plus 1, the same to lanes that ask
within 16 ticks (log entry 98). No key of an earlier epoch is kept. -/
def Polvin.startEpoch (p : Polvin) : Polvin :=
  if p.given.1 ≠ 0 ∧ p.hours ≤ p.given.2 + 16 then p
  else { p with given := ((p.keyRec + 1) % 65536, p.hours), pkeys := [], pgk := [], pkEpoch := (p.keyRec + 1) % 65536 }

/-- A lane begins to beacon (R268, R273, R275, R353): in the epoch of its controller's own beacons or of the master it followed, else in the one
the Polvin core gives, with no partner joined. -/
def State.beaconStart (s : State) (l : LaneId) : State :=
  let m := (s.lanes.get l).main.net
  if (s.lanes.get l).computing ∧ m.startBeacon ∧ (s.lanes.get l).main.canvas.net.mcap ∧ ¬ m.mcapOff ∧ ¬ m.clash then
    let s := if m.heardSelf then s
      else
        let p := if s.polvin.dom = .on then s.polvin.startEpoch else s.polvin
        let e := if s.polvin.dom = .on then p.given.1 else (p.keyRec + 1) % 65536
        { s with polvin := p }.setLane l ((s.lanes.get l).onNet (fun m => { m with
          epoch := e, keys := p.pkeys, gk := p.pgk, oldKeys := [], oldGk := [], oldUntil := none
          partners := m.partners.map (fun (k : Nat × Partner) => (k.1, { k.2 with joined := false, joinAt := none })) }))
    let s := s.groupKey l
    let n := s.lanes.get l
    (s.setLane l (n.onNet (fun m => { m with
      role := 1, master := n.main.canvas.net.self, startBeacon := false, listening := false, beaconAt := some 0, bmiss := 0, delay := 0 }))).noteEpoch
        n.main.net.epoch
  else s

/-- A follower within 1 µs of its master, of which it has observed a full valid cycle, sends its first JOIN (R270, R274): MSG1 with a fresh ephemeral key; the signature of its
certificate is a free value (log entry 21). -/
def State.joinStart (s : State) (l : LaneId) : State :=
  let n := s.lanes.get l
  let m := n.main.net
  let p := n.partner l.idx m.master
  let soon : Bool := decide (0 < roundsSince n.main.time.round p.retryAt ∧ roundsSince n.main.time.round p.retryAt ≤ 16)
  if n.computing ∧ m.role = 2 ∧ m.mvalid ∧ m.observed ∧ m.mofs.natAbs ≤ 1000 ∧ ¬ p.joined ∧ p.joinAt = none ∧ (n.join m.master).isNone ∧ ¬ soon ∧
      s.polvin.dom = .on then
    let d := s.draw
    let e := d.2.draw
    let msg := publicOf d.1 ++ leBytes 2 n.main.canvas.net.self ++ zeros 2 ++ s.polvin.devPub ++
      beBytes 64 e.1.toNat
    e.2.setLane l (n.putJoin m.master (some ⟨m.master, 11, [], msg, 0, msg, leBytes 64 d.1.toNat, 0, none, 0⟩))
  else s

/-- A lane in SYNC that every unit admits, as the blocks of the last tick show, votes from this boundary on (R37). -/
def Lane.promote (n : Lane) (l : LaneId) : Lane :=
  if n.state = .sync ∧ allUnits.all (fun u => (n.main.units.get u).was && decide ((n.main.units.get u).stat l ≠ 3)) then
    { n with state := .voting }
  else n

/-- SIG_MISMATCH (R315): task and core recorded, the verdict dirty. -/
def Lane.sigMismatch (n : Lane) (l : LaneId) (core task : Nat) : Lane :=
  (n.onMem (fun g => { g with lastmm := lastMm 3 0 task core, sign := g.sign.add 1 })).failEvent l 129

/-- The signatures of the round are compared and reset (R314): in the order of core and task. -/
def Lane.compareSigs (n : Lane) (l : LaneId) : Lane :=
  let bad := n.main.sigs.filter (fun e => e.2.1 ≠ e.2.2)
  (if n.computing && procLane l then bad.foldl (fun n e => n.sigMismatch l (e.1 / 65536) (e.1 % 65536)) n else n).onMain
    (fun m => { m with sigs := [] })

/-- The primary signatures that an upset turned, by core and task (R314). -/
def Lane.turnSigs (n : Lane) (turned : List (Nat × Nat)) : Lane :=
  n.onMain (fun m => { m with sigs := m.sigs.map (fun e =>
    if turned.contains (e.1 / 65536, e.1 % 65536) then (e.1, (e.2.1 ^^^ 1, e.2.2)) else e) })

/-- What a lane sees of the other domains (R373, R401), a unit whose link is down counting as OFF. -/
def State.seeDomains (s : State) (l : LaneId) : State :=
  let n := s.lanes.get l
  let see := fun (u : UnitId) => let c := s.ucom.get u
    if (c.links.get l).up then c.dom else DomState.off
  let n := n.onPwr (fun p => { p with unitDom := allUnits.foldl (fun x u => x.set u (see u)) p.unitDom, polvinDom := s.polvin.dom })
  s.setLane l (if s.polvin.dom = .on then
      n.onMain (fun m => { m with pvPend := evtPend s.polvin.evt, pvSev := s.polvin.evt.severe })
    else n)

/-- The windows of a lane's event sources, and of the Polvin core's at the lead lane's boundary, close where they have run out (R368). -/
def State.windowsRound (s : State) (l : LaneId) : State :=
  let n := s.lanes.get l
  let s := s.setLane l (n.onMain (fun m => { m with evt := evtCloseWindows (laneKind l) m.evt m.time.round }))
  if s.leadLane = some l ∧ s.polvin.dom = .on then
    { s with polvin := { s.polvin with evt := evtCloseWindows .polvin s.polvin.evt s.polvinRound } }
  else s

/-- The RC counters to which a round boundary adds begin it (R10). -/
def Lane.countsBegin (n : Lane) : Lane :=
  ((n.onOffice (fun o => { o with changes := o.changes.begun, refused := o.refused.begun })).onMem
    (fun g => { g with sign := g.sign.begun })).onDma (fun d => { d with rings := d.rings.map (fun g => { g with ovrqn := g.ovrqn.begun }) })

/-- ROUND_BOUNDARY of a lane. What the register service does at it is REGISTER_WRITE. -/
def State.laneRound (s : State) (l : LaneId) : State :=
  let s := s.setLane l ((s.lanes.get l).bareArrival l |>.timeRound l)
  let s := (s.windowsRound l).serviceCheck l
  let n := (s.lanes.get l).countsBegin.handOver l
  let n := if n.computing then n.officeRound l (if s.port.up then s.port.peer else none) else n.benchRound l
  let n := if n.state = .sync then n.startsAnew s.polvin.ipub.isNone else n
  let n := n.promote l
  let n := n.lostRound
  let n := if n.state = .voting then n.modeRound l else n
  let n := n.netRound
  let n := n.compareSigs l
  let n := n.onMain (fun m => { m with service := { m.service with seen := [] } })
  let s := ((s.setLane l n).syncInhibit).seeDomains l
  ((s.beaconStart l).joinStart l |>.sleepRound l).polvinSleeps

/-- ROUND_BOUNDARY of a unit: admission, then the writes of its shadow and the status snapshot (R13, R27, R103, R408). -/
def State.unitRoundAll (s : State) (u : UnitId) : State :=
  let s := s.dropLapsed u
  ((unitWrites ((s.setUnit u (unitRound u (s.ucom.get u))).groupRound u) u).takeSnap u).unitSleepRound u

/-- ROUND_BOUNDARY (R52), at the tick boundary that begins a round. -/
def execRoundBoundary (ag : Agent) (turned : List (Nat × Nat)) (s : State) : Host.Outcome State Fault Refusal :=
  .next (match ag with
    | .lane l => if (s.lanes.get l).awake ∧ (s.lanes.get l).main.time.roundDue then
        (s.setLane l ((s.lanes.get l).turnSigs turned)).laneRound l else s
    | .unit u => s.ifRuns u (fun s => if (s.ucom.get u).roundDue then s.unitRoundAll u else s))

/-- An offset field of the time word (R60): none for 0x8000. -/
def offsetAt (b : Bytes) (i : Nat) : List Int := if u16At b i = 0x8000 then [] else [i16At b i]

/-- The missing latch of a lane at a unit (R49): it stays through STAT 0b11. -/
def latchMissing (old : Tri Bool) (stat : LaneId → Nat) : Tri Bool :=
  let f := fun (x : LaneId) => if stat x = 3 then old.get x else decide (stat x = 2)
  ⟨f .a, f .b, f .c⟩

/-- The disagreement latch of a lane at a unit (R26): as the unit's event word last showed it, and through STAT 0b11. -/
def latchDisag (old : Tri Bool) (sev : Nat) (stat : LaneId → Nat) : Tri Bool :=
  let f := fun (x : LaneId) => sev.testBit (1 + x.idx) || (decide (stat x = 3) && old.get x)
  ⟨f .a, f .b, f .c⟩

/-- A measurement block with a field still STALE (R65): the lane keeps the last accepted values. -/
def Lane.staleBlock (n : Lane) (u : UnitId) : Lane := n.onUnit u (fun v => { v with fresh := v.seen, stale := true })

/-- A valid measurement block taken by a lane (R19, R28, R60, R317). A lane in VOTING uses it only for its own tick.
Of blocks with different TICK a stepping lane adopts the last received (log entry 77). -/
def Lane.takeBlock (n : Lane) (u : UnitId) (b : Bytes) : Lane :=
  let tick := u32At b 0
  let use : Bool := decide (n.state ≠ .voting) || decide (tick = n.main.time.tick)
  let v : UnitView := { n.main.units.get u with block := b }
  let v := { v with
    fresh := use, seen := true, stale := false
    chop := v.chop && (byteAt b 28).testBit 0
    missing := latchMissing v.missing v.stat, disag := latchDisag v.disag v.sev v.stat }
  let n := n.onMain (fun m => { m with
    units := m.units.set u v
    time := { m.time with
      ofsAll := m.time.ofsAll ++ offsetAt b 8, ofsAdm := m.time.ofsAdm ++ offsetAt b 10
      admTick := if offsetAt b 10 = [] then m.time.admTick else some tick
      admSeen := m.time.admSeen || allLanes.any (fun x => decide (v.stat x ≠ 3))
      reports := m.time.reports + 1
      reporters := m.time.reporters ++ [u.idx], lastTick := some tick } })
  if n.computing ∧ use ∧ (byteAt b 6).testBit 0 then n.onCheck (fun c => addDispute c u.idx ((tick + 4294967295) % 4294967296)) else n

/-- Whether a unit reports the lane's own canvas loaded (R93). -/
def Lane.unitMatches (n : Lane) (l : LaneId) (u : UnitId) : Bool :=
  let v := n.main.units.get u
  let f := byteAt v.block 15
  v.seen && f.testBit 0 && decide (u16At v.block 12 = u16At n.loader.ahash 0) && f.testBit (1 + l.idx)

/-- The holder a lane adopts on entering SYNC (R333): the one the other lanes' STATUS payloads of the last cycle all name. -/
def Lane.adoptHolder (n : Lane) : Lane :=
  match n.main.net.holdersLast with
  | [] => n
  | h :: hs =>
    if h ≠ 0 ∧ hs.all (fun x => x = h) then
      n.onOffice (fun o => { o with holder := some h, away := 0, round := n.main.time.round, cause := 5 })
    else n

/-- Whether the units that report to a lane report it in window (R59, R60, R268): OFS_ALL of each within 2 µs. -/
def Lane.inWindow (n : Lane) : Bool :=
  let us := allUnits.filter (fun u => (n.main.units.get u).was || (n.main.units.get u).fresh)
  decide (us ≠ []) && us.all (fun u => (offsetAt (n.main.units.get u).block 8).any (fun d => decide (d.natAbs ≤ 2000)))

/-- A lane in SYNC that the units report in window starts listening for beacons (R268). -/
def Lane.startListening (n : Lane) : Lane :=
  if n.main.net.toListen && n.inWindow then n.onNet (fun m => { m with toListen := false, listening := true, heard := false, bmiss := 0 }) else n

/-- A lane enters SYNC (R37, R93, R268, R333): its loops start anew, its plane runs, it listens for beacons once in window. -/
def State.enterSync (s : State) (l : LaneId) : State :=
  let n := (s.lanes.get l).startsAnew s.polvin.ipub.isNone
  let from' := if n.state = .retrying then n.aon.causeMs else n.main.mode.startMs
  let others : Bool := allUnits.any (fun u => decide (0 < n.admits u))
  let n := { n with
    state := .sync
    loader := { n.loader with recordsDue := false, ahead := false, tsync := n.aon.ms - from' }
    main := { n.main with cells := [], mcells := [], waiting := [], sigs := [], store := [], mode := { n.main.mode with started := n.main.mode.started || others } } }
  let n := (n.onPwr (fun p => { p with phy := .on })).onNet (fun m => { m with
    role := 0, listening := false, toListen := true, heard := false, bmiss := 0, clash := false, observed := false, seenBcn := none,
    segUp := ((List.range 8).filter (fun k => m.segUp.testBit k && n.main.canvas.slots.any (fun e => e.plane = l.idx && decide (e.medium = k + 1)))).foldl setBit 0
    gate := n.main.canvas.slots.filter (fun e => e.tx && e.plane = l.idx), bk := if s.polvin.dom = .on then s.polvin.bk else m.bk })
  ((s.setLane l n.adoptHolder.startListening).syncInhibit).laneSlot l

/-- What the units' configuration words tell a lane (R93, R96, R100): SYNC once every unit has taken its records and holds its canvas; BEHIND, with its code once, where one
holds another and the lane's own did not come by a commit that the units have yet to take. -/
def State.configWord (s : State) (l : LaneId) (u : UnitId) : State :=
  let n := s.lanes.get l
  let b := (n.main.units.get u).block
  if (n.state = .translate ∨ n.state = .retrying) ∧ n.loader.recordsDue ∧
      allUnits.all (fun u => n.unitMatches l u && (n.main.units.get u).sentRec) then s.enterSync l
  else if (n.computing ∨ n.state = .translate ∨ n.state = .retrying) ∧ (byteAt b 15).testBit 0 ∧ u16At b 12 ≠ u16At n.loader.ahash 0 ∧
      ¬ n.loader.ahead ∧ ¬ n.loader.behind then
    s.setLane l (n.onLoader (fun d => { d with code := 0x33, behind := true }))
  else s

/-- A list mapped with something handed on from each element to the next. -/
def threadMap {α σ : Type} (f : σ → α → σ × α) : σ → List α → σ × List α
  | s, [] => (s, [])
  | s, a :: as => let r := f s a; let q := threadMap f r.1 as; (q.1, r.2 :: q.2)

/-- The answers of a register symbol complete the reads that wait for them, each the first of its register (R404, R408). -/
def fillVal (ans : List (Nat × Nat)) (e : Nat × Option Nat) : List (Nat × Nat) × (Nat × Option Nat) :=
  match e.2, assocGet ans e.1 with
  | none, some v => (ans.erase (e.1, v), (e.1, some v))
  | _, _ => (ans, e)
def fillOp (ans : List (Nat × Nat)) : PendOp → List (Nat × Nat) × PendOp
  | .done r => (ans, .done r)
  | .read vs => let q := threadMap fillVal ans vs; (q.1, .read q.2)
def fillReq (ans : List (Nat × Nat)) (r : PendReq) : List (Nat × Nat) × PendReq :=
  if r.served then let q := threadMap fillOp ans r.ops; (q.1, { r with ops := q.2 }) else (ans, r)

/-- A register symbol of a unit reaches a lane (R404), following its measurement block. -/
def State.takeAnswers (s : State) (l : LaneId) (u : UnitId) : State :=
  let c := s.ucom.get u
  let k := c.links.get l
  if k.answers = [] then s
  else
    let n := s.lanes.get l
    let n := n.onMain (fun m => { m with service := { m.service with
      reqs := (threadMap fillReq k.answers m.service.reqs).2 } })
    (s.setLane l n).setUnit u (c.setLink l { k with answers := [] })

/-- A measurement block of a unit in a lane: its CRC and unit code, whether it came in time (R74); an accepted one raises its line (R291). -/
def State.measIn (s : State) (l : LaneId) (u : UnitId) (b : Bytes) (late stale : Bool) : State :=
  let n := s.lanes.get l
  let v := n.main.units.get u
  if b.length ≠ 64 ∨ crc32 (slice b 0 60) ≠ u32At b 60 then
    s.setLane l (n.onMain (fun m => { m with units := m.units.set u { v with crcerr := satAdd 16 v.crcerr 1 } }))
  else if late then s.setLane l (n.onMain (fun m => { m with units := m.units.set u { v with late := satAdd 16 v.late 1 } }))
  else if byteAt b 4 % 16 ≠ u.code then s
  else if stale then s.setLane l (n.staleBlock u)
  else (s.setLane l ((n.takeBlock u b).startListening.raiseLine l u.idx)).configWord l u

/-- MEASUREMENT_BLOCK (R19): the given block, or the one the unit sends. -/
def execMeasurementBlock (l : LaneId) (u : UnitId) (rx : Option Bytes) (late stale : Bool) (s : State) :
    Host.Outcome State Fault Refusal :=
  let c := s.ucom.get u
  .next (if (s.lanes.get l).awake ∧ (c.links.get l).up then
    match rx with
    | some b => s.measIn l u b late stale
    | none => if s.runs u then (s.measIn l u (measBlock u c (s.unitSafe u) l) late stale).takeAnswers l u else s
  else s)

/-- What the CRC-16 of a unit's event symbol stands behind (R290, R373): TICK[7:0], PEND and SEV. DEDUCED (log entry 134): in that order, each
little-endian, the CRC over these nine bytes. -/
def eventWords (c : UnitCommon) : Bytes := leBytes 1 c.tick ++ leBytes 4 (evtPend c.evt) ++ leBytes 4 c.evt.severe

/-- Whether a lane takes an event symbol with a CRC-16 (R373): the CRC holds and the symbol names the lane's tick. -/
def Lane.takesSymbol (n : Lane) (b : Bytes) (crc : Nat) : Bool :=
  decide (b.length = 9) && decide (crc16 0xFFFF b = crc) && decide (byteAt b 0 = n.main.time.tick % 256)

/-- The words of an event symbol in what a lane holds of a unit (R373). An occurrence of CHOPPER_FAULT that they show anew is kept (R199, log
entry 24). -/
def UnitView.symbol (v : UnitView) (b : Bytes) : UnitView :=
  let pend := u32At b 1
  let sev := u32At b 5
  { v with pend := pend, sev := sev
           chop := v.chop || (sev.testBit 9 && !v.sev.testBit 9) || (pend.testBit 9 && !v.pend.testBit 9) }

/-- EVENT_SYMBOL (R66, R373): the symbol as given, or the unit's own; the lane acknowledges the events pending on the crossing. One with a wrong
CRC or another tick is discarded. -/
def execEventSymbol (l : LaneId) (u : UnitId) (rx : Option Bytes) (crc : Option Nat) (s : State) : Host.Outcome State Fault Refusal :=
  let c := s.ucom.get u
  let n := s.lanes.get l
  let b := rx.getD (eventWords c)
  .next (if n.awake ∧ (c.links.get l).up ∧ s.runs u ∧ n.takesSymbol b (crc.getD (crc16 0xFFFF (eventWords c))) then
    (s.setLane l (n.onUnit u (fun v => v.symbol b))).setUnit u (c.setLink l { c.links.get l with evPend := 0 })
  else s)

end Sys2Proof.Machine
end

