-- ==== Sys2Proof/Machine/CarouselTx.lean ====
section
/-!
DEFINITION. What a lane transmits on its plane (R250-R253, R258, R259, R261, R262, R266, R270, R274, R347, R348, R352, R389), and the
replies of the register service on the Carousel and on the service port (R338, R408, R410).
-/
namespace Sys2Proof.Machine
open Sys2Proof

/-- A frame of lane l in a slot of its plane departs: the frame sent last is kept. -/
def Lane.depart (n : Lane) (l : LaneId) (flags slot dest : Nat) (payload : Bytes) (key : Option (BitVec 128)) : Lane :=
  let m := n.main.net
  let c := n.main.canvas.net
  let h := headerOf flags l.idx n.main.time.round slot c.self payload.length m.epoch dest
  n.onNet (fun m => { m with sent := some (slot, flags, frameOf c.etype l.idx c.self dest h payload key) })

/-- The key of a slot's frames (R253): the group key for broadcast, else the partner's. -/
def Lane.txKey (n : Lane) (l : LaneId) (e : SlotDef) : Option (BitVec 128) :=
  if e.peer = 4095 then assocGet n.main.net.gk l.idx else assocGet n.main.net.keys (slotKey l.idx e.peer)

/-- A null frame departs and is counted (R258). -/
def Lane.sendNull (n : Lane) (l : LaneId) (e : SlotDef) (key : BitVec 128) : Lane :=
  (n.depart l 1 e.slot e.peer [] (some key)).onNet (fun m => { m with nulls := satAdd 16 m.nulls 1 })

/-- The SNK cells that post to a slot of a plane (R121). -/
def Canvas.slotSnks (cv : Canvas) (plane slot : Nat) : List CellDef :=
  cv.cells.filter (fun d => d.kind = 2 && wClass (d.p 0) = 2 && wUnit (d.p 0) = plane && wIndex (d.p 0) % 4096 = slot)

/-- The kind of the axis a cell belongs to (R143). -/
def Canvas.axisKind (cv : Canvas) (axis : Nat) : Nat := ((cv.axes.find? (fun a => a.axis = axis)).map (fun a => a.kind)).getD 0

/-- Whether step 4 of R389 holds the payload of an axis: every remote axis but RSTEER; TRAILER and RBRAKE not while a controlled stop
runs or the park brake is to be applied. -/
def Lane.holdsAxis (n : Lane) (axis : Nat) : Bool :=
  let k := n.main.canvas.axisKind axis
  n.aon.pwr.step4 && decide (k ≠ 6) && (decide (k ≠ 5 ∧ k ≠ 7) || (!n.main.mode.stop && !n.main.mode.park))

/-- Step 4 of R389 on an ACT slot: DRIVE and CMD of the last payload released before the step, but a new CMD of FAIL is sent as
computed. -/
def Lane.heldAct (n : Lane) (slot : Nat) (snks : List CellDef) (data : Bytes) : Bytes :=
  match assocGet n.main.net.lastAct slot with
  | none => data
  | some old =>
    snks.foldl (fun b d =>
      let base := (n.main.canvas.payloadAt true d).1
      if n.holdsAxis d.axis ∧ byteAt b (base + 2) ≠ 2 then
        putBytes (putBytes b (base + 2) (slice old (base + 2) 1)) (base + 4) (slice old (base + 4) 4)
      else b) data

/-- Whether a ring has bytes of a slot's transmit buffer still to write in this cycle (R140, R296): of a descriptor it has begun, or bytes not
posted in the cycle. A descriptor fetched anew that waits with all of its bytes posted is for a later cycle. -/
def Lane.scatterOpen (n : Lane) (l : LaneId) (slot : Nat) : Bool :=
  let posted := ((assocGet n.main.net.tx slot).map (fun b => b.posted)).getD []
  n.main.dma.rings.any (fun g => g.dsts.any (fun a =>
    decide (a / 0x800 = (0x48000000 + 0x1000000 * l.idx) / 0x800 + slot) && (decide (g.moved ≠ 0) || !posted.contains (a % 0x800))))

/-- Whether the payload of a slot is complete in this cycle (R140, R258, R296): its SNK cells have posted, something was posted, and no ring is still
writing it. -/
def Lane.complete (n : Lane) (l : LaneId) (e : SlotDef) : Bool :=
  match assocGet n.main.net.tx e.slot with
  | none => false
  | some b => !b.posted.isEmpty && (n.main.canvas.slotSnks l.idx e.slot).all (fun d => b.posted.contains (pcount (d.p 1))) && !n.scatterOpen l e.slot

/-- The payload a slot releases in this cycle (R140, R258, R296), none when it is not complete or is withheld. -/
def Lane.released (n : Lane) (l : LaneId) (e : SlotDef) : Option Bytes :=
  match assocGet n.main.net.tx e.slot with
  | none => none
  | some b =>
    if b.withheld ∨ ¬ n.complete l e then none
    else some (if e.kind = 2 then n.heldAct e.slot (n.main.canvas.slotSnks l.idx e.slot) b.data else b.data)

/-- Whether a slot carries a null frame whatever is posted (R258, R389): ACT outside VOTING, the drive modes or NORMAL and RECOVERY, DATA
under step 2. -/
def Lane.nullSlot (n : Lane) (e : SlotDef) : Bool :=
  if e.kind = 2 then
    decide (n.state ≠ .voting) || !driveMode n.main.mode.mode || decide (n.main.net.phase = 1 ∨ n.main.net.phase = 2)
  else decide (e.kind = 0) && n.aon.pwr.step2

/-- An actuation payload whose mirror buffer is not complete 2 µs before START, or differs once all has been posted, is a mismatch (R296, R312,
R313). -/
def Lane.lateMirror (n : Lane) (l : LaneId) (e : SlotDef) : Lane :=
  if procLane l ∧ e.kind = 2 ∧ (n.main.check.lateSlots.contains e.slot ∨ ¬ n.slotMatches l [] e.slot) ∧ ¬ n.nullSlot e ∧ (n.released l e).isSome then
    let b := (assocGet n.main.net.tx e.slot).getD ⟨[], [], false⟩
    (n.mismatch l 2 l.idx e.slot (n.main.canvas.outputCore l (4096 + e.slot))).onNet (fun m => { m with
      tx := assocPut m.tx e.slot { b with withheld := true } })
  else n

/-- A payload slot transmits (R258). A slot whose key is not held sends nothing. -/
def Lane.sendData (n : Lane) (l : LaneId) (e : SlotDef) : Lane :=
  let n := n.lateMirror l e
  match n.txKey l e with
  | none => n
  | some k =>
    match (if n.nullSlot e then none else n.released l e) with
    | none => n.sendNull l e k
    | some d =>
      let n := n.depart l 0 e.slot e.peer d (some k)
      if e.kind = 2 ∧ ¬ n.aon.pwr.step4 then n.onNet (fun m => { m with lastAct := assocPut m.lastAct e.slot d }) else n

/-- The beacon payload of a master (R262). -/
def Lane.beaconPayload (n : Lane) : Bytes :=
  let c := n.main.canvas
  leBytes 2 c.net.self ++ [BitVec.ofNat 8 c.net.rank, 0] ++ c.sched ++
    leBytes 2 c.net.latch ++ zeros 6

/-- A beacon departs (R273, R274): a master's own, or on a segment the master's as a follower heard it. -/
def Lane.sendBeacon (n : Lane) (l : LaneId) (e : SlotDef) : Lane :=
  let m := n.main.net
  match m.bk with
  | none => n
  | some bk =>
    let key := some (beaconKey bk m.epoch)
    if m.role = 1 then n.depart l 2 e.slot 4095 n.beaconPayload key
    else if m.role = 2 ∧ e.medium ≠ 0 ∧ m.mvalid then n.depart l 2 e.slot 4095 m.relay key
    else n

/-- The echo of a partner (R261): RESYNC as long as it is due, and in the rest of the cycle in which it was sent. -/
def Lane.echo (n : Lane) (l : LaneId) (ident : Nat) : Nat :=
  let p := n.partner l.idx ident
  ident + 4096 * b2n p.edge + 8192 * b2n (p.resync || p.resyncDue) + 16384 * b2n p.missFlag + 32768 * b2n p.silenced

/-- The partners a STATUS frame lists (R261): those with a bit set, on the trunk from where the last one ended. -/
def Lane.echoList (n : Lane) (l : LaneId) (e : SlotDef) : List Nat :=
  let cv := n.main.canvas
  let ps := (if e.medium = 0 then cv.partnersOn l.idx else cv.mediumPartners l.idx e.medium).filter (fun p => decide (4096 ≤ n.echo l p))
  let ps := if e.medium = 0 then
      (ps.filter (fun p => n.main.net.statusFrom < p)) ++ (ps.filter (fun p => p ≤ n.main.net.statusFrom))
    else ps
  ps.take (min 712 ((e.len - 16) / 2))

/-- The STATUS payload (R261). Of the other lanes it takes a vote of any unit it hears. -/
def Lane.statusPayload (n : Lane) (l : LaneId) (echoes : List Nat) : Bytes :=
  let m := n.main.mode
  let k := n.main.net
  let c := n.main.can
  let tr : Bool := decide (m.mode = .tightrope)
  let votes := fun (x : LaneId) => if x = l then b2n (decide (n.state = .voting)) else b2n (n.heardUnits.any (fun u => decide ((n.main.units.get u).stat x ≠ 3)))
  let lanes := votes .a + 2 * votes .b + 4 * votes .c
  [BitVec.ofNat 8 (modeCode m.mode + 16 * b2n tr + 32 * b2n m.stop + 64 * b2n m.park), BitVec.ofNat 8 (k.phase + 4 * lanes)] ++
    leBytes 2 (if tr then 120 else 0xFFFF) ++ leBytes 2 (n.main.office.holder.getD 0) ++
    [BitVec.ofNat 8 k.cpPrev, BitVec.ofNat 8 (if procLane l then c.sa else 0xFF)] ++ leBytes 2 (if procLane l then c.curv else 0xFFFF) ++
    [BitVec.ofNat 8 (if procLane l then min 255 (c.cage / 10) else 255), 0] ++ leBytes 2 echoes.length ++ zeros 2 ++
    echoes.flatMap (fun p => leBytes 2 (n.echo l p))

/-- A RESYNC echo sent to a partner (R266). -/
def Lane.echoSent (l : LaneId) (n : Lane) (ident : Nat) : Lane :=
  let p := n.partner l.idx ident
  if p.resyncDue then n.putPartner l.idx ident { p with resync := true, resyncDue := false, syncs := p.syncs ++ [n.main.time.round] } else n

/-- A payload that is no privileged output enters the executive's signature in both copies (R310, R314; log entry 111). -/
def Lane.foldPayload (n : Lane) (l : LaneId) (b : Bytes) : Lane :=
  if procLane l then
    let ws := (List.range ((b.length + 3) / 4)).map (fun i => u32At b (4 * i))
    (n.fold false execTask ws).fold true execTask ws
  else n

/-- A STATUS frame departs (R261, R266, R310): the partners of its medium that it lists are sent their RESYNC. -/
def Lane.sendStatus (n : Lane) (l : LaneId) (e : SlotDef) : Lane :=
  match n.txKey l e with
  | none => n
  | some k =>
    let ps := n.echoList l e
    let b := n.statusPayload l ps
    let n := (n.foldPayload l b).depart l 0 e.slot e.peer b (some k)
    let n := (ps.filter (fun p => (n.main.canvas.mediumPartners l.idx e.medium).contains p)).foldl (Lane.echoSent l) n
    if e.medium = 0 then n.onNet (fun m => { m with statusFrom := ps.getLast?.getD 0 }) else n

/-- MSG4 of an exchange (R347, R348, R352): the epoch and the group key, encrypted. -/
def Lane.msg4 (n : Lane) (l : LaneId) (j : Join) : Option Bytes :=
  (assocGet n.main.net.gk l.idx).map (msg4Of n.main.net.epoch j.kw j.t)

/-- Whether an exchange has a message to send: MSG2 and MSG4 to a partner, MSG1 and MSG3 as a follower (R347, R349). -/
def joinSends (stage : Nat) : Option (Nat × Nat) :=
  if stage = 2 then some (2, 3) else if stage = 4 then some (4, 0) else if stage = 11 then some (1, 12)
  else if stage = 13 then some (3, 14) else none

/-- A JOIN frame departs (R270, R347): the next fragment, a short last one filled up with 0 so that FRAG x (L - 8) is its place (log entry 127); with
the last one of MSG4 the partner is joined from the cycle after. -/
def State.sendJoin (s : State) (l : LaneId) (e : SlotDef) (j : Join) (msg next : Nat) : State :=
  let n := s.lanes.get l
  let out := if msg = 4 ∧ j.out = [] then n.msg4 l j else some j.out
  match out with
  | none => s
  | some out =>
    let size := e.len - 8
    if size = 0 then s
    else
      let frag := (joinLen msg - out.length) / size
      let part := out.take size ++ (if frag = 0 then [] else zeros (size - out.length))
      let dev : Int := if msg = 2 ∨ msg = 4 then j.dev else 0
      let n := n.depart l 4 e.slot e.peer (joinPay dev msg frag part) none
      let rest := out.drop size
      if rest ≠ [] then s.setLane l (n.putJoin e.peer (some { j with out := rest }))
      else if msg = 4 then
        let s := s.setLane l (n.putJoin e.peer none)
        match j.key with
        | some k => s.handKey l.idx e.peer k n.main.net.epoch ((n.main.time.round + 1) % 16777216)
        | none => s
      else s.setLane l (n.putJoin e.peer (some { j with stage := next, out := [], got := [] }))

/-- The operations of a reply that fit a payload (R410). -/
def opsFitting : Nat → List OpResult → List OpResult
  | _, [] => []
  | room, r :: rs => if 4 + 4 * r.words.length ≤ room then r :: opsFitting (room - 4 - 4 * r.words.length) rs else []

/-- The payload of a reply (R410). -/
def replyBytes (l : LaneId) (r : Reply) (len : Nat) : Bytes :=
  let ops := opsFitting (len - 8) r.ops
  leBytes 2 r.rid ++ [BitVec.ofNat 8 ops.length, BitVec.ofNat 8 l.code] ++ leBytes 3 r.effect ++ [0] ++
    ops.flatMap (fun o => leBytes 4 o.status ++ o.words.flatMap (leBytes 4))

/-- A reply leaves the waiting ones. -/
def Lane.dropReply (n : Lane) (r : Reply) (b : Bytes) : Lane :=
  n.onMain (fun m => { m with service := { m.service with replies := m.service.replies.erase r, sent := some (r, b) } })

/-- An SREP slot transmits (R389, R408): the oldest reply that waits for its PEER on the Carousel, a null frame when there is none or under
step 1. -/
def Lane.sendReply (n : Lane) (l : LaneId) (e : SlotDef) : Lane :=
  match n.txKey l e with
  | none => n
  | some k =>
    match (if n.aon.pwr.step1 then none
      else n.main.service.replies.find? (fun r => r.sender = e.peer && decide (r.via ≠ .port))) with
    | none => n.sendNull l e k
    | some r =>
      let b := replyBytes l r e.len
      (n.depart l 8 e.slot e.peer b (some k)).dropReply r b

/-- Whether the transmitter of a lane's plane is open to it (R246, R258, R259). -/
def Lane.transmits (n : Lane) : Bool := n.computing && decide (n.aon.pwr.phy = .on) && !n.main.net.silenced

/-- Whether step 2 of R389 keeps a JOIN frame from a slot: a DATA slot, or an answer to a partner without MEAS, SET or ACT slot. -/
def Lane.shedAnswer (n : Lane) (l : LaneId) (e : SlotDef) (stage : Nat) : Bool :=
  n.aon.pwr.step2 && (decide (e.kind = 0) || (decide (stage = 2 ∨ stage = 4) && !n.carries l.idx e.peer))

/-- A slot of lane l departs (R258, R389). -/
def State.transmit (s : State) (l : LaneId) (e : SlotDef) : State :=
  let n := s.lanes.get l
  let j := (n.join e.peer).bind (fun j => if n.shedAnswer l e j.stage then none else (joinSends j.stage).map (fun k => (j, k)))
  match j with
  | some (j, msg, next) =>
    if n.main.canvas.firstSlot true l.idx e.peer = some e then s.sendJoin l e j msg next
    else if e.kind = 6 then s.setLane l (n.sendReply l e) else s.setLane l (n.sendData l e)
  | none =>
    s.setLane l (if e.kind = 3 then n.sendBeacon l e else if e.kind = 4 then n.sendStatus l e else if e.kind = 6 then n.sendReply l e
      else n.sendData l e)

/-- The time a payload takes on a medium in ns, rounded up (R250). -/
def wireNs (plane medium len : Nat) : Nat := (wirePs plane medium len + 999) / 1000

/-- The guardian's gates on a medium by START, each from START - 0.5 µs to START + W(LEN) + 0.5 µs (R259). -/
def Net.gates (m : Net) (plane medium : Nat) : List (Int × Int) :=
  (m.gate.filter (fun e => e.medium = medium)).map (fun e => ((e.start : Int) - 500, (e.start : Int) + (wireNs plane medium e.len : Int) + 500))

/-- How far the transmitter stays open from a time on, at most `k` gates taken. -/
def openUntil (gs : List (Int × Int)) : Nat → Int → Int
  | 0, t => t
  | k + 1, t => match gs.find? (fun g => decide (g.1 ≤ t ∧ t < g.2)) with
    | some g => openUntil gs k g.2
    | none => t

/-- Whether the guardian cuts a frame of `len` bytes of payload that departs at a time of its own cycle (R259). -/
def Net.cutAt (m : Net) (plane medium len : Nat) (t : Int) : Bool :=
  let gs := m.gates plane medium
  decide (openUntil gs gs.length t < t + (wireNs plane medium len : Int))

/-- The guardian cuts a transmission (R259): the 8th within 256 cycles silences the transmitter. -/
def Lane.guardCut (n : Lane) (l : LaneId) : Lane :=
  let r := n.main.time.round
  let cuts := (n.main.net.cuts.filter (fun x => roundsSince x r < 256)) ++ [r]
  (n.onNet (fun m => { m with
    guard := satAdd 16 m.guard 1, cuts := cuts, silenced := m.silenced || decide (8 ≤ cuts.length), sent := none })).event l 6

/-- Whether a slot carries a null frame because its payload is late (R258, R281). -/
def Lane.latePayload (n : Lane) (l : LaneId) (e : SlotDef) : Bool :=
  decide (e.kind ≠ 3 ∧ e.kind ≠ 4 ∧ e.kind ≠ 6) && !n.nullSlot e && !n.complete l e

/-- SLOT_TRANSMIT (R258, R259): the frame departs `depart` ns into the cycle as the guardian times it. A cut that meets the null frame of a late
payload has no effect (R281). -/
def execSlotTransmit (l : LaneId) (slot : Nat) (depart : Int) (s : State) : Host.Outcome State Fault Refusal :=
  let n := s.lanes.get l
  .next (match n.main.canvas.slots.find? (fun e => e.tx && e.plane = l.idx && e.slot = slot) with
    | none => s
    | some e =>
      if n.transmits then
        let s := s.setLane l (n.onNet (fun m => { m with sent := none }))
        let s := s.transmit l e
        match (s.lanes.get l).main.net.sent with
        | some (_, flags, b) =>
          if (s.lanes.get l).main.net.cutAt l.idx e.medium (frLen b) depart ∧ ¬ (flags = 1 ∧ n.latePayload l e) then s.setLane l ((s.lanes.get l).guardCut l) else s
        | none => s
      else s)

end Sys2Proof.Machine
end

