-- ==== Sys2Proof/Machine/FeedbackCmds.lean ====
section
/-!
DEFINITION. The commands of the feedback units (R212-R228): edges, index pulses, converter updates, SENT frames, compare
entries and the zero-speed timeout.
-/
namespace Sys2Proof.Machine
open Sys2Proof

/-- An effect on one channel of a feedback unit, with the number of compare entries that fired, where the unit runs. -/
def State.onChan (s : State) (f : FbId) (c : Nat) (g : FbChan → Nat → FbChan × Nat) : State :=
  s.ifRuns (.fb f) (fun s =>
    let k := s.fbk.getF f
    s.putFb f (putChan f (s.ucom.get (.fb f)) k c (g (k.ch.getD c {}) (s.ucom.get (.fb f)).age)))

/-- QUAD_EDGE (R218, R219, R224). -/
def execQuadEdge (f : FbId) (c : Nat) (up : Bool) (offset : Nat) (s : State) : Host.Outcome State Fault Refusal :=
  .next (s.onChan f c (fun h age => quadEdge h up age offset))

/-- INDEX_PULSE (R215). -/
def execIndexPulse (f : FbId) (c : Nat) (s : State) : Host.Outcome State Fault Refusal :=
  .next (s.onChan f c (fun h _ => (indexPulse h, 0)))

/-- CONVERTER_UPDATE (R220, R222). -/
def execConverterUpdate (f : FbId) (c : Nat) (u : ConvUpdate) (s : State) : Host.Outcome State Fault Refusal :=
  .next (s.onChan f c (fun h age => converterUpdate h u age))

/-- REACQ (R222). -/
def execReacq (f : FbId) (c : Nat) (offset : Nat) (s : State) : Host.Outcome State Fault Refusal :=
  .next (s.onChan f c (fun h age => reacquire h age offset))

/-- SENT_FRAME (R223). -/
def execSentFrame (f : FbId) (c : Nat) (rx : SentRx) (s : State) : Host.Outcome State Fault Refusal :=
  .next (s.onChan f c (fun h age => sentFrame h rx age))

/-- COMPARE_PULSE_END (R224): the pulse on the compare output ends where its PW runs out in this tick. -/
def execComparePulseEnd (f : FbId) (c : Nat) (s : State) : Host.Outcome State Fault Refusal :=
  .next (s.onChan f c (fun h age => ({ h with pulseEnd := h.pulseEnd.filter (fun e => decide ((age + 1) * 50 < e)) }, 0)))

/-- A channel whose last edge lies ZTO or more before the present boundary (R219); not while tracking is lost (R222). -/
def zeroSpeed (h : FbChan) (age : Nat) : FbChan :=
  match h.spd.last with
  | none => h
  | some (t, _) =>
    if (h.cfg.mode = 1 ∨ (h.cfg.mode = 2 ∧ ¬ h.trk.lost)) ∧ h.cfg.zto * 160000 ≤ age * 8000 - t then { h with spd := { h.spd with spd := 0, zero := true } } else h

/-- ZERO (R219). -/
def execZero (f : FbId) (c : Nat) (s : State) : Host.Outcome State Fault Refusal :=
  .next (s.onChan f c (fun h age => (zeroSpeed h age, 0)))

/-- COMPARE_ARM (R225, R228): a write of FBK_CCTLc_e; a word out of range is refused. -/
def execCompareArm (f : FbId) (c e : Nat) (ctl : Word) (s : State) : Host.Outcome State Fault Refusal :=
  .next (if ctlOk ctl.toNat then s.onChan f c (fun h _ => (writeEntry h e true (writeCtl ctl.toNat 0xFFFFFFFF), 0)) else s)

/-- COMPARE_POSITION_WRITE (R225, R228): a write of FBK_CMPc_e. -/
def execComparePositionWrite (f : FbId) (c e : Nat) (p : Word) (s : State) : Host.Outcome State Fault Refusal :=
  .next (s.onChan f c (fun h _ => (writeEntry h e true (writeP p.toNat 0xFFFFFFFF), 0)))

end Sys2Proof.Machine
end

