-- ==== Sys2Proof/Machine/IslandCmds.lean ====
section
/-!
DEFINITION. The commands of the islands (R34, R43, R186-R203): trips, comparator tests, bus thresholds, choppers, re-arm
requests and the clears of SERVICE. Each acts where its island runs and its condition holds.
-/
namespace Sys2Proof.Machine
open Sys2Proof

/-- An effect on one island, where it runs. -/
def State.onIsland (s : State) (i : IslandId) (f : IslPair → IslPair) : State :=
  s.ifRuns (.isl i) (fun s => s.putIsl i (f (s.islPair i)))

/-- DESAT (R193, R194). -/
def execDesat (i : IslandId) (leg : Nat) (high : Bool) (s : State) : Host.Outcome State Fault Refusal :=
  .next (s.onIsland i (fun p => trip i p leg high false))

/-- SLP (R193, R194). -/
def execSlp (i : IslandId) (leg : Nat) (high : Bool) (s : State) : Host.Outcome State Fault Refusal :=
  .next (s.onIsland i (fun p => trip i p leg high true))

/-- COMPARATOR_TEST (R195-R197). -/
def execComparatorTest (i : IslandId) (responded : Bool) (s : State) : Host.Outcome State Fault Refusal :=
  .next (s.onIsland i (fun p => comparatorTest i p responded))

/-- OV1 (R198): the island requests the chopper. -/
def execOv1 (i : IslandId) (s : State) : Host.Outcome State Fault Refusal :=
  .next (s.onIsland i (fun p => withBus p (fun b => { b with ov1 := true })))

/-- OV1_RELEASE (R198). -/
def execOv1Release (i : IslandId) (s : State) : Host.Outcome State Fault Refusal :=
  .next (s.onIsland i (fun p => withBus p (fun b => { b with ov1 := false })))

/-- OV2 (R35, R198): safe state with CAUSE 0x6. -/
def execOv2 (i : IslandId) (s : State) : Host.Outcome State Fault Refusal :=
  .next (s.onIsland i (fun p =>
    if p.2.bus.ov2 then p
    else raiseCause i (islEvt i (withBus p (fun b => { b with ov2 := true, ov2Low := 0 })) 11) 6))

/-- OV2_RELEASE (R198): eight consecutive ticks below 56 V. -/
def execOv2Release (i : IslandId) (s : State) : Host.Outcome State Fault Refusal :=
  .next (s.onIsland i (fun p =>
    if p.2.bus.ov2 ∧ 8 ≤ p.2.bus.ov2Low then endVoltage i (withBus p (fun b => { b with ov2 := false })) 6 else p))

/-- BUS_UV (R198): OPEN with CAUSE 0xD. -/
def execBusUv (i : IslandId) (s : State) : Host.Outcome State Fault Refusal :=
  .next (s.onIsland i (fun p =>
    if p.2.bus.uv then p else raiseCause i (islEvt i (withBus p (fun b => { b with uv := true })) 12) 0xD))

/-- BUS_UV_RELEASE (R198). -/
def execBusUvRelease (i : IslandId) (s : State) : Host.Outcome State Fault Refusal :=
  .next (s.onIsland i (fun p => endVoltage i (withBus p (fun b => { b with uv := false })) 0xD))

/-- The chopper of a bus is on (R207): one of its three islands, running, requests it. Each island judges current only for its own request. -/
def State.chopperOn (s : State) (b : BusId) : Bool := (busIslands b).any (fun i => s.runs (.isl i) && (s.isl.get i).bus.ov1)

/-- CHOPPER_FAULT (R199): a request without current, unless the driver limits itself. -/
def execChopperFault (i : IslandId) (s : State) : Host.Outcome State Fault Refusal :=
  .next (s.ifRuns (.isl i) (fun s =>
    if (s.isl.get i).bus.ov1 ∧ ¬ (s.isl.get i).bus.limit then s.chopperFault i.bus else s))

/-- The round of a hyper-round in which an island fires its chopper test pulse (R199). -/
def testPulseRound : IslandId → Option Nat
  | .i1 | .i2 => some 0
  | .i3 | .i4 => some 0x55
  | .i5 | .i6 => some 0xAA

/-- CHOPPER_TEST_PULSE (R199): in tick 0 of the island's round, above 20 V; current in 10 mA. -/
def execChopperTestPulse (i : IslandId) (current : Nat) (s : State) : Host.Outcome State Fault Refusal :=
  .next (s.ifRuns (.isl i) (fun s =>
    let c := s.ucom.get (.isl i)
    let b := (s.isl.get i).bus
    if c.tick % 8 = 0 ∧ testPulseRound i = some (c.round % 256) ∧ 2000 < b.vbus ∧ current < 200 ∧ ¬ b.limit then
      s.chopperFault i.bus
    else s))

/-- HOT (R200): the model's energy, with the thresholds 2.0 kJ and 1.0 kJ. -/
def execHot (i : IslandId) (energy : Nat) (s : State) : Host.Outcome State Fault Refusal :=
  .next (s.onIsland i (fun p => withBus p (fun b =>
    { b with energy := energy, hot := hotOf energy b.hot })))

/-- CHOPPER_LIMIT (R199, R200): the driver's limit is signalled to the three islands of the bus, which find the signal standing when they
power up. -/
def execChopperLimit (b : BusId) (on : Bool) (s : State) : Host.Outcome State Fault Refusal :=
  .next ((busIslands b).foldl (fun s i => s.putIsl i (withBus (s.islPair i) (fun x => { x with limit := on }))) s)

/-- REGEN_TRIP (R200): IBUS below -2 A in eight ticks while regeneration is barred. -/
def execRegenTrip (i : IslandId) (s : State) : Host.Outcome State Fault Refusal :=
  .next (s.onIsland i (fun p =>
    if 8 ≤ p.2.bus.regen ∧ ¬ p.2.live.testBit 8 then raiseCause i (islEvt i p 10) 8 else p))

/-- REGEN_TRIP_END (R200). -/
def execRegenTripEnd (i : IslandId) (s : State) : Host.Outcome State Fault Refusal :=
  .next (s.onIsland i (fun p => if 8 ≤ p.2.bus.regenOk then endCause p 8 else p))

/-- SPEED_CROSSING (R34): the island's own speed in rpm. -/
def execSpeedCrossing (i : IslandId) (rpm : Nat) (s : State) : Host.Outcome State Fault Refusal :=
  .next (s.onIsland i (fun p => speedCross i p rpm))

/-- ISLAND_CLOCK_LOSS (R186): the drivers pull their gates off; the island acts no more until its power-up. -/
def execIslandClockLoss (i : IslandId) (s : State) : Host.Outcome State Fault Refusal :=
  .next (s.onIsland i (fun p => (p.1, { p.2 with clockLost := true, sw := 1, duty := List.replicate 6 0, comp := List.replicate 6 0 })))

/-- BACKSTOP (R43): the sum with one admitted lane has reached the limit. -/
def execBackstop (i : IslandId) (s : State) : Host.Outcome State Fault Refusal :=
  .next (s.onIsland i (fun p =>
    if p.1.cfg.loaded ∧ p.2.backLim ≤ p.2.back ∧ ¬ p.2.causes.testBit 0xA then raiseCause i (islEvt i p 14) 0xA else p))

/-- An effect on one island, accepted only in SERVICE (R209). -/
def State.onIslandService (s : State) (i : IslandId) (f : IslPair → IslPair) : State :=
  if s.devMode = .service then s.onIsland i f else s

/-- CLRBF (R194, R202, R209): in SERVICE. -/
def execClrbf (i : IslandId) (s : State) : Host.Outcome State Fault Refusal :=
  .next (s.onIslandService i (clearBridge i))

/-- CLRCF (R199, R209): in SERVICE. -/
def execClrcf (i : IslandId) (s : State) : Host.Outcome State Fault Refusal :=
  .next (if s.devMode = .service then s.clearChopper i.bus else s)

/-- CLRLATCH (R43, R202, R209): in SERVICE. -/
def execClrlatch (i : IslandId) (s : State) : Host.Outcome State Fault Refusal :=
  .next (s.onIslandService i (clearLatch i))

/-- REARM_REQUEST (R203). -/
def execRearmRequest (i : IslandId) (s : State) : Host.Outcome State Fault Refusal :=
  .next (s.onIsland i (fun p => (p.1, rearmAsk p.2)))

end Sys2Proof.Machine
end

