-- ==== Sys2Proof/Machine/SafetyCmds.lean ====
section
/-!
DEFINITION. The commands of the safety-I/O units (R229-R244): test pulses, overcurrent, PGOOD, the ORed feed, XS and the
restart of a supply.
-/
namespace Sys2Proof.Machine
open Sys2Proof

/-- An effect on one safety-I/O unit, where it runs. -/
def State.onSio (s : State) (x : SioId) (f : UnitCommon → SafetyIO → UnitCommon × SafetyIO) : State :=
  s.ifRuns (.sio x) (fun s => s.putSio x (f (s.ucom.get (.sio x)) (s.sio.getS x)))

/-- TEST_PULSE_OFF (R239). -/
def execTestPulseOff (x : SioId) (p : Nat) (s : State) : Host.Outcome State Fault Refusal :=
  .next (s.onSio x (fun c y => (c, pulseOff x c y p)))

/-- TEST_PULSE_ON (R239). -/
def execTestPulseOn (x : SioId) (p : Nat) (s : State) : Host.Outcome State Fault Refusal :=
  .next (s.onSio x (fun c y => (c, pulseOn x c y p)))

/-- XS_CLEAR (R240): after 16 rounds without a detection. -/
def execXsClear (x : SioId) (i : Nat) (s : State) : Host.Outcome State Fault Refusal :=
  .next (s.onSio x (fun c y =>
    (c, { y with ins := updAt y.ins i (fun n => if n.xs ∧ 16 ≤ n.quiet then { n with xs := false } else n) })))

/-- PSUP_OC (R238): 5 ms in current limit. -/
def execPsupOc (x : SioId) (p : Nat) (s : State) : Host.Outcome State Fault Refusal :=
  .next (s.onSio x (fun c y => overcurrent x c y p))

/-- PGOOD (R238): a supply that is on reaches its window. -/
def execPgood (x : SioId) (p : Nat) (s : State) : Host.Outcome State Fault Refusal :=
  .next (s.onSio x (fun c y => (c, putSup y p (fun z => { z with pgood := z.on }))))

/-- ORED_FEED_LOW (R231). -/
def execOredFeedLow (x : SioId) (s : State) : Host.Outcome State Fault Refusal :=
  .next (s.onSio x (fun c y => (c, feedFall y)))

/-- ORED_FEED_RETURN (R231). -/
def execOredFeedReturn (x : SioId) (s : State) : Host.Outcome State Fault Refusal :=
  .next (s.onSio x (fun c y => (c, feedReturn c y)))

/-- SUPPLY_RESTART (R238): RESTART takes effect in the supervision of every lane that runs. -/
def execSupplyRestart (x : SioId) (p : Nat) (s : State) : Host.Outcome State Fault Refusal :=
  .next (s.restartSupply x p)

end Sys2Proof.Machine
end

