-- ==== Sys2Proof/Machine/Service.lean ====
section
/-!
DEFINITION. The register service of a lane (R7-R9, R11, R13, R69-R72, R98, R99, R102, R103, R337-R339, R342, R346, R361, R362, R389,
R404-R412): requests and stream frames as they are checked, writes as they take effect, reads, and replies.
-/
namespace Sys2Proof.Machine
open Sys2Proof

/-- The operations of a request (R406); `bad` is a malformed one, which ends the request. -/
inductive SvcOp where
  | read (count addr : Nat)
  | write (addr value mask : Nat)
  | bwrite (addr : Nat) (words : List Nat)
  | commit (kind units : Nat)
  | wstream (lane offset : Nat)
  | bad
  deriving DecidableEq, Repr

/-- The operations of a request from its bytes after the header (R406), at most as many as the first argument says. -/
def parseOps : Nat → Bytes → List SvcOp
  | 0, _ => []
  | k + 1, b =>
    let op := byteAt b 0
    let count := byteAt b 1
    let arg := u16At b 2
    let addr := u32At b 4
    if b.length < 8 then [.bad]
    else if op = 1 then
      if 1 ≤ count ∧ count ≤ 64 ∧ arg = 0 then .read count addr :: parseOps k (b.drop 8) else [.bad]
    else if op = 2 then
      if count = 1 ∧ arg = 0 ∧ 16 ≤ b.length then .write addr (u32At b 8) (u32At b 12) :: parseOps k (b.drop 16) else [.bad]
    else if op = 3 then
      if 1 ≤ count ∧ count ≤ 64 ∧ arg = 0 ∧ 8 + 4 * count ≤ b.length then
        .bwrite addr ((List.range count).map (fun i => u32At b (8 + 4 * i))) :: parseOps k (b.drop (8 + 4 * count))
      else [.bad]
    else if op = 4 then
      if (count = 1 ∨ count = 2) ∧ addr = 0 ∧ arg % 2 = 0 ∧ arg < 16384 then .commit count arg :: parseOps k (b.drop 8) else [.bad]
    else if op = 5 then
      if count = 0 ∧ arg = 0 ∧ 1 ≤ addrUnit addr ∧ addrUnit addr ≤ 3 ∧ addr % 268435456 < 4194304 ∧ addr % 4 = 0 then
        .wstream (addrUnit addr) (addr % 4194304) :: parseOps k (b.drop 8)
      else [.bad]
    else [.bad]

/-- The operations of a request payload (R405). -/
def requestOps (pay : Bytes) : List SvcOp :=
  let nops := byteAt pay 2
  if nops = 0 ∨ 64 < nops ∨ 1432 < pay.length then [.bad] else parseOps nops (pay.drop 8)

/-- The resources the fields of a register belong to (R81, R103). -/
def regResources (addr : Nat) : List Nat :=
  let u := addrUnit addr
  let off := addrOff addr
  match addrBlock addr with
  | 4 => (List.range (bridgesOf u).2).map (fun k => resCode 1 u ((bridgesOf u).1 + k))
  | 5 => (List.range (bridgesOf u).2).map (fun k => resCode 1 u ((bridgesOf u).1 + k))
  | 6 =>
    if off < 0x100 then [resCode 3 u (4 * (u - 10) + off / 0x40)]
    else let c := 4 * (u - 10) + (off - 0x100) / 0x80; [resCode 4 u (16 * c + (off - 0x100) % 0x80 / 8)]
  | 7 =>
    if off < 0x300 then [resCode 5 u (24 * (u - 12) + off / 0x20)]
    else if off < 0x480 then [resCode 6 u (8 * (u - 12) + (off - 0x400) / 16)] else []
  | 0xA => if off < 0x200 then [resCode 0x0A u (off / 16)] else []
  | _ => []

/-- Step 3 of R103 for one PERM entry: every resource belongs to the entry's owner or to the expert pool. A ring without an OWN entry is
the system's (R287). -/
def Canvas.ownsAll (cv : Canvas) (addr : Nat) (p : PermDef) : Bool :=
  (regResources addr).all (fun r =>
    let o := match cv.ownerOf r with | some x => some x | none => if addrBlock addr = 0xA then some 0xFE else none
    decide (o = some p.owner) || decide (o = some 0xFF))

/-- Step 4 of R103 and the ranges of the home chapters (R106, R228, R282, R299): whether a written value is in range; `old` is the value
read before. -/
def valueInRange (addr old value mask : Nat) : Bool :=
  let off := addrOff addr
  let v := clearMask old mask ||| (value &&& mask)
  let writes := fun (hi lo : Nat) => decide (bitsOf mask hi lo ≠ 0)
  match addrBlock addr with
  | 6 =>
    if 0x100 ≤ off ∧ off % 8 = 4 then
      (!writes 2 1 || decide (bitsOf v 2 1 ≠ 0)) && ((!writes 15 8 && !writes 4 4) || !v.testBit 4 || decide (bitsOf v 15 8 ≠ 0))
    else true
  | 9 => if 0x40 ≤ off ∧ off < 0x60 then !writes 18 0 || decide (bitsOf v 18 0 ≤ 399999) else true
  | 0xA =>
    if off < 0x200 ∧ off % 16 = 4 then !writes 2 0 || decide (bitsOf v 2 0 = 0)
    else if 0x200 ≤ off ∧ off < 0x240 then !writes 15 3 || decide (bitsOf v 15 3 ≤ 4999)
    else if 0x240 ≤ off ∧ off < 0x2A0 then !writes 13 12 || decide (bitsOf v 13 12 ≠ 3)
    else true
  | _ => true

/-- The shadow of a lane or unit that holds an address; of a unit as it is to stand with the writes lane l still forwards (R71). -/
def State.shadowOf (s : State) (l : LaneId) (addr : Nat) : Shadow :=
  match UnitId.ofCode (addrUnit addr) with
  | some u =>
    let v := (s.lanes.get l).main.units.get u
    ((v.fwd ++ v.later).filter (fun a => a.isWrite)).foldl shadowTake (s.ucom.get u).shown
  | none => (s.lanes.get l).main.shadow

/-- Whether the busy rule of a register refuses a write (R71, R299). -/
def State.busyWrite (s : State) (l : LaneId) (addr m : Nat) : Bool :=
  let off := addrOff addr
  let h := s.shadowOf l addr
  if addrBlock addr = 1 ∧ off = 0x14 then m.testBit 1 && h.pend
  else if inGroup h addr ∧ h.pend then true
  else if addrBlock addr = 0xA ∧ off < 0x200 then
    let g := (s.lanes.get l).main.dma.rings.getD (off / 16) {}
    decide (g.state = 1 ∨ g.state = 2) && ((decide (off % 16 = 0) && m.testBit 0 && !m.testBit 1) || decide (off % 16 = 4))
  else false

/-- The value of a register before a write, none where the address names none (R7). -/
def State.regValue (s : State) (l : LaneId) (addr : Nat) : Option Nat :=
  if addrOff addr % 4 ≠ 0 then none
  else if addrUnit addr = l.code then laneRead s l addr
  else if addrUnit addr = 14 then polvinRead s addr
  else match UnitId.ofCode (addrUnit addr) with
    | some u => unitRead s u addr
    | none => none

/-- Whether the Polvin core or the unit of an address can be reached by lane l (R404, R410). -/
def State.reaches (s : State) (l : LaneId) (addr : Nat) : Bool :=
  if addrUnit addr = 14 then decide (s.polvin.dom = .on)
  else match UnitId.ofCode (addrUnit addr) with
    | some u => s.runs u && ((s.ucom.get u).links.get l).up && (s.ucom.get u).cfg.loaded
    | none => true

/-- The reply status of R103 for a write outside the registers with a rule of their own. -/
def State.checkWrite (s : State) (l : LaneId) (who addr value mask old : Nat) : Nat :=
  let n := s.lanes.get l
  let ps := n.permits who addr mask
  if s.polvin.ipub.isNone ∨ n.main.office.holder ≠ some who ∨ ps = [] then 1
  else if serviceOnly addr ∧ n.main.mode.mode ≠ .service then 1
  else if ¬ ps.any (fun p => n.main.canvas.ownsAll addr p) then 2
  else if ¬ valueInRange addr old value mask then 3
  else if s.busyWrite l addr (value &&& mask) then 4
  else 0

/-- Whether a sender is a partner joined on its plane or the session peer (R13, R254, R411). -/
def State.joinedPeer (s : State) (l : LaneId) (w : Writer) : Bool :=
  match w.via with
  | .port => s.sessionPeer w.id
  | .plane p => ((s.lanes.get l).partner p.idx w.id).joined

/-- The reply status of a write to SEC_ (R339, R342, R346, R357, R359, R362, R411). -/
def State.checkSec (s : State) (l : LaneId) (w : Writer) (off m : Nat) : Nat :=
  let p := s.polvin
  let barred : Bool := match secBit m with | some b => decide (b ∉ [0, 1, 9]) | none => false
  if off = 4 then
    if ¬ s.mayCeremony w then 1
    else if p.ipub.isNone ∧ barred then 1
    else if p.busy then 4 else 0
  else if 0x200 ≤ off ∧ off < 0x300 then (if s.mayCeremony w then 0 else 1)
  else if off = 0xC then
    if p.ipub.isNone ∨ ¬ s.mayCeremony w ∨ s.devMode ≠ .service then 1 else if p.varnish ∧ ¬ p.unlocked then 7 else 0
  else if 0x300 ≤ off ∧ off < 0x310 then (if s.joinedPeer l w then 0 else 1)
  else if off = 0x440 then 0
  else 1

/-- The reply status of a write to OWN_CTRL (R337, R338, R361); `m` the bits written 1. -/
def State.checkOwn (s : State) (l : LaneId) (w : Writer) (off m mask : Nat) : Nat :=
  let n := s.lanes.get l
  let peer : Bool := decide (w.via = .port) && s.sessionPeer w.id
  if off ≠ 0x30 ∨ s.polvin.ipub.isNone then 1
  else if (m.testBit 0 ∨ m.testBit 4) ∧ ¬ n.serviceHolder w.id then 1
  else if m.testBit 1 ∧ n.main.office.holder ≠ some w.id then 1
  else if (m.testBit 2 ∨ m.testBit 3 ∨ bitsOf mask 27 16 ≠ 0) ∧ ¬ peer then 1
  else if m.testBit 4 ∧ n.main.mode.mode ≠ .service then 1
  else if m.testBit 4 ∧ s.polvin.varnish ∧ ¬ s.polvin.unlocked then 7
  else 0

/-- The reply status of a write to the CNV_ block of a lane (R98, R105, R106, R346). R106 refuses a CNV_WIN word outside RECEIVING and names
no status: the model answers BUSY (log entry 94). -/
def State.checkCnv (s : State) (l : LaneId) (who off m : Nat) : Nat :=
  let n := s.lanes.get l
  if n.main.office.holder ≠ some who then 1
  else if off ≠ 0x10 ∧ off ≠ 0x14 ∧ ¬ (0x1000 ≤ off ∧ off < 0x2000) then 1
  else if s.cnvGate l ≠ 0 then s.cnvGate l
  else if off = 0x10 ∧ n.loader.state = .committed ∧ m % 8 ≠ 0 then 4
  else if 0x1000 ≤ off ∧ n.loader.state ≠ .receiving then 4
  else 0

/-- The reply status of a CNV_CMT write (R98, R99, R355): 8 with its DETAIL where the lane refuses the commit. -/
def State.checkCmt (s : State) (l : LaneId) (who v : Nat) : Nat :=
  let n := s.lanes.get l
  let c := n.loader.commitCode v
  if n.main.office.holder ≠ some who then 1
  else if s.cnvGate l ≠ 0 then s.cnvGate l
  else if v / 65536 % 256 < 16 then 3
  else if c ≠ 0 then 8 + 65536 * c
  else if s.polvin.dom ≠ .on ∨ s.polvin.logBad then 8 + 65536 * 0x34
  else 0

/-- The reply status of one register write in lane l (R410). -/
def State.writeStatus (s : State) (l : LaneId) (w : Writer) (addr value mask : Nat) : Nat :=
  let u := addrUnit addr
  let off := addrOff addr
  let m := value &&& mask
  if u = 15 then (if addr = 0xF0F00018 then s.checkCmt l w.id m else 5)
  else if 1 ≤ u ∧ u ≤ 3 ∧ u ≠ l.code then (if off % 4 = 0 then 9 else 5)
  else match s.regValue l addr with
    | none => 5
    | some old =>
      if ¬ s.reaches l addr then 0xA
      else if u = 14 ∧ addrBlock addr = 0xE then s.checkSec l w off m
      else if u = l.code ∧ addrBlock addr = 0xD then s.checkOwn l w off m mask
      else if u = l.code ∧ addrBlock addr = 0xF then s.checkCnv l w.id off m
      else s.checkWrite l w.id addr value mask old

/-- An access added to those a lane forwards to a unit (R404): with this tick's symbol, or with the next one's. -/
def Lane.forward (n : Lane) (u : UnitId) (a : RegAcc) (late : Bool := false) : Lane :=
  n.onUnit u (fun v => if late then { v with later := v.later ++ [a] } else { v with fwd := v.fwd ++ [a] })

/-- Whether a lane is in its hand-over cycle (R69, R70): its tick boundary has begun a round, and the round boundary has not been
done. -/
def Lane.inHandOver (n : Lane) : Bool := n.main.time.roundDue

/-- Whether an access to a unit that lane accepts `arrive` ns into its tick goes into the next round (R414): after +30 µs of the tick
with TINR 7. -/
def Lane.lateForUnits (n : Lane) (arrive : Nat) : Bool := decide (n.main.time.tick % 8 = 7 ∧ 30000 < arrive)

/-- The status of an accepted write: OK, with STRADDLE where it takes effect one boundary later (R70, R410, R414). -/
def Lane.okStatus (n : Lane) (addr : Nat) (late : Bool) : Nat :=
  if n.inHandOver || (late && (UnitId.ofCode (addrUnit addr)).isSome) then 256 else 0

/-- An accepted write (R13, R69-R73, R103, R404): forwarded to its unit, or into the lane's shadow. GO and ABORT act on the staging at once; the W1C
of STRADDLE in the same write takes effect at the boundary. A write in the hand-over cycle takes effect one boundary later and sets STRADDLE; `late`:
it missed the last symbol of the round. -/
def State.takeWrite (s : State) (l : LaneId) (w : Writer) (rid addr value mask : Nat) (late : Bool) : State :=
  let a : RegAcc := ⟨addr, true, BitVec.ofNat 32 value, BitVec.ofNat 32 mask⟩
  let n := s.lanes.get l
  let effect := (n.main.time.round + (if n.okStatus addr late = 0 then 1 else 2)) % 16777216
  let m := value &&& mask
  match UnitId.ofCode (addrUnit addr) with
  | some u =>
    let x : ShadowWrite := ⟨some w, a, effect, rid⟩
    let grouped := inGroup (s.ucom.get u).shadow addr
    s.setLane l ((n.forward u a late).onMain (fun y =>
      if grouped then { y with groupSent := y.groupSent ++ [x] } else { y with sent := y.sent ++ [x] }))
  | none =>
    let isCommit : Bool := addrUnit addr = l.code && addrBlock addr = 1 && addrOff addr = 0x14 && (m.testBit 0 || m.testBit 1)
    let n := if isCommit then n.onMain (fun x => x.commitBits (m.testBit 1)) else n
    s.setLane l (if isCommit ∧ ¬ m.testBit 3 then n else n.onMain (fun x =>
      let h := shadowAdd x.shadow ⟨some w, a, effect, rid⟩
      { x with shadow := if n.inHandOver then h.straddled else h }))

/-- A refused write to the CNV_ block, or a refused commit, leaves its code in CNV_STATUS (R89, R98, R99). -/
def State.noteRefusal (s : State) (l : LaneId) (addr st : Nat) : State :=
  if addrUnit addr = 15 ∨ (addrUnit addr = l.code ∧ addrBlock addr = 0xF) then s.setLane l ((s.lanes.get l).cnvRefused st) else s

/-- One register write of a request: its status, and the state after it. -/
def State.svcWrite (s : State) (l : LaneId) (w : Writer) (rid addr value mask : Nat) (late : Bool) : State × Nat :=
  let st := s.writeStatus l w addr value mask
  if st = 0 then (s.takeWrite l w rid addr value mask late, (s.lanes.get l).okStatus addr late)
  else (s.noteRefusal l addr st, st)

/-- The register writes a COMMIT names, one per block (R406). -/
def commitWrites (units : Nat) : List Nat :=
  ((List.range 14).filter (fun c => 1 ≤ c && units.testBit c)).map (fun c => c * 268435456 + 0x100014)

/-- A run of register writes that stand or fall together: the first status that is not OK, or all of them taken. -/
def State.svcWrites (s : State) (l : LaneId) (w : Writer) (rid : Nat) (ws : List (Nat × Nat)) (late : Bool) : State × Nat :=
  match ws.find? (fun e => s.writeStatus l w e.1 e.2 0xFFFFFFFF ≠ 0) with
  | some e => (s.noteRefusal l e.1 (s.writeStatus l w e.1 e.2 0xFFFFFFFF), s.writeStatus l w e.1 e.2 0xFFFFFFFF)
  | none => (ws.foldl (fun s e => s.takeWrite l w rid e.1 e.2 0xFFFFFFFF late) s, (s.lanes.get l).okStatus ((ws.map Prod.fst).headD 0) late)

/-- The status of a READ before it is served (R7, R8, R404, R410). -/
def State.readStatus (s : State) (l : LaneId) (count addr : Nat) : Nat :=
  let u := addrUnit addr
  if 1 ≤ u ∧ u ≤ 3 ∧ u ≠ l.code then (if addrOff addr % 4 = 0 then 9 else 5)
  else if ¬ (List.range count).all (fun i =>
      addrBlock (addr + 4 * i) = addrBlock addr && addrUnit (addr + 4 * i) = u && (s.regValue l (addr + 4 * i)).isSome) then 5
  else if ¬ s.reaches l addr then 0xA
  else 0

/-- A settled operation without words. -/
def settled (st : Nat) : PendOp := .done ⟨st, []⟩

/-- A COMMIT in lane l (R406, R414): one write per block named; the blocks of other lanes are theirs. -/
def State.svcCommit (s : State) (l : LaneId) (w : Writer) (rid kind units : Nat) (late : Bool) : State × Nat :=
  let mine := (commitWrites units).filter (fun a => !(decide (1 ≤ addrUnit a ∧ addrUnit a ≤ 3) && decide (addrUnit a ≠ l.code)))
  if mine = [] then (s, 9)
  else
    let bit := if kind = 1 then 1 else 2
    let sts := mine.map (fun a => s.writeStatus l w a bit bit)
    match sts.find? (fun x => x ≠ 0) with
    | some x => (s, x)
    | none => (mine.foldl (fun s a => s.takeWrite l w rid a bit bit late) s,
        if mine.any (fun a => decide ((s.lanes.get l).okStatus a late ≠ 0)) then 256 else 0)

/-- A stream opened or closed (R407). -/
def Lane.setStream (n : Lane) (x : Option Stream) : Lane := n.onMain (fun m => { m with service := { m.service with stream := x } })

/-- A WSTREAM in lane l (R406, R407): it ends the stream before it; the lane it names opens one. -/
def State.svcStream (s : State) (l : LaneId) (w : Writer) (rid lane offset : Nat) : State × Nat :=
  let n := s.lanes.get l
  let st := if n.main.office.holder ≠ some w.id then 1 else s.cnvGate l
  if st ≠ 0 then (s.setLane l (n.cnvRefused st), st)
  else (s.setLane l (n.setStream (some ⟨w.id, lane, offset, rid⟩)), if lane = l.code then 0 else 9)

/-- One operation of a request in lane l (R406). -/
def State.svcOp (s : State) (l : LaneId) (w : Writer) (rid : Nat) (late : Bool) : SvcOp → State × PendOp
  | .read count addr =>
    let st := s.readStatus l count addr
    (s, if st = 0 then .read ((List.range count).map (fun i => (addr + 4 * i, none))) else settled st)
  | .write addr value mask => let r := s.svcWrite l w rid addr value mask late; (r.1, settled r.2)
  | .bwrite addr ws =>
    let same : Bool := (List.range ws.length).all (fun i => addrBlock (addr + 4 * i) = addrBlock addr && addrUnit (addr + 4 * i) = addrUnit addr)
    if same then
      let r := s.svcWrites l w rid (ws.zipIdx.map (fun e => (addr + 4 * e.2, e.1))) late
      (r.1, settled r.2)
    else (s, settled 5)
  | .commit kind units => let r := s.svcCommit l w rid kind units late; (r.1, settled r.2)
  | .wstream lane offset => let r := s.svcStream l w rid lane offset; (r.1, settled r.2)
  | .bad => (s, settled 0xB)

/-- The bytes an operation takes in a reply (R410): a READ that is served adds its words. -/
def State.replySize (s : State) (l : LaneId) : SvcOp → Nat
  | .read count addr => if s.readStatus l count addr = 0 then 4 + 4 * count else 4
  | _ => 4

/-- The operations of a request in order (R408, R410): those whose reply still fits. -/
def State.svcOps (s : State) (l : LaneId) (w : Writer) (rid : Nat) (late : Bool) : Nat → List SvcOp → State × List PendOp
  | _, [] => (s, [])
  | room, o :: os =>
    if room < s.replySize l o then (s, [])
    else
      let r := s.svcOp l w rid late o
      let rest := State.svcOps r.1 l w rid late (room - s.replySize l o) os
      (rest.1, r.2 :: rest.2)

/-- The room for the reply to a sender in lane l (R410): the LEN of its first SREP slot on the lane's plane, the largest payload on the
service port or where there is no such slot. -/
def Lane.replyRoom (n : Lane) (l : LaneId) (w : Writer) : Nat :=
  match w.via with
  | .port => 1432
  | .plane _ =>
    match n.main.canvas.slots.find? (fun e => e.tx && e.plane = l.idx && decide (e.kind = 6) && e.peer = w.id) with
    | some e => e.len - 8
    | none => 1432

/-- Whether a lane takes part in the register service (R98, R105): while it computes, and in SERVICE where it is not restarting. -/
def Lane.serves (n : Lane) : Bool := n.takesCanvas && (n.computing || decide (n.main.mode.mode = .service))

/-- Whether a request by a path is served (R13, R254, R389, R408, R412): from a joined sender with an SREQ slot on a plane not under step 1, or from
the session peer. -/
def State.servesVia (s : State) (l : LaneId) (sender : Nat) (via : Via) : Bool :=
  let n := s.lanes.get l
  n.serves && (match via with
    | .port => s.portLive && s.sessionPeer sender
    | .plane p => !(s.lanes.get p).aon.pwr.step1 && s.joinedPeer l ⟨sender, via⟩ &&
        n.main.canvas.slots.any (fun e => !e.tx && e.plane = p.idx && decide (e.kind = 5) && e.peer = sender))

/-- A request joins those that await their boundary. -/
def Lane.queueRequest (n : Lane) (r : PendReq) : Lane :=
  n.onMain (fun m => { m with service := { m.service with reqs := m.service.reqs ++ [r] } })

/-- Lane l's copies of an access to a unit are taken back from its unit, from what has crossed for this boundary and what it still forwards. -/
def State.takeBack (s : State) (l : LaneId) (a : RegAcc) : State :=
  match UnitId.ofCode (addrUnit a.addr) with
  | none => s
  | some u =>
    let k := (s.ucom.get u).links.get l
    (s.setUnit u ((s.ucom.get u).setLink l { k with writes := k.writes.filter (fun x => x ≠ a) })).setLane l
      ((s.lanes.get l).onUnit u (fun v => { v with fwd := v.fwd.filter (fun x => x ≠ a) }))

/-- A copy of a request that came over a plane is withdrawn in its cycle (R408): its writes, its accesses to units and what it awaits. DEDUCED (log
entry 142): a GO, an ABORT or a WSTREAM of it has acted and stays. -/
def State.withdraw (s : State) (l : LaneId) (w : Writer) (rid : Nat) : State :=
  let n := s.lanes.get l
  let now := n.main.time.round
  let gone := fun (x : ShadowWrite) => decide (x.who = some w ∧ x.rid = rid ∧ x.effect ≠ now ∧ roundsSince now x.effect ≤ 2)
  let t := ((n.main.sent ++ n.main.groupSent).filter gone).foldl (fun s x => s.takeBack l x.acc) s
  t.setLane l ((t.lanes.get l).onMain (fun m =>
    let due := m.shadow.due.filter (fun x => !gone x)
    { m with
      shadow := { m.shadow with due := due, staged := m.shadow.staged.filter (fun x => !gone x)
                                pend := m.shadow.pend && due.any (fun x => inGroup m.shadow x.acc.addr) }
      sent := m.sent.filter (fun x => !gone x), groupSent := m.groupSent.filter (fun x => !gone x)
      service := { m.service with
        reqs := m.service.reqs.filter (fun r => r.served || !decide (r.sender = w.id ∧ r.via = w.via ∧ r.rid = rid)) } }))

/-- The planes over which copies of a request have been acted on in this cycle. -/
def Service.copies (v : Service) (sender rid : Nat) : List Nat :=
  (v.seen.filter (fun e => e.1 = sender && e.2.1 = rid)).map (fun e => e.2.2)

/-- Whether a copy of a request on a lower-lettered plane has been acted on in this cycle (R408). -/
def Service.acted (v : Service) (sender rid : Nat) : Via → Bool
  | .port => false
  | .plane p => (v.copies sender rid).any (fun q => decide (q < p.idx))

/-- A copy of a request that is to act (R408): those of higher-lettered planes are withdrawn. -/
def State.copyIn (s : State) (l : LaneId) (w : Writer) (rid : Nat) : State :=
  match w.via with
  | .port => s
  | .plane p =>
    let old := allLanes.filter (fun q => decide (p.idx < q.idx) && ((s.lanes.get l).main.service.copies w.id rid).contains q.idx)
    let t := old.foldl (fun s q => s.withdraw l ⟨w.id, .plane q⟩ rid) s
    t.setLane l ((t.lanes.get l).onMain (fun m => { m with service := { m.service with seen := m.service.seen ++ [(w.id, rid, p.idx)] } }))

/-- Whether an operation's write takes effect one boundary later (R410). -/
def PendOp.straddles : PendOp → Bool
  | .done r => r.status.testBit 8
  | .read _ => false

/-- SERVICE_REQUEST (R405, R408): acted on from its lowest-lettered plane's copy. One that lands in the hand-over cycle, or whose write to a unit
misses the round's last symbol, is served one boundary later. A payload that ends before its header does is a truncated request, its missing bytes
read as 0 (R410, log entry 143). -/
def execServiceRequest (l : LaneId) (sender : Nat) (via : Via) (req : ReqFrame) (s : State) : Host.Outcome State Fault Refusal :=
  let payload := req.payload
  let rid := u16At payload 0
  let w : Writer := ⟨sender, via⟩
  .next (if s.servesVia l sender via ∧ payload.length ≠ 1440 ∧ ¬ (s.lanes.get l).main.service.acted sender rid via then
    let s := s.copyIn l w rid
    let n := s.lanes.get l
    let r := s.svcOps l w rid (n.lateForUnits req.arrive) (n.replyRoom l w) (requestOps payload)
    r.1.setLane l ((r.1.lanes.get l).queueRequest
      ⟨sender, via, rid, (n.main.time.round + 1) % 16777216, r.2, n.inHandOver || r.2.any PendOp.straddles, false⟩)
  else s)

/-- The writes of a stream frame (R407): the page register, then its words, as the stream crosses pages. -/
def streamWrites (l : LaneId) (offset : Nat) (payload : Bytes) : List (Nat × Nat) :=
  let base := l.code * 268435456 + 0xF00000
  (List.range 360).flatMap (fun i =>
    let o := offset + 4 * i
    (if i = 0 ∨ o % 4096 = 0 then [(base + 0x14, 4096 * (o / 4096))] else []) ++ [(base + 0x1000 + o % 4096, u32At payload (4 * i))])

/-- The words of a stream frame taken as a BWRITE takes them (R407); where they are, the stream goes on. -/
def State.streamWords (s : State) (l : LaneId) (w : Writer) (x : Stream) (payload : Bytes) : State × Nat :=
  let r := s.svcWrites l w x.rid (streamWrites l x.offset payload) false
  (if r.2 % 256 = 0 then r.1.setLane l ((r.1.lanes.get l).setStream (some { x with offset := x.offset + 1440 })) else r.1, r.2)

/-- What a lane makes of a stream frame (R407): its status and the RID of its WSTREAM. -/
def State.streamTake (s : State) (l : LaneId) (sender : Nat) (w : Writer) (payload : Bytes) : State × Nat × Nat :=
  let n := s.lanes.get l
  match n.main.service.stream with
  | none => (s, 0xB, 0)
  | some x =>
    if x.sender ≠ sender ∨ 4192864 < x.offset then (s, 0xB, x.rid)
    else if x.lane ≠ l.code then (s.setLane l (n.setStream (some { x with offset := x.offset + 1440 })), 9, x.rid)
    else let r := s.streamWords l w x payload; (r.1, r.2, x.rid)

/-- STREAM_FRAME (R407): with the checks and the reply of a BWRITE. -/
def execStreamFrame (l : LaneId) (sender : Nat) (via : Via) (payload : Bytes) (s : State) : Host.Outcome State Fault Refusal :=
  .next (if s.servesVia l sender via ∧ payload.length = 1440 then
    let r := s.streamTake l sender ⟨sender, via⟩ payload
    r.1.setLane l ((r.1.lanes.get l).queueRequest
      ⟨sender, via, r.2.2, ((s.lanes.get l).main.time.round + 1) % 16777216, [settled r.2.1], (s.lanes.get l).inHandOver, false⟩)
  else s)

/-- A write to OWN_CTRL takes effect (R337, R338). -/
def State.ownCtrl (s : State) (l : LaneId) (w : Writer) (v mask : Nat) : State :=
  let m := v &&& mask
  let s := s.setLane l ((s.lanes.get l).onOffice (fun o => ownWrite o v mask))
  let s := if s.sessionPeer w.id then s.setLane l ((s.lanes.get l).onOffice (fun o => { o with
      spclaim := o.spclaim || m.testBit 2, sprel := o.sprel || m.testBit 3 })) else s
  let s := if m.testBit 0 then s.svcreq l w else s
  let s := if m.testBit 4 then s.sketch l w else s
  if m.testBit 1 then s.svcexit l w else s

/-- Whether two rounds lie at most three apart. -/
def nearRound (a b : Nat) : Bool := decide (roundsSince a b < 4 ∨ roundsSince b a < 4)

/-- A write to the Polvin core takes effect once per request (R411): the copies of other lanes with the same SENDER, RID and ROUND are
ignored. -/
def State.polvinWrite (s : State) (l : LaneId) (w : Writer) (x : ShadowWrite) : State :=
  let off := addrOff x.acc.addr
  let v := x.acc.value.toNat
  let mask := x.acc.mask.toNat
  let other : Bool := s.polvin.seen.any (fun e => decide (e.1 = w.id ∧ e.2.1 = x.rid ∧ e.2.2.1 = x.effect ∧ e.2.2.2 ≠ l.code))
  if s.polvin.dom = .on ∧ ¬ other then
    let k := (w.id, x.rid, x.effect, l.code)
    let s := { s with polvin := { s.polvin with
      seen := (s.polvin.seen.filter (fun e => nearRound e.2.2.1 x.effect && decide (e ≠ k))) ++ [k] } }
    if addrBlock x.acc.addr = 0xE then s.secWrite off v mask w
    else if 0x60 ≤ off ∧ off < 0x80 then (wordSources ((off - 0x60) / 4) (v &&& mask)).foldl (fun s k => s.forcePolvin k) s
    else { s with polvin := { s.polvin with evt := evtWrite .polvin s.polvin.evt off v mask } }
  else s

/-- A write of the shadow takes effect, or is discarded with PERM_LAPSE (R13, R103). -/
def State.applyWrite (s : State) (l : LaneId) (x : ShadowWrite) : State :=
  let n := s.lanes.get l
  let a := x.acc.addr
  let v := x.acc.value.toNat
  let mask := x.acc.mask.toNat
  let w : Writer := x.who.getD ⟨0, .port⟩
  if ¬ n.stillPermitted l x then s.setLane l (n.event l 5)
  else if addrUnit a = 14 then s.polvinWrite l w x
  else if addrUnit a = 15 then s.commit l (some w) (v &&& mask) (((v &&& mask) / 65536) % 256) (!s.polvin.logBad)
  else if addrBlock a = 0xD ∧ addrOff a = 0x30 then s.ownCtrl l w v mask
  else s.setLane l (laneWrite n l a v mask)

/-- A forwarded write that has lapsed in lane l: its copy is taken back from the unit, and PERM_LAPSE raised (R103). -/
def State.lapse (s : State) (l : LaneId) (w : ShadowWrite) : State :=
  let t := s.takeBack l w.acc
  t.setLane l ((t.lanes.get l).event l 5)

/-- The forwarded writes whose boundary has come are judged again by step 2 of R103. -/
def State.lapseDue (s : State) (l : LaneId) : State :=
  let n := s.lanes.get l
  let now := n.main.time.round
  let gone := n.main.sent.filter (fun w => reached w.effect now && !n.stillPermitted l w)
  gone.foldl (fun s w => s.lapse l w)
    (s.setLane l (n.onMain (fun m => { m with sent := m.sent.filter (fun w => !reached w.effect now) })))

/-- The writes whose boundary has come take effect in their order (R13, R70, R71). -/
def State.applyDue (s : State) (l : LaneId) : State :=
  let n := s.lanes.get l
  let now := n.main.time.round
  let due := n.main.shadow.due.filter (fun w => reached w.effect now)
  let s := s.setLane l (n.onMain (fun m =>
    let rest := m.shadow.due.filter (fun w => !reached w.effect now)
    { m with shadow := { m.shadow with due := rest, pend := m.shadow.pend && rest.any (fun w => inGroup m.shadow w.acc.addr) } }))
  due.foldl (fun s w => s.applyWrite l w) s

/-- One register served in lane l at the boundary (R9, R404, R408): its value, its RC fields cleared; a unit's register is forwarded. -/
def State.serveReg (s : State) (l : LaneId) (addr : Nat) : State × Option Nat :=
  match UnitId.ofCode (addrUnit addr) with
  | some u => (s.setLane l ((s.lanes.get l).forward u ⟨addr, false, 0, 0⟩), none)
  | none =>
    if addrUnit addr = 14 then (s, some ((polvinRead s addr).getD 0))
    else (s.setLane l (laneReadClear (s.lanes.get l) l addr), some ((laneRead s l addr).getD 0))

/-- Registers served in order. -/
def State.serveRegs (s : State) (l : LaneId) : List (Nat × Option Nat) → State × List (Nat × Option Nat)
  | [] => (s, [])
  | e :: es =>
    let r := s.serveReg l e.1
    let q := State.serveRegs r.1 l es
    (q.1, (e.1, r.2) :: q.2)

/-- The operations of a request served at its boundary (R408). -/
def State.serveOps (s : State) (l : LaneId) : List PendOp → State × List PendOp
  | [] => (s, [])
  | o :: os =>
    let r : State × PendOp := match o with
      | .done x => (s, .done x)
      | .read vs => let q := s.serveRegs l vs; (q.1, .read q.2)
    let q := State.serveOps r.1 l os
    (q.1, r.2 :: q.2)

/-- The requests whose boundary has come are served. -/
def State.serveReqs (s : State) (l : LaneId) : List PendReq → State × List PendReq
  | [] => (s, [])
  | r :: rs =>
    let x : State × PendReq :=
      if ¬ r.served ∧ reached ((r.effect + b2n r.late) % 16777216) (s.lanes.get l).main.time.round then
        let q := s.serveOps l r.ops
        (q.1, { r with ops := q.2, served := true })
      else (s, r)
    let q := State.serveReqs x.1 l rs
    (q.1, x.2 :: q.2)

/-- A READ as a result: its words when all are known; UNIT where the unit can no longer answer. -/
def State.readDone (s : State) (l : LaneId) : PendOp → Option OpResult
  | .done r => some r
  | .read vs =>
    if vs.all (fun e => e.2.isSome) then some ⟨0, vs.map (fun e => e.2.getD 0)⟩
    else if vs.any (fun e => e.2.isNone && !s.reaches l e.1) then some ⟨0xA, []⟩
    else none

/-- A reply joins the waiting ones of its sender (R408): the oldest of sixteen makes room. -/
def addReply (rs : List Reply) (r : Reply) : List Reply :=
  if (rs.filter (fun x => x.sender = r.sender)).length < 16 then rs ++ [r]
  else (match rs.find? (fun x => x.sender = r.sender) with | some x => rs.erase x | none => rs) ++ [r]

/-- The requests that are complete become replies, those of one sender in their order (R408). -/
def State.finishReqs (s : State) (l : LaneId) : State :=
  let n := s.lanes.get l
  let step := fun (acc : List PendReq × List Reply) (r : PendReq) =>
    let ops := r.ops.map (s.readDone l)
    if r.served ∧ ops.all (fun o => o.isSome) ∧ ¬ acc.1.any (fun x => x.sender = r.sender) then
      (acc.1, addReply acc.2 ⟨r.sender, r.via, r.rid, r.effect, ops.filterMap id⟩)
    else (acc.1 ++ [r], acc.2)
  let out := n.main.service.reqs.foldl step ([], n.main.service.replies)
  s.setLane l (n.onMain (fun m => { m with service := { m.service with reqs := out.1, replies := out.2 } }))

/-- The Polvin core discards what lane l's interface delivers malformed at this boundary, with IFACE of that lane (R367). -/
def State.badInterface (s : State) (l : LaneId) : State :=
  let n := s.lanes.get l
  let bad := fun (w : ShadowWrite) => decide (addrUnit w.acc.addr = 14) && reached w.effect n.main.time.round
  if s.polvin.dom = .on ∧ n.main.shadow.due.any bad then
    (s.setLane l (n.onMain (fun m => { m with shadow := { m.shadow with due := m.shadow.due.filter (fun w => !bad w) } }))).polvinEvent (7 + l.idx)
  else s

/-- REGISTER_WRITE (R13, R70, R103, R408): at a lane's round boundary the writes of its shadow take effect, then the reads of the requests
are served. -/
def execRegisterWrite (m : LaneErr) (s : State) : Host.Outcome State Fault Refusal :=
  let l := m.lane
  .next (if (s.lanes.get l).serves then
    let s := ((if m.err then s.badInterface l else s).lapseDue l).applyDue l
    let r := s.serveReqs l (s.lanes.get l).main.service.reqs
    ((r.1.setLane l ((r.1.lanes.get l).onMain (fun m => { m with service := { m.service with reqs := r.2 } }))).syncInhibit).finishReqs l
  else s)

/-- A reply of lane l on the service port (R338, R410): tagged under the session key, with the next frame counter. -/
def State.portReply (s : State) (l : LaneId) : State :=
  let n := s.lanes.get l
  match n.main.service.replies.find? (fun r => decide (r.via = .port)) with
  | none => s
  | some r =>
    if s.port.up ∧ s.portLive ∧ s.port.peer = some r.sender then
      let b := replyBytes l r 1440
      let c := n.main.canvas.net
      let h := headerOf 8 0 (s.port.txCtr.get l) 1 c.self b.length 0 r.sender
      let f := frameOf (if c.etype = 0 then 0x88B5 else c.etype) 0 c.self r.sender h b (some s.port.key)
      let n := (n.onNet (fun m => { m with sent := some (1, 8, f) })).dropReply r b
      { s.setLane l n with port := { s.port with txCtr := s.port.txCtr.set l (s.port.txCtr.get l + 1) } }
    else s

/-- Whether it is lane l's turn on the service port (R410): the lanes before it that take part have sent their replies to the request. -/
def State.portTurn (s : State) (l : LaneId) : Bool :=
  match (s.lanes.get l).main.service.replies.find? (fun r => decide (r.via = .port)) with
  | none => false
  | some r => allLanes.all (fun k =>
      let v := (s.lanes.get k).main.service
      decide (l.idx ≤ k.idx) || !(s.lanes.get k).serves ||
        !(v.replies.any (fun x => decide (x.via = .port ∧ x.rid = r.rid ∧ x.effect = r.effect)) ||
          v.reqs.any (fun x => decide (x.via = .port ∧ x.rid = r.rid ∧ x.effect = r.effect))))

/-- SERVICE_REPLY (R408, R410): in the first SREP slot of the lane's plane addressed to a sender whose reply waits, or on the service
port in the order of the lanes. -/
def execServiceReply (l : LaneId) (via : Via) (s : State) : Host.Outcome State Fault Refusal :=
  .next (if (s.lanes.get l).serves then
    let s := s.finishReqs l
    let n := s.lanes.get l
    match via with
    | .port => if s.portTurn l then s.portReply l else s
    | .plane p =>
      if p = l ∧ n.transmits then
        match n.main.canvas.slots.find? (fun e => e.tx && e.plane = l.idx && decide (e.kind = 6) &&
            n.main.service.replies.any (fun r => r.sender = e.peer && decide (r.via ≠ .port))) with
        | some e => s.setLane l (n.sendReply l e)
        | none => s
      else s
  else s)

end Sys2Proof.Machine
end

