-- ==== Sys2Proof/Machine/Dispatch.lean ====
section
/-! DEFINITION. The effect of every command on everything but the queue: one arm per row of the command table. -/
namespace Sys2Proof.Machine
open Sys2Proof

def exec (i : Instr) (s : State) : Host.Outcome State Fault Refusal :=
  match i with
  | .tickBoundary smp => Sys2Proof.Machine.execTickBoundary smp s
  | .tickMarkArrival u l rx arrival => Sys2Proof.Machine.execTickMarkArrival u l rx arrival s
  | .roundBoundary ag turned => Sys2Proof.Machine.execRoundBoundary ag turned s
  | .measurementBlock l u rx late stale => Sys2Proof.Machine.execMeasurementBlock l u rx late stale s
  | .commandBlock u l rx stale => Sys2Proof.Machine.execCommandBlock u l rx stale s
  | .registerSymbol u l rx => Sys2Proof.Machine.execRegisterSymbol u l rx s
  | .eventSymbol l u rx crc => Sys2Proof.Machine.execEventSymbol l u rx crc s
  | .commandDeadline u => Sys2Proof.Machine.execCommandDeadline u s
  | .voterSelfTest u ok => Sys2Proof.Machine.execVoterSelfTest u ok s
  | .missingWithdrawal u => Sys2Proof.Machine.execMissingWithdrawal u s
  | .tickWorkStart l upsets => Sys2Proof.Machine.execTickWorkStart l upsets s
  | .postingDeadline l miss => Sys2Proof.Machine.execPostingDeadline l miss s
  | .roundOverrun l => Sys2Proof.Machine.execRoundOverrun l s
  | .verdictCheck l finds => Sys2Proof.Machine.execVerdictCheck l finds s
  | .engineTest failed => Sys2Proof.Machine.execEngineTest failed s
  | .readbackCrc read => Sys2Proof.Machine.execReadbackCrc read s
  | .tightropeLimit l => Sys2Proof.Machine.execTightropeLimit l s
  | .standstill l => Sys2Proof.Machine.execStandstill l s
  | .backstop j => Sys2Proof.Machine.execBackstop j s
  | .startupTimeout l => Sys2Proof.Machine.execStartupTimeout l s
  | .suppliesGood l => Sys2Proof.Machine.execSuppliesGood l s
  | .laneReset l => Sys2Proof.Machine.execLaneReset l s
  | .clockSwitch l => Sys2Proof.Machine.execClockSwitch l s
  | .signatureVerdict l => Sys2Proof.Machine.execSignatureVerdict l s
  | .polvinTimeout l => Sys2Proof.Machine.execPolvinTimeout l s
  | .translationDone l cached kept => Sys2Proof.Machine.execTranslationDone l cached kept s
  | .retryingEntry l => Sys2Proof.Machine.execRetryingEntry l s
  | .restartDone rd => Sys2Proof.Machine.execRestartDone rd s
  | .restartTimeout l => Sys2Proof.Machine.execRestartTimeout l s
  | .retirementRecordWrite l answered => Sys2Proof.Machine.execRetirementRecordWrite l answered s
  | .commitTarget l => Sys2Proof.Machine.execCommitTarget l s
  | .serviceRequest l sender via req => Sys2Proof.Machine.execServiceRequest l sender via req s
  | .streamFrame l sender via payload => Sys2Proof.Machine.execStreamFrame l sender via payload s
  | .serviceReply l via => Sys2Proof.Machine.execServiceReply l via s
  | .registerWrite m => Sys2Proof.Machine.execRegisterWrite m s
  | .go ag => Sys2Proof.Machine.execGo ag s
  | .abort ag => Sys2Proof.Machine.execAbort ag s
  | .start l => Sys2Proof.Machine.execStart l s
  | .slotErased l => Sys2Proof.Machine.execSlotErased l s
  | .cnvWinWrite l offset value => Sys2Proof.Machine.execCnvWinWrite l offset value s
  | .check l => Sys2Proof.Machine.execCheck l s
  | .checkDone l code => Sys2Proof.Machine.execCheckDone l code s
  | .loadAbort l => Sys2Proof.Machine.execLoadAbort l s
  | .cnvCmt l hash delay logOk => Sys2Proof.Machine.execCnvCmt l hash delay logOk s
  | .svcreq l sender => Sys2Proof.Machine.execSvcreq l sender s
  | .svcexit l sender => Sys2Proof.Machine.execSvcexit l sender s
  | .spclaim l => Sys2Proof.Machine.execSpclaim l s
  | .sprel l succ => Sys2Proof.Machine.execSprel l succ s
  | .sketch l sender => Sys2Proof.Machine.execSketch l sender s
  | .newchal w => Sys2Proof.Machine.execNewchal w s
  | .enrol w => Sys2Proof.Machine.execEnrol w s
  | .rotate w => Sys2Proof.Machine.execRotate w s
  | .passwd w => Sys2Proof.Machine.execPasswd w s
  | .unlock w => Sys2Proof.Machine.execUnlock w s
  | .lockoutEnd => Sys2Proof.Machine.execLockoutEnd s
  | .unlockExpiry => Sys2Proof.Machine.execUnlockExpiry s
  | .challengeExpiry => Sys2Proof.Machine.execChallengeExpiry s
  | .lock w => Sys2Proof.Machine.execLock w s
  | .varnish w => Sys2Proof.Machine.execVarnish w s
  | .strip w => Sys2Proof.Machine.execStrip w s
  | .cert w => Sys2Proof.Machine.execCert w s
  | .bkey w => Sys2Proof.Machine.execBkey w s
  | .ceremonyDone logOk => Sys2Proof.Machine.execCeremonyDone logOk s
  | .unretire w mask => Sys2Proof.Machine.execUnretire w mask s
  | .attestationRequest index value => Sys2Proof.Machine.execAttestationRequest index value s
  | .reportReady => Sys2Proof.Machine.execReportReady s
  | .clrbf j => Sys2Proof.Machine.execClrbf j s
  | .clrcf j => Sys2Proof.Machine.execClrcf j s
  | .clrlatch j => Sys2Proof.Machine.execClrlatch j s
  | .rearmRequest j => Sys2Proof.Machine.execRearmRequest j s
  | .supplyRestart x p => Sys2Proof.Machine.execSupplyRestart x p s
  | .compareArm f c e ctl => Sys2Proof.Machine.execCompareArm f c e ctl s
  | .comparePositionWrite f c e p => Sys2Proof.Machine.execComparePositionWrite f c e p s
  | .ringStart l r => Sys2Proof.Machine.execRingStart l r s
  | .ringStop l r => Sys2Proof.Machine.execRingStop l r s
  | .ringClr l r => Sys2Proof.Machine.execRingClr l r s
  | .force h src => Sys2Proof.Machine.execForce h src s
  | .severeClear h src => Sys2Proof.Machine.execSevereClear h src s
  | .clrce l => Sys2Proof.Machine.execClrce l s
  | .windowExpiry h src => Sys2Proof.Machine.execWindowExpiry h src s
  | .frameReceive l f => Sys2Proof.Machine.execFrameReceive l f s
  | .beaconReceive l f => Sys2Proof.Machine.execBeaconReceive l f s
  | .listenExpiry l => Sys2Proof.Machine.execListenExpiry l s
  | .beaconLost l => Sys2Proof.Machine.execBeaconLost l s
  | .slotTransmit l slot depart => Sys2Proof.Machine.execSlotTransmit l slot depart s
  | .joinMsg1 l f => Sys2Proof.Machine.execJoinMsg1 l f s
  | .joinMsg3 l f => Sys2Proof.Machine.execJoinMsg3 l f s
  | .joinMsg2 l peer => Sys2Proof.Machine.execJoinMsg2 l peer s
  | .joinMsg4 l peer => Sys2Proof.Machine.execJoinMsg4 l peer s
  | .keyEpochAdvance => Sys2Proof.Machine.execKeyEpochAdvance s
  | .cyclePoint l k => Sys2Proof.Machine.execCyclePoint l k s
  | .rmVacant l => Sys2Proof.Machine.execRmVacant l s
  | .sessionOpen msgs => Sys2Proof.Machine.execSessionOpen msgs s
  | .sessionEnd => Sys2Proof.Machine.execSessionEnd s
  | .guidanceSystemCommand l sa data => Sys2Proof.Machine.execGuidanceSystemCommand l sa data s
  | .addressClaim m => Sys2Proof.Machine.execAddressClaim m s
  | .requestForAddressClaimed m => Sys2Proof.Machine.execRequestForAddressClaimed m s
  | .canBusoff l => Sys2Proof.Machine.execCanBusoff l s
  | .fdFrame l ident data => Sys2Proof.Machine.execFdFrame l ident data s
  | .desat j leg high => Sys2Proof.Machine.execDesat j leg high s
  | .slp j leg high => Sys2Proof.Machine.execSlp j leg high s
  | .comparatorTest j responded => Sys2Proof.Machine.execComparatorTest j responded s
  | .ov1 j => Sys2Proof.Machine.execOv1 j s
  | .ov1Release j => Sys2Proof.Machine.execOv1Release j s
  | .ov2 j => Sys2Proof.Machine.execOv2 j s
  | .ov2Release j => Sys2Proof.Machine.execOv2Release j s
  | .busUv j => Sys2Proof.Machine.execBusUv j s
  | .busUvRelease j => Sys2Proof.Machine.execBusUvRelease j s
  | .chopperFault j => Sys2Proof.Machine.execChopperFault j s
  | .chopperTestPulse j current => Sys2Proof.Machine.execChopperTestPulse j current s
  | .hot j energy => Sys2Proof.Machine.execHot j energy s
  | .chopperLimit b on => Sys2Proof.Machine.execChopperLimit b on s
  | .regenTrip j => Sys2Proof.Machine.execRegenTrip j s
  | .regenTripEnd j => Sys2Proof.Machine.execRegenTripEnd j s
  | .speedCrossing j rpm => Sys2Proof.Machine.execSpeedCrossing j rpm s
  | .islandClockLoss j => Sys2Proof.Machine.execIslandClockLoss j s
  | .quadEdge f c up offset => Sys2Proof.Machine.execQuadEdge f c up offset s
  | .indexPulse f c => Sys2Proof.Machine.execIndexPulse f c s
  | .converterUpdate f c u => Sys2Proof.Machine.execConverterUpdate f c u s
  | .reacq f c offset => Sys2Proof.Machine.execReacq f c offset s
  | .sentFrame f c rx => Sys2Proof.Machine.execSentFrame f c rx s
  | .comparePulseEnd f c => Sys2Proof.Machine.execComparePulseEnd f c s
  | .zero f c => Sys2Proof.Machine.execZero f c s
  | .testPulseOff x p => Sys2Proof.Machine.execTestPulseOff x p s
  | .testPulseOn x p => Sys2Proof.Machine.execTestPulseOn x p s
  | .xsClear x j => Sys2Proof.Machine.execXsClear x j s
  | .psupOc x p => Sys2Proof.Machine.execPsupOc x p s
  | .pgood x p => Sys2Proof.Machine.execPgood x p s
  | .oredFeedLow x => Sys2Proof.Machine.execOredFeedLow x s
  | .oredFeedReturn x => Sys2Proof.Machine.execOredFeedReturn x s
  | .laneShed l mv => Sys2Proof.Machine.execLaneShed l mv s
  | .shedRelease l mv => Sys2Proof.Machine.execShedRelease l mv s
  | .dropOut l => Sys2Proof.Machine.execDropOut l s
  | .mainOff l => Sys2Proof.Machine.execMainOff l s
  | .alwaysOnOff l => Sys2Proof.Machine.execAlwaysOnOff l s
  | .retentionReturn l => Sys2Proof.Machine.execRetentionReturn l s
  | .sleep u => Sys2Proof.Machine.execSleep u s
  | .sleepAck l => Sys2Proof.Machine.execSleepAck l s
  | .cancel l => Sys2Proof.Machine.execCancel l s
  | .sleepRefusal h => Sys2Proof.Machine.execSleepRefusal h s
  | .wake l src => Sys2Proof.Machine.execWake l src s
  | .wakeReplay l => Sys2Proof.Machine.execWakeReplay l s
  | .domainRequest d target => Sys2Proof.Machine.execDomainRequest d target s
  | .wakeRequest d => Sys2Proof.Machine.execWakeRequest d s
  | .linkTraining l u delay => Sys2Proof.Machine.execLinkTraining l u delay s
  | .linkDown l u => Sys2Proof.Machine.execLinkDown l u s
  | .deviceKeyGeneration => Sys2Proof.Machine.execDeviceKeyGeneration s
  | .polvinPowerUp => Sys2Proof.Machine.execPolvinPowerUp s
  | .requestLine l line => Sys2Proof.Machine.execRequestLine l line s
  | .mark l m => Sys2Proof.Machine.execMark l m s
  | .descriptorFetch l r => Sys2Proof.Machine.execDescriptorFetch l r s
  | .burst l r => Sys2Proof.Machine.execBurst l r s
  | .dmaEnd l r => Sys2Proof.Machine.execDmaEnd l r s
  | .buserr l r addr => Sys2Proof.Machine.execBuserr l r addr s
  | .acceptanceWindowClose l slot => Sys2Proof.Machine.execAcceptanceWindowClose l slot s
  | .unitPowerUp u => Sys2Proof.Machine.execUnitPowerUp u s
  | .alwaysOnPowerUp l => Sys2Proof.Machine.execAlwaysOnPowerUp l s
  | .trunkLink l medium up => Sys2Proof.Machine.execTrunkLink l medium up s
  | .unitRetentionLimit u => Sys2Proof.Machine.execUnitRetentionLimit u s
  | .addressClaimLost l => Sys2Proof.Machine.execAddressClaimLost l s

end Sys2Proof.Machine
end

