-- ==== Sys2Proof/Safety.lean ====
section
/-! DEFINITION. What counts as a safe run, in the terms claims use: an island that drives no motor or coil, a step that
goes on, lane bus memory in its canonical form, and states that differ in one part only. -/
namespace Sys2Proof
open Sys2Proof.Machine

/-- The island is in its safe state, OPEN or SHORT (R188, R201). -/
def islandSafe (i : Island) : Prop := i.sw = 1 ∨ i.sw = 2

/-- A cause in force decides OPEN before OV2 is asked (R35, R186): 4, 5, 0xB, 9 on a low side, or 0xD while the undervoltage lasts. -/
def islandOpensFirst (i : Island) : Bool :=
  i.causes.testBit 4 || i.causes.testBit 5 || i.causes.testBit 0xB || (i.causes.testBit 9 && i.gdv.lowFail) ||
    (i.causes.testBit 0xD && i.live.testBit 0xD)

/-- OV2 lasts: its cause is in force and its condition has not ended (R198). -/
def islandOv2Lasts (i : Island) : Bool := i.causes.testBit 6 && i.live.testBit 6

/-- The causes in force decide OPEN whatever the canvas chose (R35): one that does so before OV2, or 0xD while OV2 does not last. -/
def islandForcedOpen (i : Island) : Bool := islandOpensFirst i || (i.causes.testBit 0xD && !islandOv2Lasts i)

/-- An island after its causes have changed (R35, R186, R201): without its clock it is OPEN; else with a cause in force it takes the switch state they give, OPEN first, then OV2 while it lasts,
then 0xD, then the canvas choice; with none it stays as it is. -/
def islandSettled (id : IslandId) (i : Island) : Island :=
  if i.clockLost = true then { i with sw := 1 }
  else if i.causes = 0 then i
  else { i with sw :=
    if islandOpensFirst i then 1 else if islandOv2Lasts i then (if id.isValve then 1 else 2) else if i.causes.testBit 0xD then 1
    else if i.cfg.ssc = 1 ∨ i.cfg.ssc = 2 ∧ i.fast = true then 2 else 1 }

/-- The state with an island's own part replaced. -/
def withIsland (s : State) (i : IslandId) (x : Island) : State := { s with isl := s.isl.set i x }

/-- A unit that runs again: an island takes the state of its causes (R35). -/
def unitSettled (u : UnitId) (s : State) : State :=
  match u with
  | .isl i => withIsland s i (islandSettled i (s.isl.get i))
  | _ => s

/-- A step goes on: it answers a next state. -/
def goesOn (o : Host.Outcome State Fault Refusal) : Prop := ∃ t, o = .next t

/-- The lane bus memory of every lane is in its canonical form. -/
def memCanonical (s : State) : Prop := ∀ l, memWf (s.lanes.get l).main.mem = true

/-- `t` is `s` but for lane `l`. -/
def onlyLane (l : LaneId) (s t : State) : Prop := t = s.setLane l (t.lanes.get l)

/-- `t` is `s` but for the common part of unit `u`. -/
def onlyUnit (u : UnitId) (s t : State) : Prop := t = s.setUnit u (t.ucom.get u)

/-- `t` is `s` but for island `i` and its common part. -/
def onlyIsland (i : IslandId) (s t : State) : Prop := t = s.putIsl i (t.islPair i)

/-- `t` is `s` but for feedback unit `f` and its common part. -/
def onlyFeedback (f : FbId) (s t : State) : Prop := t = s.putFb f (t.ucom.get (.fb f), t.fbk.getF f)

/-- `t` is `s` but for safety-I/O unit `x` and its common part. -/
def onlySafety (x : SioId) (s t : State) : Prop := t = s.putSio x (t.ucom.get (.sio x), t.sio.getS x)

/-- `t` is `s` but for the Polvin core. -/
def onlyPolvin (s t : State) : Prop := t = { s with polvin := t.polvin }

/-- `t` is `s` but for the islands: lanes, other units, Polvin core, session and queue are as they were. -/
def onlyIslands (s t : State) : Prop :=
  t = { s with isl := t.isl, ucom := { s.ucom with isl := t.ucom.isl } }

/-- Channel `c` of a feedback unit. -/
def channelOf (s : State) (f : FbId) (c : Nat) : FbChan := (s.fbk.getF f).ch.getD c {}

/-- The other channels of a feedback unit are as they were. -/
def otherChannels (f : FbId) (c : Nat) (s t : State) : Prop := ∀ k, k ≠ c → channelOf t f k = channelOf s f k

/-- Ring `r` of lane `l`. -/
def ringOf (s : State) (l : LaneId) (r : Nat) : Ring := (s.lanes.get l).main.dma.rings.getD r {}

/-- `t` is `s` but for ring `r` of lane `l`. -/
def onlyRing (l : LaneId) (r : Nat) (s t : State) : Prop :=
  t = s.setLane l { s.lanes.get l with main := { (s.lanes.get l).main with
    dma := { (s.lanes.get l).main.dma with rings := (t.lanes.get l).main.dma.rings } } } ∧
  ∀ k, k ≠ r → ringOf t l k = ringOf s l k

/-- Request line `line` was raised in lane `l` in `t` from `s` (R292): every ring in FETCH or ACTIVE that waits for it counts it up to 15 and drops
it beyond; no other ring changes. -/
def lineRaised (l : LaneId) (line : Nat) (s t : State) : Prop :=
  onlyLane l s t ∧ ∀ r, r < 32 →
    let g := ringOf s l r
    (g.state = 1 ∨ g.state = 2 → g.req = line → g.pend < 15 → ringOf t l r = { g with pend := g.pend + 1 }) ∧
    (g.state = 1 ∨ g.state = 2 → g.req = line → 15 ≤ g.pend →
      ringOf t l r = { g with ovrqn := g.ovrqn.add 1 } ∧ (t.lanes.get l).main.evt.status.testBit 133 = true) ∧
    (g.state ≠ 1 → g.state ≠ 2 → ringOf t l r = g) ∧ (g.req ≠ line → ringOf t l r = g)

/-- The block `d` is `b` after a forced occurrence of `src`: STATUS set, MASK kept, FIRST as R372 has it. -/
def forcedIn (b d : EvtBlock) (src : Nat) : Prop :=
  d.status = setBit b.status src ∧ d.mask = b.mask ∧
    (b.mask.testBit src = true → d.first = b.first) ∧
    (b.mask.testBit src = false → b.first.valid = false → d.first.src = src ∧ d.first.valid = true ∧ d.first.forced = true) ∧
    (b.mask.testBit src = false → b.first.valid = true → d.first = { b.first with ovf := true, setO := true })

/-- `d` is the common part `c` of a unit after its tick boundary, as far as R52 and R57 give it. -/
def tickBegun (c d : UnitCommon) : Prop :=
  d.tick = (c.tick + 1) % 4294967296 ∧ d.roundDue = decide ((c.tick + 1) % 4294967296 % 8 = 0) ∧ d.round = c.round ∧
    d.vote.done = false ∧ d.vote.out = c.vote.out ∧ (c.cfg.loaded = true → d.cfg.loaded = true) ∧
    ∀ l, (d.links.get l).mark = none ∧ (d.links.get l).rx = none ∧ (d.links.get l).adm = (c.links.get l).adm

/-- Lane `l` has entered HALT in `t` from `s`: held, the park brake applied, no other lane changed; lane C holds every running island's
inhibit line asserted. -/
def haltedIn (l : LaneId) (s t : State) : Prop :=
  (t.lanes.get l).main.mode.mode = .halt ∧ (t.lanes.get l).main.mode.park = true ∧ (t.lanes.get l).main.mode.stop = false ∧
    (t.lanes.get l).aon.halt = true ∧ (∀ k, k ≠ l → t.lanes.get k = s.lanes.get k) ∧ t.polvin = s.polvin ∧
    (l = .c → ∀ i, s.runs (.isl i) = true → (t.isl.get i).inhibit = true)

/-- Lane `l` is retired in `t` by a source: its domain in reset, its flag set, the record due. -/
def retiredIn (l : LaneId) (src : Nat) (t : State) : Prop :=
  (t.lanes.get l).state = .retired ∧ (t.lanes.get l).dom = .off ∧ (t.lanes.get l).aon.retired = true ∧ (t.lanes.get l).aon.pendrec = true ∧
    (t.lanes.get l).aon.causeSrc = src ∧ (t.lanes.get l).main = {} ∧ ∀ u, ((t.ucom.get u).links.get l).up = false

/-- A frame of a join exchange that lane `l` takes from the partner of slot `e`: message `msg`, the fragment that continues the `got` bytes
it holds (R270, R347, R389). -/
def joinTaken (s : State) (l : LaneId) (f : RxFrame) (e : SlotDef) (msg got : Nat) : Prop :=
  let n := s.lanes.get l
  let p := n.partner l.idx e.peer
  f.plane = l ∧ s.receives l f = true ∧ n.frameSound f = true ∧ frFlags f.bytes = 4 ∧
    n.main.canvas.rxSlot l.idx f.medium (frSlot f.bytes) = some e ∧ n.main.canvas.firstSlot false l.idx e.peer = some e ∧
    e.peer = frSender f.bytes ∧ (f.arrive - (e.start : Int)).natAbs ≤ 8000 ∧
    (p.silenced = false ∨ p.syncs.getLast? ≠ some n.main.time.round) ∧ n.shedJoin l.idx e.peer = false ∧
    ((n.join e.peer).isSome = true ∨ roundsSince n.main.time.round p.retryAt = 0 ∨ 16 < roundsSince n.main.time.round p.retryAt) ∧
    byteAt (frPayload f.bytes) 4 = msg ∧ u16At (frPayload f.bytes) 6 = joinLen msg ∧
    byteAt (frPayload f.bytes) 5 * ((frPayload f.bytes).drop 8).length = got

/-- The block `d` is `b` after the window of source `src` was closed by a round (R368): where it is open and has run out it is closed with count 0;
no other count changes. -/
def windowClosed (k : EvKind) (b d : EvtBlock) (round src : Nat) : Prop :=
  d = { b with counts := d.counts } ∧ (∀ j, j ≠ src → assocGet d.counts j = assocGet b.counts j) ∧
    (assocGet b.counts src = none → assocGet d.counts src = none) ∧
    ∀ o c, assocGet b.counts src = some o → evtCfgOf k b src = some c → assocGet d.counts src = some
      (if o.isOpen = true ∧ 0 < c.window ∧ c.window ≤ (round + 16777216 - o.start) % 16777216 then { o with isOpen := false, count := 0 } else o)

/-- The last frame lane `l` sent is that of slot `e` with these FLAGS and this payload under `key`. -/
def frameSent (n : Lane) (l : LaneId) (e : SlotDef) (flags dest : Nat) (pay : Bytes) (key : Option (BitVec 128)) :
    Option (Nat × Nat × Bytes) :=
  some (e.slot, flags, frameOf n.main.canvas.net.etype l.idx n.main.canvas.net.self dest
    (headerOf flags l.idx n.main.time.round e.slot n.main.canvas.net.self pay.length n.main.net.epoch dest) pay key)

/-- The guardian's gates are open to a frame that departs at this time of its cycle (R259). -/
def gateOpen (n : Lane) (l : LaneId) (e : SlotDef) (fr : Option (Nat × Nat × Bytes)) (depart : Int) : Bool :=
  match fr with
  | some (_, _, b) => !n.main.net.cutAt l.idx e.medium (frLen b) depart
  | none => true

/-- The request that waited for a unit's domain, if any, has acted (R398). -/
def slotActed (waiting : Option DomState) (t : State) (u : UnitId) : Prop :=
  (waiting = some .retention → (t.ucom.get u).dom = .retention) ∧ (waiting = some .off → (t.ucom.get u).dom = .off)

/-- A request waits for a unit that is ON and takes it out of ON as the entry ends (R398). -/
def leavesOn (c : UnitCommon) : Prop := c.dom = .on ∧ (c.slp.slot = some .retention ∨ c.slp.slot = some .off)

/-- The ends of the links in the lanes after the units of which `gone` holds were reset: theirs are reset, the others as they were (R67); nothing else
of a lane's main domain has changed. -/
def linkEnds (gone : UnitId → Prop) (m n : LaneMain) : Prop :=
  n = { m with units := n.units } ∧
    ∀ u, (gone u → n.units.get u = (m.units.get u).linkReset) ∧ (¬ gone u → n.units.get u = m.units.get u)

/-- The power registers of a lane that stays ON as its entry ends (R395): no request waits, and a wake that waited has been answered and shows as one
(R397, R398). -/
def stayed (n : Lane) : PwrRegs :=
  let p := n.aon.pwr
  { p with sleepAt := none, cancelling := false, acks := 0, phy := if n.computing then .on else p.phy, slot := none, pslot := none, replay := 0
           src := p.src ||| p.replay, replayed := p.replayed || decide (p.slot = some .on ∧ p.replay ≠ 0) }

/-- Every lane's entry has ended in `t` and what waited for it acts (R398): a request to go OFF or to sleep takes its lane there. Where none of
these waits, each lane runs on, its plane with it where it computes, and every unit that is ON runs on, but for one whose waiting
request now acts (R398) and whose link ends are reset with it (R67). -/
def sleepCancelled (s t : State) : Prop :=
  (∀ k, (s.lanes.get k).aon.pwr.sleepAt.isSome = true →
      (t.lanes.get k).aon.pwr.sleepAt = none ∧ (t.lanes.get k).aon.pwr.slot = none ∧ (t.lanes.get k).aon.pwr.pslot = none ∧
      ((s.lanes.get k).aon.pwr.slot = some .off → (t.lanes.get k).dom = .off) ∧
      ((s.lanes.get k).aon.pwr.slot = some .retention → (s.lanes.get k).awake = true → (s.lanes.get k).maySleep = true →
        (t.lanes.get k).dom = .retention)) ∧
    (∀ u, (s.ucom.get u).dom = .on → slotActed (s.ucom.get u).slp.slot t u) ∧ t.polvin = s.polvin ∧
    ((∀ k, (s.lanes.get k).aon.pwr.sleepAt.isSome = true → (s.lanes.get k).dom ≠ .retention ∧ (s.lanes.get k).aon.pwr.pslot = none ∧
        ((s.lanes.get k).aon.pwr.slot = none ∨ (s.lanes.get k).aon.pwr.slot = some .on)) →
      (∀ k, let n := s.lanes.get k
        t.lanes.get k = { n with main := (t.lanes.get k).main, aon := if n.aon.pwr.sleepAt.isSome then { n.aon with pwr := stayed n } else n.aon } ∧
        linkEnds (fun u => leavesOn (s.ucom.get u)) n.main (t.lanes.get k).main) ∧
      (∀ u, ((s.ucom.get u).dom = .on → (s.ucom.get u).slp.slot = none ∨ (s.ucom.get u).slp.slot = some .on →
          t.ucom.get u = { s.ucom.get u with slp := {} }) ∧
        ((s.ucom.get u).dom ≠ .on → t.ucom.get u = s.ucom.get u)))

/-- A refusal at the boundary `step` counted from the entry's first stands recorded in every lane, what the entry had stopped is to return, lanes
first, and the Polvin core is not in RETENTION. A lane that dropped out stays out (R400). -/
def sleepRefused (dom cause step : Nat) (s t : State) : Prop :=
  (∀ k, (t.lanes.get k).aon.pwr.refDom = dom ∧ (t.lanes.get k).aon.pwr.refCause = cause ∧ (t.lanes.get k).aon.pwr.refStep = step % 8 ∧
    (t.lanes.get k).aon.pwr.holdoff = 16 ∧ (t.lanes.get k).aon.pwr.sleepAt = none ∧
    (t.lanes.get k).aon.pwr.refCount = satAdd 16 (s.lanes.get k).aon.pwr.refCount 1) ∧
    (∀ k, (s.lanes.get k).dom = .retention → (s.lanes.get k).aon.on = true → (s.lanes.get k).aon.pwr.slept = true →
      (t.lanes.get k).dom = .on ∧ (t.lanes.get k).state = .boot) ∧
    (∀ k, (s.lanes.get k).dom = .retention → (s.lanes.get k).aon.pwr.slept = false → (t.lanes.get k).dom = .retention) ∧
    (∀ u, (s.ucom.get u).dom = .retention → (t.ucom.get u).dom = .retention ∧ (t.ucom.get u).slp.returning = true) ∧
    (∀ u, (s.ucom.get u).dom = .on → (s.ucom.get u).slp.slot = none → (t.ucom.get u).dom = .on ∧ (t.ucom.get u).slp = {}) ∧
    t.polvin = { s.polvin with entry := none, dom := if s.polvin.dom = .retention then .on else s.polvin.dom }

/-- Lane `l` is back from RETENTION in `t` and everything that slept is awake, but for a unit whose waiting request now acts (R398). -/
def allAwake (l : LaneId) (s t : State) : Prop :=
  (t.lanes.get l).state = .boot ∧ (t.lanes.get l).dom = .on ∧ (t.lanes.get l).loader.retained = true ∧
    (t.lanes.get l).main.canvas = (s.lanes.get l).main.canvas ∧
    (∀ u, (s.ucom.get u).dom = .retention → (s.ucom.get u).slp.slot = none ∨ (s.ucom.get u).slp.slot = some .on → (t.ucom.get u).dom = .on) ∧
    (∀ u, (s.ucom.get u).dom = .retention → slotActed (s.ucom.get u).slp.slot t u) ∧
    (∀ k, (s.lanes.get k).dom = .retention → (s.lanes.get k).aon.on = true → (s.lanes.get k).aon.pwr.slept = true → (t.lanes.get k).dom = .on) ∧
    t.polvin = { s.polvin with entry := none, dom := if s.polvin.dom = .retention then .on else s.polvin.dom }

/-- The main domain of lane `l` is at its reset values in `t`, in this state and domain, with its links and plane down. -/
def laneDownIn (l : LaneId) (st : LState) (dom : DomState) (s t : State) : Prop :=
  (t.lanes.get l).state = st ∧ (t.lanes.get l).dom = dom ∧ (t.lanes.get l).main = {} ∧ (∀ u, ((t.ucom.get u).links.get l).up = false) ∧
    (∀ k, k ≠ l → (t.lanes.get k).state = (s.lanes.get k).state ∧ (t.lanes.get k).aon = (s.lanes.get k).aon) ∧ t.polvin = s.polvin

end Sys2Proof
end

