-- ==== Sys2Proof/Certificates/Slice0/Obligations.lean ====
section
/-!
DEFINITION. The statements about the KT-3128 for the provers: the queue and the memory, then family by family what a command does
in the states where it acts, and what it leaves as it was.
-/
open Sys2Proof Sys2Proof.Machine

/-- A step takes the command at the front of the queue and runs it on the rest. On an empty queue the module idles (the model's choice: log entry 1). -/
def Obligations.StepRunsFrontCommand : Prop :=
  (∀ (c : Instr) (rest : List Instr) (s : State), s.pending = c :: rest → step s = exec c { s with pending := rest }) ∧
  (∀ s : State, s.pending = [] → step s = .next s)

/-- No command stops the module and none touches the queue: every row answers a next state with the queue it was given. That some rows change nothing
where their event cannot occur is the model's choice (log entry 2). -/
def Obligations.EveryCommandExecutes : Prop :=
  ∀ (c : Instr) (s : State), ∃ t, exec c s = .next t ∧ t.pending = s.pending

/-- Right after reset the lane bus memory of every lane is in its canonical form. -/
def Obligations.ResetMemoryCanonical : Prop :=
  memCanonical State.reset

/-- Every step keeps the lane bus memory of every lane in its canonical form: addresses strictly rising, no byte listed that an unlisted address reads as. -/
def Obligations.StepKeepsMemoryCanonical : Prop :=
  ∀ s t : State, memCanonical s → step s = .next t → memCanonical t

/-- A byte of lane bus memory reads back as written, and a write leaves every other byte as it was. -/
def Obligations.MemoryReadAfterWrite : Prop :=
  ∀ (m : List Host.Cell) (a x : Nat) (b : Byte), memWf m = true →
    memGet (memPut m a b) x = if x = a then b else memGet m x

/-- State.reset is the module right after the power-up of all its domains (the model's choice: log entry 27): lanes OFF (R36, R37) with their main domain
powered, units unconfigured with every link untrained (R12, R93), islands OPEN with cause 0xC
(R201, R202), the supervised mode 0x0 (R38), the core as delivered UNOWNED and unvarnished (R339; what its NVM holds as delivered is the model's choice: log entry 26). The power-up of a unit's domain leaves every register of it at
its reset value, its links untrained and its configuration not loaded (R12, R93, R385); an island is OPEN and sees the level of lane C's inhibit line
(R35); the lanes' ends of its links are reset, what was in flight lost (R67). -/
def Obligations.ResetAndPowerUp : Prop :=
  ((∀ l, (State.reset.lanes.get l).state = .off ∧ (State.reset.lanes.get l).dom = .on ∧ (State.reset.lanes.get l).main.mode.mode = .none) ∧
  (∀ u, (State.reset.ucom.get u).cfg.loaded = false ∧ (State.reset.ucom.get u).tick = 0 ∧
    ∀ l, ((State.reset.ucom.get u).links.get l).up = false ∧ ((State.reset.ucom.get u).links.get l).adm = false) ∧
  (∀ i, (State.reset.isl.get i).sw = 1 ∧ (State.reset.isl.get i).causes = 2 ^ 0xC) ∧
  State.reset.polvin.ipub = none ∧ State.reset.polvin.varnish = false ∧ State.reset.pending = []) ∧
  ((∀ s f, exec (.unitPowerUp (.fb f)) s =
    .next (({ s with ucom := s.ucom.set (.fb f) {}, fbk := s.fbk.setF f {} } : State).viewsReset (.fb f))) ∧
  (∀ s x, exec (.unitPowerUp (.sio x)) s =
    .next (({ s with ucom := s.ucom.set (.sio x) {}, sio := s.sio.setS x {} } : State).viewsReset (.sio x))) ∧
  (∀ s i, ∃ t, exec (.unitPowerUp (.isl i)) s = .next t ∧ onlyIsland i (s.viewsReset (.isl i)) t ∧ t.ucom.get (.isl i) = {} ∧
    (t.isl.get i).sw = 1 ∧ (t.isl.get i).cfg = {} ∧ (t.isl.get i).gdv = {} ∧ (t.isl.get i).bus = { limit := (s.isl.get i).bus.limit } ∧
    (t.isl.get i).causes.testBit 0xC = true ∧ (t.isl.get i).inhibit = s.inhibitLevel) ∧
  (∀ (s : State) (u v : UnitId) (l : LaneId), ((s.viewsReset u).lanes.get l).main.units.get v =
    if v = u then ((s.lanes.get l).main.units.get v).linkReset else (s.lanes.get l).main.units.get v))

/-- The commands named here change nothing in a unit whose domain is not ON or an island whose clock is lost (R186, R385): that an occurrence in a part
that does not run leaves the state as it is is the model's choice (log entry 2). Commands that act on a whole bus (CLRCF, the driver's limit) or on a
domain are not among them. -/
def Obligations.StoppedUnitsDoNothing : Prop :=
  ∀ s : State,
    (∀ u, s.runs u = false →
      (∀ l tick a, exec (.tickMarkArrival u l (some tick) a) s = .next s) ∧ (∀ l bs st, exec (.commandBlock u l (some bs) st) s = .next s) ∧
      exec (.commandDeadline u) s = .next s ∧ (∀ ok, exec (.voterSelfTest u ok) s = .next s) ∧
      exec (.missingWithdrawal u) s = .next s ∧ (∀ turned, exec (.roundBoundary (.unit u) turned) s = .next s) ∧
      exec (.sleep u) s = .next s ∧ (∀ n, exec (.force (.unit u) n) s = .next s)) ∧
    (∀ i, s.runs (.isl i) = false →
      (∀ leg hi, exec (.desat i leg hi) s = .next s ∧ exec (.slp i leg hi) s = .next s) ∧
      (∀ r, exec (.comparatorTest i r) s = .next s) ∧ exec (.ov1 i) s = .next s ∧ exec (.ov1Release i) s = .next s ∧
      exec (.ov2 i) s = .next s ∧ exec (.ov2Release i) s = .next s ∧ exec (.busUv i) s = .next s ∧
      exec (.busUvRelease i) s = .next s ∧ exec (.chopperFault i) s = .next s ∧
      (∀ c, exec (.chopperTestPulse i c) s = .next s) ∧ (∀ e, exec (.hot i e) s = .next s) ∧ exec (.regenTrip i) s = .next s ∧
      exec (.regenTripEnd i) s = .next s ∧ (∀ r, exec (.speedCrossing i r) s = .next s) ∧ exec (.islandClockLoss i) s = .next s ∧
      exec (.backstop i) s = .next s ∧ exec (.clrbf i) s = .next s ∧ exec (.clrlatch i) s = .next s ∧
      exec (.rearmRequest i) s = .next s) ∧
    (∀ f c, s.runs (.fb f) = false →
      (∀ up o, exec (.quadEdge f c up o) s = .next s) ∧ exec (.indexPulse f c) s = .next s ∧
      (∀ u, exec (.converterUpdate f c u) s = .next s) ∧ (∀ o, exec (.reacq f c o) s = .next s) ∧
      (∀ r, exec (.sentFrame f c r) s = .next s) ∧ exec (.comparePulseEnd f c) s = .next s ∧ exec (.zero f c) s = .next s ∧
      (∀ e w, exec (.compareArm f c e w) s = .next s ∧ exec (.comparePositionWrite f c e w) s = .next s)) ∧
    (∀ x n, s.runs (.sio x) = false →
      exec (.testPulseOff x n) s = .next s ∧ exec (.testPulseOn x n) s = .next s ∧ exec (.xsClear x n) s = .next s ∧
      exec (.psupOc x n) s = .next s ∧ exec (.pgood x n) s = .next s ∧ exec (.oredFeedLow x) s = .next s ∧
      exec (.oredFeedReturn x) s = .next s)

/-- OV1 rising requests the chopper, its release drops the request; the chopper of a bus is on while one of its three islands requests it (R207); HOT sets above 2.0 kJ, clears below 1.0 kJ and stays between (R198, R200). Nothing
else changes. Eight ticks of regeneration while it is barred put the island into its safe state with cause 0x8, eight ticks without end the condition;
with one lane admitted for the backstop limit cause 0xA comes into force (R43, R200, R201). -/
def Obligations.ChopperRequestAndRegeneration : Prop :=
  (∀ (s : State) (i : IslandId), s.runs (.isl i) = true →
    (exec (.ov1 i) s = .next (withIsland s i { s.isl.get i with bus := { (s.isl.get i).bus with ov1 := true } })) ∧
    (exec (.ov1Release i) s = .next (withIsland s i { s.isl.get i with bus := { (s.isl.get i).bus with ov1 := false } })) ∧
    (∀ e, exec (.hot i e) s = .next (withIsland s i { s.isl.get i with bus :=
      { (s.isl.get i).bus with energy := e, hot := decide (200 < e) || (decide (100 ≤ e) && (s.isl.get i).bus.hot) } }))) ∧
  (∀ (s : State) (i : IslandId), s.runs (.isl i) = true →
    (∃ t, exec (.ov1 i) s = .next t ∧ t.chopperOn i.bus = true ∧ ∀ b, b ≠ i.bus → t.chopperOn b = s.chopperOn b) ∧
    (∃ t, exec (.ov1Release i) s = .next t ∧ (∀ b, b ≠ i.bus → t.chopperOn b = s.chopperOn b) ∧
      (t.chopperOn i.bus = true ↔ ∃ k, k ≠ i ∧ k.bus = i.bus ∧ s.runs (.isl k) = true ∧ (s.isl.get k).bus.ov1 = true))) ∧
  (∀ (s : State) (i : IslandId), s.runs (.isl i) = true →
    (8 ≤ (s.isl.get i).bus.regen → (s.isl.get i).live.testBit 8 = false → ∃ t, exec (.regenTrip i) s = .next t ∧ onlyIsland i s t ∧
      (t.isl.get i).causes.testBit 8 = true ∧ (t.isl.get i).live.testBit 8 = true ∧ islandSafe (t.isl.get i) ∧
      (t.isl.get i).bus = (s.isl.get i).bus) ∧
    (8 ≤ (s.isl.get i).bus.regenOk → exec (.regenTripEnd i) s =
      .next (withIsland s i { s.isl.get i with live := clearBit (s.isl.get i).live 8 })) ∧
    ((s.ucom.get (.isl i)).cfg.loaded = true → (s.isl.get i).backLim ≤ (s.isl.get i).back → (s.isl.get i).causes.testBit 0xA = false →
      ∃ t, exec (.backstop i) s = .next t ∧ onlyIsland i s t ∧ (t.isl.get i).causes.testBit 0xA = true ∧
        islandSafe (t.isl.get i) ∧ (t.isl.get i).back = (s.isl.get i).back))

/-- OV2 and bus undervoltage put an island into its safe state. OV2 gives SHORT in a motor island and OPEN in a valve island, unless a cause that R35
asks before it is in force and opens; undervoltage gives OPEN, while OV2 lasts too, since it holds every enable at 0 (R35, R186, R198, R201). The release of OV2, after eight
ticks below 56 V, and that of undervoltage end the condition of their cause: an island in its safe state takes the switch state that the causes still in
force decide. Both causes stay in force until a re-arm (R198, R202). -/
def Obligations.BusVoltageLimits : Prop :=
  (∀ (s : State) (i : IslandId), s.runs (.isl i) = true →
    ((s.isl.get i).bus.ov2 = false → ∃ t, exec (.ov2 i) s = .next t ∧ onlyIsland i s t ∧ (t.isl.get i).bus.ov2 = true ∧
      (t.isl.get i).causes.testBit 6 = true ∧ (t.isl.get i).live.testBit 6 = true ∧
      (t.isl.get i).sw = 1 + (if islandOpensFirst (s.isl.get i) || i.isValve then 0 else 1)) ∧
    ((s.isl.get i).bus.uv = false → ∃ t, exec (.busUv i) s = .next t ∧ onlyIsland i s t ∧ (t.isl.get i).bus.uv = true ∧
      (t.isl.get i).causes.testBit 0xD = true ∧ (t.isl.get i).live.testBit 0xD = true ∧
      (t.isl.get i).sw = 1)) ∧
  (∀ (s : State) (i : IslandId), s.runs (.isl i) = true →
    ((s.isl.get i).bus.ov2 = true → 8 ≤ (s.isl.get i).bus.ov2Low → ∃ t, exec (.ov2Release i) s = .next t ∧
      t = withIsland s i { s.isl.get i with
        bus := { (s.isl.get i).bus with ov2 := false }, live := clearBit (s.isl.get i).live 6, sw := (t.isl.get i).sw } ∧
      ((s.isl.get i).causes = 0 ∨ (s.isl.get i).sw = 3 → (t.isl.get i).sw = (s.isl.get i).sw) ∧
      ((s.isl.get i).causes ≠ 0 → (s.isl.get i).sw ≠ 3 → (t.isl.get i).sw = if islandForcedOpen (t.isl.get i) = true then 1
        else if (s.isl.get i).cfg.ssc = 1 ∨ (s.isl.get i).cfg.ssc = 2 ∧ (s.isl.get i).fast = true then 2 else 1)) ∧
    ((s.isl.get i).bus.ov2Low < 8 → exec (.ov2Release i) s = .next s) ∧
    (∃ t, exec (.busUvRelease i) s = .next t ∧
      t = withIsland s i { s.isl.get i with
        bus := { (s.isl.get i).bus with uv := false }, live := clearBit (s.isl.get i).live 0xD, sw := (t.isl.get i).sw } ∧
      ((s.isl.get i).causes = 0 ∨ (s.isl.get i).sw = 3 → (t.isl.get i).sw = (s.isl.get i).sw) ∧
      ((s.isl.get i).causes ≠ 0 → (s.isl.get i).sw ≠ 3 → (t.isl.get i).sw = (islandSettled i (t.isl.get i)).sw)))

/-- A first trip of an armed comparator turns its half-bridge off and puts the island OPEN with cause 0x4, recorded by leg, DESAT or SLP, and counted
single (R193, R194). `slope` names SLP. A trip of a second leg while the turn-off of the first runs, or one within 60 s of the re-arm after a
single-leg trip, is a BRIDGE_FAULT: OPEN with cause 0x5, counted double (R194); where one is in force already it is only recorded. A further trip of the half-bridge
whose turn-off runs is recorded and nothing else. A comparator that is not armed changes nothing (R193). -/
def Obligations.DesaturationTrips : Prop :=
  (∀ (s : State) (i : IslandId) (leg : Nat) (high slope : Bool), s.runs (.isl i) = true →
    armed i (s.ucom.get (.isl i)) (s.isl.get i) leg high = true → recentTrip (s.ucom.get (.isl i)) (s.isl.get i) = false →
    (∀ a, (s.isl.get i).tripRearm = some a → a + 1200000 ≤ (s.ucom.get (.isl i)).age) →
    ∃ t, exec (if slope then .slp i leg high else .desat i leg high) s = .next t ∧ onlyIsland i s t ∧ (t.isl.get i).sw = 1 ∧
      (t.isl.get i).causes.testBit 4 = true ∧ (t.isl.get i).gdv = { (s.isl.get i).gdv with
        desat := if slope then (s.isl.get i).gdv.desat else setBit (s.isl.get i).gdv.desat leg
        slp := if slope then setBit (s.isl.get i).gdv.slp leg else (s.isl.get i).gdv.slp
        off := setBit (s.isl.get i).gdv.off leg, perTrip := true, tripAge := some (s.ucom.get (.isl i)).age
        tripOn := drivenOn i (s.ucom.get (.isl i)) (s.isl.get i), single := satAdd 16 (s.isl.get i).gdv.single 1 }) ∧
  (∀ (s : State) (i : IslandId) (leg : Nat) (high slope : Bool), s.runs (.isl i) = true →
    armed i (s.ucom.get (.isl i)) (s.isl.get i) leg high = true → (s.isl.get i).causes.testBit 5 = false →
    ((recentTrip (s.ucom.get (.isl i)) (s.isl.get i) = true ∧ (s.isl.get i).gdv.off.testBit leg = false) ∨
      (recentTrip (s.ucom.get (.isl i)) (s.isl.get i) = false ∧
        ∃ a, (s.isl.get i).tripRearm = some a ∧ (s.ucom.get (.isl i)).age < a + 1200000)) →
    ∃ t, exec (if slope then .slp i leg high else .desat i leg high) s = .next t ∧ onlyIsland i s t ∧ (t.isl.get i).sw = 1 ∧
      (t.isl.get i).causes.testBit 5 = true ∧ (t.isl.get i).gdv.off = setBit (s.isl.get i).gdv.off leg ∧
      (t.isl.get i).gdv.double = satAdd 16 (s.isl.get i).gdv.double 1 ∧ (t.isl.get i).gdv.single = (s.isl.get i).gdv.single) ∧
  (∀ (s : State) (i : IslandId) (leg : Nat) (high slope : Bool), s.runs (.isl i) = true →
    armed i (s.ucom.get (.isl i)) (s.isl.get i) leg high = true → recentTrip (s.ucom.get (.isl i)) (s.isl.get i) = true →
    ((s.isl.get i).gdv.off.testBit leg = true ∨ (s.isl.get i).causes.testBit 5 = true) →
    exec (if slope then .slp i leg high else .desat i leg high) s = .next (withIsland s i { s.isl.get i with gdv := { (s.isl.get i).gdv with
      desat := if slope then (s.isl.get i).gdv.desat else setBit (s.isl.get i).gdv.desat leg
      slp := if slope then setBit (s.isl.get i).gdv.slp leg else (s.isl.get i).gdv.slp
      off := setBit (s.isl.get i).gdv.off leg, perTrip := true } })) ∧
  (∀ (s : State) (i : IslandId) (leg : Nat) (high slope : Bool),
    armed i (s.ucom.get (.isl i)) (s.isl.get i) leg high = false →
    exec (if slope then .slp i leg high else .desat i leg high) s = .next s)

/-- The comparator test asked for: a response passes it and is reported; none fails it, with cause 0x9, and OPEN where a low-side DESAT or SLP comparator
failed; a request that names no comparator reports a test that did not pass (R195-R197). -/
def Obligations.ComparatorTestResult : Prop :=
  ∀ (s : State) (i : IslandId) (leg cmp : Nat), s.runs (.isl i) = true → (s.isl.get i).gdv.testDue = some (leg, cmp) →
    ((cmp ≤ 8 → (cmp < 6 → leg < i.legs) →
      (exec (.comparatorTest i true) s = .next (withIsland s i { s.isl.get i with gdv := { (s.isl.get i).gdv with
        testDue := none, tdone := true, tpass := true, testCmp := cmp, testLeg := leg, testPass := true, testDone := true,
        testCount := satAdd 16 (s.isl.get i).gdv.testCount 1 } })) ∧
      (∃ t, exec (.comparatorTest i false) s = .next t ∧ onlyIsland i s t ∧ (t.isl.get i).causes.testBit 9 = true ∧
        islandSafe (t.isl.get i) ∧ (t.isl.get i).gdv.testPass = false ∧ (t.isl.get i).gdv.tdone = true ∧
        (t.isl.get i).gdv.tpass = false ∧ (cmp < 6 → (t.isl.get i).gdv.cfail.testBit leg = true) ∧
        (cmp = 1 ∨ cmp = 3 → (t.isl.get i).sw = 1))) ∧
    (8 < cmp ∨ (cmp < 6 ∧ i.legs ≤ leg) → ∀ r, exec (.comparatorTest i r) s = .next (withIsland s i
      { s.isl.get i with gdv := { (s.isl.get i).gdv with testDue := none, tdone := true, tpass := false } })))

/-- A chopper that answers no current to the island's request, or too little to its test pulse above 20 V in tick 0 of its round, is a CHOPPER_FAULT:
every island on the bus that runs latches it, and nothing else of any island changes but its events (R199). CLRCF in SERVICE clears the latched chopper fault
in the islands of the bus, and does nothing outside SERVICE (that all three take it is the model's reading: log entry 13), and with it the fault
that a running lane counts for them (log entry 24); the chopper driver's limit is signalled to the three islands of
its bus, running or not (R199, R200, R209). -/
def Obligations.ChopperFaults : Prop :=
  (∀ (s : State) (i : IslandId), s.runs (.isl i) = true → (s.isl.get i).bus.limit = false →
    ((s.isl.get i).bus.ov1 = true → ∃ t, exec (.chopperFault i) s = .next t ∧ onlyIslands s t ∧
      ∀ k, t.isl.get k = if k.bus = i.bus ∧ s.runs (.isl k) = true then
        { s.isl.get k with bus := { (s.isl.get k).bus with cf := true } } else s.isl.get k) ∧
    (∀ current, current < 200 → (s.ucom.get (.isl i)).tick % 8 = 0 →
      testPulseRound i = some ((s.ucom.get (.isl i)).round % 256) → 2000 < (s.isl.get i).bus.vbus →
      ∃ t, exec (.chopperTestPulse i current) s = .next t ∧ onlyIslands s t ∧
        ∀ k, t.isl.get k = if k.bus = i.bus ∧ s.runs (.isl k) = true then
          { s.isl.get k with bus := { (s.isl.get k).bus with cf := true } } else s.isl.get k)) ∧
  (∀ s : State,
    (s.devMode ≠ .service → ∀ i, exec (.clrcf i) s = .next s) ∧
    (s.devMode = .service → ∀ i, ∃ t, exec (.clrcf i) s = .next t ∧ onlyIslands { s with lanes := t.lanes } t ∧ t.ucom = s.ucom ∧
      (∀ k, t.isl.get k = if k.bus = i.bus ∧ s.runs (.isl k) = true then
        { s.isl.get k with bus := { (s.isl.get k).bus with cf := false } } else s.isl.get k) ∧
      (∀ l, t.lanes.get l = { s.lanes.get l with main := { (s.lanes.get l).main with units := (t.lanes.get l).main.units } } ∧
        ∀ u, (t.lanes.get l).main.units.get u =
          if (s.lanes.get l).awake = true ∧ u ∈ (busIslands i.bus).map UnitId.isl then { (s.lanes.get l).main.units.get u with chop := false }
          else (s.lanes.get l).main.units.get u)) ∧
    (∀ b on, ∃ t, exec (.chopperLimit b on) s = .next t ∧ onlyIslands s t ∧ t.ucom = s.ucom ∧
      ∀ k, t.isl.get k = if k.bus = b then
        { s.isl.get k with bus := { (s.isl.get k).bus with limit := on } } else s.isl.get k))

/-- The island's own speed chooses between OPEN and SHORT where the canvas chose so (SSC 2): at base speed and above SHORT, below 90 % of it OPEN, between
them as before; it acts on an island in its safe state and on no other (R34, R35). -/
def Obligations.SpeedCrossingChoosesShort : Prop :=
  ∀ (s : State) (i : IslandId) (rpm : Nat), s.runs (.isl i) = true → (s.isl.get i).cfg.ssc = 2 →
    ∃ t, exec (.speedCrossing i rpm) s = .next t ∧ onlyIsland i s t ∧ t.ucom = s.ucom ∧
      t.isl.get i = { s.isl.get i with
        fast := if (s.isl.get i).cfg.base ≤ rpm then true else if 10 * rpm < 9 * (s.isl.get i).cfg.base then false else (s.isl.get i).fast
        sw := (t.isl.get i).sw } ∧
      ((s.isl.get i).sw = 0 ∨ (s.isl.get i).sw = 3 → (t.isl.get i).sw = (s.isl.get i).sw) ∧
      (islandSafe (s.isl.get i) → (s.isl.get i).causes ≠ 0 → islandForcedOpen (s.isl.get i) = false →
        islandOv2Lasts (s.isl.get i) = false → (t.isl.get i).sw = if (t.isl.get i).fast then 2 else 1)

/-- An island that loses its clock has every gate off and runs no more; CLRBF and CLRLATCH in SERVICE and a re-arm request in any mode write what R194,
R202, R203 and R209 say and nothing else; an island with causes still in force takes the switch state they give (R35, R201); outside SERVICE the two clears do nothing (R209). -/
def Obligations.IslandClears : Prop :=
  ∀ (s : State) (i : IslandId), s.runs (.isl i) = true →
    (∃ t, exec (.islandClockLoss i) s = .next t ∧ t.runs (.isl i) = false ∧
      t = withIsland s i { s.isl.get i with clockLost := true, sw := 1, duty := List.replicate 6 0, comp := List.replicate 6 0 }) ∧
    (s.devMode = .service →
      exec (.clrbf i) s = .next (withIsland s i (islandSettled i { s.isl.get i with
        causes := clearBit (s.isl.get i).causes 5, live := clearBit (s.isl.get i).live 5, rearms := [], tripRearm := none,
        gdv := { (s.isl.get i).gdv with off := 0, tripAge := none } })) ∧
      exec (.clrlatch i) s = .next (withIsland s i (islandSettled i { s.isl.get i with
        causes := clearBit (clearBit (clearBit (s.isl.get i).causes 0xE) 9) 0xA,
        live := clearBit (clearBit (clearBit (s.isl.get i).live 0xE) 9) 0xA, rearms := [], back := 0,
        gdv := { (s.isl.get i).gdv with lowFail := false } }))) ∧
    (s.devMode ≠ .service → exec (.clrbf i) s = .next s ∧ exec (.clrlatch i) s = .next s) ∧
    exec (.rearmRequest i) s = .next (withIsland s i { s.isl.get i with
      rq := (s.isl.get i).rq || [5, 9, 0xA, 0xE].all (fun n => !(s.isl.get i).causes.testBit n) })

/-- A quadrature edge moves POS by one count in its direction, held within the soft limits, and counts one speed edge; no other channel changes (R218,
R219). One within FILT of the last edge of the other input is recorded and moves nothing (R215, R218; that it is less than that time is the model's
reading: log entry 132). A position-compare entry fires when a move crosses its position in its direction: it is marked FIRED, and disarmed unless it repeats; an entry
the move does not cross stays as it is (R224, R225). `old` and `new` are POS before and after the edge. -/
def Obligations.QuadratureAndCompare : Prop :=
  (∀ (s : State) (f : FbId) (c off : Nat) (up : Bool), s.runs (.fb f) = true → c < (s.fbk.getF f).ch.length →
    (channelOf s f c).cfg.mode = 1 →
    let q := (channelOf s f c).quad
    let now := (s.ucom.get (.fb f)).age * 8000 + off
    (edgeFiltered (channelOf s f c).cfg q up now = decide (∃ o, (if edgeOfA q up then q.tb else q.ta) = some o ∧
      now - o < [0, 2, 4, 8, 16].getD (channelOf s f c).cfg.filt 16)) ∧
    (edgeFiltered (channelOf s f c).cfg q up now = true → ∃ t, exec (.quadEdge f c up off) s = .next t ∧ onlyFeedback f s t ∧
      otherChannels f c s t ∧ channelOf t f c = { channelOf s f c with quad := q.edge up now }) ∧
    (edgeFiltered (channelOf s f c).cfg q up now = false → ∃ t, exec (.quadEdge f c up off) s = .next t ∧ onlyFeedback f s t ∧
      otherChannels f c s t ∧ (channelOf t f c).quad = q.edge up now ∧
      (channelOf t f c).pos = clampI (channelOf s f c).cfg.slo (channelOf s f c).cfg.shi ((channelOf s f c).pos + if up then 1 else -1) ∧
      (channelOf t f c).spd.n = (channelOf s f c).spd.n + (if up then 1 else -1) ∧ (channelOf t f c).cfg = (channelOf s f c).cfg)) ∧
  (∀ (s : State) (f : FbId) (c e off : Nat) (up : Bool), s.runs (.fb f) = true → c < (s.fbk.getF f).ch.length →
    (channelOf s f c).cfg.mode = 1 → e < 16 → (channelOf s f c).cmp.length = 16 →
    edgeFiltered (channelOf s f c).cfg (channelOf s f c).quad up ((s.ucom.get (.fb f)).age * 8000 + off) = false →
    ∃ t, exec (.quadEdge f c up off) s = .next t ∧
      (let x := (channelOf s f c).cmp.getD e {}
       let old := (channelOf s f c).pos
       let new := (channelOf t f c).pos
       (channelOf t f c).cmp.getD e {} =
         if x.arm = true ∧ ((x.dir % 2 = 1 ∧ old < x.p ∧ x.p ≤ new) ∨ (2 ≤ x.dir ∧ x.p ≤ old ∧ new < x.p)) then
           { x with fired := true, behind := false, arm := x.rep } else x))

/-- An index sets the counter and fires no compare entry, the value held within the soft limits (the model's reading: log entry 99). A compare pulse ends where its PW runs out in this tick (R224); an index pulse and the zero-speed timeout write their own fields of the channel (R215, R219, R224). COMPARE_ARM writes the
control bits of one entry and COMPARE_POSITION_WRITE its position; either evaluates BEHIND at the present position: armed and past the far side in the
direction of the entry, for EITHER in that of the last movement, and never where nothing moved; a control word without a direction, or with a pulse of 0 µs, is refused and changes nothing (R225, R228). -/
def Obligations.ChannelEventsAndCompareWrites : Prop :=
  (∀ (s : State) (f : FbId) (c : Nat), s.runs (.fb f) = true → c < (s.fbk.getF f).ch.length →
    (∃ t, exec (.comparePulseEnd f c) s = .next t ∧ onlyFeedback f s t ∧ otherChannels f c s t ∧
      channelOf t f c = { channelOf s f c with
        pulseEnd := (channelOf s f c).pulseEnd.filter (fun e => decide (((s.ucom.get (.fb f)).age + 1) * 50 < e)) }) ∧
    ((channelOf s f c).cfg.mode = 1 → (channelOf s f c).cfg.idxm = 1 ∨ (channelOf s f c).cfg.idxm = 2 →
      ∃ t, exec (.indexPulse f c) s = .next t ∧ onlyFeedback f s t ∧ otherChannels f c s t ∧ (channelOf t f c).idxv = true ∧
        (channelOf t f c).pos = (if (channelOf s f c).cfg.idxm = 2 ∧ (channelOf s f c).idxv = false then
          clampI (channelOf s f c).cfg.slo (channelOf s f c).cfg.shi 0 else (channelOf s f c).pos) ∧
        (channelOf t f c).idxPos = (channelOf t f c).pos ∧ (channelOf t f c).angPos = (channelOf s f c).spd.n ∧
        (channelOf t f c).eva = satAdd 16 (channelOf s f c).eva 1 ∧ (channelOf t f c).cmp = (channelOf s f c).cmp) ∧
    (∀ at' n, (channelOf s f c).cfg.mode = 1 ∨ ((channelOf s f c).cfg.mode = 2 ∧ (channelOf s f c).trk.lost = false) →
      (channelOf s f c).spd.last = some (at', n) →
      (channelOf s f c).cfg.zto * 160000 ≤ (s.ucom.get (.fb f)).age * 8000 - at' →
      ∃ t, exec (.zero f c) s = .next t ∧ onlyFeedback f s t ∧ otherChannels f c s t ∧
        channelOf t f c = { channelOf s f c with spd := { (channelOf s f c).spd with spd := 0, zero := true } })) ∧
  (∀ (s : State) (f : FbId) (c e : Nat) (w : Word), s.runs (.fb f) = true → c < (s.fbk.getF f).ch.length →
    e < (channelOf s f c).cmp.length →
    (w.toNat / 2 % 4 ≠ 0 → (w.getLsbD 4 = true → w.toNat / 256 % 256 ≠ 0) →
      ∃ t, exec (.compareArm f c e w) s = .next t ∧ onlyFeedback f s t ∧ otherChannels f c s t ∧
      (∀ k, k ≠ e → (channelOf t f c).cmp.getD k {} = (channelOf s f c).cmp.getD k {}) ∧ (channelOf t f c).pos = (channelOf s f c).pos ∧
      (let x := (channelOf t f c).cmp.getD e {}
       x.p = ((channelOf s f c).cmp.getD e {}).p ∧ x.arm = w.getLsbD 0 ∧ x.dir = w.toNat / 2 % 4 ∧ x.rep = w.getLsbD 3 ∧
       x.pulse = w.getLsbD 4 ∧ x.event = w.getLsbD 5 ∧ x.pw = w.toNat / 256 % 256 ∧
       (x.dir = 1 → x.behind = (x.arm && decide (x.p ≤ (channelOf s f c).pos))) ∧
       (x.dir = 2 → x.behind = (x.arm && decide ((channelOf s f c).pos < x.p))) ∧
       (x.dir = 3 → x.behind = (x.arm && (if 0 < (channelOf s f c).moved then decide (x.p ≤ (channelOf s f c).pos)
         else if (channelOf s f c).moved < 0 then decide ((channelOf s f c).pos < x.p) else false))))) ∧
    (w.toNat / 2 % 4 = 0 ∨ (w.getLsbD 4 = true ∧ w.toNat / 256 % 256 = 0) → exec (.compareArm f c e w) s = .next s) ∧
    (∃ t, exec (.comparePositionWrite f c e w) s = .next t ∧ onlyFeedback f s t ∧ otherChannels f c s t ∧
      (∀ k, k ≠ e → (channelOf t f c).cmp.getD k {} = (channelOf s f c).cmp.getD k {}) ∧ (channelOf t f c).pos = (channelOf s f c).pos ∧
      (let x := (channelOf t f c).cmp.getD e {}
       x.p = w.toInt ∧ x.arm = ((channelOf s f c).cmp.getD e {}).arm ∧ x.fired = ((channelOf s f c).cmp.getD e {}).fired ∧
       x.dir = ((channelOf s f c).cmp.getD e {}).dir ∧
       (x.dir = 1 → x.behind = (x.arm && decide (x.p ≤ (channelOf s f c).pos))) ∧
       (x.dir = 2 → x.behind = (x.arm && decide ((channelOf s f c).pos < x.p))) ∧
       (x.dir = 3 → x.behind = (x.arm && (if 0 < (channelOf s f c).moved then decide (x.p ≤ (channelOf s f c).pos)
         else if (channelOf s f c).moved < 0 then decide ((channelOf s f c).pos < x.p) else false))))))

/-- A converter update that keeps track moves ANG to the converter angle less ZOFS and POS by the short-way difference; one out of tolerance (error above
TLTH, amplitude below a quarter of AMPN, or above 32000 rpm) sets TRACK_LOST and moves nothing; several updates in one command are that many commands
200 ns apart. The converter has no error at constant speed (R220; its arithmetic is the model's: log entry 122). After 8192 good updates REACQ takes the converter angle up again (R218, R220, R222). A valid SENT frame sets POS to its value less ZOFS
within the soft limits and counts as good, an invalid one counts as bad and moves nothing (R218, R223); either is the
reference for the next calibration pulse (the model's reading: log entry 102). -/
def Obligations.ResolverAndSent : Prop :=
  (∀ (s : State) (f : FbId) (c : Nat) (u : ConvUpdate), s.runs (.fb f) = true → c < (s.fbk.getF f).ch.length →
    (channelOf s f c).cfg.mode = 2 →
    let h := channelOf s f c
    let d := demodulate h u
    let e := convError h.trk d.2
    let k := convStep h.cfg h.trk d.2
    (u.reps = 1 → |e| ≤ h.cfg.tlth → (h.cfg.ampn : Rat) ≤ 4 * d.1 → |convRpm k| ≤ 32000 → h.trk.lost = false →
      ∃ t, exec (.converterUpdate f c u) s = .next t ∧ onlyFeedback f s t ∧ otherChannels f c s t ∧
        (channelOf t f c).ang = (k.phi.floor.toNat + 65536 - h.cfg.zofs % 65536) % 65536 ∧
        (channelOf t f c).pos = clampI (channelOf s f c).cfg.slo (channelOf s f c).cfg.shi
          ((channelOf s f c).pos + shortWay (channelOf s f c).ang (channelOf t f c).ang) ∧ (channelOf t f c).trk.lost = false) ∧
    (u.reps = 1 → (h.cfg.tlth : Rat) < |e| ∨ 4 * d.1 < h.cfg.ampn ∨ 32000 < |convRpm k| →
      ∃ t, exec (.converterUpdate f c u) s = .next t ∧ onlyFeedback f s t ∧ otherChannels f c s t ∧ (channelOf t f c).trk.lost = true ∧
        (channelOf t f c).ang = (channelOf s f c).ang ∧ (channelOf t f c).pos = (channelOf s f c).pos ∧ (channelOf t f c).trk.okUpd = 0) ∧
    (e = 0 → k.vel = h.trk.vel ∧ k.phi = h.trk.phi + h.trk.vel - 65536 * (((h.trk.phi + h.trk.vel) / 65536).floor : Rat)) ∧
    (∀ off, (channelOf s f c).trk.lost = true → 8192 ≤ (channelOf s f c).trk.okUpd →
      ∃ t, exec (.reacq f c off) s = .next t ∧ onlyFeedback f s t ∧ otherChannels f c s t ∧ (channelOf t f c).trk.lost = false ∧
        (channelOf t f c).ang = (channelOf s f c).trk.conv ∧ (channelOf t f c).trk.seen = true)) ∧
  (∀ (s : State) (f : FbId) (c n : Nat) (u : ConvUpdate), ∃ t, exec (.converterUpdate f c { u with reps := n }) s = .next t ∧
    exec (.converterUpdate f c { u with reps := n + 1 }) s = exec (.converterUpdate f c { u with reps := 1, time := u.time + 32 * n }) t) ∧
  (∀ (s : State) (f : FbId) (c : Nat) (rx : SentRx), s.runs (.fb f) = true → c < (s.fbk.getF f).ch.length →
    (channelOf s f c).cfg.mode = 3 →
    (∀ ns, sentValid (channelOf s f c).sent.cal rx = some ns → (channelOf s f c).cfg.fcw = 0 →
      ∃ t, exec (.sentFrame f c rx) s = .next t ∧ onlyFeedback f s t ∧ otherChannels f c s t ∧
        (channelOf t f c).pos = clampI (channelOf s f c).cfg.slo (channelOf s f c).cfg.shi
          ((256 * ns.getD 1 0 + 16 * ns.getD 2 0 + ns.getD 3 0 : Nat) - ((channelOf s f c).cfg.zofs : Int)) ∧
        (channelOf t f c).sent.fc2 = 256 * ns.getD 4 0 + 16 * ns.getD 5 0 + ns.getD 6 0 ∧
        (channelOf t f c).eva = satAdd 16 (channelOf s f c).eva 1 ∧ (channelOf t f c).sent.cal = some rx.cal) ∧
    (sentValid (channelOf s f c).sent.cal rx = none →
      ∃ t, exec (.sentFrame f c rx) s = .next t ∧ onlyFeedback f s t ∧ otherChannels f c s t ∧
        channelOf t f c = { channelOf s f c with sent := { (channelOf s f c).sent with cal := some rx.cal }, evb := satAdd 16 (channelOf s f c).evb 1 }))

/-- A supply's test pulse goes off at TINR 2 of its round where it pulses, and on again at TINR 4 of it; in another tick or round nothing changes (R239); a supply 5 ms in its limit (96 samples) switches off with
POC and counts (R238); PGOOD follows a supply that is on. No other supply and no input changes. -/
def Obligations.SupplyCommands : Prop :=
  ∀ (s : State) (x : SioId) (n : Nat), s.runs (.sio x) = true → n < (s.sio.getS x).sup.length →
    ((s.ucom.get (.sio x)).tick % 8 = 2 → roundSupply x (s.ucom.get (.sio x)) = some n →
      pulsing (s.ucom.get (.sio x)) (s.sio.getS x) n = true →
      exec (.testPulseOff x n) s = .next { s with sio := s.sio.setS x { s.sio.getS x with
        sup := updAt (s.sio.getS x).sup n (fun y => { y with testOff := y.on }), ran := ((s.sio.getS x).sup.getD n {}).on } }) ∧
    ((s.ucom.get (.sio x)).tick % 8 ≠ 2 ∨ roundSupply x (s.ucom.get (.sio x)) ≠ some n ∨
      pulsing (s.ucom.get (.sio x)) (s.sio.getS x) n = false → exec (.testPulseOff x n) s = .next s) ∧
    ((s.ucom.get (.sio x)).tick % 8 = 4 → roundSupply x (s.ucom.get (.sio x)) = some n → exec (.testPulseOn x n) s = .next { s with sio := s.sio.setS x { s.sio.getS x with
        sup := updAt (s.sio.getS x).sup n (fun y => { y with testOff := false }) } }) ∧
    ((s.ucom.get (.sio x)).tick % 8 ≠ 4 ∨ roundSupply x (s.ucom.get (.sio x)) ≠ some n → exec (.testPulseOn x n) s = .next s) ∧
    (exec (.pgood x n) s = .next { s with sio := s.sio.setS x { s.sio.getS x with
        sup := updAt (s.sio.getS x).sup n (fun y => { y with pgood := y.on }) } }) ∧
    (n < 8 → ((s.sio.getS x).sup.getD n {}).on = true → 96 ≤ ((s.sio.getS x).sup.getD n {}).limTicks →
      ∃ t, exec (.psupOc x n) s = .next t ∧ onlySafety x s t ∧ (t.sio.getS x).ins = (s.sio.getS x).ins ∧
        (∀ k, k ≠ n → (t.sio.getS x).sup.getD k {} = (s.sio.getS x).sup.getD k {}) ∧
        (t.sio.getS x).sup.getD n {} = { (s.sio.getS x).sup.getD n {} with
          on := false, poc := true, pgood := false, testOff := false, limTicks := 0, ocn := satAdd 16 ((s.sio.getS x).sup.getD n {}).ocn 1 })

/-- The ORed feed below 6.0 V switches every supply of the unit off; its return switches those on whose voted SUPON stands, without POC, with a voltage
selected, in a configured unit (R231). XS of an input clears after 16 rounds without a detection (R240). RESTART of a supply is taken up by the
supervision of every lane that runs, and changes nothing in the unit itself: the supply follows from the voted words (R238). -/
def Obligations.FeedCrossShortAndRestart : Prop :=
  (∀ (s : State) (x : SioId), s.runs (.sio x) = true →
    (∃ t, exec (.oredFeedLow x) s = .next t ∧ onlySafety x s t ∧ (t.sio.getS x).feedLow = true ∧
      (∀ y ∈ (t.sio.getS x).sup, y.on = false ∧ y.pgood = false) ∧ (t.sio.getS x).ins = (s.sio.getS x).ins) ∧
    ((s.sio.getS x).feedLow = true →
      ∃ t, exec (.oredFeedReturn x) s = .next t ∧ onlySafety x s t ∧ (t.sio.getS x).feedLow = false ∧
        (t.sio.getS x).sup = (s.sio.getS x).sup.map (fun y => { y with
          on := y.supon && !y.poc && decide (y.vsel ≠ 0) && (s.ucom.get (.sio x)).cfg.loaded }) ∧
        (t.sio.getS x).ins = (s.sio.getS x).ins) ∧
    (∀ n, ((s.sio.getS x).ins.getD n {}).xs = true → 16 ≤ ((s.sio.getS x).ins.getD n {}).quiet → n < (s.sio.getS x).ins.length →
      ∃ t, exec (.xsClear x n) s = .next t ∧ onlySafety x s t ∧ (t.sio.getS x).sup = (s.sio.getS x).sup ∧
        (t.sio.getS x).ins.getD n {} = { (s.sio.getS x).ins.getD n {} with xs := false } ∧
        ∀ k, k ≠ n → (t.sio.getS x).ins.getD k {} = (s.sio.getS x).ins.getD k {})) ∧
  (∀ (s : State) (x : SioId) (n : Nat), ∃ t, exec (.supplyRestart x n) s = .next t ∧ t = { s with lanes := t.lanes } ∧
    ∀ l, t.lanes.get l = if (s.lanes.get l).dom = .on ∧ (s.lanes.get l).state ≠ .off then
      { s.lanes.get l with main := { (s.lanes.get l).main with restartSup := (s.lanes.get l).main.restartSup ++ [(x.idx, n)] } }
      else s.lanes.get l)

/-- A tick mark on a trained link is timestamped, less the link's measured delay, and kept with its TICK; where it is the only mark of the tick the unit
takes its TICK, and ROUND with it where TICK changes (R58, R59, R62, R72; the ROUND of a jump is the model's choice: log entry 78). The mark a lane sent
at its tick boundary arrives in the same way and is then no longer on its link. -/
def Obligations.TickMarkArrives : Prop :=
  ∀ (s : State) (u : UnitId) (l : LaneId) (a : Int), s.runs u = true → ((s.ucom.get u).links.get l).up = true →
    (∀ tick, tick < 4294967296 → (∀ k, k ≠ l → ((s.ucom.get u).links.get k).mark = none) →
      (s.ucom.get u).admitted = [] ∨ ((s.ucom.get u).links.get l).adm = true →
      ∃ t, exec (.tickMarkArrival u l (some tick) a) s = .next t ∧ onlyUnit u s t ∧
        ((t.ucom.get u).links.get l).mark = some (tick, a - (((s.ucom.get u).links.get l).delay : Int)) ∧
        ((t.ucom.get u).links.get l).inwin = true ∧ (t.ucom.get u).tick = tick ∧
        (tick ≠ (s.ucom.get u).tick → (t.ucom.get u).round = tick / 8 % 16777216) ∧
        ((t.ucom.get u).links.get l).adm = ((s.ucom.get u).links.get l).adm ∧ (t.ucom.get u).vote = (s.ucom.get u).vote) ∧
    (∀ tick, ((s.lanes.get l).main.units.get u).mark = some tick → ∃ t, exec (.tickMarkArrival u l (some tick) a) s = .next t ∧
      exec (.tickMarkArrival u l none a) s = .next (t.setLane l { s.lanes.get l with main := { (s.lanes.get l).main with
        units := (s.lanes.get l).main.units.set u { (s.lanes.get l).main.units.get u with mark := none } } }))

/-- A command block with a right CRC, of the unit's tick and of the lane of its link, before the deadline, is the block the unit votes: its words and tick
are kept; WITHDRAW in it, or a dirty verdict, withdraws the lane's admission at once (R18, R23, R27, R28); one of STATE TRANSLATE adds its record to
the lane's record set (R91). A block after the deadline is discarded (R23). All of this while no configuration load is due (R93). The block a lane has
posted arrives in the same way and is then no longer on its link. -/
def Obligations.CommandBlockReceived : Prop :=
  (∀ (s : State) (u : UnitId) (l : LaneId) (mode state verdict vtick : Nat) (wd : Bool) (ws : List Int),
    s.runs u = true → ((s.ucom.get u).links.get l).up = true → loadDue (s.ucom.get u) = none → mode < 16 → state < 16 → verdict < 4 →
    vtick < 256 → ws.length = 13 → (∀ w ∈ ws, -2147483648 ≤ w ∧ w ≤ 2147483647) → (s.ucom.get u).tick < 4294967296 →
    (let bs := cmdBytes (s.ucom.get u).tick l.code mode state verdict vtick wd ws
     ((s.ucom.get u).vote.done = false → state ≠ 2 → ∃ t, exec (.commandBlock u l (some bs) 0) s = .next t ∧ onlyUnit u s t ∧
        (∃ r, ((t.ucom.get u).links.get l).rx = some r ∧ r.tick = (s.ucom.get u).tick ∧ r.lane = l.code ∧ r.words = ws ∧
          r.state = state ∧ r.withdraw = wd ∧ r.crcOk = true) ∧
        ((t.ucom.get u).links.get l).adm = (((s.ucom.get u).links.get l).adm && !wd && decide (verdict < 2)) ∧
        (t.ucom.get u).vote = (s.ucom.get u).vote) ∧
     ((s.ucom.get u).vote.done = false → state = 2 → ∃ t, exec (.commandBlock u l (some bs) 0) s = .next t ∧ t.lanes = s.lanes ∧
        ((t.ucom.get u).links.get l).recs = recPut ((s.ucom.get u).links.get l).recs ws ∧ (∀ v, v ≠ u → t.ucom.get v = s.ucom.get v)) ∧
     ((s.ucom.get u).vote.done = true → exec (.commandBlock u l (some bs) 0) s = .next s))) ∧
  (∀ (s : State) (u : UnitId) (l : LaneId) (bs : Bytes) (stale : Nat), s.runs u = true → ((s.lanes.get l).main.units.get u).posted = some bs →
    ∃ t, exec (.commandBlock u l (some bs) stale) s = .next t ∧ exec (.commandBlock u l none stale) s = .next (t.setLane l
      { s.lanes.get l with main := { (s.lanes.get l).main with
        units := (s.lanes.get l).main.units.set u { (s.lanes.get l).main.units.get u with posted := none } } }))

/-- The vote of one word (R25): of three valid values the median, held when two of the three stand apart from it by more than the window; of two values
within the window their mean rounded toward zero, held beyond it; of one the value itself where only one lane is admitted, and held otherwise. -/
def Obligations.WordVote : Prop :=
  (∀ adm w (x y z : Int), ∃ m, m = max (min x y) (min (max x y) z) ∧ (wordVote adm [(.a, x), (.b, y), (.c, z)] w).1 =
    if 2 ≤ (if w < (x - m).natAbs then 1 else 0) + (if w < (y - m).natAbs then 1 else 0) + (if w < (z - m).natAbs then 1 else 0)
    then none else some m) ∧
  (∀ adm w (k l : LaneId) (x y : Int), (wordVote adm [(k, x), (l, y)] w).1 =
    if (x - y).natAbs ≤ w then some ((x + y).tdiv 2) else none) ∧
  (∀ adm w (k : LaneId) (x : Int), (wordVote adm [(k, x)] w).1 = if adm = 1 then some x else none)

/-- The command deadline of a configured unit that runs, with valid blocks from admitted lanes and no resolution running, in an island also
under a voter fault: every voted word on which they
agree takes its value, the others stay as they were; HOLD is reported where some word is held (R23-R25, R28). -/
def Obligations.CommandDeadlineVotes : Prop :=
  ∀ (s : State) (u : UnitId), s.runs u = true → (s.ucom.get u).cfg.loaded = true →
    ((s.ucom.get u).vote.fault = false ∨ ∃ i, u = .isl i) →
    (s.ucom.get u).vote.dispute = none → (s.ucom.get u).vote.out.length = 13 →
    (let c := s.ucom.get u
     let valid := allLanes.filter (blockValid c)
     let voted := fun (w : Nat) => match c.vote.windows.getD w none with
       | some win => (wordVote c.admitted.length (wordVals c valid w) win).1
       | none => none
     valid ≠ [] → ∃ t, exec (.commandDeadline u) s = .next t ∧ (t.ucom.get u).vote.done = true ∧ (t.ucom.get u).vote.fresh = true ∧
       (∀ w, w < 13 → (t.ucom.get u).vote.out.getD w 0 = (voted w).getD (c.vote.out.getD w 0)) ∧
       ((∃ w, w < 13 ∧ (c.vote.windows.getD w none).isSome = true ∧ voted w = none) → (t.ucom.get u).vote.dispute = some c.tick) ∧
       ((∀ w, w < 13 → (c.vote.windows.getD w none).isSome = true → voted w ≠ none) → (t.ucom.get u).vote.dispute = none) ∧
       (t.lanes = s.lanes ∧ t.polvin = s.polvin ∧ ∀ k, k ≠ u → t.ucom.get k = s.ucom.get k))

/-- A passed voter self-test counts, and the 256th in a row ends VOTER_FAULT (the model's reading: log entry 42); a failed one raises it, and in a feedback or safety-I/O unit keeps the words in
effect. Lanes missing for eight consecutive ticks, `gone` since, lose their admission at the round boundary; the deadline of the eighth such tick
marks them, and a valid block after it does not bring them back (R27, R31-R33). -/
def Obligations.VoterTestAndWithdrawal : Prop :=
  ∀ (s : State) (u : UnitId), s.runs u = true →
    (exec (.voterSelfTest u true) s = .next (s.setUnit u { s.ucom.get u with vote := { (s.ucom.get u).vote with
      lastPat := (s.ucom.get u).tick % 16, passes := (s.ucom.get u).vote.passes + 1,
      fault := (s.ucom.get u).vote.fault && decide ((s.ucom.get u).vote.passes + 1 < 256) } })) ∧
    (∃ t, exec (.voterSelfTest u false) s = .next t ∧ onlyUnit u s t ∧ (t.ucom.get u).vote.fault = true ∧
      (t.ucom.get u).vote.passes = 0 ∧ (t.ucom.get u).vote.tfail = satAdd 16 (s.ucom.get u).vote.tfail 1 ∧
      (t.ucom.get u).evt.status.testBit 0 = true ∧ 
      (∀ l, (t.ucom.get u).links.get l = { (s.ucom.get u).links.get l with evPend := ((t.ucom.get u).links.get l).evPend }) ∧
      ((∀ i, u ≠ .isl i) → (t.ucom.get u).vote.out = (s.ucom.get u).vote.act)) ∧
    ((s.ucom.get u).roundDue = true → ∃ t, exec (.missingWithdrawal u) s = .next t ∧ onlyUnit u s t ∧
      (t.ucom.get u).vote = (s.ucom.get u).vote ∧ ∀ l, (t.ucom.get u).links.get l =
        if ((s.ucom.get u).links.get l).adm = true ∧ ((s.ucom.get u).links.get l).gone = true then
          { (s.ucom.get u).links.get l with adm := false, synctk := 0, gone := false } else (s.ucom.get u).links.get l) ∧
    ((s.ucom.get u).roundDue = false → exec (.missingWithdrawal u) s = .next s) ∧
    ∀ (against : List LaneId) (l : LaneId), (judgeLink (s.ucom.get u) against l ((s.ucom.get u).links.get l)).gone =
      (((s.ucom.get u).links.get l).gone || (((s.ucom.get u).links.get l).adm && !blockSound (s.ucom.get u) l &&
        decide (7 ≤ ((s.ucom.get u).links.get l).miss)))

/-- A lane on its PLL trains a link and its delay is kept; a link that goes down is no longer trained, its crossing is reset at both ends, so that what
was in flight is lost and the block of the tick counts as missing (that the record set begun and MATCH go with it is the model's reading: log entry
83), and the lane records event 18; a unit kept in RETENTION while a cancelled entry
returns runs again when every lane has trained its link, and at its limit, an island in the state of its causes (R35, R58, R67, R365, R396). -/
def Obligations.LinksAndRetention : Prop :=
  ∀ (s : State) (l : LaneId) (u : UnitId),
    (∀ d, (s.lanes.get l).dom = .on → (s.lanes.get l).state ≠ .off → (s.lanes.get l).state ≠ .retired → (s.lanes.get l).aon.pwr.pll = true →
      ((s.ucom.get u).dom = .on → exec (.linkTraining l u d) s = .next (s.setUnit u
        ((s.ucom.get u).setLink l { (s.ucom.get u).links.get l with up := true, delay := d }))) ∧
      ((s.ucom.get u).dom = .retention → (s.ucom.get u).slp.returning = true → (s.ucom.get u).slp.slot = none →
        (∀ k, k ≠ l → (s.lanes.get k).dom = .off ∨ (s.lanes.get k).state = .off ∨ (s.lanes.get k).state = .retired ∨
          ((s.ucom.get u).links.get k).up = true) →
        exec (.linkTraining l u d) s = .next (unitSettled u (s.setUnit u
          { (s.ucom.get u).setLink l { (s.ucom.get u).links.get l with up := true, delay := d } with dom := .on, slp := {} })))) ∧
    (((s.ucom.get u).links.get l).up = true → (s.lanes.get l).dom = .on → (s.lanes.get l).state ≠ .off → (s.lanes.get l).state ≠ .retired →
      ∃ t, exec (.linkDown l u) s = .next t ∧ onlyLane l (s.setUnit u (t.ucom.get u)) t ∧
        (t.ucom.get u).links.get l = { (s.ucom.get u).links.get l with
          up := false, mark := none, rx := none, inwin := false, writes := [], next := [], answers := [], evPend := 0, recs := {}, agree := false } ∧
        (∀ k, k ≠ l → (t.ucom.get u).links.get k = (s.ucom.get u).links.get k) ∧
        (t.lanes.get l).main.units.get u = ((s.lanes.get l).main.units.get u).linkReset ∧
        (t.lanes.get l).main.evt.status.testBit 18 = true ∧ (t.lanes.get l).state = (s.lanes.get l).state) ∧
    (((s.ucom.get u).links.get l).up = false → exec (.linkDown l u) s = .next s) ∧
    ((s.ucom.get u).dom = .retention → (s.ucom.get u).slp.returning = true → (s.ucom.get u).slp.slot = none →
      exec (.unitRetentionLimit u) s = .next (unitSettled u (s.setUnit u { s.ucom.get u with dom := .on, slp := {} })))

/-- A measurement block with a right CRC, in time, from its unit and with no field STALE is the lane's view of that unit; a lane in VOTING uses it only
for its own tick, a lane not yet voting takes any (the model's reading: log entry 65). One with a field STALE leaves the last accepted block in use (R65). One with a wrong CRC, and one that is late, is counted and nothing
else (R19, R74). No other lane changes. -/
def Obligations.MeasurementBlockTaken : Prop :=
  ∀ (s : State) (l : LaneId) (u : UnitId) (b : Bytes), (s.lanes.get l).awake = true → ((s.ucom.get u).links.get l).up = true →
    (b.length = 64 → crc32 (slice b 0 60) = u32At b 60 → byteAt b 4 % 16 = u.code →
      ∃ t, exec (.measurementBlock l u (some b) false false) s = .next t ∧ ((t.lanes.get l).main.units.get u).block = b ∧
        ((t.lanes.get l).main.units.get u).seen = true ∧ ((t.lanes.get l).main.units.get u).stale = false ∧
        ((s.lanes.get l).state = .voting → ((t.lanes.get l).main.units.get u).fresh = decide (u32At b 0 = (s.lanes.get l).main.time.tick)) ∧
        (∀ v, v ≠ u → (t.lanes.get l).main.units.get v = (s.lanes.get l).main.units.get v) ∧
        (∀ k, k ≠ l → t.lanes.get k = s.lanes.get k) ∧ t.ucom.fb = s.ucom.fb ∧ t.ucom.sio = s.ucom.sio ∧ t.polvin = s.polvin) ∧
    (b.length = 64 → crc32 (slice b 0 60) = u32At b 60 → byteAt b 4 % 16 = u.code →
      ∃ t, exec (.measurementBlock l u (some b) false true) s = .next t ∧ onlyLane l s t ∧
        (t.lanes.get l).main.units.get u = { (s.lanes.get l).main.units.get u with
          stale := true, fresh := ((s.lanes.get l).main.units.get u).seen }) ∧
    (∀ late stale, b.length ≠ 64 ∨ crc32 (slice b 0 60) ≠ u32At b 60 →
      ∃ t, exec (.measurementBlock l u (some b) late stale) s = .next t ∧ onlyLane l s t ∧
        (t.lanes.get l).main.units.get u = { (s.lanes.get l).main.units.get u with
          crcerr := satAdd 16 ((s.lanes.get l).main.units.get u).crcerr 1 }) ∧
    (∀ stale, b.length = 64 → crc32 (slice b 0 60) = u32At b 60 →
      ∃ t, exec (.measurementBlock l u (some b) true stale) s = .next t ∧ onlyLane l s t ∧
        (t.lanes.get l).main.units.get u = { (s.lanes.get l).main.units.get u with
          late := satAdd 16 ((s.lanes.get l).main.units.get u).late 1 })

/-- An event symbol whose CRC-16 holds and that names the lane's tick brings the lane the unit's event words and acknowledges the events that waited on
the crossing; any other is discarded and the lane keeps the last words (R66, R373; the byte order of the symbol is the model's reading: log entry 134).
A register symbol of
writes is kept for the agreement of the lanes, for the boundary after the next where it falls into the hand-over cycle (R70); a read
of TICK is answered with its value at the unit's last round boundary, or as it stands where the unit has had none (R404, R408; log entry 140). -/
def Obligations.SymbolsCross : Prop :=
  ∀ (s : State) (l : LaneId) (u : UnitId), s.runs u = true → ((s.ucom.get u).links.get l).up = true →
    ((s.lanes.get l).awake = true → ∀ b : Bytes, b.length = 9 →
      byteAt b 0 = (s.lanes.get l).main.time.tick % 256 → ∃ t, exec (.eventSymbol l u (some b) (some (crc16 0xFFFF b))) s = .next t ∧
      onlyLane l (s.setUnit u (t.ucom.get u)) t ∧
      t.ucom.get u = (s.ucom.get u).setLink l { (s.ucom.get u).links.get l with evPend := 0 } ∧
      let v : UnitView := { (s.lanes.get l).main.units.get u with
        pend := u32At b 1, sev := u32At b 5, chop := ((t.lanes.get l).main.units.get u).chop }
      (t.lanes.get l).main = { (s.lanes.get l).main with units := (s.lanes.get l).main.units.set u v }) ∧
    (∀ (b : Bytes) (crc : Nat), b.length ≠ 9 ∨ crc16 0xFFFF b ≠ crc ∨ byteAt b 0 ≠ (s.lanes.get l).main.time.tick % 256 →
      exec (.eventSymbol l u (some b) (some crc)) s = .next s) ∧
    ((s.lanes.get l).awake = true → (s.ucom.get u).tick % 256 = (s.lanes.get l).main.time.tick % 256 → ∃ t, exec (.eventSymbol l u none none) s = .next t ∧
      ((t.lanes.get l).main.units.get u).pend = evtPend (s.ucom.get u).evt % 4294967296 ∧
      ((t.lanes.get l).main.units.get u).sev = (s.ucom.get u).evt.severe % 4294967296 ∧
      ((t.ucom.get u).links.get l).evPend = 0 ∧ (t.ucom.get u).evt = (s.ucom.get u).evt) ∧
    (∀ accs : List RegAcc, accs.length ≤ 8 → (∀ a ∈ accs, a.isWrite = true) →
      exec (.registerSymbol u l (some accs)) s = .next (s.setUnit u ((s.ucom.get u).setLink l
        (if (s.ucom.get u).roundDue then
          { (s.ucom.get u).links.get l with answers := [], next := ((s.ucom.get u).links.get l).next ++ accs }
        else { (s.ucom.get u).links.get l with answers := [], writes := ((s.ucom.get u).links.get l).writes ++ accs })))) ∧
    (∀ (a : RegAcc), a.isWrite = false → a.addr = 0x100000 →
      (s.snaps.get u = none → exec (.registerSymbol u l (some [a])) s = .next (s.setUnit u ((s.ucom.get u).setLink l
        { (s.ucom.get u).links.get l with answers := [(a.addr, (s.ucom.get u).tick)] }))) ∧
      (∀ p, s.snaps.get u = some p → ∃ t, exec (.registerSymbol u l (some [a])) s = .next t ∧
        t = { s with ucom := t.ucom, snaps := t.snaps } ∧
        t.ucom.get u = (s.ucom.get u).setLink l { (s.ucom.get u).links.get l with answers := [(a.addr, p.com.tick)] } ∧
        (∀ v, v ≠ u → t.ucom.get v = s.ucom.get v ∧ t.snaps.get v = s.snaps.get v) ∧
        t.snaps.get u = some { p with taken := p.taken ++ [(l, a.addr)] }))

/-- The tick boundary of a unit: TICK advances by one modulo 2^32, a round is due when its low three bits become 0, the marks and blocks of the tick
before are gone and the deadline is open again (R52, R53, R57). Only that unit changes. The tick boundary of a lane whose main domain runs: TICK
advances by one modulo 2^32, a round is due when its low three bits become 0, what it posted is gone, what it received is that of the tick before,
and a mark with its TICK goes out on every link (R52, R57, R58). No unit changes, and no other lane where no key exchange waits (R272). -/
def Obligations.TickBoundaries : Prop :=
  ((∀ s i smp, s.runs (.isl i) = true → ∃ t, exec (.tickBoundary (.island i smp)) s = .next t ∧ onlyIsland i s t ∧
    tickBegun (s.ucom.get (.isl i)) (t.ucom.get (.isl i))) ∧
  (∀ s f fd, s.runs (.fb f) = true → ∃ t, exec (.tickBoundary (.fb f fd)) s = .next t ∧ onlyFeedback f s t ∧
    tickBegun (s.ucom.get (.fb f)) (t.ucom.get (.fb f))) ∧
  (∀ s x smp, s.runs (.sio x) = true → ∃ t, exec (.tickBoundary (.sio x smp)) s = .next t ∧ onlySafety x s t ∧
    tickBegun (s.ucom.get (.sio x)) (t.ucom.get (.sio x)))) ∧
  (∀ (s : State) (l : LaneId) (vl : Nat) (pin : Bool), (s.lanes.get l).aon.on = true → (s.lanes.get l).awake = true →
    ∃ t, exec (.tickBoundary (.lane l vl pin)) s = .next t ∧ t.ucom = s.ucom ∧ t.isl = s.isl ∧ t.fbk = s.fbk ∧ t.sio = s.sio ∧
      (s.waitingJoins = [] → (∀ k, k ≠ l → t.lanes.get k = s.lanes.get k) ∧ (t.lanes.get l).main.net = (s.lanes.get l).main.net) ∧
      (t.lanes.get l).state = (s.lanes.get l).state ∧ (t.lanes.get l).aon.pwr.vl = vl ∧ (t.lanes.get l).aon.pwr.pin = pin ∧
      (t.lanes.get l).main.time.tick = ((s.lanes.get l).main.time.tick + 1) % 4294967296 ∧
      (t.lanes.get l).main.time.roundDue = decide (((s.lanes.get l).main.time.tick + 1) % 4294967296 % 8 = 0) ∧
      (t.lanes.get l).main.time.round = (s.lanes.get l).main.time.round ∧ (t.lanes.get l).main.check.worked = false ∧
      (t.lanes.get l).main.mem = (s.lanes.get l).main.mem ∧
      ∀ u, (t.lanes.get l).main.units.get u = { (s.lanes.get l).main.units.get u with
        was := ((s.lanes.get l).main.units.get u).fresh, fresh := false, posted := none
        mark := some (((s.lanes.get l).main.time.tick + 1) % 4294967296)
        fwd := ((s.lanes.get l).main.units.get u).fwd ++ ((s.lanes.get l).main.units.get u).later, later := [] })

/-- The round boundary of a unit to which no register write is due: ROUND advances by one modulo 2^24; a lane keeps its admission unless it was missing
for eight consecutive ticks or its disagreement source is SEVERE, and gains it with 64 ticks of SYNCOK, its configuration matching and loaded (R26, R27, R52,
R93); its registers as they then stand are what reads of the round are answered with (R408; log entry 140). The round boundary of a lane in VOTING for
which no request to go OFF waits: ROUND advances by one modulo 2^24 and the trim of the coming round is at most 80 ns, TRIM being 250 a ns
(R52, R61, R63; the unit and sign of TRIM are the model's reading: log entry 54); the signatures of its tasks are compared and reset, and in lane A or B a pair
that differs raises SIG_MISMATCH (R314, R315). -/
def Obligations.RoundBoundaries : Prop :=
  (∀ (s : State) (u : UnitId) (turned : List (Nat × Nat)), s.runs u = true → (s.ucom.get u).roundDue = true → (s.ucom.get u).shadow.due = [] →
    (∀ l, ((s.ucom.get u).links.get l).writes = []) → (s.ucom.get u).slp.since = none →
    ∃ t, exec (.roundBoundary (.unit u) turned) s = .next t ∧
      (∀ k, t.lanes.get k = { s.lanes.get k with main := { (s.lanes.get k).main with groupSent := (t.lanes.get k).main.groupSent } }) ∧
      t = { s with lanes := t.lanes, ucom := s.ucom.set u (t.ucom.get u), snaps := s.snaps.set u (some (t.snapUnit u)) } ∧
      (t.ucom.get u).round = ((s.ucom.get u).round + 1) % 16777216 ∧ (t.ucom.get u).roundDue = false ∧
      (t.ucom.get u).tick = (s.ucom.get u).tick ∧ (t.ucom.get u).vote = (s.ucom.get u).vote ∧
      ∀ l, ((t.ucom.get u).links.get l).adm =
        if (s.ucom.get u).evt.severe.testBit (1 + l.idx) = true then false
        else if ((s.ucom.get u).links.get l).adm = true then !((s.ucom.get u).links.get l).gone
        else decide (64 ≤ ((s.ucom.get u).links.get l).synctk) && ((s.ucom.get u).links.get l).agree && (s.ucom.get u).cfg.loaded) ∧
  (∀ (s : State) (l : LaneId) (turned : List (Nat × Nat)), (s.lanes.get l).awake = true → (s.lanes.get l).state = .voting → (s.lanes.get l).main.time.roundDue = true →
    (s.lanes.get l).aon.pwr.slot ≠ some .off → ∃ t, exec (.roundBoundary (.lane l) turned) s = .next t ∧
      (t.lanes.get l).main.time.round = ((s.lanes.get l).main.time.round + 1) % 16777216 ∧
      (t.lanes.get l).main.time.tick = (s.lanes.get l).main.time.tick ∧ (t.lanes.get l).main.time.roundDue = false ∧
      (t.lanes.get l).main.time.trim.natAbs ≤ 20000 ∧ (t.lanes.get l).main.sigs = [] ∧
      (l ≠ .c → (∃ e ∈ ((s.lanes.get l).turnSigs turned).main.sigs, e.2.1 ≠ e.2.2) → (t.lanes.get l).main.evt.status.testBit 129 = true))

/-- The tick work of a lane that computes posts a command block for every unit: 64 bytes with its TICK, its LANE code and its mode (R18, R140, R305).
The block of an island whose primary and mirror buffers differ in lanes A and B, or to which a NaN was posted (R308), is withheld and the lane withdraws and retries (R310, R312, R313, R316), as is one not posted in time (R140). Only that
lane changes. -/
def Obligations.TickWorkPostsBlocks : Prop :=
  ∀ (s : State) (l : LaneId), (s.lanes.get l).computing = true →
    ((s.lanes.get l).main.time.tick < 4294967296 → ∃ t, exec (.tickWorkStart l []) s = .next t ∧ onlyLane l s t ∧
      (t.lanes.get l).main.check.worked = true ∧
      (t.lanes.get l).state = (s.lanes.get l).state ∧ (t.lanes.get l).main.mem = (s.lanes.get l).main.mem ∧
      (∀ u, (∀ i, u = .isl i → l ≠ .c → (t.lanes.get l).main.words.get u = (t.lanes.get l).main.mwords.get u ∧
          u.code ∉ (t.lanes.get l).main.nans) →
        ∃ b, ((t.lanes.get l).main.units.get u).posted = some b ∧ b.length = 64 ∧
          u32At b 0 = (s.lanes.get l).main.time.tick ∧ byteAt b 4 = l.code + 16 * modeCode (s.lanes.get l).main.mode.mode) ∧
      (∀ i, l ≠ .c → (t.lanes.get l).main.words.get (.isl i) ≠ (t.lanes.get l).main.mwords.get (.isl i) ∨
          (UnitId.isl i).code ∈ (t.lanes.get l).main.nans →
        ((t.lanes.get l).main.units.get (.isl i)).posted = none ∧ (t.lanes.get l).main.check.withdraw = true ∧
        (t.lanes.get l).main.check.retry ≠ none ∧ (t.lanes.get l).main.evt.status.testBit 128 = true)) ∧
    (∀ ups u, Upset.late u ∈ ups → ∃ t, exec (.tickWorkStart l ups) s = .next t ∧ onlyLane l s t ∧
      ((t.lanes.get l).main.units.get u).posted = none)

/-- At the posting deadline work not done in time raises TICK_OVERRUN and turns a clean verdict not yet posted dirty, and an island's block that lane A or B
then has not posted is a mismatch (R56, R312, R313, R316); an engine of lane C whose count is not the one SCHEDC gives raises SCHED_COUNT with a dirty
verdict; work done in time changes nothing (R56, R319). A round overrun raises its event in lanes A and B (R305). The verdict on a disputed tick is clean
where the recomputations give what was posted and no self-check has failed since, else dirty with withdrawal (R29, R317). A canvas block behind the
disputed words that lane C reads wrong in that check, a failed engine test and a wrong readback in the tick with TINR 7 make its verdict dirty
(R29, R320, R321). -/
def Obligations.DeadlinesVerdictsSelfChecks : Prop :=
  (∀ (s : State) (l : LaneId), (s.lanes.get l).computing = true →
    ((s.lanes.get l).main.check.worked = false ∨ (s.lanes.get l).main.check.late ≠ 0 →
      ∀ miss, ∃ t, exec (.postingDeadline l miss) s = .next t ∧ onlyLane l s t ∧ (t.lanes.get l).main.evt.status.testBit 0 = true ∧
        (t.lanes.get l).main.check.failAge = some (s.lanes.get l).main.time.age ∧ (t.lanes.get l).main.net = (s.lanes.get l).main.net ∧
        ((s.lanes.get l).main.check.verdict = 1 → (t.lanes.get l).main.check.verdict = 2 ∧ (t.lanes.get l).main.check.withdraw = true) ∧
        (l ≠ .c → ∀ i, (s.lanes.get l).main.check.worked = false ∨ (s.lanes.get l).main.check.late.testBit (UnitId.isl i).idx = true →
          ((t.lanes.get l).main.units.get (.isl i)).posted = none ∧ (t.lanes.get l).main.evt.status.testBit 128 = true ∧
          (t.lanes.get l).main.check.verdict = 2)) ∧
    (∀ miss, (s.lanes.get l).main.check.worked = true → (s.lanes.get l).main.check.late = 0 → l ≠ .c ∨ (s.lanes.get l).miscounts miss = 0 →
      exec (.postingDeadline l miss) s = .next s) ∧
    (∀ miss, l = .c → (s.lanes.get l).miscounts miss ≠ 0 → ∃ t, exec (.postingDeadline l miss) s = .next t ∧ onlyLane l s t ∧
      (t.lanes.get l).main.evt.status.testBit 15 = true ∧
      (t.lanes.get l).aon.mem.eng = (s.lanes.get l).aon.mem.eng ||| (s.lanes.get l).miscounts miss ∧
      (t.lanes.get l).main.check.verdict = 2 ∧ (t.lanes.get l).main.check.withdraw = true) ∧
    (∀ miss e, e < 32 → ((s.lanes.get l).miscounts miss).testBit e = decide ((s.lanes.get l).main.engCount.getD e 0 + b2n (miss.testBit e) ≠
      ((s.lanes.get l).main.canvas.engineEntries ((s.lanes.get l).main.time.tick % 8)).getD e 0)) ∧
    (l ≠ .c → ∃ t, exec (.roundOverrun l) s = .next t ∧ onlyLane l s t ∧ (t.lanes.get l).main.evt.status.testBit 131 = true ∧
      (t.lanes.get l).main.net = (s.lanes.get l).main.net ∧ (t.lanes.get l).main.units = (s.lanes.get l).main.units) ∧
    (l = .c → exec (.roundOverrun l) s = .next s)) ∧
  ((∀ (s : State) (l : LaneId) (d : Nat) (finds : CheckFinds), (s.lanes.get l).computing = true →
    (s.lanes.get l).main.check.checking = some d → finds.upsets = [] → finds.read = [] ∨ l ≠ .c →
    let failed := match (s.lanes.get l).main.check.failAge with
      | some a => decide ((s.lanes.get l).main.time.age ≤ a + ((s.lanes.get l).main.time.tick + 4294967296 - d) % 4294967296)
      | none => false
    let ok := (s.lanes.get l).reproduces l d (s.lanes.get l).main.check.held [] && !failed
    exec (.verdictCheck l finds) s = .next (s.setLane l { s.lanes.get l with main := { (s.lanes.get l).main with
      check := { (s.lanes.get l).main.check with
        verdict := if ok then 1 else 2, vtick := d % 256, withdraw := (s.lanes.get l).main.check.withdraw || !ok,
        checking := (s.lanes.get l).main.check.next, held := (s.lanes.get l).main.check.nextHeld, next := none, nextHeld := 0 } } })) ∧
  (∀ (s : State) (d i : Nat) (u : UnitId) (bs : Bytes) (finds : CheckFinds), s.lanes.c.computing = true →
    s.lanes.c.main.check.checking = some d → finds.upsets = [] → s.lanes.c.main.check.held.testBit u.idx = true →
    i ∈ s.lanes.c.main.canvas.cellsBehind u.code → (cellBlock i, bs) ∈ finds.read → s.lanes.c.blockGood (cellBlock i) bs = false →
    ∃ t, exec (.verdictCheck .c finds) s = .next t ∧ onlyLane .c s t ∧ t.lanes.c.main.evt.status.testBit 17 = true ∧
      t.lanes.c.aon.mem.rbFail = true ∧ t.lanes.c.main.check.verdict = 2 ∧ t.lanes.c.main.check.withdraw = true) ∧
  (∀ (s : State) (k : Nat), s.lanes.c.computing = true → s.lanes.c.main.time.tick % 8 = 7 → k ≠ 0 → k < 4294967296 →
    ∃ t, exec (.engineTest k) s = .next t ∧ onlyLane .c s t ∧ t.lanes.c.aon.mem.eng = s.lanes.c.aon.mem.eng ||| k ∧
      t.lanes.c.main.check.verdict = 2 ∧ t.lanes.c.main.check.withdraw = true ∧ t.lanes.c.main.evt.status.testBit 16 = true) ∧
  (∀ (s : State) (read : Option Bytes), s.lanes.c.computing = true → s.lanes.c.main.time.tick % 8 = 7 →
    let b := s.lanes.c.main.time.round % 256
    let ok := s.lanes.c.blockGood b (read.getD (s.lanes.c.main.cmem.getD b []))
    ∃ t, exec (.readbackCrc read) s = .next t ∧ onlyLane .c s t ∧ t.lanes.c.aon.mem.rbBlock = b ∧
      (ok = false → t.lanes.c.aon.mem.rbFail = true ∧ t.lanes.c.aon.mem.rbFailBlock = b ∧ t.lanes.c.main.check.verdict = 2 ∧
        t.lanes.c.main.evt.status.testBit 17 = true) ∧
      (ok = true → t.lanes.c.main = s.lanes.c.main)))

/-- The TIGHTROPE limit begins a controlled stop and changes nothing else; standstill at its end, and a start-up whose time has run out while the units
show too few lanes to start, put the lane in HALT, held in the always-on domain, with the park brake applied; lane C then asserts its inhibit lines
(R35, R41, R42, R44). A lane that is off its PLL, or to which the units show enough lanes, is not put in HALT by its own start-up time (R49, R392; the
model's reading: log entry 136). -/
def Obligations.StopsAndHalt : Prop :=
  ∀ (s : State) (l : LaneId),
    ((s.lanes.get l).computing = true → (s.lanes.get l).main.mode.mode = .tightrope →
      (s.lanes.get l).main.canvas.mode.trlim * 20000 ≤ (s.lanes.get l).aon.trSum →
      exec (.tightropeLimit l) s = .next (s.setLane l { s.lanes.get l with main := { (s.lanes.get l).main with
        mode := { (s.lanes.get l).main.mode with stop := true } } })) ∧
    ((s.lanes.get l).computing = true → (s.lanes.get l).main.mode.stop = true → 40000 ≤ (s.lanes.get l).main.mode.slow →
      ∃ t, exec (.standstill l) s = .next t ∧ haltedIn l s t) ∧
    ((s.lanes.get l).awake = true → (s.lanes.get l).state ≠ .retrying → (s.lanes.get l).aon.pwr.pll = true →
      (s.lanes.get l).main.mode.mode = .none → (s.lanes.get l).main.mode.started = false →
      startMode (s.lanes.get l).needsFull (s.lanes.get l).admitCounts = .none →
      (s.lanes.get l).main.mode.startMs + (if (s.lanes.get l).loader.acached then 400 else 2500) ≤ (s.lanes.get l).aon.ms →
      ∃ t, exec (.startupTimeout l) s = .next t ∧ haltedIn l s t) ∧
    ((s.lanes.get l).aon.pwr.pll = false ∨ startMode (s.lanes.get l).needsFull (s.lanes.get l).admitCounts ≠ .none →
      exec (.startupTimeout l) s = .next s)

/-- SERVICE: entered on SVCREQ of a Ringmaster with SVCOK from FULL, DUPLEX or HALT without a stop, at standstill with the park brake applied, and then
HALT is no longer held and latched flags are cleared; as the first lane enters, the latched flags of the others are cleared too, each of which takes
its mode by itself (log entry 82); refused and counted while the vehicle moves; left for SKETCH, or by SVCEXIT for the mode R39
gives (R39, R45, R46, R139, R337). -/
def Obligations.ServiceEntryAndExit : Prop :=
  ∀ (s : State) (l : LaneId) (who : Nat), (s.lanes.get l).computing = true → (s.lanes.get l).serviceHolder who = true →
    s.polvin.ipub.isSome = true →
    ((s.lanes.get l).main.mode.mode = .full ∨ (s.lanes.get l).main.mode.mode = .duplex ∨ (s.lanes.get l).main.mode.mode = .halt →
      (s.lanes.get l).main.mode.stop = false → 40000 ≤ (s.lanes.get l).main.mode.slow → (s.lanes.get l).parkApplied = true →
      ∃ t, exec (.svcreq l who) s = .next t ∧ (t.lanes.get l).main.mode.mode = .service ∧ (t.lanes.get l).main.mode.park = true ∧
        (t.lanes.get l).aon.halt = false ∧ (t.lanes.get l).aon.latched = [] ∧
        ((∃ x, (s.lanes.get x).inService = true) → ∀ k, k ≠ l → t.lanes.get k = s.lanes.get k) ∧
        ((∀ x, (s.lanes.get x).inService = false) → ∀ k, k ≠ l → (t.lanes.get k).aon.latched = [] ∧ (t.lanes.get k).state = (s.lanes.get k).state ∧
          (t.lanes.get k).aon.halt = (s.lanes.get k).aon.halt ∧ (t.lanes.get k).main.mode = (s.lanes.get k).main.mode)) ∧
    ((s.lanes.get l).main.mode.slow < 40000 →
      exec (.svcreq l who) s = .next (s.setLane l { s.lanes.get l with main := { (s.lanes.get l).main with
        office := { (s.lanes.get l).main.office with refused := (s.lanes.get l).main.office.refused.add 1 } } })) ∧
    ((s.lanes.get l).main.mode.mode = .service →
      (∃ t, exec (.svcexit l who) s = .next t ∧ (t.lanes.get l).main.mode.mode = ((s.lanes.get l).derived l).getD .none ∧
        (t.lanes.get l).main.mode.started = true ∧ (t.lanes.get l).main.service.stream = none) ∧
      (s.polvin.varnish = false ∨ s.polvin.unlocked = true →
        ∃ t, exec (.sketch l who) s = .next t ∧ (t.lanes.get l).main.mode.mode = .sketch ∧ (t.lanes.get l).aon.sketch = true ∧
          (t.lanes.get l).main.mode.park = (s.lanes.get l).main.mode.park ∧ (t.lanes.get l).main.service.stream = none))

/-- A lane whose input is good starts from OFF into BOOT, or stays out in RETIRED where a retirement stands, by its own flag or by the record of a Polvin core
that is not OFF; a reset brings any lane to OFF with its main
domain at its reset values and its links down; on its PLL a lane that holds its verdict moves on to TRANSLATE, but for one whose mask ROM failed at BOOT or whose retirement
record is not read yet (R37, R67, R325, R378, R387, R392). -/
def Obligations.LaneStartAndReset : Prop :=
  ∀ (s : State) (l : LaneId),
    ((s.lanes.get l).state = .off → (s.lanes.get l).dom ≠ .retention → (s.lanes.get l).aon.on = true →
      ∃ t, exec (.suppliesGood l) s = .next t ∧ (t.lanes.get l).state =
        if (s.lanes.get l).aon.retired = true ∨ (s.polvin.dom ≠ .off ∧ s.polvin.retired.testBit l.idx = true) then .retired else .boot) ∧
    (∃ t, exec (.laneReset l) s = .next t ∧ (t.lanes.get l).state = .off ∧ (t.lanes.get l).main = {} ∧
      (∀ u, ((t.ucom.get u).links.get l).up = false) ∧ (∀ k, k ≠ l → (t.lanes.get k).state = (s.lanes.get k).state) ∧
      t.polvin = s.polvin) ∧
    ((s.lanes.get l).awake = true → exec (.clockSwitch l) s = .next (s.setLane l { s.lanes.get l with
      state := if (s.lanes.get l).state = .boot ∧ (s.lanes.get l).loader.verified = true ∧ (s.lanes.get l).loader.retained = false ∧
          (s.lanes.get l).loader.romBad = false ∧ (s.lanes.get l).loader.recRead = true then .translate
        else (s.lanes.get l).state,
      aon := { (s.lanes.get l).aon with pwr := { (s.lanes.get l).aon.pwr with pll := true } } }))

/-- The verdict of the Polvin core lets a booting lane on, or is the code it refuses its image with; without an answer in 50 ms the code is POLVIN and
event 19 is raised (R37, R85, R95, R104). Translation: a canvas a check refuses leaves the lane where it is with the refusal's code; one whose test
vectors fail is refused with 0x21; one that passes is the canvas the lane holds, its hash and epoch recorded and unit records due (R84, R87, R90, R91). -/
def Obligations.VerdictAndTranslation : Prop :=
  (∀ (s : State) (l : LaneId), (s.lanes.get l).awake = true → (s.lanes.get l).state = .boot → (s.lanes.get l).loader.verdictDue = true →
    (s.polvin.dom = .on → ∃ t, exec (.signatureVerdict l) s = .next t ∧ (t.lanes.get l).loader.verdictDue = false ∧
      (∀ k, k ≠ l → t.lanes.get k = s.lanes.get k) ∧
      match verdictRefuse s.polvin (s.lanes.get l).loader.active with
      | none => (t.lanes.get l).loader.verified = true ∧ (t.lanes.get l).loader.code = 0
      | some r => (t.lanes.get l).state = .boot ∧ (t.lanes.get l).loader.code = r.code ∧
          (t.lanes.get l).loader.verified = (s.lanes.get l).loader.verified) ∧
    (∃ t, exec (.polvinTimeout l) s = .next t ∧ (∀ k, k ≠ l → t.lanes.get k = s.lanes.get k) ∧ t.ucom = s.ucom ∧
      (t.lanes.get l).state = .boot ∧ (t.lanes.get l).loader.code = 7 ∧
      (t.lanes.get l).loader.verdictDue = false ∧ (t.lanes.get l).main.evt.status.testBit 19 = true)) ∧
  (∀ (s : State) (l : LaneId) (cached kept : Option Bytes), (s.lanes.get l).dom = .on → (s.lanes.get l).state = .translate →
    (s.lanes.get l).loader.recordsDue = false →
    ∃ t, exec (.translationDone l cached kept) s = .next t ∧ (∀ k, k ≠ l → t.lanes.get k = s.lanes.get k) ∧ (t.lanes.get l).state = .translate ∧
      match laneCheck l (s.lanes.get l).loader.active with
      | some r => (t.lanes.get l).loader.code = r.code ∧ (t.lanes.get l).loader.recordsDue = false ∧
          (t.lanes.get l).main = (s.lanes.get l).main
      | none => if vectorsPass l (parseCanvas (s.lanes.get l).loader.active) = true then
            (t.lanes.get l).loader.recordsDue = true ∧ (t.lanes.get l).loader.code = 0 ∧
              (t.lanes.get l).main.canvas = parseCanvas (s.lanes.get l).loader.active ∧
              (t.lanes.get l).aon.hash = (s.lanes.get l).loader.ahash ∧ (t.lanes.get l).aon.epoch = (s.lanes.get l).loader.aepoch
          else (t.lanes.get l).loader.code = 0x21 ∧ (t.lanes.get l).loader.recordsDue = false ∧
            (t.lanes.get l).main.canvas = (s.lanes.get l).main.canvas)

/-- A due Retry source brings the lane to RETRYING, counted and with its cause, unless it is the fourth entry in 60 s, which retires it; 180 ms in
RETRYING retire it too, its main domain OFF (R37, R377, R378). A restarted lane whose image still hashes to the record and passes its checks asks for unit records again, any other keeps its code;
the record of a retirement is written by the Polvin core and logged, LOG_FAIL where the log takes no entry, or POLVIN_LOST is raised and it stays due
(R96, R355, R378). -/
def Obligations.RetryRestartRetire : Prop :=
  (∀ (s : State) (l : LaneId),
    (∀ src, (s.lanes.get l).main.check.retry = some src → (s.lanes.get l).computing = true →
      ((s.lanes.get l).aon.restarts.filter (fun a => (s.lanes.get l).aon.ms < a + 60000)).length < 3 →
      ∃ t, exec (.retryingEntry l) s = .next t ∧ (t.lanes.get l).state = .retrying ∧ (t.lanes.get l).main.cells = [] ∧
        (t.lanes.get l).aon.total = satAdd 16 (s.lanes.get l).aon.total 1 ∧ (t.lanes.get l).aon.causeSrc = src ∧
        (t.lanes.get l).aon.causeMs = (s.lanes.get l).aon.ms ∧ (∀ k, k ≠ l → t.lanes.get k = s.lanes.get k) ∧ t.polvin = s.polvin) ∧
    (∀ src, (s.lanes.get l).main.check.retry = some src → (s.lanes.get l).computing = true →
      3 ≤ ((s.lanes.get l).aon.restarts.filter (fun a => (s.lanes.get l).aon.ms < a + 60000)).length →
      ∃ t, exec (.retryingEntry l) s = .next t ∧ retiredIn l src t) ∧
    ((s.lanes.get l).dom = .on → (s.lanes.get l).state = .retrying → (s.lanes.get l).aon.causeMs + 180 ≤ (s.lanes.get l).aon.ms →
      ∃ t, exec (.restartTimeout l) s = .next t ∧ retiredIn l 0xFF t)) ∧
  (∀ (s : State) (l : LaneId),
    ((s.lanes.get l).dom = .on → (s.lanes.get l).state = .retrying → (s.lanes.get l).loader.recordsDue = false →
      ∀ code, ∃ t, exec (.restartDone ⟨l, code⟩) s = .next t ∧ onlyLane l s t ∧ (t.lanes.get l).state = .retrying ∧
        (t.lanes.get l).aon.hash = (s.lanes.get l).aon.hash ∧
        (hashBytes (imgHash (s.lanes.get l).loader.active) ≠ (s.lanes.get l).aon.hash →
          (t.lanes.get l).loader.recordsDue = false ∧ (t.lanes.get l).loader.code = 0x31) ∧
        (hashBytes (imgHash (s.lanes.get l).loader.active) = (s.lanes.get l).aon.hash →
          match stepsRefuse l (s.lanes.get l).loader.active with
          | some r => (t.lanes.get l).loader.recordsDue = false ∧ (t.lanes.get l).loader.code = r.code
          | none => (t.lanes.get l).loader.recordsDue = true ∧ (t.lanes.get l).loader.code = 0 ∧
              (t.lanes.get l).main.canvas = parseCanvas (s.lanes.get l).loader.active)) ∧
    ((s.lanes.get l).aon.on = true → (s.lanes.get l).aon.pendrec = true → s.polvin.dom = .on → s.polvin.clrWait = none →
      ∃ t, exec (.retirementRecordWrite l true) s = .next t ∧ (t.lanes.get l).aon.pendrec = false ∧
        t.polvin.retired = setBit s.polvin.retired l.idx ∧ (s.polvin.logBad = false → t.polvin.logSeq = s.polvin.logSeq + 1) ∧
        (s.polvin.logBad = true → t.polvin.logSeq = s.polvin.logSeq ∧ t.polvin.evt.status.testBit 3 = true) ∧
        (∀ k, k ≠ l → t.lanes.get k = s.lanes.get k)) ∧
    ((s.lanes.get l).aon.on = true → (s.lanes.get l).aon.pendrec = true →
      ∃ t, exec (.retirementRecordWrite l false) s = .next t ∧ onlyLane l s t ∧ (t.lanes.get l).aon.pendrec = true ∧
        (t.lanes.get l).main.evt.status.testBit 19 = true))

/-- The pending image: START erases its slot, the erasure opens it, a word written to the window lands at its place, CHECK begins, ABORT empties it (R98,
R106; that STATE reads EMPTY from START until the slot is erased, and that a CHECK waits for it, is the model's choice: log entry 93, bytes of the erased
slot that nothing has written reading 0: log entry 114). Writes are open in SERVICE and SKETCH of an owned device, under varnish with UNLOCK (R98, R346). -/
def Obligations.PendingImage : Prop :=
  ∀ (s : State) (l : LaneId), (s.lanes.get l).computing = true → s.polvin.ipub.isSome = true →
    ((s.lanes.get l).main.mode.mode = .service ∨ (s.lanes.get l).main.mode.mode = .sketch) → s.polvin.varnish = false ∨ s.polvin.unlocked = true →
    ((s.lanes.get l).loader.state ≠ .committed →
      (∃ t, exec (.start l) s = .next t ∧ onlyLane l s t ∧ (t.lanes.get l).loader.state = .empty ∧ (t.lanes.get l).loader.erasing = true ∧
        (t.lanes.get l).main.service.stream = none ∧ (t.lanes.get l).aon = (s.lanes.get l).aon) ∧
      (∃ t, exec (.loadAbort l) s = .next t ∧ onlyLane l s t ∧ (t.lanes.get l).loader.state = .empty ∧ (t.lanes.get l).loader.pending = [] ∧
        (t.lanes.get l).loader.active = (s.lanes.get l).loader.active ∧ (t.lanes.get l).main = (s.lanes.get l).main) ∧
      ((s.lanes.get l).loader.erasing = false → ∃ t, exec (.check l) s = .next t ∧ onlyLane l s t ∧ (t.lanes.get l).loader.state = .checking ∧
        (t.lanes.get l).loader.slots = (s.lanes.get l).loader.slots)) ∧
    ((s.lanes.get l).loader.erasing = true → ∃ t, exec (.slotErased l) s = .next t ∧ onlyLane l s t ∧
      (t.lanes.get l).loader.state = .receiving ∧ (t.lanes.get l).loader.erasing = false ∧ (t.lanes.get l).loader.pending = [] ∧
      (t.lanes.get l).loader.active = (s.lanes.get l).loader.active) ∧
    (∀ off (v : Word), (s.lanes.get l).loader.state = .receiving → off < 4096 → off % 4 = 0 →
      ∃ t, exec (.cnvWinWrite l off v) s = .next t ∧ onlyLane l s t ∧
        u32At (t.lanes.get l).loader.pending (4096 * (s.lanes.get l).loader.wbase + off) = v.toNat ∧
        (∀ a, a < 4096 * (s.lanes.get l).loader.wbase + off ∨ 4096 * (s.lanes.get l).loader.wbase + off + 4 ≤ a →
          byteAt (t.lanes.get l).loader.pending a = byteAt (s.lanes.get l).loader.pending a) ∧
        (t.lanes.get l).loader.active = (s.lanes.get l).loader.active)

/-- A commit is recorded for a READY image whose hash the writer names, 16 to 255 rounds ahead, its log entry written; one not READY is refused with 0x30
and one of another hash with 0x31 (R99). A check ends READY with code 0 where all its steps pass, else REFUSED (R84, R98). At the target round of a commit the pending slot is the
active one, the records name its hash and epoch, and the lane boots from it, or is RETIRED where the Polvin core holds its retirement record (R99, R101, R378). What decides whether
the log takes an entry is the model's choice (log entry 113). -/
def Obligations.CommitAndCheckImages : Prop :=
  (∀ (s : State) (l : LaneId), (s.lanes.get l).computing = true →
    (s.polvin.ipub.isSome = true → ((s.lanes.get l).main.mode.mode = .service ∨ (s.lanes.get l).main.mode.mode = .sketch) →
      s.polvin.varnish = false ∨ s.polvin.unlocked = true → ∀ hash delay,
      ((s.lanes.get l).loader.state = .ready → u16At (s.lanes.get l).loader.phash 0 = hash % 65536 → 16 ≤ delay → delay ≤ 255 → s.polvin.dom = .on →
        ∃ t, exec (.cnvCmt l hash delay true) s = .next t ∧ (t.lanes.get l).loader = { (s.lanes.get l).loader with
            state := .committed, code := 0, target := ((s.lanes.get l).main.time.round + delay) % 16777216,
            commit := some ((s.lanes.get l).loader.phash, ((s.lanes.get l).main.time.round + delay) % 16777216) } ∧
          t.polvin.logSeq = s.polvin.logSeq + 1 ∧ (t.lanes.get l).main = (s.lanes.get l).main ∧ ∀ k, k ≠ l → t.lanes.get k = s.lanes.get k) ∧
      (∀ ok, (s.lanes.get l).loader.state ≠ .ready → exec (.cnvCmt l hash delay ok) s = .next (s.setLane l
        { s.lanes.get l with loader := { (s.lanes.get l).loader with code := 0x30 } })) ∧
      (∀ ok, (s.lanes.get l).loader.state = .ready → u16At (s.lanes.get l).loader.phash 0 ≠ hash % 65536 →
        exec (.cnvCmt l hash delay ok) s = .next (s.setLane l { s.lanes.get l with loader := { (s.lanes.get l).loader with code := 0x31 } }))) ∧
    ((s.lanes.get l).loader.state = .checking → ∀ code, ∃ t, exec (.checkDone l code) s = .next t ∧
      (t.lanes.get l).loader.slots = (s.lanes.get l).loader.slots ∧ (t.lanes.get l).loader.aslot = (s.lanes.get l).loader.aslot ∧
      (t.lanes.get l).state = (s.lanes.get l).state ∧ (∀ k, k ≠ l → t.lanes.get k = s.lanes.get k) ∧
      (formatRefuse l (s.lanes.get l).loader (s.lanes.get l).loader.pslot = none ∧ s.polvin.dom = .on ∧
          verdictRefuse s.polvin (s.lanes.get l).loader.pending = none ∧ stepsRefuse l (s.lanes.get l).loader.pending = none →
        (t.lanes.get l).loader.state = .ready ∧ (t.lanes.get l).loader.code = 0) ∧
      (¬ (formatRefuse l (s.lanes.get l).loader (s.lanes.get l).loader.pslot = none ∧ s.polvin.dom = .on ∧
          verdictRefuse s.polvin (s.lanes.get l).loader.pending = none ∧ stepsRefuse l (s.lanes.get l).loader.pending = none) →
        (t.lanes.get l).loader.state = .refused))) ∧
  (∀ (s : State) (l : LaneId) (h : Bytes) (r : Nat), (s.lanes.get l).loader.commit = some (h, r) →
    reached r (s.lanes.get l).main.time.round = true → (s.lanes.get l).awake = true → (s.lanes.get l).loader.state = .committed →
    ∃ t, exec (.commitTarget l) s = .next t ∧ (t.lanes.get l).loader.aslot = 1 - (s.lanes.get l).loader.aslot ∧
      (t.lanes.get l).loader.slots = (s.lanes.get l).loader.slots ∧ (t.lanes.get l).loader.commit = none ∧
      (t.lanes.get l).aon.hash = h ∧ (t.lanes.get l).aon.epoch = imgEpoch (s.lanes.get l).loader.pending ∧
      (s.polvin.dom = .off ∨ s.polvin.retired.testBit l.idx = false → (t.lanes.get l).state = .boot ∨ (t.lanes.get l).state = .translate) ∧
      (s.polvin.dom ≠ .off → s.polvin.retired.testBit l.idx = true → (t.lanes.get l).state = .retired) ∧
      (∀ k, k ≠ l → (t.lanes.get k).state = (s.lanes.get k).state ∧ (t.lanes.get k).loader = (s.lanes.get k).loader ∧
        (s.polvin.ipub.isSome = true → s.polvin.retired.testBit l.idx = false → (s.lanes.get l).main.mode.mode ≠ .service → (t.lanes.get k).main = (s.lanes.get k).main)))

/-- The register service of a lane takes a request for the coming boundary, in the order they come, and of its copies in a cycle the one of the
lowest-lettered plane: a copy of a higher-lettered plane is ignored after it, and is withdrawn when it came before it (R408; what of a withdrawn copy has
already acted is the model's reading: log entry 142). A payload that ends before its header does is read with zeros (R410; the model's choice: log entry
143). A stream frame takes its place in the
same way: into an open stream of its sender its words become writes of the pending image that are due at the boundary; where no stream is open it is
answered FORMAT (R405, R407, R408), with the RID of the request that opened the stream, or 0 where none is open (the model's reading of R407 and R410:
log entry 67). Nothing outside the lane changes. At its boundary an accepted write that is still permitted takes effect (R13,
R70, R103), a bit of EVT_STATUS written 1 being cleared but where the hardware set it at the same boundary (R9, R10, R383); a lane serves the read of its
registers and the reply carries the value: TICK, a count of the CRS_ block, which the read clears, and a count to which the boundary itself adds, read and
cleared as it stood before the boundary (R9, R10, R282, R361, R404, R408). A reply waiting for the session peer leaves on the service
port, counted by the lane's frame counter, once the lanes before it have sent theirs (R338, R404, R408, R410). A frame or write that lands in the hand-over
cycle is due one boundary later (R70). -/
def Obligations.RegisterServiceRequests : Prop :=
  (∀ (s : State) (l : LaneId) (sender : Nat) (via : Via) (pay : Bytes), s.servesVia l sender via = true →
    (∀ arrive, pay.length ≠ 1440 →
      let v := (s.lanes.get l).main.service
      let new := fun (ops : List PendOp) => (⟨sender, via, u16At pay 0, ((s.lanes.get l).main.time.round + 1) % 16777216, ops,
        (s.lanes.get l).main.time.roundDue || ops.any PendOp.straddles, false⟩ : PendReq)
      ((via = .port ∨ ∀ q, (sender, u16At pay 0, q) ∉ v.seen) →
        ∃ t ops, exec (.serviceRequest l sender via ⟨pay, arrive⟩) s = .next t ∧ onlyLane l s t ∧
          (t.lanes.get l).main.service.reqs = v.reqs ++ [new ops] ∧
          (t.lanes.get l).main.service.seen = v.seen ++ (match via with | .plane p => [(sender, u16At pay 0, p.idx)] | .port => []) ∧
          (via = .port → byteAt pay 2 = 0 ∨ 64 < byteAt pay 2 → ops = [.done ⟨0xB, []⟩])) ∧
      (∀ p, via = .plane p →
        ((∃ q, q < p.idx ∧ (sender, u16At pay 0, q) ∈ v.seen) → exec (.serviceRequest l sender via ⟨pay, arrive⟩) s = .next s) ∧
        ((∀ q, q < p.idx → (sender, u16At pay 0, q) ∉ v.seen) →
          ∃ t ops, exec (.serviceRequest l sender via ⟨pay, arrive⟩) s = .next t ∧
            (∀ k, k ≠ l → t.lanes.get k = s.lanes.get k) ∧ t.polvin = s.polvin ∧
            (t.lanes.get l).main.service.reqs = v.reqs.filter (fun r => r.served || !(decide (r.sender = sender ∧ r.rid = u16At pay 0) &&
              allLanes.any (fun q => decide (r.via = .plane q ∧ p.idx < q.idx ∧ (sender, u16At pay 0, q.idx) ∈ v.seen)))) ++ [new ops]))) ∧
    (pay.length = 1440 →
      ((s.lanes.get l).main.service.stream = none →
        exec (.streamFrame l sender via pay) s = .next (s.setLane l { s.lanes.get l with main := { (s.lanes.get l).main with
          service := { (s.lanes.get l).main.service with
            reqs := (s.lanes.get l).main.service.reqs ++
              [⟨sender, via, 0, ((s.lanes.get l).main.time.round + 1) % 16777216, [.done ⟨0xB, []⟩],
                (s.lanes.get l).main.time.roundDue, false⟩] } } })) ∧
      (∀ ofs rid, (s.lanes.get l).main.service.stream = some ⟨sender, l.code, ofs, rid⟩ → ofs ≤ 4192864 → ofs % 4 = 0 →
        (s.lanes.get l).main.office.holder = some sender → s.cnvGate l = 0 → (s.lanes.get l).loader.state = .receiving →
        let late := (s.lanes.get l).main.time.roundDue
        ∃ t, exec (.streamFrame l sender via pay) s = .next t ∧ onlyLane l s t ∧
          (t.lanes.get l).main.service.stream = some ⟨sender, l.code, ofs + 1440, rid⟩ ∧
          (t.lanes.get l).main.service.reqs = (s.lanes.get l).main.service.reqs ++
            [⟨sender, via, rid, ((s.lanes.get l).main.time.round + 1) % 16777216, [.done ⟨if late then 256 else 0, []⟩], late, false⟩] ∧
          ((s.lanes.get l).main.shadow.ranges = [] → (t.lanes.get l).main.shadow.due = (s.lanes.get l).main.shadow.due ++
            (streamWrites l ofs pay).map (fun e => ⟨some ⟨sender, via⟩, ⟨e.1, true, BitVec.ofNat 32 e.2, 0xFFFFFFFF⟩,
              ((s.lanes.get l).main.time.round + (if late then 2 else 1)) % 16777216, rid⟩))))) ∧
  (∀ (s : State) (l : LaneId) (bad : Bool), (s.lanes.get l).serves = true → (s.lanes.get l).main.sent = [] →
    (∀ x : ShadowWrite, (s.lanes.get l).main.shadow.due = [x] → reached x.effect (s.lanes.get l).main.time.round = true →
      (s.lanes.get l).main.service.reqs = [] → addrUnit x.acc.addr = l.code → ¬ (addrBlock x.acc.addr = 0xD ∧ addrOff x.acc.addr = 0x30) →
      let n := { s.lanes.get l with main := { (s.lanes.get l).main with shadow := { (s.lanes.get l).main.shadow with due := [], pend := false } } }
      ∃ t, exec (.registerWrite ⟨l, bad⟩) s = .next t ∧ (∀ k, k ≠ l → t.lanes.get k = s.lanes.get k) ∧ t.polvin = s.polvin ∧
        (∀ w j, w < 8 → j < 32 → x.acc.addr = l.code * 268435456 + 0xC00000 + 4 * w → (s.lanes.get l).stillPermitted l x = true →
          (t.lanes.get l).main.evt.status.testBit (32 * w + j) = ((s.lanes.get l).main.evt.status.testBit (32 * w + j) &&
            (!(x.acc.value.toNat.testBit j && x.acc.mask.toNat.testBit j) || (s.lanes.get l).main.evt.now.testBit (32 * w + j)))) ∧
        t.lanes.get l = if (s.lanes.get l).stillPermitted l x = true then laneWrite n l x.acc.addr x.acc.value.toNat x.acc.mask.toNat
          else n.event l 5) ∧
    (∀ sender via rid effect addr, (s.lanes.get l).main.shadow.due = [] → (s.lanes.get l).main.service.replies = [] →
      (s.lanes.get l).main.service.reqs = [⟨sender, via, rid, effect, [.read [(addr, none)]], false, false⟩] →
      effect = (s.lanes.get l).main.time.round → effect < 16777216 →
      addr ∈ [l.code * 268435456 + 0x100000, l.code * 268435456 + 0x900014, l.code * 268435456 + 0xD00034] →
      ∃ t v, exec (.registerWrite ⟨l, bad⟩) s = .next t ∧ (t.lanes.get l).main.service.reqs = [] ∧
        (t.lanes.get l).main.service.replies = [⟨sender, via, rid, effect, [⟨0, [v]⟩]⟩] ∧
        (∀ k, k ≠ l → t.lanes.get k = s.lanes.get k) ∧ t.polvin = s.polvin ∧
        (addrBlock addr = 1 → v = (s.lanes.get l).main.time.tick) ∧
        (addrBlock addr = 9 → v = (s.lanes.get l).main.net.accept + 65536 * (s.lanes.get l).main.net.late ∧
          (t.lanes.get l).main.net.accept = 0 ∧ (t.lanes.get l).main.net.late = 0) ∧
        (addrBlock addr = 0xD → v = (s.lanes.get l).main.office.changes.was + 65536 * (s.lanes.get l).main.office.refused.was ∧
          (t.lanes.get l).main.office.changes = (s.lanes.get l).main.office.changes.cleared ∧
          (t.lanes.get l).main.office.refused = (s.lanes.get l).main.office.refused.cleared))) ∧
  (∀ (s : State) (l : LaneId) r rs, (s.lanes.get l).serves = true →
    (s.lanes.get l).main.service.reqs = [] → (s.lanes.get l).main.service.replies = r :: rs → r.via = .port → s.port.up = true →
      s.portLive = true → s.port.peer = some r.sender →
      let holds := fun (k : LaneId) => (s.lanes.get k).serves = true ∧
        ((∃ x ∈ (s.lanes.get k).main.service.replies, x.via = .port ∧ x.rid = r.rid ∧ x.effect = r.effect) ∨
          (∃ x ∈ (s.lanes.get k).main.service.reqs, x.via = .port ∧ x.rid = r.rid ∧ x.effect = r.effect))
      ((∃ k, k.idx < l.idx ∧ holds k) → exec (.serviceReply l .port) s = .next s) ∧
      ((¬ ∃ k, k.idx < l.idx ∧ holds k) →
      ∃ t, exec (.serviceReply l .port) s = .next t ∧ (t.lanes.get l).main.service.replies = rs ∧ t.port = { s.port with txCtr := s.port.txCtr.set l (s.port.txCtr.get l + 1) } ∧
        (∃ b, (t.lanes.get l).main.service.sent = some (r, b)) ∧ (∀ k, k ≠ l → t.lanes.get k = s.lanes.get k) ∧ t.polvin = s.polvin))

/-- GO moves the staged writes of a lane or unit into its shadow for the boundary and sets PEND, ABORT discards them unless PEND is set; with nothing
staged GO moves nothing; in the hand-over cycle a GO takes effect one boundary later, and either sets STRADDLE, but for an ABORT turned away by PEND
(R70-R72). A unit first takes in the writes that
enough of its lanes have forwarded alike (R71, R404). That GO and ABORT act at once in a lane, and that a unit takes in the agreed writes before them, is
the model's reading: log entry 71. -/
def Obligations.GoAndAbort : Prop :=
  let mark := fun (late : Bool) (h : Shadow) => if late then { h with straddle := true, straddling := true } else h
  ∀ s : State,
    (∀ l, (s.lanes.get l).computing = true →
      (let h := (s.lanes.get l).main.shadow
       let put := fun (h : Shadow) => s.setLane l { s.lanes.get l with main := { (s.lanes.get l).main with shadow := h } }
       let late := (s.lanes.get l).main.time.roundDue
       let gone := { h with
          due := h.due ++ h.staged.map (fun w => { w with effect := ((s.lanes.get l).main.time.round + (if late then 2 else 1)) % 16777216 })
          staged := [], pend := true }
       (h.staged ≠ [] → exec (.go (.lane l)) s = .next (put (mark late gone))) ∧
       (h.staged = [] → exec (.go (.lane l)) s = .next (put (mark late h))) ∧
       (h.pend = false → exec (.abort (.lane l)) s = .next (put (mark late { h with staged := [] }))) ∧
       (h.pend = true → exec (.abort (.lane l)) s = .next s))) ∧
    (∀ u, s.runs u = true →
      (let c := (s.ucom.get u).takenIn
       let put := fun (h : Shadow) => s.setUnit u { c with shadow := h }
       let gone := { c.shadow with
          due := c.shadow.due ++ c.shadow.staged.map (fun w => { w with effect := if c.roundDue then 1 else 0 }), staged := [], pend := true }
       (c.shadow.staged ≠ [] → exec (.go (.unit u)) s = .next (put (mark c.roundDue gone))) ∧
       (c.shadow.staged = [] → exec (.go (.unit u)) s = .next (put (mark c.roundDue c.shadow))) ∧
       (c.shadow.pend = false → exec (.abort (.unit u)) s = .next (put (mark c.roundDue { c.shadow with staged := [] }))) ∧
       (c.shadow.pend = true → exec (.abort (.unit u)) s = .next (put c.shadow))))

/-- A ceremony is taken when the core is not busy and its writer may write SEC_CTRL: it is judged, by the RESULT codes of R343, and runs until it is done;
outside SERVICE the judgement is MODE,
whatever other code applies too (the order of the codes is the model's reading: log entry 18). NEWCHAL accepted draws a challenge; the active hash is noted for VARNISH; any other changes neither the key, the verifier, the varnish nor UNLOCK yet
(R342). A write while BUSY or by another writer is refused, and while UNOWNED any command but NEWCHAL, ENROL and BKEY (R339). -/
def Obligations.CeremoniesJudged : Prop :=
  ∀ (s : State) (w : Writer) (c : Instr) (bit : Nat),
    (c, bit) ∈ [(Instr.newchal w, 0), (.enrol w, 1), (.rotate w, 2), (.passwd w, 3), (.unlock w, 4), (.lock w, 5), (.varnish w, 6), (.strip w, 7),
      (.cert w, 8), (.bkey w, 9)] →
    (s.polvin.dom = .on → s.polvin.busy = false → s.mayCeremony w = true → s.polvin.ipub.isSome = true ∨ bit ∈ [0, 1, 9] →
      ∃ t, exec c s = .next t ∧ t.lanes = s.lanes ∧ t.ucom = s.ucom ∧ t.port = s.port ∧ t.polvin.busy = true ∧
        t.polvin.cmd = some (bit, secJudge s bit w, w) ∧ (s.devMode ≠ .service → secJudge s bit w = 7) ∧
        t.polvin.judged = s.lanes.a.loader.ahash ∧ (bit = 0 → secJudge s bit w = 0 → t.polvin.chal.isSome = true) ∧
        (bit ∈ [1, 2, 3, 4, 7] → secJudge s bit w = 0 → t.polvin.chal = none) ∧
        t.polvin.ipub = s.polvin.ipub ∧ t.polvin.verifier = s.polvin.verifier ∧ t.polvin.varnish = s.polvin.varnish ∧
        t.polvin.unlocked = s.polvin.unlocked ∧ t.polvin.bk = s.polvin.bk ∧ t.polvin.dcert = s.polvin.dcert) ∧
    (s.polvin.dom ≠ .on ∨ s.polvin.busy = true ∨ s.mayCeremony w = false ∨ (s.polvin.ipub = none ∧ bit ∉ [0, 1, 9]) → exec c s = .next s)

/-- A ceremony judged OK whose log entry is written has its effect when it is done: the key, salt and verifier of ENROL, the key of ROTATE, the verifier
of PASSWD with UNLOCK ended, all from the window it was judged by, UNLOCK, unless SERVICE was left since, with the failure count cleared, LOCK, the varnish over the
active hash it was judged by, STRIP, DCERT, BKEY with the key epoch
record at 0 (R342, R345, R346, R353, R355); one whose entry is not written has RESULT LOG (11) and no effect; that the failure stands for later
entries too is the model's choice (log entry 113). -/
def Obligations.CeremonyEffects : Prop :=
  ∀ (s : State) (w : Writer) (bit : Nat), s.polvin.dom = .on → s.polvin.cmd = some (bit, 0, w) → s.polvin.clrWait = none →
    (bit ≤ 9 → ∃ t, exec (.ceremonyDone true) s = .next t ∧ t.polvin.busy = false ∧ t.polvin.cmd = none ∧ t.polvin.result = 0 ∧
      t.polvin.ipub = (if bit = 1 ∨ bit = 2 then some (slice s.polvin.cmdWin 0 64) else s.polvin.ipub) ∧
      t.polvin.verifier = (if bit = 1 then slice s.polvin.cmdWin 64 32 else if bit = 3 then slice s.polvin.cmdWin 0 32 else s.polvin.verifier) ∧
      t.polvin.salt = (if bit = 1 ∨ bit = 3 then s.polvin.nsalt else s.polvin.salt) ∧
      t.polvin.unlocked = (if bit = 4 then !s.polvin.leftSvc else if bit = 3 ∨ bit = 5 then false else s.polvin.unlocked) ∧
      t.polvin.failCount = (if bit = 4 then 0 else s.polvin.failCount) ∧
      t.polvin.varnish = (if bit = 6 then true else if bit = 7 then false else s.polvin.varnish) ∧
      t.polvin.vhash = (if bit = 6 then s.polvin.judged else s.polvin.vhash) ∧
      t.polvin.dcert = (if bit = 8 then some (slice s.polvin.cmdWin 0 64) else s.polvin.dcert) ∧
      t.polvin.bk = (if bit = 9 then some (slice s.polvin.cmdWin 0 16) else s.polvin.bk) ∧
      t.polvin.keyRec = (if bit = 9 then 0 else s.polvin.keyRec) ∧ t.polvin.win = zeros 256 ∧ t.polvin.devKey = s.polvin.devKey ∧
      t.polvin.logSeq = s.polvin.logSeq + (if bit = 0 ∨ bit = 5 then 0 else 1) ∧ t.ucom = s.ucom) ∧
    (1 ≤ bit → bit ≤ 9 → bit ≠ 5 → exec (.ceremonyDone false) s = .next { s with polvin := { s.polvin with
      busy := false, cmd := none, result := 11, win := zeros 256, logBad := true } })

/-- The ends of a lockout, of UNLOCK and of a challenge (R342, R345), and the clearing of retirements in SERVICE: record, flag and restart history of
every lane named that was retired, logged (R359, R379), or its wait, beside one that waits already, while the core is busy or a record of one of them is
being written (R382); elsewhere, and while UNOWNED, the write clears nothing (R339). Whether
the log takes the entry is the last finding of the log (the model's choice: log entry 113). -/
def Obligations.ExpiriesAndUnretire : Prop :=
  ∀ s : State,
    (s.polvin.locked = true → s.polvin.lockLeft = 0 → exec .lockoutEnd s = .next { s with polvin := { s.polvin with locked := false } }) ∧
    (0 < s.polvin.lockLeft → exec .lockoutEnd s = .next s) ∧
    exec .unlockExpiry s = .next { s with polvin := { s.polvin with unlocked := false } } ∧
    exec .challengeExpiry s = .next { s with polvin := { s.polvin with chal := none } } ∧
    (∀ (w : Writer) (mask : Nat), s.polvin.dom = .on → s.devMode = .service → s.polvin.ipub.isSome = true → s.mayCeremony w = true →
      s.polvin.varnish = false ∨ s.polvin.unlocked = true →
      (s.polvin.busy = true ∨ (∃ l : LaneId, mask.testBit l.idx = true ∧ (s.lanes.get l).aon.pendrec = true) →
        exec (.unretire w mask) s = .next { s with polvin := { s.polvin with
          clrWait := some ((match s.polvin.clrWait with | some (m, _) => m | none => 0) ||| mask % 8, w) } }) ∧
      (s.polvin.busy = false → (∀ l, mask.testBit l.idx = true → (s.lanes.get l).aon.pendrec = false) →
        let named := fun (l : LaneId) => mask.testBit l.idx = true ∧ (s.polvin.retired.testBit l.idx = true ∨ (s.lanes.get l).aon.retired = true)
        ∃ t, exec (.unretire w mask) s = .next t ∧
          ((∃ l, named l) → s.polvin.logBad = false → t.polvin.logSeq = s.polvin.logSeq + 1) ∧ ((¬ ∃ l, named l) → t = s) ∧
          ∀ l, (named l →
            t.polvin.retired.testBit l.idx = false ∧ (t.lanes.get l).aon.retired = false ∧ (t.lanes.get l).aon.restarts = [] ∧
            ((s.lanes.get l).state = .retired → (t.lanes.get l).state = .off)) ∧
            (¬ named l → t.polvin.retired.testBit l.idx = s.polvin.retired.testBit l.idx ∧
              (t.lanes.get l).state = (s.lanes.get l).state ∧ (t.lanes.get l).aon = (s.lanes.get l).aon))) ∧
    (∀ (w : Writer) (mask : Nat), s.polvin.dom ≠ .on ∨ s.devMode ≠ .service ∨ s.polvin.ipub = none ∨ s.mayCeremony w = false ∨
      (s.polvin.varnish = true ∧ s.polvin.unlocked = false) → exec (.unretire w mask) s = .next s)

/-- Attestation, the device key and the power-up of the Polvin core: a word of a nonce is kept, the fourth submits it at once or, while a report is
signed, as the nonce that waits; a report stands for its nonce when ready, and the nonce that waits is taken next (R357); the key pair is made once
(R340); a power-up keeps what lies in NVM, clears UNLOCK, challenge and command, and logs POWER_UP, or raises LOG_FAIL
where the log takes no entry (R342, R354, R355, R362; which it is, is the model's choice: log entry 113). The lanes that waited for the core go on: the
EPOCH of a signed image that a lane has committed is recorded, and a lane in BOOT reads its retirement record (R95, R378). -/
def Obligations.PolvinCore : Prop :=
  ∀ s : State,
    (s.polvin.dom = .on →
      (∀ (i : Nat) (v : Word), i < 4 →
        let nonce := (s.polvin.att.nonce.take (4 * i) ++ leBytes 4 v.toNat ++ s.polvin.att.nonce.drop (4 * i + 4)).take 16
        ∃ t, exec (.attestationRequest i v) s = .next t ∧ onlyPolvin s t ∧ t.polvin.att.nonce = nonce ∧
          (i < 3 → t.polvin.att.signing = s.polvin.att.signing ∧ t.polvin.att.waiting = s.polvin.att.waiting ∧
            t.polvin.att.ready = s.polvin.att.ready) ∧
          (i = 3 → s.polvin.att.signing = none → t.polvin.att.signing = some nonce ∧ t.polvin.att.ready = false) ∧
          (∀ n, i = 3 → s.polvin.att.signing = some n → t.polvin.att.signing = some n ∧ t.polvin.att.waiting = some nonce)) ∧
      (∀ n, s.polvin.att.signing = some n → ∃ t, exec .reportReady s = .next t ∧ t = { s with polvin := t.polvin, free := s.free + 1 } ∧
        t.polvin.att.ready = s.polvin.att.waiting.isNone ∧ t.polvin.att.signing = s.polvin.att.waiting ∧ t.polvin.att.waiting = none ∧
        t.polvin.log = s.polvin.log ∧ (n.length = 16 → slice t.polvin.att.report 16 16 = n)) ∧
      (s.polvin.devKey = none → ∃ t, exec .deviceKeyGeneration s = .next t ∧ t = { s with polvin := t.polvin, free := s.free + 1 } ∧
        t.polvin.devKey.isSome = true ∧ t.polvin.devPub.length = 64 ∧ t.polvin.ipub = s.polvin.ipub) ∧
      (s.polvin.devKey ≠ none → exec .deviceKeyGeneration s = .next s)) ∧
    (∃ t, exec .polvinPowerUp s = .next t ∧ t.polvin.dom = .on ∧ t.polvin.unlocked = false ∧ t.polvin.chal = none ∧
      t.polvin.busy = false ∧ t.polvin.cmd = none ∧ t.polvin.result = 0 ∧ t.polvin.ipub = s.polvin.ipub ∧ t.polvin.verifier = s.polvin.verifier ∧
      t.polvin.varnish = s.polvin.varnish ∧ t.polvin.bk = s.polvin.bk ∧
      t.polvin.keyRec = s.polvin.keyRec ∧ t.polvin.retired = s.polvin.retired ∧ t.polvin.devKey = s.polvin.devKey ∧
      s.polvin.erec ≤ t.polvin.erec ∧
      (∀ l, (s.lanes.get l).awake = true → (s.lanes.get l).loader.ahead = true → (s.lanes.get l).loader.asigned = true →
        (s.lanes.get l).loader.aepoch ≤ t.polvin.erec) ∧
      (∀ l, (s.lanes.get l).state = .boot → (s.lanes.get l).loader.recRead = false →
        (s.polvin.retired.testBit l.idx = true → (t.lanes.get l).state = .retired) ∧
        (s.polvin.retired.testBit l.idx = false → (t.lanes.get l).state = .boot ∨ (t.lanes.get l).state = .translate)) ∧
      ((∀ l, ((s.lanes.get l).awake = true → (s.lanes.get l).loader.ahead = false) ∧
          ((s.lanes.get l).state = .boot → (s.lanes.get l).loader.recRead = true)) →
        onlyPolvin s t ∧ t.polvin.vhash = s.polvin.vhash ∧ t.polvin.erec = s.polvin.erec ∧
        (s.polvin.logBad = false → t.polvin.logSeq = s.polvin.logSeq + 1)) ∧
      (s.polvin.logBad = true → t.polvin.logSeq = s.polvin.logSeq ∧ t.polvin.evt.status.testBit 3 = true))

/-- Ring control: the executive's START brings an idle, halted or failed ring that no OWN entry names to FETCH at its descriptor (R285), STOP halts one that runs with code 1, CLR clears its requests
and code (R298, R299). A mark that is enabled raises its line in its tick, or in every tick, for the rings that wait
for it (R291, R292; that a ring in FETCH counts the line of its last descriptor is the model's
reading: log entry 60). -/
def Obligations.RingControlAndMarks : Prop :=
  ∀ (s : State) (l : LaneId), l ≠ .c → (s.lanes.get l).awake = true →
    (∀ r, r < (s.lanes.get l).main.dma.rings.length →
      (let g := (s.lanes.get l).main.dma.rings.getD r {}
       let run := g.state = 1 ∨ g.state = 2
       ((s.lanes.get l).main.canvas.ownerOf (resCode 0x0A l.code r) ≠ none → exec (.ringStart l r) s = .next s) ∧
       ((s.lanes.get l).main.canvas.ownerOf (resCode 0x0A l.code r) = none →
         ∃ t, exec (.ringStart l r) s = .next t ∧ onlyRing l r s t ∧ (run → t = s) ∧
         (¬ run → (ringOf t l r).state = 1 ∧ (ringOf t l r).code = 0 ∧ (ringOf t l r).next = g.desc ∧ (ringOf t l r).pend = g.pend)) ∧
       (∃ t, exec (.ringStop l r) s = .next t ∧ onlyRing l r s t ∧ (¬ run → t = s) ∧
         (run → (ringOf t l r).state = 3 ∧ (ringOf t l r).code = 1 ∧ (ringOf t l r).pend = g.pend)) ∧
       (∃ t, exec (.ringClr l r) s = .next t ∧ onlyRing l r s t ∧ ringOf t l r = { g with pend := 0, code := 0 }))) ∧
    (∀ m, m < 16 → (s.lanes.get l).main.dma.rings.length = 32 → (let v := (s.lanes.get l).main.dma.marks.getD m 0
      (v.testBit 16 = true → v.testBit 17 = true ∨ v % 8 = (s.lanes.get l).main.time.tick % 8 →
        ∃ t, exec (.mark l m) s = .next t ∧ lineRaised l (16 + m) s t) ∧
      (v.testBit 16 = false ∨ (v.testBit 17 = false ∧ v % 8 ≠ (s.lanes.get l).main.time.tick % 8) → exec (.mark l m) s = .next s)))

/-- The work of a ring: a fetched descriptor that a check refuses stops the ring in ERROR with the code of the first such check, one that passes makes it
ACTIVE at its first byte; a burst moves its bytes in order, keeps the receive bank the descriptor began with and spends one request, which a FIFO line
may raise again at once, and leaves every byte of the lane's memory outside its destinations; the end of a descriptor writes the number of bytes moved
and, with CRC set, the CRC, leaves every other byte, and goes on,
halts or idles; a bus error in a burst or at a fetch stops the ring (R287-R291, R293, R294, R297, R298). A byte of shared SRAM that holds a lane's own
copies of stored states reads as them (R303; where they lie is a free value: log entry 7). -/
def Obligations.RingWork : Prop :=
  ∀ (s : State) (l : LaneId) (r : Nat), l ≠ .c → (s.lanes.get l).awake = true → r < (s.lanes.get l).main.dma.rings.length →
    ((ringOf s l r).state = 1 →
      let n := s.lanes.get l
      let d := n.desc (ringOf s l r).next
      let ss := (List.range d.nsrc).map (n.sglEntry d)
      let ds := (List.range d.ndst).map (fun k => n.sglEntry d (d.nsrc + k))
      ∃ t, exec (.descriptorFetch l r) s = .next t ∧ onlyLane l s t ∧ (ringOf t l r).cur = (ringOf s l r).next ∧
        (t.lanes.get l).main.mem = (s.lanes.get l).main.mem ∧
        match n.fetchCode l r (ringOf s l r).next d ss ds with
        | none => (ringOf t l r).state = 2 ∧ (ringOf t l r).code = 0 ∧ (ringOf t l r).moved = 0 ∧ (ringOf t l r).next = d.next ∧
            (ringOf t l r).srcs = sideAddrs d true ss ∧ (ringOf t l r).dsts = sideAddrs d false ds
        | some c => (ringOf t l r).state = 4 ∧ (ringOf t l r).code = c) ∧
    ((List.range 32).find? (fun k => ringWaits (ringOf s l k)) = some r →
      ∃ t, exec (.burst l r) s = .next t ∧ onlyLane l s t ∧ (ringOf t l r).srcs = (ringOf s l r).srcs.drop (ringOf s l r).burst ∧
        (ringOf t l r).moved = (ringOf s l r).moved + min (ringOf s l r).burst (ringOf s l r).srcs.length ∧
        ((ringOf s l r).req < 64 ∨ 67 < (ringOf s l r).req → (ringOf t l r).pend = (ringOf s l r).pend - 1) ∧ (ringOf t l r).state = 2 ∧
        (ringOf t l r).bank = some ((ringOf s l r).bank.getD (s.lanes.get l).main.net.bank) ∧
        (memWf (s.lanes.get l).main.mem = true → ∀ a, a ∉ (ringOf s l r).dsts →
          memGet (t.lanes.get l).main.mem a = memGet (s.lanes.get l).main.mem a) ∧
        (memWf (s.lanes.get l).main.mem = true →
          (∀ a ∈ (ringOf s l r).srcs, busRange a = some .sram) → (∀ a ∈ (ringOf s l r).dsts, busRange a = some .sram) →
          (ringOf s l r).dsts.Nodup →
          let held := (ringOf s l r).hold ++ ((ringOf s l r).srcs.take (ringOf s l r).burst).map (fun a =>
            ((s.lanes.get l).stateByte l (a - 0x20000000)).getD (memGet (s.lanes.get l).main.mem a))
          ∀ i, i < held.length / (ringOf s l r).dw * (ringOf s l r).dw → i < (ringOf s l r).dsts.length →
            memGet (t.lanes.get l).main.mem ((ringOf s l r).dsts.getD i 0) = held.getD i 0)) ∧
    ((ringOf s l r).state = 2 → (ringOf s l r).srcs = [] → ∃ t, exec (.dmaEnd l r) s = .next t ∧ onlyLane l s t ∧
      (ringOf t l r).state = (if (ringOf s l r).next = 0 then 0 else if (ringOf s l r).haltAfter = true then 3 else 1) ∧
      (ringOf t l r).descn = satAdd 16 (ringOf s l r).descn 1 ∧
      (memWf (s.lanes.get l).main.mem = true → ∀ a,
        a < (ringOf s l r).cur + 16 ∨ (ringOf s l r).cur + (if (ringOf s l r).crcKind = 0 then 20 else 24) ≤ a →
          memGet (t.lanes.get l).main.mem a = memGet (s.lanes.get l).main.mem a) ∧
      (memWf (s.lanes.get l).main.mem = true → (ringOf s l r).crcKind ≠ 0 →
        leNat ((List.range 4).map (fun i => memGet (t.lanes.get l).main.mem ((ringOf s l r).cur + 20 + i))) =
          (if (ringOf s l r).crcKind = 1 then (ringOf s l r).crcReg ^^^ 0xFFFFFFFF else (ringOf s l r).crcReg) % 4294967296) ∧
      (memWf (s.lanes.get l).main.mem = true → (ringOf s l r).moved < 4294967296 →
        leNat ((List.range 4).map (fun i => memGet (t.lanes.get l).main.mem ((ringOf s l r).cur + 16 + i))) = (ringOf s l r).moved)) ∧
    ((ringOf s l r).state = 1 ∨ (ringOf s l r).state = 2 → ∀ addr, ∃ t, exec (.buserr l r addr) s = .next t ∧ onlyLane l s t ∧
      (ringOf t l r).state = 4 ∧ (ringOf t l r).code = 6 ∧
      (ringOf t l r).cur = (if (ringOf s l r).state = 1 then (ringOf s l r).next else (ringOf s l r).cur) ∧ (t.lanes.get l).main.dma.faultn = satAdd 16 (s.lanes.get l).main.dma.faultn 1 ∧
      (t.lanes.get l).main.evt.status.testBit 135 = true ∧ (t.lanes.get l).main.evt.status.testBit 3 = true)

/-- Event sources: a forced occurrence sets STATUS, masked or not, latches FIRST as forced where it is empty and the source unmasked, and does nothing in
an unconfigured unit, for a reserved source, or beside an occurrence of the same boundary, with which it counts once (R364, R371, R372, R375, R382); a forced PASS_FAIL counts a failure and a forced TRNG_FAIL ends a
NEWCHAL in progress with RESULT STATE (R345, R367; log entry 75); SEVERE is cleared with its count and window unless the hardware set it at the same boundary
(R369, R382); a window that has run out closes with count 0, in a lane, a unit and the Polvin core, whatever other windows are open (R368); CLRCE clears the memory errors of a lane in SERVICE (R324). -/
def Obligations.EventSources : Prop :=
  ∀ s : State,
    (∀ l src, (s.lanes.get l).main.evt.now.testBit src = true → exec (.force (.lane l) src) s = .next s) ∧
    (∀ u src, (s.ucom.get u).evt.now.testBit src = true → exec (.force (.unit u) src) s = .next s) ∧
    (∀ src, s.polvin.evt.now.testBit src = true → exec (.force .polvin src) s = .next s) ∧
    (∀ src, s.polvin.dom = .on → src ≤ 9 → src ∉ [0, 6] → s.polvin.evt.now.testBit src = false →
      ∃ t, exec (.force .polvin src) s = .next t ∧ onlyPolvin s t ∧ forcedIn s.polvin.evt t.polvin.evt src) ∧
    (s.polvin.dom = .on → s.polvin.evt.now.testBit 0 = false → ∃ t, exec (.force .polvin 0) s = .next t ∧ onlyPolvin s t ∧ t.polvin.evt.status.testBit 0 = true ∧
      t.polvin.failCount = min (s.polvin.failCount + 1) 255) ∧
    (s.polvin.dom = .on → s.polvin.evt.now.testBit 6 = false → ∃ t, exec (.force .polvin 6) s = .next t ∧ t = { s with lanes := t.lanes, polvin := t.polvin } ∧
      forcedIn s.polvin.evt t.polvin.evt 6 ∧ ∀ w, s.polvin.cmd = some (0, 0, w) → t.polvin.cmd = some (0, 1, w)) ∧
    (∀ src, s.polvin.dom = .on → 9 < src → exec (.force .polvin src) s = .next s) ∧
    (∀ u src, s.runs u = true → (s.ucom.get u).cfg.loaded = false → exec (.force (.unit u) src) s = .next s) ∧
    (∀ f src, s.runs (.fb f) = true → (s.ucom.get (.fb f)).cfg.loaded = true → src ≤ 4 ∨ src = 15 ∨ src = 16 →
      (s.ucom.get (.fb f)).evt.now.testBit src = false →
      ∃ t, exec (.force (.unit (.fb f)) src) s = .next t ∧ onlyUnit (.fb f) s t ∧
        forcedIn (s.ucom.get (.fb f)).evt (t.ucom.get (.fb f)).evt src) ∧
    (∀ u src, s.runs u = true → (s.ucom.get u).cfg.loaded = true → (evtDefault (unitKind u) src).isSome = true →
      (s.ucom.get u).evt.now.testBit src = false →
      ∃ t, exec (.force (.unit u) src) s = .next t ∧ (t.ucom.get u).evt.status.testBit src = true ∧ t.lanes = s.lanes ∧ t.polvin = s.polvin) ∧
    (∀ l src, (s.lanes.get l).awake = true →
      ((evtDefault (laneKind l) src).isSome = true → (s.lanes.get l).main.evt.now.testBit src = false →
        ∃ t, exec (.force (.lane l) src) s = .next t ∧ onlyLane l s t ∧ (t.lanes.get l).main.evt.status.testBit src = true) ∧
      (evtDefault (laneKind l) src = none → exec (.force (.lane l) src) s = .next s)) ∧
    (∀ l src, (s.lanes.get l).awake = true → 7 ≤ src → src ≤ 14 → (s.lanes.get l).main.evt.now.testBit src = false → ∃ t, exec (.force (.lane l) src) s = .next t ∧ onlyLane l s t ∧
      (t.lanes.get l).main.evt.status.testBit src = true ∧ (t.lanes.get l).main.net = (s.lanes.get l).main.net ∧
      ((s.lanes.get l).aon.first.valid = false → (s.lanes.get l).main.evt.mask.testBit src = false →
        (t.lanes.get l).aon.first.src = src ∧ (t.lanes.get l).aon.first.forced = true)) ∧
    (∀ l src, (s.lanes.get l).main.evt.sevNow.testBit src = true → exec (.severeClear (.lane l) src) s = .next s) ∧
    (∀ u src, (s.ucom.get u).evt.sevNow.testBit src = true → exec (.severeClear (.unit u) src) s = .next s) ∧
    (∀ src, s.polvin.evt.sevNow.testBit src = true → exec (.severeClear .polvin src) s = .next s) ∧
    (∀ l src, (s.lanes.get l).awake = true → (s.lanes.get l).main.evt.sevNow.testBit src = false → exec (.severeClear (.lane l) src) s = .next (s.setLane l { s.lanes.get l with
      main := { (s.lanes.get l).main with evt := { (s.lanes.get l).main.evt with
        severe := clearBit (s.lanes.get l).main.evt.severe src, counts := assocDel (s.lanes.get l).main.evt.counts src } } })) ∧
    (∀ u src, s.runs u = true → (s.ucom.get u).evt.sevNow.testBit src = false → exec (.severeClear (.unit u) src) s = .next (s.setUnit u { s.ucom.get u with
      evt := { (s.ucom.get u).evt with severe := clearBit (s.ucom.get u).evt.severe src, counts := assocDel (s.ucom.get u).evt.counts src } })) ∧
    (∀ src, s.polvin.dom = .on → s.polvin.evt.sevNow.testBit src = false → exec (.severeClear .polvin src) s = .next { s with polvin := { s.polvin with
      evt := { s.polvin.evt with severe := clearBit s.polvin.evt.severe src, counts := assocDel s.polvin.evt.counts src } } }) ∧
    (∀ u src, s.runs u = true → ∃ e, exec (.windowExpiry (.unit u) src) s = .next (s.setUnit u { s.ucom.get u with evt := e }) ∧
      windowClosed (unitKind u) (s.ucom.get u).evt e (s.ucom.get u).round src) ∧
    (∀ l src, (s.lanes.get l).awake = true → ∃ e, exec (.windowExpiry (.lane l) src) s = .next (s.setLane l { s.lanes.get l with
        main := { (s.lanes.get l).main with evt := e } }) ∧
      windowClosed (laneKind l) (s.lanes.get l).main.evt e (s.lanes.get l).main.time.round src) ∧
    (∀ src, s.polvin.dom = .on → ∃ e, exec (.windowExpiry .polvin src) s = .next { s with polvin := { s.polvin with evt := e } } ∧
      windowClosed .polvin s.polvin.evt e s.polvinRound src) ∧
    (∀ l, (s.lanes.get l).awake = true → (s.lanes.get l).main.mode.mode = .service → exec (.clrce l) s = .next (s.setLane l { s.lanes.get l with
      aon := { (s.lanes.get l).aon with mem := { (s.lanes.get l).aon.mem with sets := List.replicate 7 {} } } }))

/-- A Carousel frame is accepted only in its window, of this cycle, from the joined partner of its slot and with the right tag, and is then in the bank of
the coming cycle; outside the window it is late and counted, of another cycle, or with another tag or of a partner not joined, counted as such (R254, R260, R265). A beacon with a right tag makes a
listening lane follow its sender (R268, R274). -/
def Obligations.CarouselReception : Prop :=
  ∀ (s : State) (l : LaneId) (f : RxFrame) (e : SlotDef), f.medium ≠ 9 → s.receives l f = true → (s.lanes.get l).frameSound f = true →
    (frFlags f.bytes = 0 → frSender f.bytes ≠ (s.lanes.get l).main.canvas.net.self →
      (s.lanes.get l).main.canvas.rxSlot f.plane.idx f.medium (frSlot f.bytes) = some e → e.peer = frSender f.bytes →
      (frPeer f.bytes = (s.lanes.get l).main.canvas.net.self ∨ frPeer f.bytes = 4095) →
      ((s.lanes.get l).partner f.plane.idx (frSender f.bytes)).silenced = false →
      (frCycle f.bytes ≠ (s.lanes.get l).main.time.round → exec (.frameReceive l f) s = .next (s.setLane l ((s.lanes.get l).countSlot))) ∧
      (frCycle f.bytes = (s.lanes.get l).main.time.round → (f.arrive - (e.start : Int)).natAbs ≤ (s.lanes.get l).main.canvas.winOf e →
        ((s.lanes.get l).partner f.plane.idx (frSender f.bytes)).joined = false →
        exec (.frameReceive l f) s = .next (s.setLane l ((s.lanes.get l).countTag))) ∧
      (frCycle f.bytes = (s.lanes.get l).main.time.round → (f.arrive - (e.start : Int)).natAbs ≤ (s.lanes.get l).main.canvas.winOf e →
        ((s.lanes.get l).partner f.plane.idx (frSender f.bytes)).joined = true →
        (∀ k, (s.lanes.get l).rxKey f.plane.idx f.bytes = some (some k) →
          (∀ x ∈ (s.lanes.get l).main.net.rx, ¬ (x.plane = f.plane.idx ∧ x.slot = frSlot f.bytes)) →
          ∃ t, exec (.frameReceive l f) s = .next t ∧ onlyLane l s t ∧
            if tagOf k (frHeader f.bytes) (frPayload f.bytes) = frTag f.bytes then
              (t.lanes.get l).main.net.rx = (s.lanes.get l).main.net.rx ++
                [⟨f.plane.idx, frSlot f.bytes, frPayload f.bytes, false, f.arrive - (e.start : Int)⟩] ∧
              (t.lanes.get l).main.net.accept = satAdd 16 (s.lanes.get l).main.net.accept 1
            else (t.lanes.get l).main.net =
              { (s.lanes.get l).main.net with tagErr := satAdd 16 (s.lanes.get l).main.net.tagErr 1 })) ∧
      (frCycle f.bytes = (s.lanes.get l).main.time.round → (s.lanes.get l).main.canvas.winOf e < (f.arrive - (e.start : Int)).natAbs →
        ∃ t, exec (.frameReceive l f) s = .next t ∧ onlyLane l s t ∧ (t.lanes.get l).main.net.rx = (s.lanes.get l).main.net.rx ∧
          (t.lanes.get l).main.net.late = satAdd 16 (s.lanes.get l).main.net.late 1 ∧ (t.lanes.get l).main.evt.status.testBit 7 = true)) ∧
    (∀ bk, frFlags f.bytes = 2 → frLen f.bytes = 16 → (s.lanes.get l).main.net.bk = some bk →
      (s.lanes.get l).main.net.listening = true → u16At (frPayload f.bytes) 0 % 4096 ≠ (s.lanes.get l).main.canvas.net.self →
      (s.lanes.get l).state ≠ .voting →
      ∃ t, exec (.beaconReceive l f) s = .next t ∧ (∀ k, k ≠ l → t.lanes.get k = s.lanes.get k) ∧
        if tagOf (beaconKey bk (frKeyep f.bytes)) (frHeader f.bytes) (frPayload f.bytes) = frTag f.bytes then
          (t.lanes.get l).main.net.role = 2 ∧ (t.lanes.get l).main.net.master = u16At (frPayload f.bytes) 0 % 4096 ∧
          (t.lanes.get l).main.net.listening = false ∧ (t.lanes.get l).main.net.bmiss = 0 ∧
          (t.lanes.get l).main.net.epoch = frKeyep f.bytes
        else (t.lanes.get l).main.net =
          { (s.lanes.get l).main.net with tagErr := satAdd 16 (s.lanes.get l).main.net.tagErr 1 })

/-- MSG1 and MSG3 of a join exchange (R270, R347, R348, R350): fragments are gathered; the whole MSG1 waits its turn at the Polvin core, which prepares
MSG2 for one exchange in 5 ms, that of a partner with MEAS, SET or ACT slots and of the lowest ID first (R272, log entry 97), or ends the exchange with
POLVIN_LOST where the core does not run; the whole MSG3 gives the keys and MSG4 where certificate and signature are right, else
JOIN_AUTH is raised and the exchange ends. The ephemeral key and the value the signature of MSG2 is made with are free values (log entry 3). MSG2 and MSG4 of the join a follower makes with its master
(R348-R350, R352): MSG2 signed by the device key that the integrator key vouches for has MSG3 due, its signature a free value (log entry 21); MSG4
unwrapped gives the group key and the epoch, and the partner's key to every running lane, both advanced where the epoch in use is one further (R351). -/
def Obligations.JoinExchange : Prop :=
  (∀ (s : State) (l : LaneId) (f : RxFrame) (e : SlotDef),
    (let n := s.lanes.get l
     let part := (frPayload f.bytes).drop 8
     let dev := f.arrive - (e.start : Int)
     (joinTaken s l f e 1 0 → n.join e.peer = none →
        (part.length < 196 → ∃ t, exec (.joinMsg1 l f) s = .next t ∧ onlyLane l s t ∧
          (t.lanes.get l).join e.peer = some ⟨e.peer, 1, part, [], dev, [], [], 0, none, 0⟩) ∧
        (196 ≤ part.length → s.polvin.dom = .on → s.polvin.joinGap = 0 → s.waitingJoins = [] →
          ∃ t j, exec (.joinMsg1 l f) s = .next t ∧
            t = ({ s with free := s.free + 2, polvin := { s.polvin with joinGap := 100 } }).setLane l (t.lanes.get l) ∧
            (t.lanes.get l).join e.peer = some j ∧
            j.stage = 2 ∧ j.msg1 = part.take 196 ∧ j.dev = dev ∧ j.got = [] ∧ (t.lanes.get l).main.evt = n.main.evt) ∧
        (196 ≤ part.length → s.polvin.dom = .on → s.polvin.joinGap ≠ 0 → ∃ t, exec (.joinMsg1 l f) s = .next t ∧ onlyLane l s t ∧
          (t.lanes.get l).join e.peer = some ⟨e.peer, 5, part.take 196, [], dev, [], [], 0, none, 0⟩) ∧
        (196 ≤ part.length → s.polvin.dom ≠ .on → ∃ t, exec (.joinMsg1 l f) s = .next t ∧ onlyLane l s t ∧
          (t.lanes.get l).join e.peer = none ∧ (t.lanes.get l).main.evt.status.testBit 19 = true)) ∧
     (∀ j, n.join e.peer = some j → j.stage = 3 → joinTaken s l f e 3 j.got.length → 64 ≤ j.got.length + part.length →
        s.polvin.dom = .on →
        (let msg := (j.got ++ part).take 64
         ∃ t, exec (.joinMsg3 l f) s = .next t ∧ onlyLane l s t ∧
           if joinAuth s.polvin true j.msg1 j.t msg j.peer = true then
             (t.lanes.get l).join j.peer = some { j with
               dev := dev, stage := 4, got := [], out := [], key := some (joinKeys j.t j.z l.idx).1, kw := (joinKeys j.t j.z l.idx).2 }
           else (t.lanes.get l).join j.peer = none ∧ (t.lanes.get l).main.evt.status.testBit 13 = true ∧
             ((t.lanes.get l).partner l.idx j.peer).retryAt = (n.main.time.round + 16) % 16777216)))) ∧
  (∀ (s : State) (l x : LaneId) (vl : Nat) (pin : Bool) (peer : Nat) (j : Join), (s.lanes.get l).aon.on = true → s.leadLane = some l →
    s.polvin.dom = .on → s.polvin.entry = none → s.polvin.joinGap ≤ 1 → s.nextJoin = some (x, peer) → (s.lanes.get x).join peer = some j →
    ∃ t k, exec (.tickBoundary (.lane l vl pin)) s = .next t ∧ t.polvin.joinGap = 100 ∧ (t.lanes.get x).join peer = some k ∧
      k.stage = 2 ∧ k.msg1 = j.got ∧ k.dev = j.dev) ∧
  (∀ (s : State) (l : LaneId) (peer : Nat) (j : Join), (s.lanes.get l).computing = true → (s.lanes.get l).join peer = some j →
    (j.stage = 12 → j.got.length = 256 →
      (let t2 := shaBytes (j.msg1 ++ j.got.take 192 ++ leBytes 1 l.idx ++ leBytes 2 peer)
       let vouched := match s.polvin.ipub with
         | some k => verifyMsg k (ascii "KT3128 DEVCERT" ++ slice j.got 64 64) (slice j.got 128 64)
         | none => false
       s.polvin.dom = .on → ∃ t, exec (.joinMsg2 l peer) s = .next t ∧
         if (verifyMsg (slice j.got 64 64) t2 (slice j.got 192 64) && vouched) = true then
           t = ({ s with free := s.free + 1 }).setLane l (t.lanes.get l) ∧ ∃ x, (t.lanes.get l).join peer = some x ∧ x.stage = 13 ∧
             x.t = shaBytes (t2 ++ slice j.got 192 64) ∧ x.key = some (joinKeys x.t x.z l.idx).1
         else onlyLane l s t ∧ (t.lanes.get l).join peer = none)) ∧
    (∀ k, j.stage = 14 → j.got.length = 36 → j.key = some k →
      ∃ t, exec (.joinMsg4 l peer) s = .next t ∧ t = { s with lanes := t.lanes, polvin := t.polvin } ∧ (t.lanes.get l).join peer = none ∧
        ∀ g, gcmUnwrap j.kw j.t (slice j.got 4 32) = some g →
          let on := u16At j.got 0 + 1 = (s.lanes.get l).main.net.epoch
          ∀ x, ((s.lanes.get x).awake = true → assocGet (t.lanes.get x).main.net.gk l.idx = some (if on then nextKey g else g) ∧
              (t.lanes.get x).main.net.epoch = (if on then (s.lanes.get l).main.net.epoch else u16At j.got 0) ∧
              assocGet (t.lanes.get x).main.net.keys (slotKey l.idx peer) = some (if on then nextKey k else k)) ∧
            ((s.lanes.get x).awake = false → t.lanes.get x = s.lanes.get x)))

/-- The key epoch advances in every running lane in the cycle 0xFF_FF00 and in no other: every partner and group key becomes the next of its chain, the
former ones are kept for 16 cycles, and the epoch is one higher; beyond 0xFFFF no key advances and a master stops beaconing (R253, R351, R353). Every
frame a lane sends in a slot carries its epoch as KEYEP (R351). -/
def Obligations.KeyEpochAdvances : Prop :=
  (∀ (s t : State) (l : LaneId) (slot : Nat) (depart : Int) (k fl : Nat) (b : Bytes), (s.lanes.get l).transmits = true →
    (∃ e ∈ (s.lanes.get l).main.canvas.slots, e.tx = true ∧ e.plane = l.idx ∧ e.slot = slot) → (s.lanes.get l).main.net.epoch < 65536 →
    exec (.slotTransmit l slot depart) s = .next t → (t.lanes.get l).main.net.sent = some (k, fl, b) →
    frKeyep b = (s.lanes.get l).main.net.epoch) ∧
  ∀ s : State, ∃ t, exec .keyEpochAdvance s = .next t ∧ t = { s with lanes := t.lanes, polvin := t.polvin } ∧
    ∀ l, (let n := s.lanes.get l
      let m := n.main.net
      (n.awake = false ∨ n.main.time.round ≠ 0xFFFF00 → t.lanes.get l = n) ∧
      (n.awake = true → n.main.time.round = 0xFFFF00 → m.epoch ≠ 0xFFFF → t.lanes.get l = { n with main := { n.main with net := { m with
        oldKeys := m.keys, oldGk := m.gk, oldUntil := some 0xFFFF10, epoch := m.epoch + 1,
        keys := m.keys.map (fun e => (e.1, hkdf16 e.2 (ascii "KT3128 NEXT"))),
        gk := m.gk.map (fun e => (e.1, hkdf16 e.2 (ascii "KT3128 NEXT"))), joins := (t.lanes.get l).main.net.joins } } }) ∧
      (n.awake = true → n.main.time.round = 0xFFFF00 → m.epoch = 0xFFFF → (t.lanes.get l).main.net.keys = m.keys ∧
        (t.lanes.get l).main.net.epoch = m.epoch ∧ (t.lanes.get l).main.net.role ≠ 1 ∧ (t.lanes.get l).main.net.mcapOff = true ∧
        (t.lanes.get l).main.net.startBeacon = false))

/-- A lane that hears no beacon while it listens is to beacon (R268), but for one that has met a node of its own RANK and ID (R269); a follower that hears none for 8 cycles goes to RECOVERY, raises BEACON_LOST and,
where it may be master, is to beacon (R275); a cycle point fires outside NORMAL in a PHASE it names, and in NORMAL never (R264); a slot that closes
without a frame marks its partner's gap (R261); a PHY link of the trunk, or of a segment the plane has and the slot
table uses, comes and goes; any other is held in high impedance (R2, R282, R418). -/
def Obligations.PlaneEvents : Prop :=
  ∀ (s : State) (l : LaneId),
    (let n := s.lanes.get l
     let may := n.main.canvas.net.mcap && !n.main.net.mcapOff && !n.main.net.clash && decide (s.polvin.keyRec ≠ 0xFFFF)
     let put := fun (m : Net) => s.setLane l { n with main := { n.main with net := m } }
     (n.computing = true → n.main.net.listening = true → n.main.net.heard = false →
       (may = true → exec (.listenExpiry l) s = .next (put { n.main.net with listening := false, startBeacon := true, heardSelf := false })) ∧
       (may = false → exec (.listenExpiry l) s = .next s)) ∧
     (n.computing = true → n.main.net.role = 2 ∨ n.main.net.role = 3 →
       (8 ≤ n.main.net.bmiss → ∃ t, exec (.beaconLost l) s = .next t ∧ onlyLane l s t ∧
         (t.lanes.get l).main.net = { n.main.net with recov := 16, startBeacon := may, heardSelf := true } ∧
         (t.lanes.get l).main.evt.status.testBit 11 = true ∧ (t.lanes.get l).state = n.state) ∧
       (n.main.net.bmiss < 8 → exec (.beaconLost l) s = .next s)) ∧
     (∀ k, k < 8 → (n.computing = true → (n.main.net.cps.getD k 0).testBit 19 = true → n.main.net.phase ≠ 0 →
         (n.main.net.cps.getD k 0).testBit (19 + n.main.net.phase) = true →
         ∃ t, exec (.cyclePoint l k) s = .next t ∧ onlyLane l s t ∧
           (t.lanes.get l).main.net = { n.main.net with cpev := setBit n.main.net.cpev k, cpNow := setBit n.main.net.cpNow k } ∧
           (t.lanes.get l).main.evt.status.testBit 12 = true) ∧
       (n.main.net.phase = 0 → exec (.cyclePoint l k) s = .next s)) ∧
     (∀ slot e, n.computing = true →
       n.main.canvas.slots.find? (fun e => !e.tx && e.plane = slot / 4096 && e.slot = slot % 4096) = some e →
       (n.main.net.rx.any (fun x => x.plane = slot / 4096 && x.slot = slot % 4096) = false →
         ∃ t, exec (.acceptanceWindowClose l slot) s = .next t ∧ onlyLane l s t ∧
           (t.lanes.get l).partner (slot / 4096) e.peer = { n.partner (slot / 4096) e.peer with
             gap := (n.partner (slot / 4096) e.peer).gap || !(n.partner (slot / 4096) e.peer).heard } ∧
           (t.lanes.get l).main.net.rx = n.main.net.rx ∧ (t.lanes.get l).main.mem = n.main.mem) ∧
       (n.main.net.rx.any (fun x => x.plane = slot / 4096 && x.slot = slot % 4096) = true →
         exec (.acceptanceWindowClose l slot) s = .next s)) ∧
     (n.awake = true → n.aon.pwr.phy = .on →
       (∀ up, exec (.trunkLink l 0 up) s = .next (put { n.main.net with trunkUp := up })) ∧
       (∀ k up, k < planeSegs l → (∃ e ∈ n.main.canvas.slots, e.plane = l.idx ∧ e.medium = k + 1) → exec (.trunkLink l (k + 1) up) s = .next (put { n.main.net with
         segUp := if up then setBit n.main.net.segUp k else clearBit n.main.net.segUp k })) ∧
       (∀ k up, planeSegs l ≤ k ∨ (∀ e ∈ n.main.canvas.slots, e.plane = l.idx → e.medium ≠ k + 1) → exec (.trunkLink l (k + 1) up) s = .next s)))

/-- What a transmit slot sends (R250, R251, R258, R389, R408): a null frame, counted, where its payload is not complete or the slot may carry none; else
the payload, tagged; an SREP slot the oldest reply for its partner, a STATUS slot the lane's STATUS, a BEACON slot of a master its beacon (R261, R262);
a payload whose mirror copy is not complete, or differs, is a mismatch and goes out as a null frame (R296, R312, R313);
a frame that meets a closed guardian gate, open from 0.5 µs before START to 0.5 µs after START + W(LEN), is cut, counted and raises GUARD_CUT, the eighth in 256 cycles silencing the
transmitter, but for the null frame of a payload that is late (R259, R281). A lane that may not transmit sends nothing. No partner's join exchange is under way in the slot. -/
def Obligations.SlotSends : Prop :=
  (∀ (s : State) (l : LaneId) (slot : Nat) (e : SlotDef),
    (let n := s.lanes.get l
     let m := n.main.net
     n.main.canvas.slots.find? (fun e => e.tx && e.plane = l.idx && e.slot = slot) = some e →
     let ok := fun (fr : Option (Nat × Nat × Bytes)) (x : Int) => gateOpen n l e fr x = true
     let null := fun (k : BitVec 128) (x : Int) => ok (frameSent n l e 1 e.peer [] (some k)) x
     let late := l ≠ .c ∧ e.kind = 2 ∧ (e.slot ∈ n.main.check.lateSlots ∨ n.slotMatches l [] e.slot = false)
     (n.transmits = false → ∀ x, exec (.slotTransmit l slot x) s = .next s) ∧
     (n.transmits = true → n.join e.peer = none → ∀ k, n.txKey l e = some k →
       (e.kind ≠ 3 → e.kind ≠ 4 → e.kind ≠ 6 →
         (∀ x, n.nullSlot e = true ∨ n.released l e = none → null k x ∨ n.latePayload l e = true → exec (.slotTransmit l slot x) s = .next (s.setLane l
           { n with main := { n.main with net := { m with
             sent := frameSent n l e 1 e.peer [] (some k), nulls := satAdd 16 m.nulls 1 } } })) ∧
         (∀ d x, n.nullSlot e = false → n.released l e = some d →
           (late → null k x → ∃ t, exec (.slotTransmit l slot x) s = .next t ∧ onlyLane l s t ∧ (t.lanes.get l).main.evt.status.testBit 128 = true ∧
             (t.lanes.get l).main.net.sent = frameSent n l e 1 e.peer [] (some k) ∧ (t.lanes.get l).main.check.withdraw = true) ∧
           (¬ late → ok (frameSent n l e 0 e.peer d (some k)) x → ∃ t, exec (.slotTransmit l slot x) s = .next t ∧ onlyLane l s t ∧
             (t.lanes.get l).main.net.sent = frameSent n l e 0 e.peer d (some k) ∧ (t.lanes.get l).main.net.nulls = m.nulls ∧
             (t.lanes.get l).main.net.tx = m.tx ∧ (t.lanes.get l).main.evt = n.main.evt) ∧
           (¬ late → ¬ ok (frameSent n l e 0 e.peer d (some k)) x →
             ∃ t, exec (.slotTransmit l slot x) s = .next t ∧ onlyLane l s t ∧ (t.lanes.get l).main.net.sent = none ∧
             (t.lanes.get l).main.net.guard = satAdd 16 m.guard 1 ∧ (t.lanes.get l).main.evt.status.testBit 6 = true ∧
             (t.lanes.get l).main.net.silenced =
               decide (7 ≤ (m.cuts.filter (fun x => roundsSince x n.main.time.round < 256)).length)))) ∧
       (e.kind = 6 → n.main.service.replies = [] ∨ n.aon.pwr.step1 = true → ∀ x, null k x → exec (.slotTransmit l slot x) s =
         .next (s.setLane l { n with main := { n.main with net := { m with
           sent := frameSent n l e 1 e.peer [] (some k), nulls := satAdd 16 m.nulls 1 } } }))) ∧
     (n.transmits = true → n.join e.peer = none → ∀ k x, n.txKey l e = some k →
       (∀ r, e.kind = 6 → n.aon.pwr.step1 = false →
         n.main.service.replies.find? (fun r => r.sender = e.peer && decide (r.via ≠ .port)) = some r →
         ok (frameSent n l e 8 e.peer (replyBytes l r e.len) (some k)) x → ∃ t, exec (.slotTransmit l slot x) s = .next t ∧ onlyLane l s t ∧
           (t.lanes.get l).main.net.sent = frameSent n l e 8 e.peer (replyBytes l r e.len) (some k) ∧
           (t.lanes.get l).main.service.replies = n.main.service.replies.erase r) ∧
       (e.kind = 4 → ok (frameSent n l e 0 e.peer (n.statusPayload l (n.echoList l e)) (some k)) x → ∃ t, exec (.slotTransmit l slot x) s = .next t ∧ onlyLane l s t ∧
         (t.lanes.get l).main.net.sent = frameSent n l e 0 e.peer (n.statusPayload l (n.echoList l e)) (some k) ∧
         (t.lanes.get l).main.net.nulls = m.nulls)) ∧
     (n.transmits = true → n.join e.peer = none → e.kind = 3 → m.role = 1 → ∀ bk x, m.bk = some bk →
       ok (frameSent n l e 2 4095 n.beaconPayload (some (beaconKey bk m.epoch))) x → exec (.slotTransmit l slot x) s = .next (s.setLane l { n with main := { n.main with net := { m with
         sent := frameSent n l e 2 4095 n.beaconPayload (some (beaconKey bk m.epoch)) } } })))) ∧
  (∀ (m : Net) (plane medium len : Nat) (x : Int) (g : SlotDef), m.gate.filter (fun e => e.medium = medium) = [g] →
    m.cutAt plane medium len x = decide (x < (g.start : Int) - 500 ∨
      (g.start : Int) + (wireNs plane medium g.len : Int) + 500 < x + (wireNs plane medium len : Int)))

/-- The CAN port of lanes A and B: the newest Guidance System Command is kept as received, with its sender, and counted (R278; the byte layout is
PRESUMED, log entry 22); the address claim, its loss, and the answer to a request for it (R277); bus-off (R365); frames of FD mode and multi-packet
messages are counted and nothing else (R276, R277, R283). The data of a frame taken stand in the receive FIFO (R286; log entry 125). A lost address is not
taken again (R277). A frame that met a bus error is taken no further; every frame counts in REC or TEC, and a port whose TEC would pass 255 enters bus-off,
TEC standing at 255 (R276, R283; how the counters count is the model's, PRESUMED as ISO 11898-1 has it: log entry 139). -/
def Obligations.CanPortEvents : Prop :=
  ∀ (s : State) (l : LaneId),
    (let n := s.lanes.get l
     let c := n.main.can
     let put := fun (x : CanPort) => s.setLane l { n with main := { n.main with can := x } }
     let filled := fun (data : Bytes) (t : State) => onlyLane l s t ∧ (t.lanes.get l).main.dma.canRx = n.main.dma.canRx ++ data ∧
       (t.lanes.get l).main.net = n.main.net ∧ (t.lanes.get l).main.mem = n.main.mem ∧ (t.lanes.get l).state = n.state
     let rx := { c with rxErr := min 127 (c.rxErr - 1), errpass := decide (127 < c.tec ∨ 127 < min 127 (c.rxErr - 1)) }
     let bad := { c with rxErr := satAdd 8 c.rxErr 1, errpass := decide (127 < c.tec ∨ 127 < satAdd 8 c.rxErr 1) }
     let tx := fun (x : CanPort) => { x with tec := x.tec - 1, errpass := decide (127 < x.tec - 1 ∨ 127 < x.rxErr) }
     let offIn := fun (t : State) => onlyLane l s t ∧
       (t.lanes.get l).main.can = { c with busoff := true, offTicks := 0, tec := 255, errpass := true, busoffn := satAdd 16 c.busoffn 1 } ∧
       (t.lanes.get l).main.evt.status.testBit 136 = true ∧ (t.lanes.get l).main.net = n.main.net
     let lost := { tx rx with addr := 0xFE, claimed := false, sent := 2, taken := c.addr :: c.taken }
     (n.canRuns l 1 = true →
       (∀ sa data, (∃ t, exec (.guidanceSystemCommand l sa (some data)) s = .next t ∧ filled data t ∧ (t.lanes.get l).main.can = { rx with
           curv := u16At data 0, cst := byteAt data 2 % 4, sa := sa % 256, cage := 0, sub := 0, nrx := satAdd 16 c.nrx 1 }) ∧
         exec (.guidanceSystemCommand l sa none) s = .next (put bad)) ∧
       exec (.addressClaim ⟨l, false⟩) s = .next (put { tx c with addr := n.canPref l, claimed := true, sent := 1 }) ∧
       (c.tec ≤ 247 → exec (.addressClaim ⟨l, true⟩) s = .next (put { c with
         tec := satAdd 8 c.tec 8, errpass := decide (127 < satAdd 8 c.tec 8 ∨ 127 < c.rxErr) })) ∧
       (247 < c.tec → ∃ t, exec (.addressClaim ⟨l, true⟩) s = .next t ∧ offIn t) ∧
       (c.sent = 0 → exec (.requestForAddressClaimed ⟨l, false⟩) s = .next (put rx)) ∧
       (c.sent ≠ 0 → exec (.requestForAddressClaimed ⟨l, false⟩) s = .next (put { tx rx with sent := if c.claimed then 1 else 2 })) ∧
       exec (.requestForAddressClaimed ⟨l, true⟩) s = .next (put bad) ∧
       (c.claimed = true → (n.canName l).testBit 63 = false → exec (.addressClaimLost l) s = .next (put lost)) ∧
       (c.claimed = true → (n.canName l).testBit 63 = true → (∃ a, 128 ≤ a ∧ a ≤ 247 ∧ a ≠ c.addr ∧ a ∉ c.taken) →
         ∃ t a, exec (.addressClaimLost l) s = .next t ∧ 128 ≤ a ∧ a ≤ 247 ∧ a ≠ c.addr ∧ a ∉ c.taken ∧
         t = ({ s with free := s.free + 1 }).setLane l { n with main := { n.main with can := { lost with addr := a, claimed := true, sent := 1 } } }) ∧
       (c.claimed = true → (n.canName l).testBit 63 = true → (∀ a, 128 ≤ a → a ≤ 247 → a = c.addr ∨ a ∈ c.taken) →
         exec (.addressClaimLost l) s = .next (({ s with free := s.free + 1 }).setLane l { n with main := { n.main with can := lost } })) ∧
       (∀ ident data, multiPacket ident = true → (∃ t, exec (.fdFrame l ident (some data)) s = .next t ∧ filled data t ∧
           (t.lanes.get l).main.can = { rx with fdrx := satAdd 16 c.fdrx 1 }) ∧
         exec (.fdFrame l ident none) s = .next (put bad)) ∧
       (∀ ident data, multiPacket ident = false → exec (.fdFrame l ident data) s = .next s)) ∧
     (n.canRuns l 2 = true →
       (∀ ident data, (∃ t, exec (.fdFrame l ident (some data)) s = .next t ∧ filled data t ∧
           (t.lanes.get l).main.can = { rx with fdrx := satAdd 16 c.fdrx 1 }) ∧
         exec (.fdFrame l ident none) s = .next (put bad)) ∧
       (∀ sa data, exec (.guidanceSystemCommand l sa data) s = .next s)) ∧
     (l ≠ .c → n.awake = true → n.canMode l ≠ 0 → ∃ t, exec (.canBusoff l) s = .next t ∧ offIn t))

/-- The office falls vacant when its holder was absent for four cycles, RM_VACANT is raised and the best claimant of the cycle takes it (R332, R334); the
session peer's claim and release count in the cycle that begins (R338). A session opens for one peer at a time, a commander with SVCOK or any while
UNOWNED, where the signature of MSG3, and unless UNOWNED the certificate of MSG1, are right, MSG2 and MSG4 standing on the port; else JOIN_AUTH is raised, or POLVIN_LOST where the core
does not run; it ends after 10 s without a valid frame, with SERVICE left or with a counter at its end (R338, R339). Its key is that of the
exchange, whose ephemeral key and signature draws are free values (log entry 3). The peer of an UNOWNED controller is its Ringmaster for the session
(R339; OWN_TERM shows CAUSE 0, the model's choice: log entry 141). That PLANE is 0 in the session's key, the layout of the module's frames and the E and
GK of MSG4 are the model's reading (log entry 100), as are the vacancy as a row (log entry 37) and the time the idle session counts on (log entry 19). -/
def Obligations.OfficeAndSession : Prop :=
  (∀ (s : State) (l : LaneId), (s.lanes.get l).computing = true →
    (let n := s.lanes.get l
     let put := fun (o : Office) => s.setLane l { n with main := { n.main with office := o } }
     let best := winner ((n.judged.filter (fun e => e.2.claim)).map (fun e => e.1))
     (n.holderGone = true → ∃ t, exec (.rmVacant l) s = .next t ∧ onlyLane l s t ∧ (t.lanes.get l).main.office.holder = best ∧
       (t.lanes.get l).main.office.cause = (if best = none then 3 else 0) ∧ (t.lanes.get l).main.office.round = n.main.time.round ∧
       (t.lanes.get l).main.evt.status.testBit 14 = true ∧ (t.lanes.get l).main.mode = n.main.mode) ∧
     (n.holderGone = false → exec (.rmVacant l) s = .next s) ∧
     (s.port.up = true → exec (.spclaim l) s = .next (put { n.main.office with spclaim := true }) ∧
       ∀ succ, exec (.sprel l succ) s = .next (put { n.main.office with sprel := true, spsucc := succ % 4096 })) ∧
     (s.port.up = false → exec (.spclaim l) s = .next s ∧ ∀ succ, exec (.sprel l succ) s = .next s))) ∧
  (∀ (s : State) (peer : Nat) (msg1 msg3 : Bytes),
    (s.portLive = true → s.port.up = false → msg1.length = 196 → msg3.length = 64 →
      (s.polvin.dom = .on →
        let x := msg2Of s.polvin msg1 s.draw.1 s.draw.2.draw.1 0 s.lanes.a.main.canvas.net.self
        let known := s.polvin.ipub.isNone || s.lanes.a.main.canvas.cmdrs.any (fun c => c.id = peer && c.svcok)
        ∃ t, exec (.sessionOpen ⟨peer, msg1, msg3⟩) s = .next t ∧
          if (known && joinAuth s.polvin s.polvin.ipub.isSome msg1 x.2.1 msg3 peer) = true then
            t = { s with free := s.free + 3, port := t.port, lanes := t.lanes } ∧
              (∀ l, t.lanes.get l = if s.polvin.ipub = none ∧ (s.lanes.get l).awake = true then { s.lanes.get l with main := { (s.lanes.get l).main with
                office := { (s.lanes.get l).main.office with holder := some peer, away := 0, round := (s.lanes.get l).main.time.round, cause := 0,
                                                             changes := (s.lanes.get l).main.office.changes.add 1 } } } else s.lanes.get l) ∧
              t.port.up = true ∧ t.port.peer = some peer ∧
              t.port.key = (joinKeys x.2.1 x.2.2 0).1 ∧ t.port.idle = 0 ∧ (∀ l, t.port.txCtr.get l = 0 ∧ t.port.rxCtr.get l = none) ∧
              ∃ g : BitVec 128, t.port.out = [s.openFrame peer 2 x.1,
                s.openFrame peer 4 (msg4Of s.lanes.a.main.net.epoch (joinKeys x.2.1 x.2.2 0).2 x.2.1 g)] ∧
                ∀ k, assocGet s.lanes.a.main.net.gk 0 = some k → g = k
          else t = ({ s with free := s.free + 2, port := { s.port with out := [s.openFrame peer 2 x.1] } }).setLane .a t.lanes.a ∧
            t.lanes.a.main.evt.status.testBit 13 = true) ∧
      (s.polvin.dom ≠ .on → ∃ t, exec (.sessionOpen ⟨peer, msg1, msg3⟩) s = .next t ∧ onlyLane .a s t ∧
        t.lanes.a.main.evt.status.testBit 19 = true ∧ t.lanes.a.main.office = s.lanes.a.main.office)) ∧
    (s.port.up = true ∨ s.portLive = false → exec (.sessionOpen ⟨peer, msg1, msg3⟩) s = .next s)) ∧
  (∀ s : State, s.port.up = true →
    (200000 ≤ s.port.idle ∨ (∃ l : LaneId, 0xFFFFFF ≤ s.port.txCtr.get l) ∨ (∃ l : LaneId, s.port.rxCtr.get l = some 0xFFFFFF) ∨ s.portLive = false → ∃ t, exec .sessionEnd s = .next t ∧
      t = { s with port := {}, lanes := t.lanes } ∧ ∀ l, t.lanes.get l = { s.lanes.get l with main := { (s.lanes.get l).main with
        office := { (s.lanes.get l).main.office with endedPeer := s.port.peer } } }) ∧
    (s.port.idle < 200000 → (∀ l, s.port.txCtr.get l < 0xFFFFFF) → (∀ l, s.port.rxCtr.get l ≠ some 0xFFFFFF) → s.portLive = true →
      exec .sessionEnd s = .next s))

/-- The input of a lane (R385, R387, R389): below 9.0, 8.0 and 7.2 V steps 1, 2 and 4 are in force, step 1 closing the service port in lane A, above 9.5,
8.5 and 7.7 V they are not; at 6.6 V the lane withdraws and its main domain goes to RETENTION, from which it returns through BOOT with its canvas and
tick, shown as SUPPLY (R390, R393), a lane that sleeps by the wake of that source; below 6.0 V its main domain is OFF, below 4.0 V its always-on domain
with what it held but for the restart history and a retirement (R379; the model's reading: log entry 26). That the blocks of the tick still arrive (log
entry 121) and that a return reaches the lanes still in RETENTION (log entry 63) are the model's readings too. -/
def Obligations.InputSteps : Prop :=
  ∀ (s : State) (l : LaneId),
    (let n := s.lanes.get l
     let p := n.aon.pwr
     (n.aon.on = true →
       (∀ mv, ∃ t, exec (.laneShed l mv) s = .next t ∧ (t.lanes.get l).aon = { n.aon with pwr := { p with
           vl := mv / 10, vlmin := min p.vlmin (mv / 10)
           step1 := p.step1 || decide (mv < 9000), step2 := p.step2 || decide (mv < 8000), step4 := p.step4 || decide (mv < 7200) } } ∧
         (t.lanes.get l).state = n.state ∧ t.port = (if l = .a ∧ mv < 9000 then {} else s.port) ∧ t.ucom = s.ucom ∧ t.isl = s.isl ∧
         t.polvin = s.polvin ∧ ∀ k, k ≠ l → (t.lanes.get k).aon = (s.lanes.get k).aon ∧ (t.lanes.get k).state = (s.lanes.get k).state) ∧
       (∀ mv, exec (.shedRelease l mv) s = .next (s.setLane l { n with aon := { n.aon with pwr := { p with
           vl := mv / 10, vlmin := min p.vlmin (mv / 10)
           step1 := p.step1 && !decide (9500 < mv), step2 := p.step2 && !decide (8500 < mv), step4 := p.step4 && !decide (7700 < mv) } } })) ∧
       exec (.alwaysOnPowerUp l) s = .next s) ∧
     (n.dom = .on → n.state ≠ .off → n.state ≠ .retired → ∃ t, exec (.dropOut l) s = .next t ∧ (t.lanes.get l).state = .off ∧
       (t.lanes.get l).dom = .retention ∧ (t.lanes.get l).aon.pwr.phy = .off ∧ (t.lanes.get l).aon.pwr.pll = false ∧
       (t.lanes.get l).aon.pwr.timerLeft = 1000 * p.timer ∧ (n.computing = true → (t.lanes.get l).main.check.withdraw = true) ∧
       (t.lanes.get l).main.canvas = n.main.canvas ∧ (t.lanes.get l).main.time = n.main.time ∧
       (∀ k, k ≠ l → (t.lanes.get k).state = (s.lanes.get k).state ∧ (t.lanes.get k).aon = (s.lanes.get k).aon) ∧ t.polvin = s.polvin) ∧
     (n.dom = .retention → exec (.dropOut l) s = .next (s.setLane l { n with aon := { n.aon with pwr := { p with slept := false } } })) ∧
     (n.dom ≠ .off ∨ n.state ≠ .off → ∃ t, exec (.mainOff l) s = .next t ∧ laneDownIn l .off .off s t) ∧
     (n.dom = .off → n.state = .off → exec (.mainOff l) s = .next s) ∧
     (∃ t, exec (.alwaysOnOff l) s = .next t ∧ laneDownIn l .off .off s t ∧ (t.lanes.get l).aon =
       { on := false, ms := n.aon.ms, sub := n.aon.sub, restarts := n.aon.restarts, retired := n.aon.retired, pendrec := n.aon.pendrec }) ∧
     (n.aon.on = false → exec (.alwaysOnPowerUp l) s = .next (s.setLane l { n with aon :=
       { ms := n.aon.ms, sub := n.aon.sub, restarts := n.aon.restarts, retired := n.aon.retired, pendrec := n.aon.pendrec } })) ∧
     (n.dom = .retention → n.aon.on = true → p.slept = true → exec (.retentionReturn l) s = exec (.wake l .supply) s) ∧
     (n.dom = .retention → n.aon.on = true → p.slept = false → ∃ t, exec (.retentionReturn l) s = .next t ∧ (t.lanes.get l).state = .boot ∧
       (t.lanes.get l).dom = .on ∧ (t.lanes.get l).loader.retained = true ∧ (t.lanes.get l).aon.pwr.src = setBit p.src 4 ∧
       (t.lanes.get l).main.canvas = n.main.canvas ∧ (t.lanes.get l).main.time.tick = n.main.time.tick ∧
       (∀ u, ((t.ucom.get u).links.get l).up = false) ∧ (∀ k, k ≠ l → t.lanes.get k = { s.lanes.get k with aon := { (s.lanes.get k).aon with
         pwr := { (s.lanes.get k).aon.pwr with firstMs := (t.lanes.get k).aon.pwr.firstMs } } }) ∧ t.polvin = s.polvin))

/-- Sleep entry (R395, R396, R400): a unit that has SLEEP from every lane it admits acknowledges it on its links; a lane with every acknowledgement turns
its plane off, any other cancels the entry of all, and what waited for it acts (R398; the model's reading: log entry 73); a member with work outstanding refuses, and the refusal is recorded in every lane and brings the
group back, but for a lane that dropped out. -/
def Obligations.SleepEntry : Prop :=
  ∀ s : State,
    (let step := ((allLanes.filterMap (fun l => (s.lanes.get l).aon.pwr.sleepAt)).foldl max 0)
    (∀ u, s.runs u = true → (s.ucom.get u).slp.since = some 1 → (s.ucom.get u).admitted ≠ [] →
      (∀ l ∈ (s.ucom.get u).admitted, (s.ucom.get u).slp.heard.testBit l.idx = true) →
      ∃ t, exec (.sleep u) s = .next t ∧ t = { s with ucom := t.ucom, lanes := t.lanes } ∧
        t.ucom = s.ucom.set u { s.ucom.get u with slp := { (s.ucom.get u).slp with ack := true } } ∧
        ∀ l, t.lanes.get l = if ((s.ucom.get u).links.get l).up = true then
          { s.lanes.get l with aon := { (s.lanes.get l).aon with pwr := { (s.lanes.get l).aon.pwr with
            acks := setBit (s.lanes.get l).aon.pwr.acks u.idx } } } else s.lanes.get l) ∧
    (∀ l, (s.lanes.get l).aon.pwr.sleepAt = some 2 →
      ((∀ u, ((s.ucom.get u).links.get l).up = true → (s.lanes.get l).aon.pwr.acks.testBit u.idx = true) →
        ∃ t, exec (.sleepAck l) s = .next t ∧ (t.lanes.get l).aon = { (s.lanes.get l).aon with pwr := { (s.lanes.get l).aon.pwr with phy := .off } } ∧
          t.ucom = s.ucom ∧ (t.lanes.get l).state = (s.lanes.get l).state) ∧
      ((∃ u, ((s.ucom.get u).links.get l).up = true ∧ (s.lanes.get l).aon.pwr.acks.testBit u.idx = false) →
        ∃ t, exec (.sleepAck l) s = .next t ∧ sleepCancelled s t)) ∧
    (∀ l, ((s.lanes.get l).aon.pwr.sleepAt.isSome = true → ∃ t, exec (.cancel l) s = .next t ∧ sleepCancelled s t) ∧
      ((s.lanes.get l).aon.pwr.sleepAt = none → exec (.cancel l) s = .next s)) ∧
    (∀ l, (s.lanes.get l).aon.pwr.sleepAt.isSome = true → (s.lanes.get l).sleepCause ≠ 0 →
      ∃ t, exec (.sleepRefusal (.lane l)) s = .next t ∧ sleepRefused l.code (s.lanes.get l).sleepCause step s t) ∧
    (∀ u, (s.ucom.get u).slp.since.isSome = true → s.unitCause u ≠ 0 →
      ∃ t, exec (.sleepRefusal (.unit u)) s = .next t ∧ sleepRefused u.code (s.unitCause u) ((s.ucom.get u).slp.since.getD 0) s t) ∧
    (s.polvin.dom = .on → s.polvin.busy = true → (∀ l, (s.lanes.get l).dom ≠ .on) →
      ∃ t, exec (.sleepRefusal .polvin) s = .next t ∧ sleepRefused 14 6 5 s t))

/-- Waking (R68, R386, R393, R397, R398): a wake brings a lane in RETENTION and all that slept back, latched with its source; during entry it waits and is
replayed after it, when no member is still entering; a lane that is awake only latches it. The ends of a unit's links are reset as it stops, and an island that runs again takes the state of its causes
(R35, R67). A request brings one domain to the state it names, and waits in the slot of a domain
that is changing, the newest only; a sleep request acts while the conditions of R394 hold; a lane that dropped out is started by its supply alone (R390,
R400). A wake request starts a domain in RETENTION, to a lane it is a wake by LINK, it waits where entry runs, and is not heard by one that is OFF, as a
plane that does not run. What becomes of a waiting request is the model's reading (log entry 73), as is that plane A's domain is brought ON in SERVICE
without computing (log entry 128). -/
def Obligations.WakingAndRequests : Prop :=
  ∀ s : State,
    (∀ l src, (s.lanes.get l).aon.on = true → (s.lanes.get l).mayWake l src = true →
      (let n := s.lanes.get l
       let put := fun (p : PwrRegs) => s.setLane l { n with aon := { n.aon with pwr := p } }
       (n.dom = .retention → n.aon.pwr.slept = true → n.aon.pwr.sleepAt = none → s.entering = false → ∃ t, exec (.wake l src) s = .next t ∧ allAwake l s t ∧
         (t.lanes.get l).aon.pwr.src = setBit n.aon.pwr.src (wakeBit src)) ∧
       (n.aon.pwr.slept = true ∧ s.entering = true ∨ n.aon.pwr.sleepAt.isSome = true → exec (.wake l src) s = .next (put { n.aon.pwr with
         replay := setBit n.aon.pwr.replay (wakeBit src), slot := some .on })) ∧
       (n.aon.pwr.slept = false → n.aon.pwr.sleepAt = none → exec (.wake l src) s = .next (put { n.aon.pwr with
         src := setBit n.aon.pwr.src (wakeBit src), srcNow := setBit n.aon.pwr.srcNow (wakeBit src) })))) ∧
    (∀ l, (s.lanes.get l).aon.pwr.slept = false ∨ (s.lanes.get l).aon.pwr.slot ≠ some .on ∨ s.entering = true →
      exec (.wakeReplay l) s = .next s) ∧
    (∀ l, (s.lanes.get l).dom = .retention → (s.lanes.get l).aon.pwr.slept = true → (s.lanes.get l).aon.pwr.slot = some .on → s.entering = false →
      ∃ t, exec (.wakeReplay l) s = .next t ∧ allAwake l s t ∧ (t.lanes.get l).aon.pwr.slot = none ∧ (t.lanes.get l).aon.pwr.replay = 0 ∧
        (t.lanes.get l).aon.pwr.replayed = true ∧ ∀ i, (s.lanes.get l).aon.pwr.replay.testBit i = true → (t.lanes.get l).aon.pwr.src.testBit i = true) ∧
    (∀ l target, (s.lanes.get l).changing = true → exec (.domainRequest (.laneMain l) target) s = .next (s.setLane l { s.lanes.get l with
      aon := { (s.lanes.get l).aon with pwr := { (s.lanes.get l).aon.pwr with
        slot := some target, replay := if target = .on then (s.lanes.get l).aon.pwr.replay else 0 } } })) ∧
    (∀ l, (s.lanes.get l).changing = false →
      ((s.lanes.get l).dom = .retention → (s.lanes.get l).aon.on = true → (s.lanes.get l).aon.pwr.slept = true →
        ∃ t, exec (.domainRequest (.laneMain l) .on) s = .next t ∧ (t.lanes.get l).dom = .on ∧ (t.lanes.get l).state = .boot) ∧
      ((s.lanes.get l).aon.pwr.slept = false → exec (.domainRequest (.laneMain l) .on) s = .next s) ∧
      ((s.lanes.get l).maySleep = false → exec (.domainRequest (.laneMain l) .retention) s = .next s) ∧
      ((s.lanes.get l).awake = true → (s.lanes.get l).maySleep = true → ∃ t, exec (.domainRequest (.laneMain l) .retention) s = .next t ∧
        (t.lanes.get l).dom = .retention ∧ (t.lanes.get l).state = .off ∧ (t.lanes.get l).main.canvas = (s.lanes.get l).main.canvas) ∧
      ((s.lanes.get l).dom ≠ .off → ∃ t, exec (.domainRequest (.laneMain l) .off) s = .next t ∧ laneDownIn l .off .off s t)) ∧
    (∀ u, (s.ucom.get u).slp.since.isSome = true ∨ (s.ucom.get u).slp.returning = true → ∀ target,
      exec (.domainRequest (.unit u) target) s = .next (s.setUnit u { s.ucom.get u with slp := { (s.ucom.get u).slp with slot := some target } })) ∧
    (∀ u, ((s.ucom.get u).slp.since = none → (s.ucom.get u).slp.returning = false →
        ((s.ucom.get u).dom = .retention → exec (.domainRequest (.unit u) .on) s =
          .next (unitSettled u (s.setUnit u { s.ucom.get u with dom := .on, slp := {} }))) ∧
        ((s.ucom.get u).dom = .on → ∃ t, exec (.domainRequest (.unit u) .retention) s = .next t ∧
          t.ucom.get u = { s.ucom.get u with dom := .retention, slp := {}, links := (t.ucom.get u).links } ∧ ∀ l,
            (t.ucom.get u).links.get l = resetLink ((s.ucom.get u).links.get l) ∧
            t.lanes.get l = { s.lanes.get l with main := (t.lanes.get l).main } ∧ linkEnds (· = u) (s.lanes.get l).main (t.lanes.get l).main) ∧
        (∃ t, exec (.domainRequest (.unit u) .off) s = .next t ∧ t.ucom.get u = { dom := .off } ∧ ∀ l,
            t.lanes.get l = { s.lanes.get l with main := (t.lanes.get l).main } ∧ linkEnds (· = u) (s.lanes.get l).main (t.lanes.get l).main)) ∧
      ((s.ucom.get u).dom = .retention → ∃ t, exec (.wakeRequest (.unit u)) s = .next t ∧ slotActed (s.ucom.get u).slp.slot t u ∧
        ((s.ucom.get u).slp.slot = none → t = unitSettled u (s.setUnit u { s.ucom.get u with dom := .on, slp := {} }))) ∧
      ((s.ucom.get u).dom ≠ .retention → (s.ucom.get u).slp.since = none → exec (.wakeRequest (.unit u)) s = .next s) ∧
      ((s.ucom.get u).dom ≠ .retention → (s.ucom.get u).slp.since.isSome = true → exec (.wakeRequest (.unit u)) s =
        .next (s.setUnit u { s.ucom.get u with slp := { (s.ucom.get u).slp with slot := some .on } }))) ∧
    (∀ l target, (s.lanes.get l).aon.pwr.sleepAt.isSome = true ∨ (s.lanes.get l).aon.pwr.cancelling = true →
      exec (.domainRequest (.plane l) target) s = .next (s.setLane l { s.lanes.get l with
        aon := { (s.lanes.get l).aon with pwr := { (s.lanes.get l).aon.pwr with pslot := some target } } })) ∧
    (∀ l, (s.lanes.get l).aon.pwr.sleepAt = none → (s.lanes.get l).aon.pwr.cancelling = false →
      ((s.lanes.get l).computing = true ∨ l = .a ∧ (s.lanes.get l).inService = true → exec (.domainRequest (.plane l) .on) s = .next (s.setLane l { s.lanes.get l with
        aon := { (s.lanes.get l).aon with pwr := { (s.lanes.get l).aon.pwr with phy := .on } } })) ∧
      ((s.lanes.get l).computing = false → l ≠ .a ∨ (s.lanes.get l).inService = false → exec (.domainRequest (.plane l) .on) s = .next s) ∧
      exec (.domainRequest (.plane l) .retention) s = .next s ∧
      (∃ t, exec (.domainRequest (.plane l) .off) s = .next t ∧ (t.lanes.get l).aon.pwr.phy = .off ∧ t.ucom = s.ucom)) ∧
    (∀ l, exec (.wakeRequest (.plane l)) s = .next s ∧
      ((s.lanes.get l).dom ≠ .off → exec (.wakeRequest (.laneMain l)) s = exec (.wake l .link) s) ∧
      ((s.lanes.get l).dom = .off → exec (.wakeRequest (.laneMain l)) s = .next s)) ∧
    exec (.wakeRequest .polvin) s = .next { s with polvin := { s.polvin with
      entry := none, dom := if s.polvin.dom = .retention then .on else s.polvin.dom } } ∧
    (∀ target, s.polvin.entry.isSome = true → exec (.domainRequest .polvin target) s = .next { s with polvin := { s.polvin with slot := some target } }) ∧
    (s.polvin.entry = none →
    (s.polvin.dom = .retention → exec (.domainRequest .polvin .on) s = .next { s with polvin := { s.polvin with dom := .on } }) ∧
    (s.polvin.dom = .on → s.polvin.busy = false → exec (.domainRequest .polvin .retention) s = .next { s with polvin := { s.polvin with dom := .retention } }) ∧
    exec (.domainRequest .polvin .off) s = .next { s with polvin := { s.polvin with dom := .off } })

/-- Each ring counts its pending requests up to 15; one that arrives with the count at 15 is dropped, counted in OVRQN and raised as DMA_OVRQ; a request
raised while the ring is IDLE, HALTED or in ERROR is not counted (R292; that a ring in FETCH counts the line of its last descriptor is the model's reading:
log entry 60). Requests reach a ring by the line its descriptor names. An executive task ends on lines 32-63,
and a FIFO's line stands while the FIFO does; any other line is raised by what it stands for, and by no request (R291; that the request
of any other line does nothing is the model's: log entry 2, and that a transmit FIFO always has room: log entry 125). -/
def Obligations.RingsCountRequests : Prop :=
  ∀ (s : State) (l : LaneId) (line : Nat), l ≠ .c → (s.lanes.get l).awake = true → (s.lanes.get l).main.dma.rings.length = 32 →
    (32 ≤ line ∧ line < 64 ∨ (s.lanes.get l).main.dma.fifoLine line = true →
      ∃ t, exec (.requestLine l line) s = .next t ∧ lineRaised l line s t) ∧
    (line < 32 ∨ 64 ≤ line → (s.lanes.get l).main.dma.fifoLine line = false → exec (.requestLine l line) s = .next s)

/-- The region of a scheduled cell (R131): region j covers B(j) to B(j+1), the ends being without bound; the cell keeps its region while SCHED lies from
B(j) - HYST up to, but not including, B(j+1) + HYST, else it moves to the region that contains SCHED; lanes A and B
round B(j) - HYST and B(j+1) + HYST once to binary32, lane C takes them exactly (R116, R118; the model's reading: log entry 14). `b` names the boundaries of a cell whose NREG is
above 1, and they rise. -/
def Obligations.RegionsWithHysteresis : Prop :=
  ∀ (a : Run) (d : CellDef) (v : Rat), 1 < pcount (d.p 7) → (∀ i k, 1 ≤ i → i < k → k < pcount (d.p 7) → pidBound a.q d i < pidBound a.q d k) →
    (let nreg := pcount (d.p 7)
     let hyst := pval a.q (d.p 8)
     let rounded := fun (x : Rat) => if a.q then x else (rnd a.base x false).v
     let covers := fun (j : Nat) => j < nreg ∧ (j = 0 ∨ pidBound a.q d j ≤ v) ∧ (j + 1 = nreg ∨ v < pidBound a.q d (j + 1))
     let stays := fun (j : Nat) => (j = 0 ∨ rounded (pidBound a.q d j - hyst) ≤ v) ∧ (j + 1 = nreg ∨ v < rounded (pidBound a.q d (j + 1) + hyst))
     covers (pidRegion a.q d v) ∧ (∀ j, covers j → j = pidRegion a.q d v) ∧
       ∀ j, j < nreg → (stays j → pidStay a d j v = j) ∧ (¬ stays j → covers (pidStay a d j v)))

/-- The MAC address of the node with ID n on plane p and the group address of the plane; what a lane sends carries its own address of its plane as the
source, and it takes no frame addressed to anything but its own address on the plane of arrival or the group address of that plane: such a frame is
counted BAD and nothing else (R249; the count is that of step 2 of R254). On the service port it goes by its address of plane A. -/
def Obligations.NodeAddresses : Prop :=
  (∀ p n : Nat, macOf p n = 0x020056420000 + p * 0x1000 + n ∧ groupMac p = 0x030056420000 + p * 0x1000 + 0xFFF) ∧
  (∀ (s t : State) (l : LaneId) (slot : Nat) (depart : Int) (k fl : Nat) (b : Bytes), (s.lanes.get l).transmits = true →
    (∃ e ∈ (s.lanes.get l).main.canvas.slots, e.tx = true ∧ e.plane = l.idx ∧ e.slot = slot) → (s.lanes.get l).main.canvas.net.self < 4096 → exec (.slotTransmit l slot depart) s = .next t →
    (t.lanes.get l).main.net.sent = some (k, fl, b) →
    beNat (slice b 6 6) = macOf l.idx (s.lanes.get l).main.canvas.net.self) ∧
  (∀ (s : State) (l : LaneId) (f : RxFrame), f.medium ≠ 9 → s.receives l f = true →
    frDest f.bytes ≠ macOf f.plane.idx (s.lanes.get l).main.canvas.net.self → frDest f.bytes ≠ groupMac f.plane.idx →
    exec (.frameReceive l f) s = .next (s.setLane l { s.lanes.get l with main := { (s.lanes.get l).main with
      net := { (s.lanes.get l).main.net with bad := satAdd 16 (s.lanes.get l).main.net.bad 1 } } })) ∧
  (∀ (s : State) (l : LaneId) (f : RxFrame), f.medium = 9 → (s.lanes.get l).awake = true → s.portLive = true →
    frDest f.bytes ≠ macOf 0 (s.lanes.get l).main.canvas.net.self → frDest f.bytes ≠ groupMac 0 →
    exec (.frameReceive l f) s = .next (s.setLane l { s.lanes.get l with main := { (s.lanes.get l).main with
      net := { (s.lanes.get l).main.net with bad := satAdd 16 (s.lanes.get l).main.net.bad 1 } } }))
end

