-- ==== Sys2Proof/Laws/State.lean ====
section
/-!
SUPPORT. What each update of the state leaves where: one lemma per field and update, true by `rfl`.
-/
namespace Sys2Proof
open Sys2Proof.Machine

section Containers
variable {α : Type}

@[simp] theorem Tri.get_set_same (t : Tri α) (l : LaneId) (v : α) : (t.set l v).get l = v := by cases l <;> rfl
theorem Tri.get_set_other (t : Tri α) (l k : LaneId) (v : α) (h : k ≠ l) : (t.set l v).get k = t.get k := by
  cases l <;> cases k <;> first | rfl | exact absurd rfl h
@[simp] theorem Tri.get_all (v : α) (l : LaneId) : (Tri.all v).get l = v := by cases l <;> rfl
@[simp] theorem Tri.get_map {β : Type} (t : Tri α) (f : α → β) (l : LaneId) : (t.map f).get l = f (t.get l) := by cases l <;> rfl

@[simp] theorem Six.get_set_same (t : Six α) (i : IslandId) (v : α) : (t.set i v).get i = v := by cases i <;> rfl
theorem Six.get_set_other (t : Six α) (i k : IslandId) (v : α) (h : k ≠ i) : (t.set i v).get k = t.get k := by
  cases i <;> cases k <;> first | rfl | exact absurd rfl h
@[simp] theorem Six.get_all (v : α) (i : IslandId) : (Six.all v).get i = v := by cases i <;> rfl

@[simp] theorem Two.getF_setF_same (t : Two α) (f : FbId) (v : α) : (t.setF f v).getF f = v := by cases f <;> rfl
@[simp] theorem Two.getS_setS_same (t : Two α) (x : SioId) (v : α) : (t.setS x v).getS x = v := by cases x <;> rfl
@[simp] theorem Two.getF_all (v : α) (f : FbId) : (Two.all v).getF f = v := by cases f <;> rfl
@[simp] theorem Two.getS_all (v : α) (x : SioId) : (Two.all v).getS x = v := by cases x <;> rfl

@[simp] theorem Ten.get_set_same (t : Ten α) (u : UnitId) (v : α) : (t.set u v).get u = v := by
  cases u with
  | isl i => cases i <;> rfl
  | fb f => cases f <;> rfl
  | sio x => cases x <;> rfl
theorem Ten.get_set_other (t : Ten α) (u k : UnitId) (v : α) (h : k ≠ u) : (t.set u v).get k = t.get k := by
  cases u <;> rename_i a <;> cases a <;> cases k <;> rename_i b <;> cases b <;> first | rfl | exact absurd rfl h
@[simp] theorem Ten.get_all (v : α) (u : UnitId) : (Ten.all v).get u = v := by
  cases u <;> rename_i a <;> cases a <;> rfl

@[simp] theorem Tri.set_get_self (t : Tri α) (l : LaneId) : t.set l (t.get l) = t := by cases l <;> rfl
@[simp] theorem Tri.set_set_same (t : Tri α) (l : LaneId) (v w : α) : (t.set l v).set l w = t.set l w := by cases l <;> rfl
@[simp] theorem Six.set_get_self (t : Six α) (i : IslandId) : t.set i (t.get i) = t := by cases i <;> rfl
@[simp] theorem Six.set_set_same (t : Six α) (i : IslandId) (v w : α) : (t.set i v).set i w = t.set i w := by cases i <;> rfl
@[simp] theorem Two.setF_getF_self (t : Two α) (f : FbId) : t.setF f (t.getF f) = t := by cases f <;> rfl
@[simp] theorem Two.setS_getS_self (t : Two α) (x : SioId) : t.setS x (t.getS x) = t := by cases x <;> rfl
@[simp] theorem Ten.set_get_self (t : Ten α) (u : UnitId) : t.set u (t.get u) = t := by
  cases u <;> rename_i a <;> cases a <;> rfl
@[simp] theorem Ten.set_set_same (t : Ten α) (u : UnitId) (v w : α) : (t.set u v).set u w = t.set u w := by
  cases u <;> rename_i a <;> cases a <;> rfl

end Containers

namespace Machine
variable (s : State)

@[simp] theorem State.setLane_pending (l : LaneId) (n : Lane) : (s.setLane l n).pending = s.pending := rfl
@[simp] theorem State.setLane_free (l : LaneId) (n : Lane) : (s.setLane l n).free = s.free := rfl
@[simp] theorem State.setLane_lanes (l : LaneId) (n : Lane) : (s.setLane l n).lanes = s.lanes.set l n := rfl
@[simp] theorem State.setLane_ucom (l : LaneId) (n : Lane) : (s.setLane l n).ucom = s.ucom := rfl
@[simp] theorem State.setLane_isl (l : LaneId) (n : Lane) : (s.setLane l n).isl = s.isl := rfl
@[simp] theorem State.setLane_fbk (l : LaneId) (n : Lane) : (s.setLane l n).fbk = s.fbk := rfl
@[simp] theorem State.setLane_sio (l : LaneId) (n : Lane) : (s.setLane l n).sio = s.sio := rfl
@[simp] theorem State.setLane_polvin (l : LaneId) (n : Lane) : (s.setLane l n).polvin = s.polvin := rfl
@[simp] theorem State.setLane_port (l : LaneId) (n : Lane) : (s.setLane l n).port = s.port := rfl
@[simp] theorem State.setLane_snaps (l : LaneId) (n : Lane) : (s.setLane l n).snaps = s.snaps := rfl

@[simp] theorem State.setLane_self (l : LaneId) : s.setLane l (s.lanes.get l) = s := by simp [State.setLane]
@[simp] theorem State.setLane_setLane (l : LaneId) (n m : Lane) : (s.setLane l n).setLane l m = s.setLane l m := by simp [State.setLane]
@[simp] theorem State.setUnit_self (u : UnitId) : s.setUnit u (s.ucom.get u) = s := by simp [State.setUnit]
@[simp] theorem State.setUnit_setUnit (u : UnitId) (c d : UnitCommon) : (s.setUnit u c).setUnit u d = s.setUnit u d := by simp [State.setUnit]
@[simp] theorem State.setUnit_pending (u : UnitId) (c : UnitCommon) : (s.setUnit u c).pending = s.pending := rfl
@[simp] theorem State.setUnit_free (u : UnitId) (c : UnitCommon) : (s.setUnit u c).free = s.free := rfl
@[simp] theorem State.setUnit_lanes (u : UnitId) (c : UnitCommon) : (s.setUnit u c).lanes = s.lanes := rfl
@[simp] theorem State.setUnit_ucom (u : UnitId) (c : UnitCommon) : (s.setUnit u c).ucom = s.ucom.set u c := rfl
@[simp] theorem State.setUnit_isl (u : UnitId) (c : UnitCommon) : (s.setUnit u c).isl = s.isl := rfl
@[simp] theorem State.setUnit_fbk (u : UnitId) (c : UnitCommon) : (s.setUnit u c).fbk = s.fbk := rfl
@[simp] theorem State.setUnit_sio (u : UnitId) (c : UnitCommon) : (s.setUnit u c).sio = s.sio := rfl
@[simp] theorem State.setUnit_polvin (u : UnitId) (c : UnitCommon) : (s.setUnit u c).polvin = s.polvin := rfl
@[simp] theorem State.setUnit_port (u : UnitId) (c : UnitCommon) : (s.setUnit u c).port = s.port := rfl
@[simp] theorem State.setUnit_snaps (u : UnitId) (c : UnitCommon) : (s.setUnit u c).snaps = s.snaps := rfl

@[simp] theorem State.putIsl_pending (i : IslandId) (p : IslPair) : (s.putIsl i p).pending = s.pending := rfl
@[simp] theorem State.putIsl_free (i : IslandId) (p : IslPair) : (s.putIsl i p).free = s.free := rfl
@[simp] theorem State.putIsl_lanes (i : IslandId) (p : IslPair) : (s.putIsl i p).lanes = s.lanes := rfl
@[simp] theorem State.putIsl_ucom (i : IslandId) (p : IslPair) : (s.putIsl i p).ucom = s.ucom.set (.isl i) p.1 := rfl
@[simp] theorem State.putIsl_isl (i : IslandId) (p : IslPair) : (s.putIsl i p).isl = s.isl.set i p.2 := rfl
@[simp] theorem State.putIsl_fbk (i : IslandId) (p : IslPair) : (s.putIsl i p).fbk = s.fbk := rfl
@[simp] theorem State.putIsl_sio (i : IslandId) (p : IslPair) : (s.putIsl i p).sio = s.sio := rfl
@[simp] theorem State.putIsl_polvin (i : IslandId) (p : IslPair) : (s.putIsl i p).polvin = s.polvin := rfl
@[simp] theorem State.putIsl_port (i : IslandId) (p : IslPair) : (s.putIsl i p).port = s.port := rfl
@[simp] theorem State.putIsl_snaps (i : IslandId) (p : IslPair) : (s.putIsl i p).snaps = s.snaps := rfl

@[simp] theorem State.putFb_pending (f : FbId) (p : UnitCommon × Feedback) : (s.putFb f p).pending = s.pending := rfl
@[simp] theorem State.putFb_free (f : FbId) (p : UnitCommon × Feedback) : (s.putFb f p).free = s.free := rfl
@[simp] theorem State.putFb_lanes (f : FbId) (p : UnitCommon × Feedback) : (s.putFb f p).lanes = s.lanes := rfl
@[simp] theorem State.putFb_ucom (f : FbId) (p : UnitCommon × Feedback) : (s.putFb f p).ucom = s.ucom.set (.fb f) p.1 := rfl
@[simp] theorem State.putFb_isl (f : FbId) (p : UnitCommon × Feedback) : (s.putFb f p).isl = s.isl := rfl
@[simp] theorem State.putFb_fbk (f : FbId) (p : UnitCommon × Feedback) : (s.putFb f p).fbk = s.fbk.setF f p.2 := rfl
@[simp] theorem State.putFb_sio (f : FbId) (p : UnitCommon × Feedback) : (s.putFb f p).sio = s.sio := rfl
@[simp] theorem State.putFb_polvin (f : FbId) (p : UnitCommon × Feedback) : (s.putFb f p).polvin = s.polvin := rfl
@[simp] theorem State.putFb_port (f : FbId) (p : UnitCommon × Feedback) : (s.putFb f p).port = s.port := rfl
@[simp] theorem State.putFb_snaps (f : FbId) (p : UnitCommon × Feedback) : (s.putFb f p).snaps = s.snaps := rfl

@[simp] theorem State.putSio_pending (x : SioId) (p : UnitCommon × SafetyIO) : (s.putSio x p).pending = s.pending := rfl
@[simp] theorem State.putSio_free (x : SioId) (p : UnitCommon × SafetyIO) : (s.putSio x p).free = s.free := rfl
@[simp] theorem State.putSio_lanes (x : SioId) (p : UnitCommon × SafetyIO) : (s.putSio x p).lanes = s.lanes := rfl
@[simp] theorem State.putSio_ucom (x : SioId) (p : UnitCommon × SafetyIO) : (s.putSio x p).ucom = s.ucom.set (.sio x) p.1 := rfl
@[simp] theorem State.putSio_isl (x : SioId) (p : UnitCommon × SafetyIO) : (s.putSio x p).isl = s.isl := rfl
@[simp] theorem State.putSio_fbk (x : SioId) (p : UnitCommon × SafetyIO) : (s.putSio x p).fbk = s.fbk := rfl
@[simp] theorem State.putSio_sio (x : SioId) (p : UnitCommon × SafetyIO) : (s.putSio x p).sio = s.sio.setS x p.2 := rfl
@[simp] theorem State.putSio_polvin (x : SioId) (p : UnitCommon × SafetyIO) : (s.putSio x p).polvin = s.polvin := rfl
@[simp] theorem State.putSio_port (x : SioId) (p : UnitCommon × SafetyIO) : (s.putSio x p).port = s.port := rfl
@[simp] theorem State.putSio_snaps (x : SioId) (p : UnitCommon × SafetyIO) : (s.putSio x p).snaps = s.snaps := rfl

@[simp] theorem State.polvinEvent_pending (n : Nat) (b : Bool) : (s.polvinEvent n b).pending = s.pending := rfl
@[simp] theorem State.polvinEvent_free (n : Nat) (b : Bool) : (s.polvinEvent n b).free = s.free := rfl
@[simp] theorem State.polvinEvent_lanes (n : Nat) (b : Bool) : (s.polvinEvent n b).lanes = s.lanes := rfl
@[simp] theorem State.polvinEvent_ucom (n : Nat) (b : Bool) : (s.polvinEvent n b).ucom = s.ucom := rfl
@[simp] theorem State.polvinEvent_isl (n : Nat) (b : Bool) : (s.polvinEvent n b).isl = s.isl := rfl
@[simp] theorem State.polvinEvent_fbk (n : Nat) (b : Bool) : (s.polvinEvent n b).fbk = s.fbk := rfl
@[simp] theorem State.polvinEvent_sio (n : Nat) (b : Bool) : (s.polvinEvent n b).sio = s.sio := rfl
@[simp] theorem State.polvinEvent_port (n : Nat) (b : Bool) : (s.polvinEvent n b).port = s.port := rfl
@[simp] theorem State.polvinEvent_snaps (n : Nat) (b : Bool) : (s.polvinEvent n b).snaps = s.snaps := rfl

@[simp] theorem State.laneEvent_pending (l : LaneId) (n : Nat) : (s.laneEvent l n).pending = s.pending := rfl
@[simp] theorem State.laneEvent_free (l : LaneId) (n : Nat) : (s.laneEvent l n).free = s.free := rfl
@[simp] theorem State.laneEvent_lanes (l : LaneId) (n : Nat) : (s.laneEvent l n).lanes = s.lanes.set l ((s.lanes.get l).event l n) := rfl
@[simp] theorem State.laneEvent_ucom (l : LaneId) (n : Nat) : (s.laneEvent l n).ucom = s.ucom := rfl
@[simp] theorem State.laneEvent_isl (l : LaneId) (n : Nat) : (s.laneEvent l n).isl = s.isl := rfl
@[simp] theorem State.laneEvent_fbk (l : LaneId) (n : Nat) : (s.laneEvent l n).fbk = s.fbk := rfl
@[simp] theorem State.laneEvent_sio (l : LaneId) (n : Nat) : (s.laneEvent l n).sio = s.sio := rfl
@[simp] theorem State.laneEvent_polvin (l : LaneId) (n : Nat) : (s.laneEvent l n).polvin = s.polvin := rfl
@[simp] theorem State.laneEvent_port (l : LaneId) (n : Nat) : (s.laneEvent l n).port = s.port := rfl
@[simp] theorem State.laneEvent_snaps (l : LaneId) (n : Nat) : (s.laneEvent l n).snaps = s.snaps := rfl

@[simp] theorem State.draw_pending : s.draw.2.pending = s.pending := rfl
@[simp] theorem State.draw_lanes : s.draw.2.lanes = s.lanes := rfl
@[simp] theorem State.draw_ucom : s.draw.2.ucom = s.ucom := rfl
@[simp] theorem State.draw_isl : s.draw.2.isl = s.isl := rfl
@[simp] theorem State.draw_fbk : s.draw.2.fbk = s.fbk := rfl
@[simp] theorem State.draw_sio : s.draw.2.sio = s.sio := rfl
@[simp] theorem State.draw_polvin : s.draw.2.polvin = s.polvin := rfl
@[simp] theorem State.draw_port : s.draw.2.port = s.port := rfl
@[simp] theorem State.draw_snaps : s.draw.2.snaps = s.snaps := rfl
@[simp] theorem State.draw_free : s.draw.2.free = s.free + 1 := rfl

variable (n : Lane)

@[simp] theorem Lane.onMain_state (f : LaneMain → LaneMain) : (n.onMain f).state = n.state := rfl
@[simp] theorem Lane.onMain_dom (f : LaneMain → LaneMain) : (n.onMain f).dom = n.dom := rfl
@[simp] theorem Lane.onMain_loader (f : LaneMain → LaneMain) : (n.onMain f).loader = n.loader := rfl
@[simp] theorem Lane.onMain_aon (f : LaneMain → LaneMain) : (n.onMain f).aon = n.aon := rfl
@[simp] theorem Lane.onMain_main (f : LaneMain → LaneMain) : (n.onMain f).main = f n.main := rfl

@[simp] theorem Lane.onLoader_state (f : Loader → Loader) : (n.onLoader f).state = n.state := rfl
@[simp] theorem Lane.onLoader_dom (f : Loader → Loader) : (n.onLoader f).dom = n.dom := rfl
@[simp] theorem Lane.onLoader_loader (f : Loader → Loader) : (n.onLoader f).loader = f n.loader := rfl
@[simp] theorem Lane.onLoader_aon (f : Loader → Loader) : (n.onLoader f).aon = n.aon := rfl
@[simp] theorem Lane.onLoader_main (f : Loader → Loader) : (n.onLoader f).main = n.main := rfl

@[simp] theorem Lane.onAon_state (f : Aon → Aon) : (n.onAon f).state = n.state := rfl
@[simp] theorem Lane.onAon_dom (f : Aon → Aon) : (n.onAon f).dom = n.dom := rfl
@[simp] theorem Lane.onAon_loader (f : Aon → Aon) : (n.onAon f).loader = n.loader := rfl
@[simp] theorem Lane.onAon_aon (f : Aon → Aon) : (n.onAon f).aon = f n.aon := rfl
@[simp] theorem Lane.onAon_main (f : Aon → Aon) : (n.onAon f).main = n.main := rfl

@[simp] theorem Lane.onNet_state (f : Net → Net) : (n.onNet f).state = n.state := rfl
@[simp] theorem Lane.onNet_dom (f : Net → Net) : (n.onNet f).dom = n.dom := rfl
@[simp] theorem Lane.onNet_loader (f : Net → Net) : (n.onNet f).loader = n.loader := rfl
@[simp] theorem Lane.onNet_aon (f : Net → Net) : (n.onNet f).aon = n.aon := rfl
@[simp] theorem Lane.onNet_main (f : Net → Net) : (n.onNet f).main = { n.main with net := f n.main.net } := rfl

@[simp] theorem Lane.onDma_state (f : Mover → Mover) : (n.onDma f).state = n.state := rfl
@[simp] theorem Lane.onDma_dom (f : Mover → Mover) : (n.onDma f).dom = n.dom := rfl
@[simp] theorem Lane.onDma_loader (f : Mover → Mover) : (n.onDma f).loader = n.loader := rfl
@[simp] theorem Lane.onDma_aon (f : Mover → Mover) : (n.onDma f).aon = n.aon := rfl
@[simp] theorem Lane.onDma_main (f : Mover → Mover) : (n.onDma f).main = { n.main with dma := f n.main.dma } := rfl

@[simp] theorem Lane.onCan_state (f : CanPort → CanPort) : (n.onCan f).state = n.state := rfl
@[simp] theorem Lane.onCan_dom (f : CanPort → CanPort) : (n.onCan f).dom = n.dom := rfl
@[simp] theorem Lane.onCan_loader (f : CanPort → CanPort) : (n.onCan f).loader = n.loader := rfl
@[simp] theorem Lane.onCan_aon (f : CanPort → CanPort) : (n.onCan f).aon = n.aon := rfl
@[simp] theorem Lane.onCan_main (f : CanPort → CanPort) : (n.onCan f).main = { n.main with can := f n.main.can } := rfl

@[simp] theorem Lane.onOffice_state (f : Office → Office) : (n.onOffice f).state = n.state := rfl
@[simp] theorem Lane.onOffice_dom (f : Office → Office) : (n.onOffice f).dom = n.dom := rfl
@[simp] theorem Lane.onOffice_loader (f : Office → Office) : (n.onOffice f).loader = n.loader := rfl
@[simp] theorem Lane.onOffice_aon (f : Office → Office) : (n.onOffice f).aon = n.aon := rfl
@[simp] theorem Lane.onOffice_main (f : Office → Office) : (n.onOffice f).main = { n.main with office := f n.main.office } := rfl

@[simp] theorem Lane.onMode_state (f : ModeState → ModeState) : (n.onMode f).state = n.state := rfl
@[simp] theorem Lane.onMode_dom (f : ModeState → ModeState) : (n.onMode f).dom = n.dom := rfl
@[simp] theorem Lane.onMode_loader (f : ModeState → ModeState) : (n.onMode f).loader = n.loader := rfl
@[simp] theorem Lane.onMode_aon (f : ModeState → ModeState) : (n.onMode f).aon = n.aon := rfl
@[simp] theorem Lane.onMode_main (f : ModeState → ModeState) : (n.onMode f).main = { n.main with mode := f n.main.mode } := rfl

@[simp] theorem Lane.onCheck_state (f : CheckState → CheckState) : (n.onCheck f).state = n.state := rfl
@[simp] theorem Lane.onCheck_dom (f : CheckState → CheckState) : (n.onCheck f).dom = n.dom := rfl
@[simp] theorem Lane.onCheck_loader (f : CheckState → CheckState) : (n.onCheck f).loader = n.loader := rfl
@[simp] theorem Lane.onCheck_aon (f : CheckState → CheckState) : (n.onCheck f).aon = n.aon := rfl
@[simp] theorem Lane.onCheck_main (f : CheckState → CheckState) : (n.onCheck f).main = { n.main with check := f n.main.check } := rfl

@[simp] theorem Lane.onUnit_state (u : UnitId) (f : UnitView → UnitView) : (n.onUnit u f).state = n.state := rfl
@[simp] theorem Lane.onUnit_dom (u : UnitId) (f : UnitView → UnitView) : (n.onUnit u f).dom = n.dom := rfl
@[simp] theorem Lane.onUnit_loader (u : UnitId) (f : UnitView → UnitView) : (n.onUnit u f).loader = n.loader := rfl
@[simp] theorem Lane.onUnit_aon (u : UnitId) (f : UnitView → UnitView) : (n.onUnit u f).aon = n.aon := rfl

@[simp] theorem Lane.onPwr_state (f : PwrRegs → PwrRegs) : (n.onPwr f).state = n.state := rfl
@[simp] theorem Lane.onPwr_dom (f : PwrRegs → PwrRegs) : (n.onPwr f).dom = n.dom := rfl
@[simp] theorem Lane.onPwr_loader (f : PwrRegs → PwrRegs) : (n.onPwr f).loader = n.loader := rfl
@[simp] theorem Lane.onPwr_aon (f : PwrRegs → PwrRegs) : (n.onPwr f).aon = { n.aon with pwr := f n.aon.pwr } := rfl
@[simp] theorem Lane.onPwr_main (f : PwrRegs → PwrRegs) : (n.onPwr f).main = n.main := rfl

@[simp] theorem Lane.event_state (l : LaneId) (k : Nat) (b : Bool) : (n.event l k b).state = n.state := rfl
@[simp] theorem Lane.event_dom (l : LaneId) (k : Nat) (b : Bool) : (n.event l k b).dom = n.dom := rfl
@[simp] theorem Lane.event_loader (l : LaneId) (k : Nat) (b : Bool) : (n.event l k b).loader = n.loader := rfl

@[simp] theorem State.takeSnap_pending (u : UnitId) : (s.takeSnap u).pending = s.pending := rfl
@[simp] theorem State.takeSnap_free (u : UnitId) : (s.takeSnap u).free = s.free := rfl
@[simp] theorem State.takeSnap_lanes (u : UnitId) : (s.takeSnap u).lanes = s.lanes := rfl
@[simp] theorem State.takeSnap_ucom (u : UnitId) : (s.takeSnap u).ucom = s.ucom := rfl
@[simp] theorem State.takeSnap_isl (u : UnitId) : (s.takeSnap u).isl = s.isl := rfl
@[simp] theorem State.takeSnap_fbk (u : UnitId) : (s.takeSnap u).fbk = s.fbk := rfl
@[simp] theorem State.takeSnap_sio (u : UnitId) : (s.takeSnap u).sio = s.sio := rfl
@[simp] theorem State.takeSnap_polvin (u : UnitId) : (s.takeSnap u).polvin = s.polvin := rfl
@[simp] theorem State.takeSnap_port (u : UnitId) : (s.takeSnap u).port = s.port := rfl
@[simp] theorem State.takeSnap_snaps (u : UnitId) : (s.takeSnap u).snaps = s.snaps.set u (some (s.snapUnit u)) := rfl

@[simp] theorem State.islPair_fst (i : IslandId) : (s.islPair i).1 = s.ucom.get (.isl i) := rfl
@[simp] theorem State.islPair_snd (i : IslandId) : (s.islPair i).2 = s.isl.get i := rfl
@[simp] theorem State.islPair_putIsl (i : IslandId) (p : IslPair) : (s.putIsl i p).islPair i = p := by
  simp [State.islPair]

end Machine
end Sys2Proof
end

