-- ==== Sys2Proof/Laws/Word.lean ====
section
/-! SUPPORT. What setting and clearing a bit leaves where. -/
namespace Sys2Proof

@[simp] theorem testBit_setBit_same (v i : Nat) : (setBit v i).testBit i = true := by
  simp [setBit, Nat.testBit_or, Nat.testBit_shiftLeft]

theorem testBit_setBit (v i k : Nat) : (setBit v i).testBit k = (v.testBit k || decide (k = i)) := by
  simp only [setBit, Nat.testBit_or, Nat.one_shiftLeft, Nat.testBit_two_pow]
  congr 1; simp [eq_comm]

theorem setBit_ne_zero (v i : Nat) : setBit v i ≠ 0 := fun h => by
  have := testBit_setBit_same v i
  rw [h] at this; simp at this

theorem testBit_clearBit (v i k : Nat) : (clearBit v i).testBit k = (v.testBit k && decide (k ≠ i)) := by
  by_cases h : k = i
  · subst h; simp [clearBit, Nat.testBit_xor, Nat.testBit_or]
  · have : ¬ i = k := fun x => h x.symm
    simp [clearBit, Nat.testBit_xor, Nat.testBit_or, Nat.testBit_two_pow, this, h]

theorem testBit_clearMask (v m k : Nat) : (clearMask v m).testBit k = (v.testBit k && !m.testBit k) := by
  simp only [clearMask, Nat.testBit_xor, Nat.testBit_and]
  cases v.testBit k <;> cases m.testBit k <;> rfl

@[simp] theorem testBit_clearBit_same (v i : Nat) : (clearBit v i).testBit i = false := by simp [testBit_clearBit]

end Sys2Proof
end

