-- ==== Sys2Proof/Laws/Islands.lean ====
section
/-!
SUPPORT. What the shared operations of an island can do: where a command acts, the switch state the causes in force give, and what
raising a cause leaves.
-/
namespace Sys2Proof.Machine
open Sys2Proof

/-- An island that runs has its clock. -/
theorem runs_clock {s : State} {i : IslandId} (h : s.runs (.isl i) = true) : (s.isl.get i).clockLost = false := by
  simp [State.runs] at h; exact h.2

/-- A command on a running island changes that island. -/
theorem onIsland_run {s : State} {i : IslandId} (h : s.runs (.isl i) = true) (f : IslPair → IslPair) :
    s.onIsland i f = s.putIsl i (f (s.islPair i)) := by simp [State.onIsland, State.ifRuns, h]

/-- An island put in place changes nothing else. -/
theorem onlyIsland_putIsl (s : State) (i : IslandId) (p : IslPair) : onlyIsland i s (s.putIsl i p) := by simp [onlyIsland]

/-- An island whose common part stays. -/
theorem putIsl_same (s : State) (i : IslandId) (x : Island) : s.putIsl i (s.ucom.get (.isl i), x) = withIsland s i x := by
  simp [State.putIsl, withIsland]

/-- The causes that give OPEN before OV2 is asked. -/
theorem causeOpens_any (i : Island) : (causeList i).any (causeOpens i) = islandOpensFirst i := by
  rw [Bool.eq_iff_iff]
  simp only [islandOpensFirst, List.any_eq_true, causeList, List.mem_filter, List.mem_range, causeOpens, Bool.or_eq_true,
    decide_eq_true_eq, Bool.and_eq_true]
  constructor
  · rintro ⟨n, ⟨h1, h2, h3⟩, h⟩
    rcases h with (((rfl | rfl) | rfl) | ⟨rfl, hh⟩) | ⟨rfl, hh⟩ <;> simp_all
  · rintro ((((h | h) | h) | ⟨h, h'⟩) | ⟨h, h'⟩)
    exacts [⟨4, by simp [h]⟩, ⟨5, by simp [h]⟩, ⟨0xB, by simp [h]⟩, ⟨9, by simp [h, h']⟩, ⟨0xD, by simp [h, h']⟩]

theorem choiceSw_safe (i : Island) : choiceSw i = 1 ∨ choiceSw i = 2 := by
  unfold choiceSw; split <;> [simp; (split <;> simp)]

/-- Causes in force give OPEN or SHORT. -/
theorem decidedSw_safe (id : IslandId) (i : Island) : decidedSw id i = 1 ∨ decidedSw id i = 2 := by
  unfold decidedSw
  have := choiceSw_safe i
  split
  · simp
  · split
    · cases id.isValve <;> simp
    · split
      · simp
      · exact this

/-- The switch state the causes in force decide (R35, R198): OPEN first, then OV2 while it lasts, then 0xD, then the choice. -/
theorem decidedSw_eq (id : IslandId) (i : Island) : decidedSw id i =
    if islandOpensFirst i then 1 else if islandOv2Lasts i then (if id.isValve then 1 else 2)
    else if i.causes.testBit 0xD then 1 else choiceSw i := by
  unfold decidedSw islandOv2Lasts
  rw [causeOpens_any]

/-- Causes that decide OPEN whatever the canvas chose do so. -/
theorem decidedSw_forced (id : IslandId) {i : Island} (h : islandForcedOpen i = true) : decidedSw id i = 1 := by
  rw [decidedSw_eq]
  simp only [islandForcedOpen, Bool.or_eq_true, Bool.and_eq_true, Bool.not_eq_true'] at h
  split
  · rfl
  · rename_i hn
    have := h.resolve_left hn
    simp [this]

theorem causes_ne_zero {i : Island} {n : Nat} (h : i.causes.testBit n = true) : i.causes ≠ 0 := by
  intro h0; rw [h0] at h; simp at h

/-- An island with a cause in force takes the switch state its causes decide. -/
theorem settleSw_sw (id : IslandId) (i : Island) (hc : i.clockLost = false) (h : i.causes ≠ 0) :
    (settleSw id i).sw = decidedSw id i := by simp [settleSw, hc, h]

/-- What settling gives, in the terms claims use. -/
theorem settleSw_eq (id : IslandId) (i : Island) : settleSw id i = islandSettled id i := by
  unfold settleSw islandSettled
  rw [decidedSw_eq]
  simp only [choiceSw]
  repeat' split
  all_goals simp_all

/-- A unit that runs again takes the state of its causes (R35, R396). -/
theorem unitOn_eq (s : State) (u : UnitId) :
    s.unitOn u = unitSettled u (s.setUnit u { s.ucom.get u with dom := .on, slp := {} }) := by
  cases u <;> simp [State.unitOn, unitSettled, withIsland, UnitCommon.returnOn, settleSw_eq]

/-- Settling changes nothing but SW. -/
theorem settleSw_rest (id : IslandId) (i : Island) : settleSw id i = { i with sw := (settleSw id i).sw } := by
  unfold settleSw; split <;> [rfl; (split <;> rfl)]
@[simp] theorem settleSw_causes (id : IslandId) (i : Island) : (settleSw id i).causes = i.causes := by rw [settleSw_rest]
@[simp] theorem settleSw_live (id : IslandId) (i : Island) : (settleSw id i).live = i.live := by rw [settleSw_rest]
@[simp] theorem settleSw_gdv (id : IslandId) (i : Island) : (settleSw id i).gdv = i.gdv := by rw [settleSw_rest]
@[simp] theorem settleSw_bus (id : IslandId) (i : Island) : (settleSw id i).bus = i.bus := by rw [settleSw_rest]
@[simp] theorem settleSw_cfg (id : IslandId) (i : Island) : (settleSw id i).cfg = i.cfg := by rw [settleSw_rest]
@[simp] theorem settleSw_clockLost (id : IslandId) (i : Island) : (settleSw id i).clockLost = i.clockLost := by rw [settleSw_rest]

/-- An island with one more cause in force, before its switch state is settled: latched too where this is the fourth counted one. -/
def raised (p : IslPair) (n : Nat) : Island :=
  let latch := !p.2.causes.testBit n && countedMask.testBit n && decide (3 ≤ (recentRearms p.1 p.2).length)
  let i := { p.2 with causes := setBit p.2.causes n, live := setBit p.2.live n }
  let i := if latch then { i with causes := setBit i.causes 0xE, live := setBit i.live 0xE } else i
  if i.causes &&& latchedMask = 0 then i else { i with rq := false }

/-- Raising a cause: the island with the cause, its switch state settled. -/
theorem raiseCause_island (id : IslandId) (p : IslPair) (n : Nat) : (raiseCause id p n).2 = settleSw id (raised p n) := by
  have both : ∀ (b : Bool) (x y : IslPair) (z : Island), x.2 = z → y.2 = z → (if b then x else y).2 = z := by
    intro b x y z hx hy; cases b
    · exact hy
    · exact hx
  exact both _ _ _ _ rfl rfl

variable (p : IslPair) (n : Nat)
@[simp] theorem raised_gdv : (raised p n).gdv = p.2.gdv := by unfold raised; simp only []; split <;> split <;> rfl
@[simp] theorem raised_bus : (raised p n).bus = p.2.bus := by unfold raised; simp only []; split <;> split <;> rfl
@[simp] theorem raised_clockLost : (raised p n).clockLost = p.2.clockLost := by unfold raised; simp only []; split <;> split <;> rfl
@[simp] theorem raised_cfg : (raised p n).cfg = p.2.cfg := by unfold raised; simp only []; split <;> split <;> rfl
@[simp] theorem raised_fast : (raised p n).fast = p.2.fast := by unfold raised; simp only []; split <;> split <;> rfl
@[simp] theorem raised_back : (raised p n).back = p.2.back := by unfold raised; simp only []; split <;> split <;> rfl
theorem raised_causes : (raised p n).causes.testBit n = true := by
  unfold raised; simp only []; split <;> split <;> simp [testBit_setBit]
theorem raised_live : (raised p n).live.testBit n = true := by
  unfold raised; simp only []; split <;> split <;> simp [testBit_setBit]
/-- The other causes stay as they were, but for the latch. -/
theorem raised_other (k : Nat) (hk : k ≠ 0xE) : (raised p n).causes.testBit k = (p.2.causes.testBit k || decide (k = n)) := by
  unfold raised; simp only []; split <;> split <;> simp [testBit_setBit, hk]
/-- A cause raised on an island that has its clock: the safe state its causes decide. -/
theorem raiseCause_sw (id : IslandId) (hc : p.2.clockLost = false) : (raiseCause id p n).2.sw = decidedSw id (raised p n) := by
  rw [raiseCause_island, settleSw_sw _ _ (by simpa using hc) (causes_ne_zero (raised_causes p n))]
/-- So it is in its safe state. -/
theorem raiseCause_safe (id : IslandId) (hc : p.2.clockLost = false) : islandSafe (raiseCause id p n).2 := by
  rw [islandSafe, raiseCause_sw p n id hc]; exact decidedSw_safe _ _
/-- A cause that opens whatever the canvas chose gives OPEN. -/
theorem raiseCause_open (id : IslandId) (hc : p.2.clockLost = false) (ho : islandForcedOpen (raised p n) = true) :
    (raiseCause id p n).2.sw = 1 := by
  rw [raiseCause_sw p n id hc, decidedSw_forced id ho]

@[simp] theorem islEvt_snd (id : IslandId) (k : Nat) (b : Bool) : (islEvt id p k b).2 = p.2 := rfl

end Sys2Proof.Machine
end

