-- ==== Sys2Proof/Laws/Memory.lean ====
section
/-!
SUPPORT. Lane bus memory: reading after writing, and the canonical form every write keeps.
-/
namespace Sys2Proof.Machine
open Sys2Proof

/-- A byte reads back as it was written. -/
theorem memGet_memPut_same (m : List Host.Cell) (a : Nat) (b : Byte) (lo : Nat) (h : memAbove lo m = true) :
    memGet (memPut m a b) a = b := by
  induction m generalizing lo with
  | nil => by_cases hb : b = 0#8 <;> simp [memPut, memGet, hb]
  | cons e r ih =>
    obtain ⟨k, v⟩ := e
    simp only [memAbove, Bool.and_eq_true, decide_eq_true_eq] at h
    have above : ∀ (r : List Host.Cell) (lo : Nat), memAbove lo r = true → ∀ x, x < lo → memGet r x = 0 := by
      intro r
      induction r with
      | nil => intros; rfl
      | cons e r ih =>
        intro lo h x hx
        obtain ⟨k, v⟩ := e
        simp only [memAbove, Bool.and_eq_true, decide_eq_true_eq] at h
        have hk : k ≠ x := by omega
        simp only [memGet, hk, if_false]
        exact ih _ h.2 x (by omega)
    unfold memPut
    by_cases h1 : a < k
    · have hk : k ≠ a := by omega
      by_cases hb : b = 0#8
      · simp [h1, hb, memGet, hk, above r _ h.2 a (by omega)]
      · simp [h1, hb, memGet]
    · by_cases h2 : a = k
      · subst h2
        by_cases hb : b = 0#8
        · simp [hb, above r _ h.2 a (by omega)]
        · simp [hb, memGet]
      · have hk : k ≠ a := fun h => h2 h.symm
        simp [h1, h2, memGet, hk, ih _ h.2]

/-- A write leaves every other byte as it was. -/
theorem memGet_memPut_other (m : List Host.Cell) (a x : Nat) (b : Byte) (lo : Nat) (h : memAbove lo m = true) (hx : x ≠ a) :
    memGet (memPut m a b) x = memGet m x := by
  induction m generalizing lo with
  | nil =>
    have : a ≠ x := fun h => hx h.symm
    by_cases hb : b = 0#8 <;> simp [memPut, memGet, hb, this]
  | cons e r ih =>
    obtain ⟨k, v⟩ := e
    simp only [memAbove, Bool.and_eq_true, decide_eq_true_eq] at h
    have hax : a ≠ x := fun h => hx h.symm
    unfold memPut
    by_cases h1 : a < k
    · by_cases hb : b = 0#8 <;> simp [h1, hb, memGet, hax]
    · by_cases h2 : a = k
      · subst h2
        by_cases hb : b = 0#8
        · subst hb
          simp [memGet, hax]
        · simp [hb, memGet, hax]
      · simp only [h1, h2, if_false, memGet, ih _ h.2]

/-- A write keeps the canonical form above any bound at or below its address. -/
theorem memAbove_memPut (m : List Host.Cell) (a : Nat) (b : Byte) (lo : Nat) (h : memAbove lo m = true) (ha : lo ≤ a) :
    memAbove lo (memPut m a b) = true := by
  induction m generalizing lo with
  | nil => by_cases hb : b = 0#8 <;> simp [memPut, memAbove, hb, ha]
  | cons e r ih =>
    obtain ⟨k, v⟩ := e
    simp only [memAbove, Bool.and_eq_true, decide_eq_true_eq] at h
    have weaker : ∀ (r : List Host.Cell) (lo lo' : Nat), lo' ≤ lo → memAbove lo r = true → memAbove lo' r = true := by
      intro r lo lo' hl hr
      cases r with
      | nil => rfl
      | cons e r =>
        obtain ⟨k, v⟩ := e
        simp only [memAbove, Bool.and_eq_true, decide_eq_true_eq] at hr ⊢
        exact ⟨⟨by omega, hr.1.2⟩, hr.2⟩
    unfold memPut
    by_cases h1 : a < k
    · by_cases hb : b = 0
      · rw [if_pos h1, if_pos hb]
        simpa [memAbove] using h
      · rw [if_pos h1, if_neg hb]
        simp only [memAbove, Bool.and_eq_true, decide_eq_true_eq]
        exact ⟨⟨ha, hb⟩, ⟨⟨by omega, h.1.2⟩, h.2⟩⟩
    · by_cases h2 : a = k
      · by_cases hb : b = 0
        · rw [if_neg h1, if_pos h2, if_pos hb]
          exact weaker r _ _ (by omega) h.2
        · rw [if_neg h1, if_pos h2, if_neg hb]
          simp only [memAbove, Bool.and_eq_true, decide_eq_true_eq]
          exact ⟨⟨ha, hb⟩, by rw [h2]; exact h.2⟩
      · rw [if_neg h1, if_neg h2]
        simp only [memAbove, Bool.and_eq_true, decide_eq_true_eq]
        exact ⟨h.1, ih _ h.2 (by omega)⟩

/-- A write keeps the canonical form. -/
theorem memWf_memPut (m : List Host.Cell) (a : Nat) (b : Byte) (h : memWf m = true) : memWf (memPut m a b) = true :=
  memAbove_memPut m a b 0 h (Nat.zero_le a)

/-- Writing bytes keeps the canonical form. -/
theorem memWf_memPutAll (m : List Host.Cell) (a : Nat) (bs : Bytes) (h : memWf m = true) : memWf (memPutAll m a bs) = true := by
  have key : ∀ (bs : Bytes) (s : List Host.Cell × Nat), memWf s.1 = true →
      memWf (bs.foldl (fun (s : List Host.Cell × Nat) b => (memPut s.1 s.2 b, s.2 + 1)) s).1 = true := by
    intro bs
    induction bs with
    | nil => exact fun _ h => h
    | cons b r ih => exact fun s h => ih _ (memWf_memPut _ _ _ h)
  exact key bs (m, a) h

end Sys2Proof.Machine
end

