-- ==== Sys2Proof/Laws/LaneFrame.lean ====
section
/-!
SUPPORT. Which operations on a lane leave its bus memory alone, one lemma an operation, and the canonical form through those that
write it (R286, R302).
-/
namespace Sys2Proof.Machine
open Sys2Proof

set_option linter.unusedTactic false
set_option linter.unreachableTactic false
set_option linter.unnecessarySeqFocus false

/-- GO and ABORT touch no bus memory. -/
@[simp] theorem LaneMain.commitBits_mem (m : LaneMain) (b : Bool) : (m.commitBits b).mem = m.mem := rfl

@[simp] theorem Lane.onMain_mem (n : Lane) (f : LaneMain → LaneMain) : (n.onMain f).main.mem = (f n.main).mem := rfl

theorem foldl_mem {α : Type} (f : Lane → α → Lane) (h : ∀ n x, (f n x).main.mem = n.main.mem) (xs : List α) (n : Lane) :
    (xs.foldl f n).main.mem = n.main.mem := by
  induction xs generalizing n with
  | nil => rfl
  | cons x xs ih => rw [List.foldl_cons, ih, h]

@[simp] theorem Lane.event_mem (n : Lane) (l : LaneId) (src : Nat) (forced : Bool) : (Lane.event n l src forced).main.mem = n.main.mem := by
  rfl

@[simp] theorem Lane.onCheck_mem (n : Lane) (f : CheckState → CheckState) : (Lane.onCheck n f).main.mem = n.main.mem := by
  rfl

@[simp] theorem Lane.onMem_mem (n : Lane) (f : MemRegs → MemRegs) : (Lane.onMem n f).main.mem = n.main.mem := by
  rfl

@[simp] theorem Lane.onDma_mem (n : Lane) (f : Mover → Mover) : (Lane.onDma n f).main.mem = n.main.mem := by
  rfl

@[simp] theorem Lane.onRing_mem (n : Lane) (r : Nat) (f : Ring → Ring) : (Lane.onRing n r f).main.mem = n.main.mem := by
  rfl

@[simp] theorem Lane.requestRing_mem (l : LaneId) (line : Nat) (n : Lane) (r : Nat) : (Lane.requestRing l line n r).main.mem = n.main.mem := by
  (simp only [Lane.requestRing]; (repeat' split) <;> simp)

@[simp] theorem Lane.raiseLine_mem (n : Lane) (l : LaneId) (line : Nat) : (Lane.raiseLine n l line).main.mem = n.main.mem := by
  unfold Lane.raiseLine
  split
  · exact foldl_mem _ (fun n r => Lane.requestRing_mem l line n r) _ _
  · rfl

@[simp] theorem Lane.askRetry_mem (n : Lane) (src : Nat) : (Lane.askRetry n src).main.mem = n.main.mem := by
  (unfold Lane.askRetry; (repeat' split) <;> rfl)

@[simp] theorem Lane.selfFail_mem (n : Lane) (src : Nat) : (Lane.selfFail n src).main.mem = n.main.mem := by
  (unfold Lane.selfFail; simp)

@[simp] theorem Lane.failEvent_mem (n : Lane) (l : LaneId) (src : Nat) : (Lane.failEvent n l src).main.mem = n.main.mem := by
  (unfold Lane.failEvent; simp)

@[simp] theorem Lane.retryEvent_mem (n : Lane) (l : LaneId) (src : Nat) : (Lane.retryEvent n l src).main.mem = n.main.mem := by
  (simp only [Lane.retryEvent]; (repeat' split) <;> simp)

@[simp] theorem Lane.memCe_mem (n : Lane) (l : LaneId) (m addr pos : Nat) (chk : Bool) : (Lane.memCe n l m addr pos chk).main.mem = n.main.mem := by
  (simp only [Lane.memCe]; (repeat' split) <;> simp)

@[simp] theorem Lane.memUeCount_mem (n : Lane) (m addr : Nat) : (Lane.memUeCount n m addr).main.mem = n.main.mem := by
  rfl

@[simp] theorem Lane.memUe_mem (n : Lane) (l : LaneId) (m addr : Nat) : (Lane.memUe n l m addr).main.mem = n.main.mem := by
  (simp only [Lane.memUe]; (repeat' split) <;> simp)

@[simp] theorem Lane.memErr_mem (l : LaneId) (n : Lane) (e : MemErr) : (Lane.memErr l n e).main.mem = n.main.mem := by
  (unfold Lane.memErr; (repeat' split) <;> simp)

@[simp] theorem Lane.memClock_mem (n : Lane) (l : LaneId) (errs : List MemErr) : (Lane.memClock n l errs).main.mem = n.main.mem := by
  exact foldl_mem _ (fun _ _ => by simp) _ _

@[simp] theorem Lane.mismatch_mem (n : Lane) (l : LaneId) (kind plane ident core : Nat) : (Lane.mismatch n l kind plane ident core).main.mem = n.main.mem := by
  (unfold Lane.mismatch; simp)

@[simp] theorem Lane.verdictDone_mem (n : Lane) (reproduced : Bool) : (Lane.verdictDone n reproduced).main.mem = n.main.mem := by
  (unfold Lane.verdictDone; (repeat' split) <;> rfl)

@[simp] theorem Lane.onCan_mem (n : Lane) (f : CanPort → CanPort) : (Lane.onCan n f).main.mem = n.main.mem := by
  rfl

@[simp] theorem Lane.canFill_mem (n : Lane) (l : LaneId) (data : Bytes) : (Lane.canFill n l data).main.mem = n.main.mem := by
  (unfold Lane.canFill; simp)

@[simp] theorem canReadClear_mem (n : Lane) (off : Nat) : (canReadClear n off).main.mem = n.main.mem := by
  (unfold canReadClear; (repeat' split) <;> rfl)

@[simp] theorem Lane.onUnit_mem (n : Lane) (u : UnitId) (f : UnitView → UnitView) : (Lane.onUnit n u f).main.mem = n.main.mem := by
  rfl

@[simp] theorem Lane.takePosted_mem (n : Lane) (u : UnitId) : (Lane.takePosted n u).main.mem = n.main.mem := by
  rfl

@[simp] theorem Lane.putCell_mem (n : Lane) (m : Bool) (i : Nat) (s : CellState) : (Lane.putCell n m i s).main.mem = n.main.mem := by
  (unfold Lane.putCell; (repeat' split) <;> rfl)

@[simp] theorem Lane.shiftCells_mem (n : Lane) (tinr : Nat) : (Lane.shiftCells n tinr).main.mem = n.main.mem := by
  rfl

@[simp] theorem Lane.latchSources_mem (n : Lane) (a : Run) : (Lane.latchSources n a).main.mem = n.main.mem := by
  exact foldl_mem _ (fun _ _ => by simp) _ _

@[simp] theorem Lane.postBytes_mem (n : Lane) (m : Bool) (slot off : Nat) (v : Bytes) : (Lane.postBytes n m slot off v).main.mem = n.main.mem := by
  (unfold Lane.postBytes; (repeat' split) <;> rfl)

@[simp] theorem Lane.postWord_mem (n : Lane) (m : Bool) (u : UnitId) (w : Nat) (v : Int) : (Lane.postWord n m u w v).main.mem = n.main.mem := by
  (unfold Lane.postWord; (repeat' split) <;> rfl)

@[simp] theorem Lane.postBoth_mem (n : Lane) (u : UnitId) (w : Nat) (v : Int) : (Lane.postBoth n u w v).main.mem = n.main.mem := by
  rfl

@[simp] theorem Lane.stampAct_mem (n : Lane) (l : LaneId) (m : Bool) (d : CellDef) : (Lane.stampAct n l m d).main.mem = n.main.mem := by
  (simp only [Lane.stampAct]; (repeat' split) <;> simp)

@[simp] theorem Lane.postSnk_mem (n : Lane) (l : LaneId) (a : Run) (d : CellDef) (sel : Nat) (v : Int) : (Lane.postSnk n l a d sel v).main.mem = n.main.mem := by
  (simp only [Lane.postSnk]; (repeat' split) <;> simp)

@[simp] theorem Lane.loseRamp_mem (n : Lane) (m : Bool) (i : Nat) : (Lane.loseRamp n m i).main.mem = n.main.mem := by
  (unfold Lane.loseRamp; simp)

@[simp] theorem Lane.trackLinks_mem (n : Lane) (a : Run) (ds : List CellDef) (later : CellDef → Bool) (d : CellDef) : (Lane.trackLinks n a ds later d).main.mem = n.main.mem := by
  exact foldl_mem _ (fun n w => by (repeat' (first | split | dsimp only)) <;> first | rfl | simp) _ _

@[simp] theorem Lane.keepFlags_mem (n : Lane) (a : Run) (d : CellDef) (s : CellState) : (Lane.keepFlags n a d s).main.mem = n.main.mem := by
  (unfold Lane.keepFlags; (repeat' split) <;> rfl)

@[simp] theorem Lane.fold_mem (n : Lane) (m : Bool) (task : Nat) (ws : List Nat) : (Lane.fold n m task ws).main.mem = n.main.mem := by
  rfl

@[simp] theorem Lane.ranCell_mem (n : Lane) (l : LaneId) (a : Run) (d : CellDef) (s : CellState) : (Lane.ranCell n l a d s).main.mem = n.main.mem := by
  (simp only [Lane.ranCell]; (repeat' split) <;> simp)

@[simp] theorem Lane.noteNan_mem (n : Lane) (l : LaneId) (d : CellDef) (sel : Nat) : (Lane.noteNan n l d sel).main.mem = n.main.mem := by
  (unfold Lane.noteNan; (repeat' split) <;> rfl)

@[simp] theorem Lane.runCell_mem (n : Lane) (l : LaneId) (a : Run) (fl : Flips) (vec : Option (List (Nat × Word))) (d : CellDef) : (Lane.runCell n l a fl vec d).main.mem = n.main.mem := by
  (unfold Lane.runCell; (repeat' split) <;> simp)

@[simp] theorem Lane.runCells_mem (n : Lane) (l : LaneId) (a : Run) (fl : Flips) (vec : Option (List (Nat × Word))) (cut : List Nat) (ds : List CellDef) : (Lane.runCells n l a fl vec cut ds).main.mem = n.main.mem := by
  (unfold Lane.runCells; (repeat' split) <;> (simp [foldl_mem]))

@[simp] theorem Lane.syncTrack_mem (n : Lane) (a : Run) (before : Bool) : (Lane.syncTrack n a before).main.mem = n.main.mem := by
  exact foldl_mem _ (fun n w => by (repeat' (first | split | dsimp only)) <;> first | rfl | simp) _ _

@[simp] theorem Lane.foldRound_mem (n : Lane) (l : LaneId) (a : Run) (ds : List CellDef) (tinr : Nat) : (Lane.foldRound n l a ds tinr).main.mem = n.main.mem := by
  unfold Lane.foldRound
  split
  · exact foldl_mem _ (fun n w => by (repeat' (first | split | dsimp only)) <;> first | rfl | simp) _ _
  · rfl

@[simp] theorem Lane.runOnce_mem (n : Lane) (l : LaneId) (a : Run) (fl : Flips) (vec : Option (List (Nat × Word))) (cut : List Nat) : (Lane.runOnce n l a fl vec cut).main.mem = n.main.mem := by
  (simp only [Lane.runOnce]; (repeat' split) <;> simp)

@[simp] theorem Lane.runTick_mem (n : Lane) (l : LaneId) (ups : List Upset) : (Lane.runTick n l ups).main.mem = n.main.mem := by
  (unfold Lane.runTick; (repeat' split) <;> simp)

@[simp] theorem Lane.busSteps_mem (n : Lane) : (Lane.busSteps n).main.mem = n.main.mem := by
  rfl

@[simp] theorem Lane.superviseIsland_mem (n : Lane) (i : IslandId) : (Lane.superviseIsland n i).main.mem = n.main.mem := by
  (simp only [Lane.superviseIsland]; (repeat' split) <;> simp)

@[simp] theorem Lane.superviseFb_mem (n : Lane) (f : FbId) : (Lane.superviseFb n f).main.mem = n.main.mem := by
  exact foldl_mem _ (fun n c => Lane.postBoth_mem _ _ _ _) _ _

@[simp] theorem Lane.superviseSio_mem (n : Lane) (x : SioId) : (Lane.superviseSio n x).main.mem = n.main.mem := by
  rfl

@[simp] theorem Lane.supervise_mem (n : Lane) : (Lane.supervise n).main.mem = n.main.mem := by
  simp [Lane.supervise, foldl_mem Lane.superviseIsland (fun _ _ => Lane.superviseIsland_mem _ _)]

@[simp] theorem Lane.motorTick_mem (n : Lane) (l : LaneId) : (Lane.motorTick n l).main.mem = n.main.mem := by
  rfl

@[simp] theorem Lane.post_mem (n : Lane) (u : UnitId) (b : Option Bytes) : (Lane.post n u b).main.mem = n.main.mem := by
  rfl

@[simp] theorem Lane.blockMismatch_mem (l : LaneId) (n : Lane) (u : UnitId) : (Lane.blockMismatch l n u).main.mem = n.main.mem := by
  (unfold Lane.blockMismatch; simp)

@[simp] theorem Lane.postUnit_mem (l : LaneId) (ups : List Upset) (n : Lane) (u : UnitId) : (Lane.postUnit l ups n u).main.mem = n.main.mem := by
  (unfold Lane.postUnit; (repeat' split) <;> simp)

@[simp] theorem Lane.foldWordsOf_mem (n : Lane) (ups : List Upset) : (Lane.foldWordsOf n ups).main.mem = n.main.mem := by
  (unfold Lane.foldWordsOf; simp)

@[simp] theorem Lane.compareSlots_mem (n : Lane) (l : LaneId) (ups : List Upset) : (Lane.compareSlots n l ups).main.mem = n.main.mem := by
  unfold Lane.compareSlots
  first | rfl | (exact foldl_mem _ (fun n w => by (try dsimp only); (repeat' split) <;> simp) _ _)

@[simp] theorem Lane.upset_mem (l : LaneId) (n : Lane) (y0 : Upset) : (Lane.upset l n y0).main.mem = n.main.mem := by
  (unfold Lane.upset; (repeat' split) <;> simp)

@[simp] theorem Lane.closeVerdict_mem (n : Lane) : (Lane.closeVerdict n).main.mem = n.main.mem := by
  (simp only [Lane.closeVerdict]; (repeat' split) <;> simp)

@[simp] theorem Lane.tickWork_mem (n : Lane) (l : LaneId) (ups : List Upset) : (Lane.tickWork n l ups).main.mem = n.main.mem := by
  (unfold Lane.tickWork; (repeat' split) <;> (simp [foldl_mem]))

@[simp] theorem Lane.sendRecords_mem (n : Lane) (l : LaneId) : (Lane.sendRecords n l).main.mem = n.main.mem := by
  exact foldl_mem _ (fun _ _ => by (repeat' split) <;> simp) _ _

@[simp] theorem Lane.overrun_mem (n : Lane) (l : LaneId) : (Lane.overrun n l).main.mem = n.main.mem := by
  (unfold Lane.overrun; simp)

@[simp] theorem Lane.asOf_mem (n : Lane) (t : TickInputs) : (Lane.asOf n t).main.mem = n.main.mem := by
  rfl

@[simp] theorem Lane.readbackFail_mem (n : Lane) (b : Nat) : (Lane.readbackFail n b).main.mem = n.main.mem := by
  (unfold Lane.readbackFail; simp)

@[simp] theorem Lane.verdictReadback_mem (n : Lane) (held : Nat) (read : List (Nat × Bytes)) : (Lane.verdictReadback n held read).main.mem = n.main.mem := by
  exact foldl_mem _ (fun _ _ => by simp) _ _

@[simp] theorem Lane.busTake_mem (n : Lane) (l : LaneId) (bank : List RxEntry) (a : Nat) : (Lane.busTake n l bank a).1.main.mem = n.main.mem := by
  (unfold Lane.busTake; (repeat' split) <;> rfl)

@[simp] theorem Lane.fifoRequest_mem (n : Lane) (l : LaneId) (r : Nat) : (Lane.fifoRequest n l r).main.mem = n.main.mem := by
  (unfold Lane.fifoRequest; (repeat' split) <;> simp)

@[simp] theorem Lane.ringFetch_mem (n : Lane) (l : LaneId) (r : Nat) : (Lane.ringFetch n l r).main.mem = n.main.mem := by
  (simp only [Lane.ringFetch]; (repeat' split) <;> simp)

@[simp] theorem Lane.takeBytes_mem (n : Lane) (l : LaneId) (bank : List RxEntry) (y0 : List Nat) : (Lane.takeBytes n l bank y0).1.main.mem = n.main.mem := by
  induction y0 generalizing n with
  | nil => rfl
  | cons a r ih => simp [Lane.takeBytes, ih]

@[simp] theorem Lane.watchSlot_mem (n : Lane) (l : LaneId) (plane slot : Nat) : (Lane.watchSlot n l plane slot).main.mem = n.main.mem := by
  exact foldl_mem _ (fun n k => Lane.raiseLine_mem n l (72 + k)) _ _

@[simp] theorem dmaReadClear_mem (n : Lane) (off : Nat) : (dmaReadClear n off).main.mem = n.main.mem := by
  (unfold dmaReadClear; (repeat' split) <;> rfl)

@[simp] theorem dmaWrite_mem (n : Lane) (off v mask : Nat) : (dmaWrite n off v mask).main.mem = n.main.mem := by
  (simp only [dmaWrite]; (repeat' split) <;> simp)

@[simp] theorem Lane.onNet_mem (n : Lane) (f : Net → Net) : (Lane.onNet n f).main.mem = n.main.mem := by
  rfl

@[simp] theorem Lane.putPartner_mem (n : Lane) (plane ident : Nat) (p : Partner) : (Lane.putPartner n plane ident p).main.mem = n.main.mem := by
  rfl

@[simp] theorem Lane.countBad_mem (n : Lane) : (Lane.countBad n).main.mem = n.main.mem := by
  rfl

@[simp] theorem Lane.countSlot_mem (n : Lane) : (Lane.countSlot n).main.mem = n.main.mem := by
  rfl

@[simp] theorem Lane.countTag_mem (n : Lane) : (Lane.countTag n).main.mem = n.main.mem := by
  rfl

@[simp] theorem Lane.putJoin_mem (n : Lane) (peer : Nat) (j : Option Join) : (Lane.putJoin n peer j).main.mem = n.main.mem := by
  rfl

@[simp] theorem Lane.strike_mem (n : Lane) (l : LaneId) (plane ident : Nat) : (Lane.strike n l plane ident).main.mem = n.main.mem := by
  (simp only [Lane.strike]; (repeat' split) <;> simp)

@[simp] theorem Lane.frameLate_mem (n : Lane) (l : LaneId) (plane ident : Nat) : (Lane.frameLate n l plane ident).main.mem = n.main.mem := by
  (unfold Lane.frameLate; simp)

@[simp] theorem Lane.acceptFrame_mem (n : Lane) (l : LaneId) (f : RxFrame) (dev : Int) (edge : Bool) : (Lane.acceptFrame n l f dev edge).main.mem = n.main.mem := by
  (unfold Lane.acceptFrame; (repeat' split) <;> simp)

@[simp] theorem Lane.ownStatus_mem (n : Lane) (l : LaneId) (f : RxFrame) : (Lane.ownStatus n l f).main.mem = n.main.mem := by
  (simp only [Lane.ownStatus]; (repeat' split) <;> simp)

@[simp] theorem Lane.scheduledFrame_mem (n : Lane) (l : LaneId) (f : RxFrame) : (Lane.scheduledFrame n l f).main.mem = n.main.mem := by
  (simp only [Lane.scheduledFrame]; (repeat' split) <;> simp)

@[simp] theorem Lane.follow_mem (n : Lane) (l : LaneId) (f : RxFrame) : (Lane.follow n l f).main.mem = n.main.mem := by
  (simp only [Lane.follow]; (repeat' split) <;> simp)

@[simp] theorem Lane.contend_mem (n : Lane) (l : LaneId) (f : RxFrame) : (Lane.contend n l f).main.mem = n.main.mem := by
  (simp only [Lane.contend]; (repeat' split) <;> simp)

@[simp] theorem Lane.beaconHeard_mem (n : Lane) (l : LaneId) (f : RxFrame) : (Lane.beaconHeard n l f).main.mem = n.main.mem := by
  (simp only [Lane.beaconHeard]; (repeat' split) <;> simp)

@[simp] theorem Lane.abandon_mem (n : Lane) (l : LaneId) (peer : Nat) (auth : Bool) : (Lane.abandon n l peer auth).main.mem = n.main.mem := by
  (unfold Lane.abandon; (repeat' split) <;> rfl)

@[simp] theorem Lane.advanceKeys_mem (n : Lane) : (Lane.advanceKeys n).main.mem = n.main.mem := by
  rfl

@[simp] theorem Lane.onLoader_mem (n : Lane) (f : Loader → Loader) : (Lane.onLoader n f).main.mem = n.main.mem := by
  rfl

@[simp] theorem Lane.cnvRefused_mem (n : Lane) (st : Nat) : (Lane.cnvRefused n st).main.mem = n.main.mem := by
  (unfold Lane.cnvRefused; (repeat' split) <;> rfl)

@[simp] theorem Lane.force_mem (n : Lane) (l : LaneId) (src : Nat) : (Lane.force n l src).main.mem = n.main.mem := by
  (simp only [Lane.force]; (repeat' split) <;> simp)

@[simp] theorem laneReadClear_mem (n : Lane) (l : LaneId) (addr : Nat) : (laneReadClear n l addr).main.mem = n.main.mem := by
  (simp only [laneReadClear]; (repeat' split) <;> simp)

@[simp] theorem cnvWrite_mem (n : Lane) (off v mask : Nat) : (cnvWrite n off v mask).main.mem = n.main.mem := by
  (simp only [cnvWrite]; (repeat' split) <;> simp)

@[simp] theorem laneEvtWrite_mem (n : Lane) (l : LaneId) (off v mask : Nat) : (laneEvtWrite n l off v mask).main.mem = n.main.mem := by
  unfold laneEvtWrite
  dsimp only
  (repeat' split) <;> first | rfl | simp | (exact foldl_mem _ (fun n k => by simp) _ _)

@[simp] theorem laneWrite_mem (n : Lane) (l : LaneId) (addr v mask : Nat) : (laneWrite n l addr v mask).main.mem = n.main.mem := by
  (simp only [laneWrite]; (repeat' split) <;> simp)

@[simp] theorem Lane.groupDone_mem (n : Lane) (l : LaneId) (u : UnitId) (c : UnitCommon) (gone : List ShadowWrite) : (Lane.groupDone n l u c gone).main.mem = n.main.mem := by
  (unfold Lane.groupDone; (repeat' split) <;> rfl)

@[simp] theorem Lane.onMode_mem (n : Lane) (f : ModeState → ModeState) : (Lane.onMode n f).main.mem = n.main.mem := by
  rfl

@[simp] theorem Lane.lostRound_mem (n : Lane) : (Lane.lostRound n).main.mem = n.main.mem := by
  rfl

@[simp] theorem Lane.halt_mem (n : Lane) : (Lane.halt n).main.mem = n.main.mem := by
  rfl

@[simp] theorem Lane.enterSketch_mem (n : Lane) : (Lane.enterSketch n).main.mem = n.main.mem := by
  rfl

@[simp] theorem Lane.modeRound_mem (n : Lane) (l : LaneId) : (Lane.modeRound n l).main.mem = n.main.mem := by
  (unfold Lane.modeRound; (repeat' split) <;> rfl)

@[simp] theorem Lane.clearLatched_mem (n : Lane) : (Lane.clearLatched n).main.mem = n.main.mem := by
  rfl

@[simp] theorem Lane.enterService_mem (n : Lane) : (Lane.enterService n).main.mem = n.main.mem := by
  rfl

@[simp] theorem Lane.portPhy_mem (n : Lane) (l : LaneId) : (Lane.portPhy n l).main.mem = n.main.mem := by
  (unfold Lane.portPhy; (repeat' split) <;> rfl)

@[simp] theorem Lane.onOffice_mem (n : Lane) (f : Office → Office) : (Lane.onOffice n f).main.mem = n.main.mem := by
  rfl

@[simp] theorem Lane.setHolder_mem (n : Lane) (l : LaneId) (h : Option Nat) (cause : Nat) : (Lane.setHolder n l h cause).main.mem = n.main.mem := by
  (unfold Lane.setHolder; (repeat' split) <;> rfl)

@[simp] theorem Lane.elect_mem (n : Lane) (l : LaneId) : (Lane.elect n l).main.mem = n.main.mem := by
  (unfold Lane.elect; (repeat' split) <;> rfl)

@[simp] theorem Lane.makeView_mem (n : Lane) : (Lane.makeView n).main.mem = n.main.mem := by
  rfl

@[simp] theorem Lane.releases_mem (n : Lane) (l : LaneId) : (Lane.releases n l).main.mem = n.main.mem := by
  (simp only [Lane.releases]; (repeat' split) <;> simp)

@[simp] theorem Lane.officeRound_mem (n : Lane) (l : LaneId) (peer : Option Nat) : (Lane.officeRound n l peer).main.mem = n.main.mem := by
  (simp only [Lane.officeRound]; (repeat' split) <;> simp)

@[simp] theorem Lane.onAon_mem (n : Lane) (f : Aon → Aon) : (Lane.onAon n f).main.mem = n.main.mem := by
  rfl

@[simp] theorem Lane.onPwr_mem (n : Lane) (f : PwrRegs → PwrRegs) : (Lane.onPwr n f).main.mem = n.main.mem := by
  rfl

@[simp] theorem Lane.leaveBoot_mem (n : Lane) : (Lane.leaveBoot n).main.mem = n.main.mem := by
  (unfold Lane.leaveBoot; (repeat' split) <;> rfl)

@[simp] theorem Lane.configure_mem (n : Lane) (l : LaneId) : (Lane.configure n l).main.mem = n.main.mem := by
  rfl

@[simp] theorem Lane.translate_mem (n : Lane) (l : LaneId) (im : Bytes) (read : Option Bytes) : (Lane.translate n l im read).main.mem = n.main.mem := by
  (simp only [Lane.translate]; (repeat' split) <;> simp)

@[simp] theorem Lane.carry_mem (n : Lane) (l : LaneId) : (Lane.carry n l).main.mem = n.main.mem := by
  (unfold Lane.carry; (repeat' split) <;> simp)

@[simp] theorem Lane.withdrawAll_mem (n : Lane) (l : LaneId) : (Lane.withdrawAll n l).main.mem = n.main.mem := by
  rfl

@[simp] theorem Lane.measure_mem (n : Lane) (mv : Nat) : (Lane.measure n mv).main.mem = n.main.mem := by
  rfl

@[simp] theorem Lane.aonTick_mem (n : Lane) (vl : Nat) (pin : Bool) : (Lane.aonTick n vl pin).main.mem = n.main.mem := by
  rfl

@[simp] theorem Lane.mainTick_mem (n : Lane) (l : LaneId) : (Lane.mainTick n l).main.mem = n.main.mem := by
  rfl

@[simp] theorem Lane.remark_mem (n : Lane) : (Lane.remark n).main.mem = n.main.mem := by
  rfl

@[simp] theorem Lane.timeRound_mem (n : Lane) (l : LaneId) : (Lane.timeRound n l).main.mem = n.main.mem := by
  (simp only [Lane.timeRound]; (repeat' split) <;> simp)

@[simp] theorem Lane.partnerRound_mem (n : Lane) : (Lane.partnerRound n).main.mem = n.main.mem := by
  exact foldl_mem _ (fun n p => foldl_mem _ (fun n k => Lane.putPartner_mem _ _ _ _) _ _) _ _

@[simp] theorem Lane.netRound_mem (n : Lane) : (Lane.netRound n).main.mem = n.main.mem := by
  (unfold Lane.netRound; simp)

@[simp] theorem Lane.noteSeqs_mem (n : Lane) : n.noteSeqs.main.mem = n.main.mem := by
  exact foldl_mem _ (fun n w => by (repeat' (first | split | dsimp only)) <;> first | rfl | simp) _ _

@[simp] theorem Lane.handOver_mem (n : Lane) (l : LaneId) : (Lane.handOver n l).main.mem = n.main.mem := by
  (simp only [Lane.handOver]; (repeat' split) <;> simp)

@[simp] theorem Lane.promote_mem (n : Lane) (l : LaneId) : (Lane.promote n l).main.mem = n.main.mem := by
  (unfold Lane.promote; (repeat' split) <;> rfl)

@[simp] theorem Lane.sigMismatch_mem (n : Lane) (l : LaneId) (core task : Nat) : (Lane.sigMismatch n l core task).main.mem = n.main.mem := by
  (unfold Lane.sigMismatch; simp)

@[simp] theorem Lane.compareSigs_mem (n : Lane) (l : LaneId) : (Lane.compareSigs n l).main.mem = n.main.mem := by
  (unfold Lane.compareSigs; (repeat' split) <;> (simp [foldl_mem]))

@[simp] theorem Lane.turnSigs_mem (n : Lane) (turned : List (Nat × Nat)) : (Lane.turnSigs n turned).main.mem = n.main.mem := by
  rfl

@[simp] theorem Lane.staleBlock_mem (n : Lane) (u : UnitId) : (Lane.staleBlock n u).main.mem = n.main.mem := by
  rfl

@[simp] theorem Lane.takeBlock_mem (n : Lane) (u : UnitId) (b : Bytes) : (Lane.takeBlock n u b).main.mem = n.main.mem := by
  (simp only [Lane.takeBlock]; (repeat' split) <;> simp)

@[simp] theorem Lane.adoptHolder_mem (n : Lane) : (Lane.adoptHolder n).main.mem = n.main.mem := by
  (unfold Lane.adoptHolder; (repeat' split) <;> rfl)

@[simp] theorem Lane.startListening_mem (n : Lane) : (Lane.startListening n).main.mem = n.main.mem := by
  (unfold Lane.startListening; (repeat' split) <;> rfl)

@[simp] theorem Lane.depart_mem (n : Lane) (l : LaneId) (flags slot dest : Nat) (payload : Bytes) (key : Option (BitVec 128)) : (Lane.depart n l flags slot dest payload key).main.mem = n.main.mem := by
  rfl

@[simp] theorem Lane.sendNull_mem (n : Lane) (l : LaneId) (e : SlotDef) (key : BitVec 128) : (Lane.sendNull n l e key).main.mem = n.main.mem := by
  rfl

@[simp] theorem Lane.lateMirror_mem (n : Lane) (l : LaneId) (e : SlotDef) : (Lane.lateMirror n l e).main.mem = n.main.mem := by
  (unfold Lane.lateMirror; (repeat' split) <;> simp)

@[simp] theorem Lane.sendData_mem (n : Lane) (l : LaneId) (e : SlotDef) : (Lane.sendData n l e).main.mem = n.main.mem := by
  (simp only [Lane.sendData]; (repeat' split) <;> simp)

@[simp] theorem Lane.sendBeacon_mem (n : Lane) (l : LaneId) (e : SlotDef) : (Lane.sendBeacon n l e).main.mem = n.main.mem := by
  (simp only [Lane.sendBeacon]; (repeat' split) <;> simp)

@[simp] theorem Lane.echoSent_mem (l : LaneId) (n : Lane) (ident : Nat) : (Lane.echoSent l n ident).main.mem = n.main.mem := by
  (simp only [Lane.echoSent]; (repeat' split) <;> simp)

@[simp] theorem Lane.foldPayload_mem (n : Lane) (l : LaneId) (b : Bytes) : (Lane.foldPayload n l b).main.mem = n.main.mem := by
  (unfold Lane.foldPayload; (repeat' split) <;> rfl)

@[simp] theorem Lane.sendStatus_mem (n : Lane) (l : LaneId) (e : SlotDef) : (Lane.sendStatus n l e).main.mem = n.main.mem := by
  (unfold Lane.sendStatus; (repeat' split) <;> (simp [foldl_mem]))

@[simp] theorem Lane.dropReply_mem (n : Lane) (r : Reply) (b : Bytes) : (Lane.dropReply n r b).main.mem = n.main.mem := by
  rfl

@[simp] theorem Lane.sendReply_mem (n : Lane) (l : LaneId) (e : SlotDef) : (Lane.sendReply n l e).main.mem = n.main.mem := by
  (unfold Lane.sendReply; (repeat' split) <;> rfl)

@[simp] theorem Lane.guardCut_mem (n : Lane) (l : LaneId) : (Lane.guardCut n l).main.mem = n.main.mem := by
  rfl

@[simp] theorem Lane.forward_mem (n : Lane) (u : UnitId) (a : RegAcc) (late : Bool) : (Lane.forward n u a late).main.mem = n.main.mem := by
  rfl

@[simp] theorem Lane.setStream_mem (n : Lane) (x : Option Stream) : (Lane.setStream n x).main.mem = n.main.mem := by
  rfl

@[simp] theorem Lane.queueRequest_mem (n : Lane) (r : PendReq) : (Lane.queueRequest n r).main.mem = n.main.mem := by
  rfl

@[simp] theorem Lane.busOff_mem (n : Lane) (l : LaneId) : (n.busOff l).main.mem = n.main.mem := by
  (unfold Lane.busOff; simp)

@[simp] theorem Lane.canError_mem (n : Lane) : n.canError.main.mem = n.main.mem := by
  rfl

@[simp] theorem Lane.chopperCleared_mem (n : Lane) (b : BusId) : (n.chopperCleared b).main.mem = n.main.mem := by
  (unfold Lane.chopperCleared; (repeat' split) <;> rfl)

@[simp] theorem Lane.startsAnew_mem (n : Lane) (unowned : Bool) : (n.startsAnew unowned).main.mem = n.main.mem := by
  (simp only [Lane.startsAnew]; (repeat' split) <;> rfl)

@[simp] theorem Lane.benchRound_mem (n : Lane) (l : LaneId) : (n.benchRound l).main.mem = n.main.mem := by
  (unfold Lane.benchRound; (repeat' split) <;> simp)

@[simp] theorem Lane.bareArrival_mem (n : Lane) (l : LaneId) : (n.bareArrival l).main.mem = n.main.mem := by
  (simp only [Lane.bareArrival]; (repeat' split) <;> rfl)

@[simp] theorem Lane.countsBegin_mem (n : Lane) : n.countsBegin.main.mem = n.main.mem := by
  rfl

@[simp] theorem LaneMain.back_mem (k : LaneMain) (m : ModeState) : (k.back m).mem = k.mem := by
  rfl

/-- A byte put on the lane bus keeps the canonical form. -/
theorem Lane.busPut_wf (n : Lane) (a : Nat) (b : Byte) (h : memWf n.main.mem = true) : memWf (n.busPut a b).main.mem = true := by
  unfold Lane.busPut
  generalize busRange a = k
  rcases k with _ | k
  · exact memWf_memPut _ _ _ h
  · cases k <;> dsimp only
    case tx => exact (congrArg (fun m => memWf m) (Lane.postBytes_mem n _ _ _ _)).trans h
    case cmd =>
      generalize UnitId.ofCode _ = u
      cases u <;> dsimp only
      · exact h
      · split
        · exact (congrArg (fun m => memWf m) (Lane.postWord_mem n _ _ _ _)).trans h
        · exact h
    case canTx => simpa only [Lane.onDma_mem] using h
    case svcTx => simpa only [Lane.onDma_mem] using h
    all_goals exact memWf_memPut _ _ _ h

@[simp] theorem Lane.mirrorPut_mem (n : Lane) (l : LaneId) (a : Nat) (b : Byte) : (n.mirrorPut l a b).main.mem = n.main.mem := by
  simp only [Lane.mirrorPut]; (repeat' split) <;> simp

@[simp] theorem Lane.mirrorAll_mem (n : Lane) (l : LaneId) (xs : List (Nat × Byte)) : (n.mirrorAll l xs).main.mem = n.main.mem := by
  induction xs generalizing n with
  | nil => rfl
  | cons x r ih => simp [Lane.mirrorAll, ih]

/-- Bytes put on the lane bus keep the canonical form. -/
theorem Lane.putAll_wf (n : Lane) (xs : List (Nat × Byte)) (h : memWf n.main.mem = true) : memWf (n.putAll xs).main.mem = true := by
  induction xs generalizing n with
  | nil => exact h
  | cons x r ih => exact ih _ (n.busPut_wf _ _ h)

/-- A burst keeps the canonical form. -/
theorem Lane.ringBurst_wf (n : Lane) (l : LaneId) (r : Nat) (h : memWf n.main.mem = true) : memWf (n.ringBurst l r).main.mem = true := by
  unfold Lane.ringBurst
  simp only [Lane.fifoRequest_mem, Lane.onRing_mem, Lane.mirrorAll_mem]
  exact Lane.putAll_wf _ _ (by simpa using h)

/-- The end of a descriptor keeps the canonical form. -/
theorem Lane.ringEnd_wf (n : Lane) (l : LaneId) (r : Nat) (h : memWf n.main.mem = true) : memWf (n.ringEnd l r).main.mem = true := by
  unfold Lane.ringEnd
  dsimp only
  split <;> split <;> simp only [Lane.event_mem, Lane.onRing_mem, Lane.onMain_mem] <;>
    first | exact memWf_memPutAll _ _ _ h | exact memWf_memPutAll _ _ _ (memWf_memPutAll _ _ _ h)

/-- A lane that restarts clears its bus memory (R95, R96). -/
@[simp] theorem Lane.enterRetrying_mem (n : Lane) (src : Nat) : (n.enterRetrying src).main.mem = [] := rfl

end Sys2Proof.Machine
end

