-- ==== Sys2Proof/Laws/PerInstr.lean ====
section
/-!
SUPPORT. Statements made command by command: no word spells a command, as the command table gives no row any bits.
-/
namespace Sys2Proof.Laws.Unspelled
open Sys2Proof

/-- No word of the command table's bits is read as the command. -/
def Statement (i : Instr) : Prop := ∀ nbits w : Nat, decodeTableWord nbits w ≠ some i

/-- The reader of words answers nothing, so it answers no command. -/
theorem holds (i : Instr) : Statement i := fun _ _ h => nomatch h

theorem tickBoundary x0 : Statement (.tickBoundary x0) := holds _
theorem tickMarkArrival x0 x1 x2 x3 : Statement (.tickMarkArrival x0 x1 x2 x3) := holds _
theorem roundBoundary x0 x1 : Statement (.roundBoundary x0 x1) := holds _
theorem measurementBlock x0 x1 x2 x3 x4 : Statement (.measurementBlock x0 x1 x2 x3 x4) := holds _
theorem commandBlock x0 x1 x2 x3 : Statement (.commandBlock x0 x1 x2 x3) := holds _
theorem registerSymbol x0 x1 x2 : Statement (.registerSymbol x0 x1 x2) := holds _
theorem eventSymbol x0 x1 x2 x3 : Statement (.eventSymbol x0 x1 x2 x3) := holds _
theorem commandDeadline x0 : Statement (.commandDeadline x0) := holds _
theorem voterSelfTest x0 x1 : Statement (.voterSelfTest x0 x1) := holds _
theorem missingWithdrawal x0 : Statement (.missingWithdrawal x0) := holds _
theorem tickWorkStart x0 x1 : Statement (.tickWorkStart x0 x1) := holds _
theorem postingDeadline x0 x1 : Statement (.postingDeadline x0 x1) := holds _
theorem roundOverrun x0 : Statement (.roundOverrun x0) := holds _
theorem verdictCheck x0 x1 : Statement (.verdictCheck x0 x1) := holds _
theorem engineTest x0 : Statement (.engineTest x0) := holds _
theorem readbackCrc x0 : Statement (.readbackCrc x0) := holds _
theorem tightropeLimit x0 : Statement (.tightropeLimit x0) := holds _
theorem standstill x0 : Statement (.standstill x0) := holds _
theorem backstop x0 : Statement (.backstop x0) := holds _
theorem startupTimeout x0 : Statement (.startupTimeout x0) := holds _
theorem suppliesGood x0 : Statement (.suppliesGood x0) := holds _
theorem laneReset x0 : Statement (.laneReset x0) := holds _
theorem clockSwitch x0 : Statement (.clockSwitch x0) := holds _
theorem signatureVerdict x0 : Statement (.signatureVerdict x0) := holds _
theorem polvinTimeout x0 : Statement (.polvinTimeout x0) := holds _
theorem translationDone x0 x1 x2 : Statement (.translationDone x0 x1 x2) := holds _
theorem retryingEntry x0 : Statement (.retryingEntry x0) := holds _
theorem restartDone x0 : Statement (.restartDone x0) := holds _
theorem restartTimeout x0 : Statement (.restartTimeout x0) := holds _
theorem retirementRecordWrite x0 x1 : Statement (.retirementRecordWrite x0 x1) := holds _
theorem commitTarget x0 : Statement (.commitTarget x0) := holds _
theorem serviceRequest x0 x1 x2 x3 : Statement (.serviceRequest x0 x1 x2 x3) := holds _
theorem streamFrame x0 x1 x2 x3 : Statement (.streamFrame x0 x1 x2 x3) := holds _
theorem serviceReply x0 x1 : Statement (.serviceReply x0 x1) := holds _
theorem registerWrite x0 : Statement (.registerWrite x0) := holds _
theorem go x0 : Statement (.go x0) := holds _
theorem abort x0 : Statement (.abort x0) := holds _
theorem start x0 : Statement (.start x0) := holds _
theorem slotErased x0 : Statement (.slotErased x0) := holds _
theorem cnvWinWrite x0 x1 x2 : Statement (.cnvWinWrite x0 x1 x2) := holds _
theorem check x0 : Statement (.check x0) := holds _
theorem checkDone x0 x1 : Statement (.checkDone x0 x1) := holds _
theorem loadAbort x0 : Statement (.loadAbort x0) := holds _
theorem cnvCmt x0 x1 x2 x3 : Statement (.cnvCmt x0 x1 x2 x3) := holds _
theorem svcreq x0 x1 : Statement (.svcreq x0 x1) := holds _
theorem svcexit x0 x1 : Statement (.svcexit x0 x1) := holds _
theorem spclaim x0 : Statement (.spclaim x0) := holds _
theorem sprel x0 x1 : Statement (.sprel x0 x1) := holds _
theorem sketch x0 x1 : Statement (.sketch x0 x1) := holds _
theorem newchal x0 : Statement (.newchal x0) := holds _
theorem enrol x0 : Statement (.enrol x0) := holds _
theorem rotate x0 : Statement (.rotate x0) := holds _
theorem passwd x0 : Statement (.passwd x0) := holds _
theorem unlock x0 : Statement (.unlock x0) := holds _
theorem lockoutEnd : Statement .lockoutEnd := holds _
theorem unlockExpiry : Statement .unlockExpiry := holds _
theorem challengeExpiry : Statement .challengeExpiry := holds _
theorem lock x0 : Statement (.lock x0) := holds _
theorem varnish x0 : Statement (.varnish x0) := holds _
theorem strip x0 : Statement (.strip x0) := holds _
theorem cert x0 : Statement (.cert x0) := holds _
theorem bkey x0 : Statement (.bkey x0) := holds _
theorem ceremonyDone x0 : Statement (.ceremonyDone x0) := holds _
theorem unretire x0 x1 : Statement (.unretire x0 x1) := holds _
theorem attestationRequest x0 x1 : Statement (.attestationRequest x0 x1) := holds _
theorem reportReady : Statement .reportReady := holds _
theorem clrbf x0 : Statement (.clrbf x0) := holds _
theorem clrcf x0 : Statement (.clrcf x0) := holds _
theorem clrlatch x0 : Statement (.clrlatch x0) := holds _
theorem rearmRequest x0 : Statement (.rearmRequest x0) := holds _
theorem supplyRestart x0 x1 : Statement (.supplyRestart x0 x1) := holds _
theorem compareArm x0 x1 x2 x3 : Statement (.compareArm x0 x1 x2 x3) := holds _
theorem comparePositionWrite x0 x1 x2 x3 : Statement (.comparePositionWrite x0 x1 x2 x3) := holds _
theorem ringStart x0 x1 : Statement (.ringStart x0 x1) := holds _
theorem ringStop x0 x1 : Statement (.ringStop x0 x1) := holds _
theorem ringClr x0 x1 : Statement (.ringClr x0 x1) := holds _
theorem force x0 x1 : Statement (.force x0 x1) := holds _
theorem severeClear x0 x1 : Statement (.severeClear x0 x1) := holds _
theorem clrce x0 : Statement (.clrce x0) := holds _
theorem windowExpiry x0 x1 : Statement (.windowExpiry x0 x1) := holds _
theorem frameReceive x0 x1 : Statement (.frameReceive x0 x1) := holds _
theorem beaconReceive x0 x1 : Statement (.beaconReceive x0 x1) := holds _
theorem listenExpiry x0 : Statement (.listenExpiry x0) := holds _
theorem beaconLost x0 : Statement (.beaconLost x0) := holds _
theorem slotTransmit x0 x1 x2 : Statement (.slotTransmit x0 x1 x2) := holds _
theorem joinMsg1 x0 x1 : Statement (.joinMsg1 x0 x1) := holds _
theorem joinMsg3 x0 x1 : Statement (.joinMsg3 x0 x1) := holds _
theorem joinMsg2 x0 x1 : Statement (.joinMsg2 x0 x1) := holds _
theorem joinMsg4 x0 x1 : Statement (.joinMsg4 x0 x1) := holds _
theorem keyEpochAdvance : Statement .keyEpochAdvance := holds _
theorem cyclePoint x0 x1 : Statement (.cyclePoint x0 x1) := holds _
theorem rmVacant x0 : Statement (.rmVacant x0) := holds _
theorem sessionOpen x0 : Statement (.sessionOpen x0) := holds _
theorem sessionEnd : Statement .sessionEnd := holds _
theorem guidanceSystemCommand x0 x1 x2 : Statement (.guidanceSystemCommand x0 x1 x2) := holds _
theorem addressClaim x0 : Statement (.addressClaim x0) := holds _
theorem requestForAddressClaimed x0 : Statement (.requestForAddressClaimed x0) := holds _
theorem canBusoff x0 : Statement (.canBusoff x0) := holds _
theorem fdFrame x0 x1 x2 : Statement (.fdFrame x0 x1 x2) := holds _
theorem desat x0 x1 x2 : Statement (.desat x0 x1 x2) := holds _
theorem slp x0 x1 x2 : Statement (.slp x0 x1 x2) := holds _
theorem comparatorTest x0 x1 : Statement (.comparatorTest x0 x1) := holds _
theorem ov1 x0 : Statement (.ov1 x0) := holds _
theorem ov1Release x0 : Statement (.ov1Release x0) := holds _
theorem ov2 x0 : Statement (.ov2 x0) := holds _
theorem ov2Release x0 : Statement (.ov2Release x0) := holds _
theorem busUv x0 : Statement (.busUv x0) := holds _
theorem busUvRelease x0 : Statement (.busUvRelease x0) := holds _
theorem chopperFault x0 : Statement (.chopperFault x0) := holds _
theorem chopperTestPulse x0 x1 : Statement (.chopperTestPulse x0 x1) := holds _
theorem hot x0 x1 : Statement (.hot x0 x1) := holds _
theorem chopperLimit x0 x1 : Statement (.chopperLimit x0 x1) := holds _
theorem regenTrip x0 : Statement (.regenTrip x0) := holds _
theorem regenTripEnd x0 : Statement (.regenTripEnd x0) := holds _
theorem speedCrossing x0 x1 : Statement (.speedCrossing x0 x1) := holds _
theorem islandClockLoss x0 : Statement (.islandClockLoss x0) := holds _
theorem quadEdge x0 x1 x2 x3 : Statement (.quadEdge x0 x1 x2 x3) := holds _
theorem indexPulse x0 x1 : Statement (.indexPulse x0 x1) := holds _
theorem converterUpdate x0 x1 x2 : Statement (.converterUpdate x0 x1 x2) := holds _
theorem reacq x0 x1 x2 : Statement (.reacq x0 x1 x2) := holds _
theorem sentFrame x0 x1 x2 : Statement (.sentFrame x0 x1 x2) := holds _
theorem comparePulseEnd x0 x1 : Statement (.comparePulseEnd x0 x1) := holds _
theorem zero x0 x1 : Statement (.zero x0 x1) := holds _
theorem testPulseOff x0 x1 : Statement (.testPulseOff x0 x1) := holds _
theorem testPulseOn x0 x1 : Statement (.testPulseOn x0 x1) := holds _
theorem xsClear x0 x1 : Statement (.xsClear x0 x1) := holds _
theorem psupOc x0 x1 : Statement (.psupOc x0 x1) := holds _
theorem pgood x0 x1 : Statement (.pgood x0 x1) := holds _
theorem oredFeedLow x0 : Statement (.oredFeedLow x0) := holds _
theorem oredFeedReturn x0 : Statement (.oredFeedReturn x0) := holds _
theorem laneShed x0 x1 : Statement (.laneShed x0 x1) := holds _
theorem shedRelease x0 x1 : Statement (.shedRelease x0 x1) := holds _
theorem dropOut x0 : Statement (.dropOut x0) := holds _
theorem mainOff x0 : Statement (.mainOff x0) := holds _
theorem alwaysOnOff x0 : Statement (.alwaysOnOff x0) := holds _
theorem retentionReturn x0 : Statement (.retentionReturn x0) := holds _
theorem sleep x0 : Statement (.sleep x0) := holds _
theorem sleepAck x0 : Statement (.sleepAck x0) := holds _
theorem cancel x0 : Statement (.cancel x0) := holds _
theorem sleepRefusal x0 : Statement (.sleepRefusal x0) := holds _
theorem wake x0 x1 : Statement (.wake x0 x1) := holds _
theorem wakeReplay x0 : Statement (.wakeReplay x0) := holds _
theorem domainRequest x0 x1 : Statement (.domainRequest x0 x1) := holds _
theorem wakeRequest x0 : Statement (.wakeRequest x0) := holds _
theorem linkTraining x0 x1 x2 : Statement (.linkTraining x0 x1 x2) := holds _
theorem linkDown x0 x1 : Statement (.linkDown x0 x1) := holds _
theorem deviceKeyGeneration : Statement .deviceKeyGeneration := holds _
theorem polvinPowerUp : Statement .polvinPowerUp := holds _
theorem requestLine x0 x1 : Statement (.requestLine x0 x1) := holds _
theorem mark x0 x1 : Statement (.mark x0 x1) := holds _
theorem descriptorFetch x0 x1 : Statement (.descriptorFetch x0 x1) := holds _
theorem burst x0 x1 : Statement (.burst x0 x1) := holds _
theorem dmaEnd x0 x1 : Statement (.dmaEnd x0 x1) := holds _
theorem buserr x0 x1 x2 : Statement (.buserr x0 x1 x2) := holds _
theorem acceptanceWindowClose x0 x1 : Statement (.acceptanceWindowClose x0 x1) := holds _
theorem unitPowerUp x0 : Statement (.unitPowerUp x0) := holds _
theorem alwaysOnPowerUp x0 : Statement (.alwaysOnPowerUp x0) := holds _
theorem trunkLink x0 x1 x2 : Statement (.trunkLink x0 x1 x2) := holds _
theorem unitRetentionLimit x0 : Statement (.unitRetentionLimit x0) := holds _
theorem addressClaimLost x0 : Statement (.addressClaimLost x0) := holds _

end Sys2Proof.Laws.Unspelled
end

