-- ==== Sys2Proof/Laws/StateFrame.lean ====
section
/-!
SUPPORT. Every operation on the state leaves the queue of waiting commands alone and keeps each lane's bus memory canonical: one lemma
an operation. With `H := False` a lemma says only what it says of the queue.
-/
namespace Sys2Proof.Machine
open Sys2Proof

set_option linter.unusedTactic false
set_option linter.unreachableTactic false
set_option linter.unnecessarySeqFocus false
set_option linter.unusedSimpArgs false

/-- The queue is `qs`, and where `H` holds every lane's bus memory is in canonical form. -/
structure Kept (H : Prop) (qs : List Instr) (s : State) : Prop where
  queue : s.pending = qs
  mem : H → ∀ l, memWf (s.lanes.get l).main.mem = true

variable {H : Prop} {qs : List Instr}

theorem kept_setLane {s : State} {l : LaneId} {n : Lane} (h : Kept H qs s) (hn : H → memWf n.main.mem = true) : Kept H qs (s.setLane l n) := by
  refine ⟨h.queue, fun hH l' => ?_⟩
  have := h.mem hH l'
  cases l <;> cases l' <;> first | exact this | exact hn hH

theorem kept_mk {s : State} {a : Nat} {u : Ten UnitCommon} {i : Six Island} {f : Two Feedback} {x : Two SafetyIO} {sn : Ten (Option UnitSnap)} {v : Polvin} {q : Session}
    (h : Kept H qs s) : Kept H qs ⟨s.pending, a, s.lanes, u, i, f, x, sn, v, q⟩ := ⟨h.queue, h.mem⟩

theorem kept_lanes {s : State} {a : Nat} {u : Ten UnitCommon} {i : Six Island} {f : Two Feedback} {x : Two SafetyIO} {sn : Ten (Option UnitSnap)} {v : Polvin} {q : Session}
    {g : Lane → Lane} (h : Kept H qs s) (hf : ∀ n, (H → memWf n.main.mem = true) → H → memWf (g n).main.mem = true) :
    Kept H qs ⟨s.pending, a, s.lanes.map g, u, i, f, x, sn, v, q⟩ := by
  refine ⟨h.queue, fun hH l => ?_⟩
  have := hf _ (fun hH => h.mem hH l) hH
  cases l <;> exact this

theorem kept_ifRuns {s : State} {u : UnitId} {f : State → State} (h : Kept H qs s) (hf : ∀ s, Kept H qs s → Kept H qs (f s)) :
    Kept H qs (s.ifRuns u f) := by
  unfold State.ifRuns
  split
  · exact hf _ h
  · exact h

theorem kept_onLane {s : State} {l : LaneId} {c : Lane → Bool} {f : Lane → Lane} (h : Kept H qs s)
    (hf : ∀ n, (H → memWf n.main.mem = true) → H → memWf (f n).main.mem = true) : Kept H qs (s.onLane l c f) := by
  unfold State.onLane
  split
  · exact kept_setLane h (hf _ (fun hH => h.mem hH l))
  · exact h

theorem kept_polvinEvent {s : State} {n : Nat} {b : Bool} (h : Kept H qs s) : Kept H qs (s.polvinEvent n b) := ⟨h.queue, h.mem⟩

theorem kept_onIsland {s : State} {i : IslandId} {f : IslPair → IslPair} (h : Kept H qs s) : Kept H qs (s.onIsland i f) :=
  kept_ifRuns h (fun _ h => ⟨h.queue, h.mem⟩)

theorem kept_onChan {s : State} {f : FbId} {c : Nat} {g : FbChan → Nat → FbChan × Nat} (h : Kept H qs s) : Kept H qs (s.onChan f c g) :=
  kept_ifRuns h (fun _ h => ⟨h.queue, h.mem⟩)

theorem kept_onSio {s : State} {x : SioId} {f : UnitCommon → SafetyIO → UnitCommon × SafetyIO} (h : Kept H qs s) : Kept H qs (s.onSio x f) :=
  kept_ifRuns h (fun _ h => ⟨h.queue, h.mem⟩)

theorem kept_foldl {α : Type} (f : State → α → State) (hf : ∀ s x, Kept H qs s → Kept H qs (f s x)) (xs : List α) {s : State} (h : Kept H qs s) :
    Kept H qs (xs.foldl f s) := by
  induction xs generalizing s with
  | nil => exact h
  | cons x xs ih => exact ih (hf _ _ h)

theorem kept_map {s : State} (f : Lane → Lane) (hf : ∀ n, memWf n.main.mem = true → memWf (f n).main.mem = true) (h : Kept H qs s) :
    Kept H qs { s with lanes := s.lanes.map f } := by
  refine ⟨h.queue, fun hH l => ?_⟩
  have := hf _ (h.mem hH l)
  cases l <;> exact this

theorem State.setUnit_kept (s : State) (u : UnitId) (c : UnitCommon) (hk : Kept H qs s) :
    Kept H qs (State.setUnit s u c) := by
  unfold State.setUnit
  (try dsimp only)
  (repeat' split) <;> repeat' first
   | (with_reducible assumption) | intro _ | dsimp only | split | (with_reducible apply kept_mk)

theorem State.putIsl_kept (s : State) (i : IslandId) (p : IslPair) (hk : Kept H qs s) :
    Kept H qs (State.putIsl s i p) := by
  unfold State.putIsl
  (try dsimp only)
  (repeat' split) <;> repeat' first
   | (with_reducible assumption) | intro _ | dsimp only | split | (with_reducible apply kept_mk)

theorem State.putFb_kept (s : State) (f : FbId) (p : UnitCommon × Feedback) (hk : Kept H qs s) :
    Kept H qs (State.putFb s f p) := by
  unfold State.putFb
  (try dsimp only)
  (repeat' split) <;> repeat' first
   | (with_reducible assumption) | intro _ | dsimp only | split | (with_reducible apply kept_mk)

theorem State.putSio_kept (s : State) (x : SioId) (p : UnitCommon × SafetyIO) (hk : Kept H qs s) :
    Kept H qs (State.putSio s x p) := by
  unfold State.putSio
  (try dsimp only)
  (repeat' split) <;> repeat' first
   | (with_reducible assumption) | intro _ | dsimp only | split | (with_reducible apply kept_mk)

theorem State.reconfigure_kept (s : State) (backLim : Nat) (y0 : UnitId) (hk : Kept H qs s) :
    Kept H qs (State.reconfigure s backLim y0) := by
  unfold State.reconfigure
  (try dsimp only)
  (repeat' split) <;> repeat' first
   | (with_reducible assumption) | (with_reducible apply State.putIsl_kept) | (with_reducible apply State.putFb_kept)
   | (with_reducible apply State.putSio_kept) | intro _ | dsimp only | split | (with_reducible apply kept_mk)

theorem State.loadUnit_kept (s : State) (u : UnitId) (hk : Kept H qs s) :
    Kept H qs (State.loadUnit s u) := by
  unfold State.loadUnit
  (try dsimp only)
  (repeat' split) <;> repeat' first
   | (with_reducible assumption) | (with_reducible apply State.setUnit_kept) | (with_reducible apply State.reconfigure_kept) | intro _
   | dsimp only | split | (with_reducible apply kept_mk)

theorem State.chopperFault_kept (s : State) (b : BusId) (hk : Kept H qs s) :
    Kept H qs (State.chopperFault s b) := by
  unfold State.chopperFault
  (try dsimp only)
  (repeat' split) <;> repeat' first
   | (with_reducible assumption) | (with_reducible apply kept_foldl) | (with_reducible apply State.putIsl_kept)
   | (with_reducible apply kept_ifRuns) | (with_reducible refine Kept.mem (qs := qs) ?_ ‹_› _) | (with_reducible solve_by_elim)
   | intro _ | dsimp only | split | (with_reducible apply kept_mk)

theorem State.syncInhibit_kept (s : State) (hk : Kept H qs s) :
    Kept H qs (State.syncInhibit s) := by
  unfold State.syncInhibit
  (try dsimp only)
  (repeat' split) <;> repeat' first
   | (with_reducible assumption) | (with_reducible apply kept_foldl) | (with_reducible apply State.putIsl_kept)
   | (with_reducible apply kept_ifRuns) | (with_reducible refine Kept.mem (qs := qs) ?_ ‹_› _) | (with_reducible solve_by_elim)
   | intro _ | dsimp only | split | (with_reducible apply kept_mk)

theorem State.unitEvent_kept (s : State) (u : UnitId) (n : Nat) (forced : Bool) (hk : Kept H qs s) :
    Kept H qs (State.unitEvent s u n forced) := by
  unfold State.unitEvent
  (try dsimp only)
  (repeat' split) <;> repeat' first
   | (with_reducible assumption) | (with_reducible apply State.setUnit_kept) | intro _ | dsimp only | split
   | (with_reducible apply kept_mk)

theorem State.laneEvent_kept (s : State) (l : LaneId) (src : Nat) (hk : Kept H qs s) :
    Kept H qs (State.laneEvent s l src) := by
  unfold State.laneEvent
  (try dsimp only)
  (repeat' split) <;> repeat' first
   | (with_reducible assumption) | (with_reducible apply kept_setLane) | (with_reducible refine Kept.mem (qs := qs) ?_ ‹_› _)
   | (with_reducible solve_by_elim) | intro _ | (simp only [Lane.event_mem]) | dsimp only | split | (with_reducible apply kept_mk)
   | rfl

theorem State.polvinEvent_kept (s : State) (n : Nat) (forced : Bool) (hk : Kept H qs s) :
    Kept H qs (State.polvinEvent s n forced) := by
  unfold State.polvinEvent
  (try dsimp only)
  (repeat' split) <;> repeat' first
   | (with_reducible assumption) | intro _ | dsimp only | split | (with_reducible apply kept_mk)

theorem State.restartSupply_kept (s : State) (x : SioId) (p : Nat) (hk : Kept H qs s) :
    Kept H qs (State.restartSupply s x p) := by
  unfold State.restartSupply
  (try dsimp only)
  (repeat' split) <;> repeat' first
   | (with_reducible assumption) | (with_reducible apply kept_foldl) | (with_reducible apply kept_setLane)
   | (with_reducible refine Kept.mem (qs := qs) ?_ ‹_› _) | (with_reducible solve_by_elim) | intro _ | dsimp only | split
   | (with_reducible apply kept_mk) | rfl

theorem State.draw_kept (s : State) (hk : Kept H qs s) :
    Kept H qs (State.draw s).2 := by
  unfold State.draw
  (try dsimp only)
  (repeat' split) <;> repeat' first
   | (with_reducible assumption) | intro _ | dsimp only | split | (with_reducible apply kept_mk)

theorem State.logAs_kept (s : State) (w : Option Writer) (action code arg : Nat) (chash : Bytes) (hk : Kept H qs s) :
    Kept H qs (State.logAs s w action code arg chash) := by
  unfold State.logAs
  (try dsimp only)
  (repeat' split) <;> repeat' first
   | (with_reducible assumption) | (with_reducible apply kept_polvinEvent) | (with_reducible apply kept_polvinEvent) | intro _
   | dsimp only | split | (with_reducible apply kept_mk)

theorem State.logEvent_kept (s : State) (action code arg : Nat) (chash : Bytes) (hk : Kept H qs s) :
    Kept H qs (State.logEvent s action code arg chash) := by
  unfold State.logEvent
  (try dsimp only)
  (repeat' split) <;> repeat' first
   | (with_reducible assumption) | (with_reducible apply State.logAs_kept) | intro _ | dsimp only | split
   | (with_reducible apply kept_mk)

theorem State.passFail_kept (s : State) (forced : Bool) (hk : Kept H qs s) :
    Kept H qs (State.passFail s forced) := by
  unfold State.passFail
  (try dsimp only)
  (repeat' split) <;> repeat' first
   | (with_reducible assumption) | (with_reducible apply kept_polvinEvent) | (with_reducible apply State.logEvent_kept)
   | (with_reducible apply kept_polvinEvent) | intro _ | dsimp only | split | (with_reducible apply kept_mk)

theorem State.secCommand_kept (s : State) (bit : Nat) (w : Writer) (hk : Kept H qs s) :
    Kept H qs (State.secCommand s bit w) := by
  unfold State.secCommand
  (try dsimp only)
  (repeat' split) <;> repeat' first
   | (with_reducible assumption) | (with_reducible apply State.draw_kept) | (with_reducible apply State.passFail_kept) | intro _
   | dsimp only | split | (with_reducible apply kept_mk)

theorem State.secAsked_kept (s : State) (bit : Nat) (w : Writer) (hk : Kept H qs s) :
    Kept H qs (State.secAsked s bit w) := by
  unfold State.secAsked
  (try dsimp only)
  (repeat' split) <;> repeat' first
   | (with_reducible assumption) | (with_reducible apply State.secCommand_kept) | intro _ | dsimp only | split
   | (with_reducible apply kept_mk)

theorem State.secRange_kept (s : State) (bits : Nat) (w : Writer) (hk : Kept H qs s) :
    Kept H qs (State.secRange s bits w) := by
  unfold State.secRange
  (try dsimp only)
  (repeat' split) <;> repeat' first
   | (with_reducible assumption) | (with_reducible apply State.logAs_kept) | intro _ | dsimp only | split
   | (with_reducible apply kept_mk)

theorem State.secDone_kept (s : State) (logOk : Bool) (hk : Kept H qs s) :
    Kept H qs (State.secDone s logOk) := by
  unfold State.secDone
  (try dsimp only)
  (repeat' split) <;> repeat' first
   | (with_reducible assumption) | (with_reducible apply kept_polvinEvent) | (with_reducible apply kept_polvinEvent)
   | (with_reducible refine Kept.mem (qs := qs) ?_ ‹_› _) | (with_reducible solve_by_elim) | intro _ | dsimp only | split
   | (with_reducible apply kept_mk)

theorem State.serviceLeft_kept (s : State) (hk : Kept H qs s) :
    Kept H qs (State.serviceLeft s) := by
  unfold State.serviceLeft
  (try dsimp only)
  (repeat' split) <;> repeat' first
   | (with_reducible assumption) | intro _ | dsimp only | split | (with_reducible apply kept_mk)

theorem State.polvinTime_kept (s : State) (l : LaneId) (hk : Kept H qs s) :
    Kept H qs (State.polvinTime s l) := by
  unfold State.polvinTime
  (try dsimp only)
  (repeat' split) <;> repeat' first
   | (with_reducible assumption) | intro _ | dsimp only | split | (with_reducible apply kept_mk)

theorem State.polvinWakes_kept (s : State) (hk : Kept H qs s) :
    Kept H qs (State.polvinWakes s) := by
  unfold State.polvinWakes
  (try dsimp only)
  (repeat' split) <;> repeat' first
   | (with_reducible assumption) | intro _ | dsimp only | split | (with_reducible apply kept_mk)

theorem State.polvinEntries_kept (s : State) (l : LaneId) (hk : Kept H qs s) :
    Kept H qs (State.polvinEntries s l) := by
  unfold State.polvinEntries
  (try dsimp only)
  (repeat' split) <;> repeat' first
   | (with_reducible assumption) | (with_reducible apply State.loaded_kept) | (with_reducible refine Kept.mem (qs := qs) ?_ ‹_› _)
   | (with_reducible solve_by_elim) | intro _ | dsimp only | split | (with_reducible apply kept_mk)

theorem State.polvinCanvas_kept (s : State) (hk : Kept H qs s) :
    Kept H qs (State.polvinCanvas s) := by
  unfold State.polvinCanvas
  (try dsimp only)
  (repeat' split) <;> repeat' first
   | (with_reducible assumption) | (with_reducible apply State.polvinEntries_kept) | intro _ | dsimp only | split
   | (with_reducible apply kept_mk)

theorem unitReadClear_kept (s was : State) (u : UnitId) (addr : Nat) (hk : Kept H qs s) :
    Kept H qs (unitReadClear s was u addr) := by
  unfold unitReadClear
  (try dsimp only)
  (repeat' split) <;> repeat' first
   | (with_reducible assumption) | (with_reducible apply State.setUnit_kept) | (with_reducible apply State.putIsl_kept)
   | (with_reducible apply State.putFb_kept) | (with_reducible apply State.putSio_kept) | intro _ | dsimp only | split
   | (with_reducible apply kept_mk)

theorem State.forceVoter_kept (s : State) (u : UnitId) (n : Nat) (hk : Kept H qs s) :
    Kept H qs (State.forceVoter s u n) := by
  unfold State.forceVoter
  (try dsimp only)
  (repeat' split) <;> repeat' first
   | (with_reducible assumption) | (with_reducible apply State.setUnit_kept) | intro _ | dsimp only | split
   | (with_reducible apply kept_mk)

theorem State.forceUnit_kept (s : State) (u : UnitId) (n : Nat) (hk : Kept H qs s) :
    Kept H qs (State.forceUnit s u n) := by
  unfold State.forceUnit
  (try dsimp only)
  (repeat' split) <;> repeat' first
   | (with_reducible assumption) | (with_reducible apply kept_foldl) | (with_reducible apply State.putIsl_kept)
   | (with_reducible apply State.putSio_kept) | (with_reducible apply kept_ifRuns) | (with_reducible apply State.unitEvent_kept)
   | (with_reducible apply State.forceVoter_kept) | (with_reducible apply State.loaded_kept)
   | (with_reducible refine Kept.mem (qs := qs) ?_ ‹_› _) | (with_reducible solve_by_elim) | intro _ | dsimp only | split
   | (with_reducible apply kept_mk)

theorem State.clearChopper_kept (s : State) (b : BusId) (hk : Kept H qs s) :
    Kept H qs (State.clearChopper s b) := by
  unfold State.clearChopper
  (try dsimp only)
  (repeat' split) <;> repeat' first
   | (with_reducible assumption) | (with_reducible apply kept_lanes) | (with_reducible apply kept_foldl)
   | (with_reducible apply State.putIsl_kept) | (with_reducible apply kept_ifRuns)
   | (with_reducible refine Kept.mem (qs := qs) ?_ ‹_› _) | (with_reducible solve_by_elim) | intro _
   | (simp only [Lane.chopperCleared_mem]) | dsimp only | split | (with_reducible apply kept_mk) | rfl

theorem islandWrite_kept (s : State) (i : IslandId) (blk off v : Nat) (hk : Kept H qs s) :
    Kept H qs (islandWrite s i blk off v) := by
  unfold islandWrite
  (try dsimp only)
  (repeat' split) <;> repeat' first
   | (with_reducible assumption) | (with_reducible apply State.putIsl_kept) | (with_reducible apply State.clearChopper_kept) | intro _
   | dsimp only | split | (with_reducible apply kept_mk)

theorem unitWrite_kept (s : State) (u : UnitId) (a : RegAcc) (hk : Kept H qs s) :
    Kept H qs (unitWrite s u a) := by
  unfold unitWrite
  (try dsimp only)
  (repeat' split) <;> repeat' first
   | (with_reducible assumption) | (with_reducible apply kept_foldl) | (with_reducible apply State.setUnit_kept)
   | (with_reducible apply State.putFb_kept) | (with_reducible apply State.restartSupply_kept)
   | (with_reducible apply State.forceUnit_kept) | (with_reducible apply islandWrite_kept)
   | (with_reducible refine Kept.mem (qs := qs) ?_ ‹_› _) | (with_reducible solve_by_elim) | intro _ | dsimp only | split
   | (with_reducible apply kept_mk)

theorem unitWrites_kept (s : State) (u : UnitId) (hk : Kept H qs s) :
    Kept H qs (unitWrites s u) := by
  unfold unitWrites
  (try dsimp only)
  (repeat' split) <;> repeat' first
   | (with_reducible assumption) | (with_reducible apply kept_foldl) | (with_reducible apply State.setUnit_kept)
   | (with_reducible apply unitWrite_kept) | (with_reducible refine Kept.mem (qs := qs) ?_ ‹_› _) | (with_reducible solve_by_elim)
   | intro _ | (simp only [Lane.handOver_mem]) | dsimp only | split | (with_reducible apply kept_mk)

theorem State.takeSnap_kept (s : State) (u : UnitId) (hk : Kept H qs s) :
    Kept H qs (State.takeSnap s u) := by
  unfold State.takeSnap
  (try dsimp only)
  (repeat' split) <;> repeat' first
   | (with_reducible assumption) | intro _ | dsimp only | split | (with_reducible apply kept_mk)

theorem State.withSnap_kept (s : State) (u : UnitId) (p : UnitSnap) (hk : Kept H qs s) :
    Kept H qs (State.withSnap s u p) := by
  unfold State.withSnap
  (try dsimp only)
  (repeat' split) <;> repeat' first
   | (with_reducible assumption) | (with_reducible apply State.setUnit_kept) | intro _ | dsimp only | split
   | (with_reducible apply kept_mk)

theorem unitServe_kept (s : State) (u : UnitId) (l : LaneId) (addr : Nat) (hk : Kept H qs s) :
    Kept H qs (unitServe s u l addr).1 := by
  unfold unitServe
  (try dsimp only)
  (repeat' split) <;> repeat' first
   | (with_reducible assumption) | (with_reducible apply unitReadClear_kept) | (with_reducible apply State.withSnap_kept)
   | (with_reducible refine Kept.mem (qs := qs) ?_ ‹_› _) | (with_reducible solve_by_elim) | intro _ | dsimp only | split
   | (with_reducible apply kept_mk)

theorem unitAnswers_kept (s : State) (u : UnitId) (l : LaneId) (y0 : List RegAcc) (hk : Kept H qs s) :
    Kept H qs (unitAnswers s u l y0).1 := by
  induction y0 generalizing s with
  | nil => exact hk
  | cons a r ih =>
    unfold unitAnswers
    split
    · exact ih _ hk
    · exact ih _ (unitServe_kept _ _ _ _ hk)

theorem unitSymbol_kept (s : State) (u : UnitId) (l : LaneId) (accs : List RegAcc) (hk : Kept H qs s) :
    Kept H qs (unitSymbol s u l accs) := by
  unfold unitSymbol
  (try dsimp only)
  (repeat' split) <;> repeat' first
   | (with_reducible assumption) | (with_reducible apply State.setUnit_kept) | (with_reducible apply unitAnswers_kept)
   | (with_reducible refine Kept.mem (qs := qs) ?_ ‹_› _) | (with_reducible solve_by_elim) | intro _ | dsimp only | split
   | (with_reducible apply kept_mk)

theorem State.receiveBlock_kept (s : State) (u : UnitId) (l : LaneId) (bs : Bytes) (stale : Nat) (hk : Kept H qs s) :
    Kept H qs (State.receiveBlock s u l bs stale) := by
  unfold State.receiveBlock
  (try dsimp only)
  (repeat' split) <;> repeat' first
   | (with_reducible assumption) | (with_reducible apply State.setUnit_kept) | (with_reducible apply State.loadUnit_kept) | intro _
   | dsimp only | split | (with_reducible apply kept_mk)

theorem State.resetPart_kept (s : State) (y0 : UnitId) (hk : Kept H qs s) :
    Kept H qs (State.resetPart s y0) := by
  unfold State.resetPart
  (try dsimp only)
  (repeat' split) <;> repeat' first
   | (with_reducible assumption) | intro _ | dsimp only | split | (with_reducible apply kept_mk)

theorem State.viewsReset_kept (s : State) (u : UnitId) (hk : Kept H qs s) :
    Kept H qs (State.viewsReset s u) := by
  unfold State.viewsReset
  (try dsimp only)
  (repeat' split) <;> repeat' first
   | (with_reducible assumption) | (with_reducible apply kept_lanes) | (with_reducible refine Kept.mem (qs := qs) ?_ ‹_› _)
   | (with_reducible solve_by_elim) | intro _ | (simp only [Lane.onUnit_mem]) | dsimp only | split | (with_reducible apply kept_mk)
   | rfl

theorem State.unitOn_kept (s : State) (u : UnitId) (hk : Kept H qs s) :
    Kept H qs (State.unitOn s u) := by
  unfold State.unitOn
  (try dsimp only)
  (repeat' split) <;> repeat' first
   | (with_reducible assumption) | (with_reducible apply State.setUnit_kept) | intro _ | dsimp only | split
   | (with_reducible apply kept_mk)

theorem State.unitSleeps_kept (s : State) (u : UnitId) (hk : Kept H qs s) :
    Kept H qs (State.unitSleeps s u) := by
  unfold State.unitSleeps
  (try dsimp only)
  (repeat' split) <;> repeat' first
   | (with_reducible assumption) | (with_reducible apply State.setUnit_kept) | (with_reducible apply State.viewsReset_kept)
   | (with_reducible refine Kept.mem (qs := qs) ?_ ‹_› _) | (with_reducible solve_by_elim) | intro _ | dsimp only | split
   | (with_reducible apply kept_mk)

theorem State.unitRequest_kept (s : State) (u : UnitId) (target : DomState) (hk : Kept H qs s) :
    Kept H qs (State.unitRequest s u target) := by
  unfold State.unitRequest
  (try dsimp only)
  (repeat' split) <;> repeat' first
   | (with_reducible assumption) | (with_reducible apply State.setUnit_kept) | (with_reducible apply State.resetPart_kept)
   | (with_reducible apply State.viewsReset_kept) | (with_reducible apply State.unitOn_kept)
   | (with_reducible apply State.unitSleeps_kept) | intro _ | dsimp only | split | (with_reducible apply kept_mk)

theorem State.unitSlot_kept (s : State) (u : UnitId) (waiting : Option DomState) (hk : Kept H qs s) :
    Kept H qs (State.unitSlot s u waiting) := by
  unfold State.unitSlot
  (try dsimp only)
  (repeat' split) <;> repeat' first
   | (with_reducible assumption) | (with_reducible apply State.unitRequest_kept) | intro _ | dsimp only | split
   | (with_reducible apply kept_mk)

theorem State.unitReturns_kept (s : State) (u : UnitId) (hk : Kept H qs s) :
    Kept H qs (State.unitReturns s u) := by
  unfold State.unitReturns
  (try dsimp only)
  (repeat' split) <;> repeat' first
   | (with_reducible assumption) | (with_reducible apply State.unitOn_kept) | (with_reducible apply State.unitSlot_kept) | intro _
   | dsimp only | split | (with_reducible apply kept_mk)

theorem State.linksDown_kept (s : State) (l : LaneId) (hk : Kept H qs s) :
    Kept H qs (State.linksDown s l) := by
  unfold State.linksDown
  (try dsimp only)
  (repeat' split) <;> repeat' first
   | (with_reducible assumption) | (with_reducible apply kept_foldl) | (with_reducible apply State.setUnit_kept)
   | (with_reducible refine Kept.mem (qs := qs) ?_ ‹_› _) | (with_reducible solve_by_elim) | intro _ | dsimp only | split
   | (with_reducible apply kept_mk)

theorem State.sessionDown_kept (s : State) (hk : Kept H qs s) :
    Kept H qs (State.sessionDown s) := by
  unfold State.sessionDown
  (try dsimp only)
  (repeat' split) <;> repeat' first
   | (with_reducible assumption) | (with_reducible apply kept_lanes) | (with_reducible refine Kept.mem (qs := qs) ?_ ‹_› _)
   | (with_reducible solve_by_elim) | intro _ | (simp only [Lane.onMain_mem]) | dsimp only | split | (with_reducible apply kept_mk)
   | rfl

theorem State.planeDown_kept (s : State) (l : LaneId) (hk : Kept H qs s) :
    Kept H qs (State.planeDown s l) := by
  unfold State.planeDown
  (try dsimp only)
  (repeat' split) <;> repeat' first
   | (with_reducible assumption) | (with_reducible apply kept_setLane) | (with_reducible apply State.sessionDown_kept)
   | (with_reducible refine Kept.mem (qs := qs) ?_ ‹_› _) | (with_reducible solve_by_elim) | intro _ | (simp only [Lane.onMain_mem])
   | dsimp only | split | (with_reducible apply kept_mk) | rfl

theorem State.laneDown_kept (s : State) (l : LaneId) (st : LState) (dom : DomState) (hk : Kept H qs s) :
    Kept H qs (State.laneDown s l st dom) := by
  unfold State.laneDown
  (try dsimp only)
  (repeat' split) <;> repeat' first
   | (with_reducible assumption) | (with_reducible apply kept_setLane) | (with_reducible apply State.syncInhibit_kept)
   | (with_reducible apply State.linksDown_kept) | (with_reducible apply State.planeDown_kept)
   | (with_reducible refine Kept.mem (qs := qs) ?_ ‹_› _) | (with_reducible solve_by_elim) | intro _ | dsimp only | split
   | (with_reducible apply kept_mk) | rfl

theorem State.retire_kept (s : State) (l : LaneId) (src : Nat) (hk : Kept H qs s) :
    Kept H qs (State.retire s l src) := by
  unfold State.retire
  (try dsimp only)
  (repeat' split) <;> repeat' first
   | (with_reducible assumption) | (with_reducible apply kept_setLane) | (with_reducible apply State.laneDown_kept)
   | (with_reducible refine Kept.mem (qs := qs) ?_ ‹_› _) | (with_reducible solve_by_elim) | intro _ | dsimp only | split
   | (with_reducible apply kept_mk) | rfl

theorem State.clearOne_kept (s : State) (l : LaneId) (hk : Kept H qs s) :
    Kept H qs (State.clearOne s l) := by
  unfold State.clearOne
  (try dsimp only)
  (repeat' split) <;> repeat' first
   | (with_reducible assumption) | (with_reducible apply kept_setLane) | (with_reducible apply State.laneDown_kept)
   | (with_reducible refine Kept.mem (qs := qs) ?_ ‹_› _) | (with_reducible solve_by_elim) | intro _ | dsimp only | split
   | (with_reducible apply kept_mk) | rfl

theorem State.clearRetired_kept (s : State) (mask : Nat) (w : Writer) (hk : Kept H qs s) :
    Kept H qs (State.clearRetired s mask w) := by
  unfold State.clearRetired
  (try dsimp only)
  (repeat' split) <;> repeat' first
   | (with_reducible assumption) | (with_reducible apply kept_foldl) | (with_reducible apply State.logAs_kept)
   | (with_reducible apply State.clearOne_kept) | (with_reducible refine Kept.mem (qs := qs) ?_ ‹_› _)
   | (with_reducible solve_by_elim) | intro _ | dsimp only | split | (with_reducible apply kept_mk)

theorem State.clearWaiting_kept (s : State) (hk : Kept H qs s) :
    Kept H qs (State.clearWaiting s) := by
  unfold State.clearWaiting
  (try dsimp only)
  (repeat' split) <;> repeat' first
   | (with_reducible assumption) | (with_reducible apply State.clearRetired_kept) | intro _ | dsimp only | split
   | (with_reducible apply kept_mk)

theorem State.retireClear_kept (s : State) (mask : Nat) (w : Writer) (hk : Kept H qs s) :
    Kept H qs (State.retireClear s mask w) := by
  unfold State.retireClear
  (try dsimp only)
  (repeat' split) <;> repeat' first
   | (with_reducible assumption) | (with_reducible apply State.clearRetired_kept) | intro _ | dsimp only | split
   | (with_reducible apply kept_mk)

theorem State.shareBk_kept (s : State) (hk : Kept H qs s) :
    Kept H qs (State.shareBk s) := by
  unfold State.shareBk
  (try dsimp only)
  (repeat' split) <;> repeat' first
   | (with_reducible assumption) | (with_reducible apply kept_lanes) | (with_reducible refine Kept.mem (qs := qs) ?_ ‹_› _)
   | (with_reducible solve_by_elim) | intro _ | (simp only [Lane.onMain_mem]) | dsimp only | split | (with_reducible apply kept_mk)
   | rfl

theorem State.attestTake_kept (s : State) (nonce : Bytes) (hk : Kept H qs s) :
    Kept H qs (State.attestTake s nonce) := by
  unfold State.attestTake
  (try dsimp only)
  (repeat' split) <;> repeat' first
   | (with_reducible assumption) | intro _ | dsimp only | split | (with_reducible apply kept_mk)

theorem State.nonceWrite_kept (s : State) (index value mask : Nat) (hk : Kept H qs s) :
    Kept H qs (State.nonceWrite s index value mask) := by
  unfold State.nonceWrite
  (try dsimp only)
  (repeat' split) <;> repeat' first
   | (with_reducible assumption) | (with_reducible apply State.attestTake_kept) | intro _ | dsimp only | split
   | (with_reducible apply kept_mk)

theorem State.secCtrl_kept (s : State) (v : Nat) (w : Writer) (hk : Kept H qs s) :
    Kept H qs (State.secCtrl s v w) := by
  unfold State.secCtrl
  (try dsimp only)
  (repeat' split) <;> repeat' first
   | (with_reducible assumption) | (with_reducible apply State.secCommand_kept) | (with_reducible apply State.secRange_kept) | intro _
   | dsimp only | split | (with_reducible apply kept_mk)

theorem State.secWrite_kept (s : State) (off v mask : Nat) (w : Writer) (hk : Kept H qs s) :
    Kept H qs (State.secWrite s off v mask w) := by
  unfold State.secWrite
  (try dsimp only)
  (repeat' split) <;> repeat' first
   | (with_reducible assumption) | (with_reducible apply State.retireClear_kept) | (with_reducible apply State.nonceWrite_kept)
   | (with_reducible apply State.secCtrl_kept) | intro _ | dsimp only | split | (with_reducible apply kept_mk)

theorem State.noteEpoch_kept (s : State) (e : Nat) (used : Bool) (hk : Kept H qs s) :
    Kept H qs (State.noteEpoch s e used) := by
  unfold State.noteEpoch
  (try dsimp only)
  (repeat' split) <;> repeat' first
   | (with_reducible assumption) | intro _ | dsimp only | split | (with_reducible apply kept_mk)

theorem State.beacon_kept (s : State) (l : LaneId) (f : RxFrame) (hk : Kept H qs s) :
    Kept H qs (State.beacon s l f) := by
  unfold State.beacon
  (try dsimp only)
  (repeat' split) <;> repeat' first
   | (with_reducible assumption) | (with_reducible apply kept_setLane) | (with_reducible apply State.noteEpoch_kept)
   | (with_reducible refine Kept.mem (qs := qs) ?_ ‹_› _) | (with_reducible solve_by_elim) | intro _
   | (simp only [Lane.countBad_mem, Lane.countTag_mem, Lane.beaconHeard_mem]) | dsimp only | split | (with_reducible apply kept_mk)
   | rfl

theorem State.randomFailed_kept (s : State) (hk : Kept H qs s) :
    Kept H qs (State.randomFailed s) := by
  unfold State.randomFailed
  (try dsimp only)
  (repeat' split) <;> repeat' first
   | (with_reducible assumption) | (with_reducible apply kept_foldl) | (with_reducible apply kept_setLane)
   | (with_reducible refine Kept.mem (qs := qs) ?_ ‹_› _) | (with_reducible solve_by_elim) | intro _
   | (simp only [Lane.abandon_mem]) | dsimp only | split | (with_reducible apply kept_mk) | rfl

theorem State.forcePolvin_kept (s : State) (n : Nat) (hk : Kept H qs s) :
    Kept H qs (State.forcePolvin s n) := by
  unfold State.forcePolvin
  (try dsimp only)
  (repeat' split) <;> repeat' first
   | (with_reducible assumption) | (with_reducible apply kept_polvinEvent) | (with_reducible apply State.passFail_kept)
   | (with_reducible apply State.randomFailed_kept) | (with_reducible apply kept_polvinEvent) | intro _ | dsimp only | split
   | (with_reducible apply kept_mk)

theorem State.serveJoin_kept (s : State) (hk : Kept H qs s) :
    Kept H qs (State.serveJoin s) := by
  unfold State.serveJoin
  (try dsimp only)
  (repeat' split) <;> repeat' first
   | (with_reducible assumption) | (with_reducible apply kept_setLane) | (with_reducible apply State.draw_kept)
   | (with_reducible refine Kept.mem (qs := qs) ?_ ‹_› _) | (with_reducible solve_by_elim) | intro _
   | (simp only [Lane.putJoin_mem]) | dsimp only | split | (with_reducible apply kept_mk) | rfl

theorem State.joinTick_kept (s : State) (l : LaneId) (hk : Kept H qs s) :
    Kept H qs (State.joinTick s l) := by
  unfold State.joinTick
  split
  · refine kept_setLane hk (fun hH => ?_)
    rw [foldl_mem _ (fun n p => by simp)]
    exact hk.mem hH l
  · split
    · exact State.serveJoin_kept _ ⟨hk.queue, hk.mem⟩
    · exact hk

theorem State.joinMsg1Whole_kept (s : State) (l : LaneId) (peer : Nat) (msg : Bytes) (dev : Int) (hk : Kept H qs s) :
    Kept H qs (State.joinMsg1Whole s l peer msg dev) := by
  unfold State.joinMsg1Whole
  (try dsimp only)
  (repeat' split) <;> repeat' first
   | (with_reducible assumption) | (with_reducible apply kept_setLane) | (with_reducible apply State.serveJoin_kept)
   | (with_reducible refine Kept.mem (qs := qs) ?_ ‹_› _) | (with_reducible solve_by_elim) | intro _
   | (simp only [Lane.event_mem, Lane.putJoin_mem, Lane.abandon_mem]) | dsimp only | split | (with_reducible apply kept_mk) | rfl

theorem State.joinMsg3Whole_kept (s : State) (l : LaneId) (j : Join) (msg : Bytes) (hk : Kept H qs s) :
    Kept H qs (State.joinMsg3Whole s l j msg) := by
  unfold State.joinMsg3Whole
  (try dsimp only)
  (repeat' split) <;> repeat' first
   | (with_reducible assumption) | (with_reducible apply kept_setLane) | (with_reducible refine Kept.mem (qs := qs) ?_ ‹_› _)
   | (with_reducible solve_by_elim) | intro _ | (simp only [Lane.event_mem, Lane.putJoin_mem, Lane.abandon_mem]) | dsimp only
   | split | (with_reducible apply kept_mk) | rfl

theorem State.joinFragment_kept (s : State) (l : LaneId) (peer : Nat) (pay : Bytes) (dev : Int) (hk : Kept H qs s) :
    Kept H qs (State.joinFragment s l peer pay dev) := by
  unfold State.joinFragment
  (try dsimp only)
  (repeat' split) <;> repeat' first
   | (with_reducible assumption) | (with_reducible apply kept_setLane) | (with_reducible apply State.joinMsg1Whole_kept)
   | (with_reducible apply State.joinMsg3Whole_kept) | (with_reducible refine Kept.mem (qs := qs) ?_ ‹_› _)
   | (with_reducible solve_by_elim) | intro _ | (simp only [Lane.putJoin_mem, Lane.abandon_mem]) | dsimp only | split
   | (with_reducible apply kept_mk) | rfl

theorem State.joinFrame_kept (s : State) (l : LaneId) (f : RxFrame) (hk : Kept H qs s) :
    Kept H qs (State.joinFrame s l f) := by
  unfold State.joinFrame
  (try dsimp only)
  (repeat' split) <;> repeat' first
   | (with_reducible assumption) | (with_reducible apply kept_setLane) | (with_reducible apply State.joinFragment_kept)
   | (with_reducible refine Kept.mem (qs := qs) ?_ ‹_› _) | (with_reducible solve_by_elim) | intro _
   | (simp only [Lane.onNet_mem, Lane.countBad_mem]) | dsimp only | split | (with_reducible apply kept_mk) | rfl

theorem State.frameIn_kept (s : State) (l : LaneId) (f : RxFrame) (hk : Kept H qs s) :
    Kept H qs (State.frameIn s l f) := by
  unfold State.frameIn
  (try dsimp only)
  (repeat' split) <;> repeat' first
   | (with_reducible assumption) | (with_reducible apply kept_setLane) | (with_reducible apply State.beacon_kept)
   | (with_reducible apply State.joinFrame_kept) | (with_reducible refine Kept.mem (qs := qs) ?_ ‹_› _)
   | (with_reducible solve_by_elim) | intro _ | (simp only [Lane.countBad_mem, Lane.ownStatus_mem, Lane.scheduledFrame_mem])
   | dsimp only | split | (with_reducible apply kept_mk) | rfl

theorem State.portFrame_kept (s : State) (l : LaneId) (f : RxFrame) (hk : Kept H qs s) :
    Kept H qs (State.portFrame s l f) := by
  unfold State.portFrame
  (try dsimp only)
  (repeat' split) <;> repeat' first
   | (with_reducible assumption) | (with_reducible apply kept_setLane) | (with_reducible refine Kept.mem (qs := qs) ?_ ‹_› _)
   | (with_reducible solve_by_elim) | intro _
   | (simp only [Lane.onDma_mem, Lane.raiseLine_mem, Lane.onNet_mem, Lane.countBad_mem, Lane.countSlot_mem, Lane.countTag_mem])
   | dsimp only | split | (with_reducible apply kept_mk) | rfl

theorem State.handKey_kept (s : State) (plane peer : Nat) (k : BitVec 128) (epoch joinAt : Nat) (hk : Kept H qs s) :
    Kept H qs (State.handKey s plane peer k epoch joinAt) := by
  unfold State.handKey
  (try dsimp only)
  (repeat' split) <;> repeat' first
   | (with_reducible assumption) | (with_reducible apply kept_lanes) | (with_reducible refine Kept.mem (qs := qs) ?_ ‹_› _)
   | (with_reducible solve_by_elim) | intro _ | (simp only [Lane.onNet_mem]) | dsimp only | split | (with_reducible apply kept_mk)
   | rfl

theorem State.giveGroup_kept (s : State) (plane : Nat) (k : BitVec 128) (hk : Kept H qs s) :
    Kept H qs (State.giveGroup s plane k) := by
  unfold State.giveGroup
  (try dsimp only)
  (repeat' split) <;> repeat' first
   | (with_reducible assumption) | (with_reducible apply kept_lanes) | (with_reducible refine Kept.mem (qs := qs) ?_ ‹_› _)
   | (with_reducible solve_by_elim) | intro _ | (simp only [Lane.onNet_mem]) | dsimp only | split | (with_reducible apply kept_mk)
   | rfl

theorem State.cnvDo_kept (s : State) (l : LaneId) (f : Lane → Lane) (hk : Kept H qs s) (hf : ∀ n, memWf n.main.mem = true → memWf (f n).main.mem = true) :
    Kept H qs (State.cnvDo s l f) := by
  unfold State.cnvDo
  dsimp only
  split
  · refine kept_setLane hk (fun hH => ?_)
    split
    · exact hf _ (hk.mem hH l)
    · rw [Lane.cnvRefused_mem]
      exact hk.mem hH l
  · exact hk

theorem State.commit_kept (s : State) (l : LaneId) (w : Option Writer) (hash delay : Nat) (logOk : Bool) (hk : Kept H qs s) :
    Kept H qs (State.commit s l w hash delay logOk) := by
  unfold State.commit
  (try dsimp only)
  (repeat' split) <;> repeat' first
   | (with_reducible assumption) | (with_reducible apply kept_setLane) | (with_reducible apply State.logAs_kept)
   | (with_reducible refine Kept.mem (qs := qs) ?_ ‹_› _) | (with_reducible solve_by_elim) | intro _
   | (simp only [Lane.onLoader_mem]) | dsimp only | split | (with_reducible apply kept_mk) | rfl

theorem State.dropLapsed_kept (s : State) (u : UnitId) (hk : Kept H qs s) :
    Kept H qs (State.dropLapsed s u) := by
  unfold State.dropLapsed
  (try dsimp only)
  (repeat' split) <;> repeat' first
   | (with_reducible assumption) | (with_reducible apply State.setUnit_kept) | (with_reducible refine Kept.mem (qs := qs) ?_ ‹_› _)
   | (with_reducible solve_by_elim) | intro _ | dsimp only | split | (with_reducible apply kept_mk)

theorem State.groupRound_kept (s : State) (u : UnitId) (hk : Kept H qs s) :
    Kept H qs (State.groupRound s u) := by
  unfold State.groupRound
  (try dsimp only)
  (repeat' split) <;> repeat' first
   | (with_reducible assumption) | (with_reducible apply kept_foldl) | (with_reducible apply kept_setLane)
   | (with_reducible apply State.setUnit_kept) | (with_reducible refine Kept.mem (qs := qs) ?_ ‹_› _)
   | (with_reducible solve_by_elim) | intro _ | (simp only [Lane.groupDone_mem]) | dsimp only | split
   | (with_reducible apply kept_mk) | rfl

theorem State.serviceOthers_kept (s : State) (l : LaneId) (hk : Kept H qs s) :
    Kept H qs (State.serviceOthers s l) := by
  unfold State.serviceOthers
  (try dsimp only)
  (repeat' split) <;> repeat' first
   | (with_reducible assumption) | (with_reducible apply kept_foldl) | (with_reducible apply kept_setLane)
   | (with_reducible refine Kept.mem (qs := qs) ?_ ‹_› _) | (with_reducible solve_by_elim) | intro _
   | (simp only [Lane.clearLatched_mem]) | dsimp only | split | (with_reducible apply kept_mk) | rfl

theorem State.serviceIn_kept (s : State) (l : LaneId) (w : Option Writer) (hk : Kept H qs s) :
    Kept H qs (State.serviceIn s l w) := by
  unfold State.serviceIn
  (try dsimp only)
  (repeat' split) <;> repeat' first
   | (with_reducible assumption) | (with_reducible apply kept_setLane) | (with_reducible apply State.syncInhibit_kept)
   | (with_reducible apply State.logAs_kept) | (with_reducible apply State.serviceOthers_kept)
   | (with_reducible refine Kept.mem (qs := qs) ?_ ‹_› _) | (with_reducible solve_by_elim) | intro _
   | (simp only [Lane.enterService_mem, Lane.portPhy_mem]) | dsimp only | split | (with_reducible apply kept_mk) | rfl

theorem State.serviceOut_kept (s : State) (l : LaneId) (w : Option Writer) (f : Lane → Lane) (hk : Kept H qs s) (hf : ∀ n, memWf n.main.mem = true → memWf (f n).main.mem = true) :
    Kept H qs (State.serviceOut s l w f) := by
  unfold State.serviceOut
  dsimp only
  have h := State.syncInhibit_kept _ (kept_setLane (l := l) (n := (f (s.lanes.get l)).onMain (fun m => { m with service := { m.service with stream := none } }))
    hk (fun hH => hf _ (hk.mem hH l)))
  split
  · exact State.logAs_kept _ _ _ _ _ _ (State.sessionDown_kept _ (State.serviceLeft_kept _ h))
  · exact h

theorem State.serviceCheck_kept (s : State) (l : LaneId) (hk : Kept H qs s) :
    Kept H qs (State.serviceCheck s l) := by
  unfold State.serviceCheck
  (try dsimp only)
  (repeat' split) <;> repeat' first
   | (with_reducible assumption) | (with_reducible apply State.serviceOut_kept) | intro _ | (simp only [Lane.halt_mem]) | dsimp only
   | split | (with_reducible apply kept_mk)

theorem State.svcreq_kept (s : State) (l : LaneId) (w : Writer) (hk : Kept H qs s) :
    Kept H qs (State.svcreq s l w) := by
  unfold State.svcreq
  (try dsimp only)
  (repeat' split) <;> repeat' first
   | (with_reducible assumption) | (with_reducible apply kept_setLane) | (with_reducible apply State.serviceIn_kept)
   | (with_reducible refine Kept.mem (qs := qs) ?_ ‹_› _) | (with_reducible solve_by_elim) | intro _
   | (simp only [Lane.onMain_mem, Lane.halt_mem]) | dsimp only | split | (with_reducible apply kept_mk) | rfl

theorem State.svcexit_kept (s : State) (l : LaneId) (w : Writer) (hk : Kept H qs s) :
    Kept H qs (State.svcexit s l w) := by
  unfold State.svcexit
  (try dsimp only)
  (repeat' split) <;> repeat' first
   | (with_reducible assumption) | (with_reducible apply State.serviceOut_kept) | (with_reducible refine Kept.mem (qs := qs) ?_ ‹_› _)
   | (with_reducible solve_by_elim) | intro _ | (simp only [Lane.onMode_mem]) | dsimp only | split | (with_reducible apply kept_mk)

theorem State.sketch_kept (s : State) (l : LaneId) (w : Writer) (hk : Kept H qs s) :
    Kept H qs (State.sketch s l w) := by
  unfold State.sketch
  (try dsimp only)
  (repeat' split) <;> repeat' first
   | (with_reducible assumption) | (with_reducible apply State.serviceOut_kept) | intro _ | (simp only [Lane.enterSketch_mem])
   | dsimp only | split | (with_reducible apply kept_mk)

theorem State.benchHolder_kept (s : State) (peer : Nat) (hk : Kept H qs s) :
    Kept H qs (State.benchHolder s peer) := by
  unfold State.benchHolder
  (try dsimp only)
  (repeat' split) <;> repeat' first
   | (with_reducible assumption) | (with_reducible apply kept_foldl) | (with_reducible apply kept_onLane)
   | (with_reducible refine Kept.mem (qs := qs) ?_ ‹_› _) | (with_reducible solve_by_elim) | intro _
   | (simp only [Lane.setHolder_mem]) | dsimp only | split | (with_reducible apply kept_mk) | rfl

theorem State.logLoad_kept (s : State) (l : LaneId) (code : Nat) (h : Bytes) (hk : Kept H qs s) :
    Kept H qs (State.logLoad s l code h) := by
  unfold State.logLoad
  (try dsimp only)
  (repeat' split) <;> repeat' first
   | (with_reducible assumption) | (with_reducible apply State.logEvent_kept) | intro _ | dsimp only | split
   | (with_reducible apply kept_mk)

theorem State.refuseImage_kept (s : State) (l : LaneId) (r : Refuse) (hk : Kept H qs s) :
    Kept H qs (State.refuseImage s l r) := by
  unfold State.refuseImage
  (try dsimp only)
  (repeat' split) <;> repeat' first
   | (with_reducible assumption) | (with_reducible apply kept_setLane) | (with_reducible apply State.logLoad_kept)
   | (with_reducible refine Kept.mem (qs := qs) ?_ ‹_› _) | (with_reducible solve_by_elim) | intro _
   | (simp only [Lane.onLoader_mem]) | dsimp only | split | (with_reducible apply kept_mk) | rfl

theorem State.refuseCheck_kept (s : State) (l : LaneId) (r : Refuse) (hk : Kept H qs s) :
    Kept H qs (State.refuseCheck s l r) := by
  unfold State.refuseCheck
  (try dsimp only)
  (repeat' split) <;> repeat' first
   | (with_reducible assumption) | (with_reducible apply kept_setLane) | (with_reducible apply State.logLoad_kept)
   | (with_reducible refine Kept.mem (qs := qs) ?_ ‹_› _) | (with_reducible solve_by_elim) | intro _
   | (simp only [Lane.onLoader_mem]) | dsimp only | split | (with_reducible apply kept_mk) | rfl

theorem State.bootMode_kept (s : State) (l : LaneId) (unsigned : Bool) (hk : Kept H qs s) :
    Kept H qs (State.bootMode s l unsigned) := by
  unfold State.bootMode
  (try dsimp only)
  (repeat' split) <;> repeat' first
   | (with_reducible assumption) | (with_reducible apply kept_setLane) | (with_reducible apply State.syncInhibit_kept)
   | (with_reducible apply State.serviceIn_kept) | (with_reducible apply State.serviceOut_kept)
   | (with_reducible apply State.sketch_kept) | (with_reducible refine Kept.mem (qs := qs) ?_ ‹_› _)
   | (with_reducible solve_by_elim) | intro _ | (simp only [Lane.halt_mem, Lane.enterSketch_mem]) | dsimp only | split
   | (with_reducible apply kept_mk) | rfl

theorem State.bootPatch_kept (s : State) (l : LaneId) (hk : Kept H qs s) :
    Kept H qs (State.bootPatch s l) := by
  unfold State.bootPatch
  (try dsimp only)
  (repeat' split) <;> repeat' first
   | (with_reducible assumption) | (with_reducible apply kept_setLane) | (with_reducible apply State.logEvent_kept)
   | (with_reducible refine Kept.mem (qs := qs) ?_ ‹_› _) | (with_reducible solve_by_elim) | intro _
   | (simp only [Lane.onLoader_mem]) | dsimp only | split | (with_reducible apply kept_mk) | rfl

theorem State.bootImage_kept (s : State) (l : LaneId) (hk : Kept H qs s) :
    Kept H qs (State.bootImage s l) := by
  unfold State.bootImage
  (try dsimp only)
  (repeat' split) <;> repeat' first
   | (with_reducible assumption) | (with_reducible apply kept_setLane) | (with_reducible apply State.logEvent_kept)
   | (with_reducible apply State.refuseImage_kept) | (with_reducible apply State.bootMode_kept)
   | (with_reducible apply State.bootPatch_kept) | (with_reducible refine Kept.mem (qs := qs) ?_ ‹_› _)
   | (with_reducible solve_by_elim) | intro _ | (simp only [Lane.onLoader_mem, Lane.leaveBoot_mem]) | dsimp only | split
   | (with_reducible apply kept_mk) | rfl

theorem State.readRecord_kept (s : State) (l : LaneId) (hk : Kept H qs s) :
    Kept H qs (State.readRecord s l) := by
  unfold State.readRecord
  (try dsimp only)
  (repeat' split) <;> repeat' first
   | (with_reducible assumption) | (with_reducible apply kept_setLane) | (with_reducible apply State.polvinWakes_kept)
   | (with_reducible apply State.laneDown_kept) | (with_reducible apply State.serviceIn_kept)
   | (with_reducible refine Kept.mem (qs := qs) ?_ ‹_› _) | (with_reducible solve_by_elim) | intro _
   | (simp only [Lane.onLoader_mem, Lane.onAon_mem, Lane.leaveBoot_mem]) | dsimp only | split | (with_reducible apply kept_mk) | rfl

theorem State.commitRecord_kept (s : State) (h : Bytes) (epoch : Nat) (signed : Bool) (hk : Kept H qs s) :
    Kept H qs (State.commitRecord s h epoch signed) := by
  unfold State.commitRecord
  (try dsimp only)
  (repeat' split) <;> repeat' first
   | (with_reducible assumption) | (with_reducible apply State.logEvent_kept) | intro _ | dsimp only | split
   | (with_reducible apply kept_mk)

theorem State.takeCommit_kept (s : State) (l : LaneId) (h : Bytes) (hk : Kept H qs s) :
    Kept H qs (State.takeCommit s l h) := by
  unfold State.takeCommit
  (try dsimp only)
  (repeat' split) <;> repeat' first
   | (with_reducible assumption) | (with_reducible apply kept_setLane) | (with_reducible apply State.polvinWakes_kept)
   | (with_reducible apply State.sketch_kept) | (with_reducible apply State.commitRecord_kept)
   | (with_reducible refine Kept.mem (qs := qs) ?_ ‹_› _) | (with_reducible solve_by_elim) | intro _ | (simp only [Lane.onAon_mem])
   | dsimp only | split | (with_reducible apply kept_mk) | rfl

theorem State.keyShare_kept (s : State) (l : LaneId) (hk : Kept H qs s) :
    Kept H qs (State.keyShare s l) := by
  unfold State.keyShare
  (try dsimp only)
  (repeat' split) <;> repeat' first
   | (with_reducible assumption) | (with_reducible apply kept_foldl) | (with_reducible apply kept_setLane)
   | (with_reducible refine Kept.mem (qs := qs) ?_ ‹_› _) | (with_reducible solve_by_elim) | intro _ | (simp only [Lane.onNet_mem])
   | dsimp only | split | (with_reducible apply kept_mk) | rfl

theorem State.polvinLoads_kept (s : State) (l : LaneId) (hk : Kept H qs s) :
    Kept H qs (State.polvinLoads s l) := by
  unfold State.polvinLoads
  (try dsimp only)
  (repeat' split) <;> repeat' first
   | (with_reducible assumption) | (with_reducible apply State.polvinEntries_kept) | (with_reducible apply State.loaded_kept)
   | (with_reducible refine Kept.mem (qs := qs) ?_ ‹_› _) | (with_reducible solve_by_elim) | intro _ | dsimp only | split
   | (with_reducible apply kept_mk)

theorem State.loaded_kept (s : State) (l : LaneId) (hk : Kept H qs s) :
    Kept H qs (State.loaded s l) := by
  unfold State.loaded
  (try dsimp only)
  (repeat' split) <;> repeat' first
   | (with_reducible assumption) | (with_reducible apply kept_setLane) | (with_reducible apply State.logLoad_kept)
   | (with_reducible apply State.keyShare_kept) | (with_reducible apply State.polvinLoads_kept)
   | (with_reducible refine Kept.mem (qs := qs) ?_ ‹_› _) | (with_reducible solve_by_elim) | intro _
   | (simp only [Lane.onAon_mem, Lane.carry_mem]) | dsimp only | split | (with_reducible apply kept_mk) | rfl

theorem State.loadSteps_kept (s : State) (l : LaneId) (read : Option Bytes) (hk : Kept H qs s) :
    Kept H qs (State.loadSteps s l read) := by
  unfold State.loadSteps
  (try dsimp only)
  (repeat' split) <;> repeat' first
   | (with_reducible assumption) | (with_reducible apply kept_setLane) | (with_reducible apply State.refuseImage_kept)
   | (with_reducible apply State.loaded_kept) | (with_reducible refine Kept.mem (qs := qs) ?_ ‹_› _)
   | (with_reducible solve_by_elim) | intro _ | (simp only [Lane.translate_mem]) | dsimp only | split
   | (with_reducible apply kept_mk) | rfl

theorem State.checkSteps_kept (s : State) (l : LaneId) (read : Option Bytes) (hk : Kept H qs s) :
    Kept H qs (State.checkSteps s l read) := by
  unfold State.checkSteps
  (try dsimp only)
  (repeat' split) <;> repeat' first
   | (with_reducible assumption) | (with_reducible apply kept_setLane) | (with_reducible apply State.laneEvent_kept)
   | (with_reducible apply State.refuseCheck_kept) | (with_reducible refine Kept.mem (qs := qs) ?_ ‹_› _)
   | (with_reducible solve_by_elim) | intro _ | (simp only [Lane.onLoader_mem, Lane.translate_mem]) | dsimp only | split
   | (with_reducible apply kept_mk) | rfl

theorem State.checkVectors_kept (s : State) (l : LaneId) (hk : Kept H qs s) :
    Kept H qs (State.checkVectors s l) := by
  unfold State.checkVectors
  (try dsimp only)
  (repeat' split) <;> repeat' first
   | (with_reducible assumption) | (with_reducible apply kept_setLane) | (with_reducible apply State.logLoad_kept)
   | (with_reducible apply State.refuseCheck_kept) | (with_reducible refine Kept.mem (qs := qs) ?_ ‹_› _)
   | (with_reducible solve_by_elim) | intro _ | (simp only [Lane.onLoader_mem]) | dsimp only | split
   | (with_reducible apply kept_mk) | rfl

theorem State.reloadRetained_kept (s : State) (l : LaneId) (hk : Kept H qs s) :
    Kept H qs (State.reloadRetained s l) := by
  unfold State.reloadRetained
  (try dsimp only)
  (repeat' split) <;> repeat' first
   | (with_reducible assumption) | (with_reducible apply kept_setLane) | (with_reducible apply State.bootImage_kept)
   | (with_reducible apply State.readRecord_kept) | (with_reducible refine Kept.mem (qs := qs) ?_ ‹_› _)
   | (with_reducible solve_by_elim) | intro _ | (simp only [Lane.event_mem, Lane.onLoader_mem]) | dsimp only | split
   | (with_reducible apply kept_mk) | rfl

theorem State.resumed_kept (s : State) (l : LaneId) (hk : Kept H qs s) :
    Kept H qs (State.resumed s l) := by
  unfold State.resumed
  (try dsimp only)
  (repeat' split) <;> repeat' first
   | (with_reducible assumption) | (with_reducible apply kept_setLane) | (with_reducible apply State.logLoad_kept)
   | (with_reducible apply State.keyShare_kept) | (with_reducible refine Kept.mem (qs := qs) ?_ ‹_› _)
   | (with_reducible solve_by_elim) | intro _ | (simp only [Lane.onLoader_mem]) | dsimp only | split
   | (with_reducible apply kept_mk) | rfl

theorem State.polvinServes_kept (s : State) (l : LaneId) (hk : Kept H qs s) :
    Kept H qs (State.polvinServes s l) := by
  unfold State.polvinServes
  (try dsimp only)
  (repeat' split) <;> repeat' first
   | (with_reducible assumption) | (with_reducible apply State.readRecord_kept) | (with_reducible apply State.commitRecord_kept)
   | intro _ | dsimp only | split | (with_reducible apply kept_mk)

theorem State.lastBlocks_kept (s : State) (l : LaneId) (hk : Kept H qs s) :
    Kept H qs (State.lastBlocks s l) := by
  unfold State.lastBlocks
  (try dsimp only)
  (repeat' split) <;> repeat' first
   | (with_reducible assumption) | (with_reducible apply kept_foldl) | (with_reducible apply kept_ifRuns)
   | (with_reducible apply State.receiveBlock_kept) | (with_reducible refine Kept.mem (qs := qs) ?_ ‹_› _)
   | (with_reducible solve_by_elim) | intro _ | dsimp only | split | (with_reducible apply kept_mk)

theorem State.laneSleeps_kept (s : State) (l : LaneId) (slept : Bool) (hk : Kept H qs s) :
    Kept H qs (State.laneSleeps s l slept) := by
  unfold State.laneSleeps
  have h := State.planeDown_kept _ l (State.linksDown_kept _ l hk)
  refine State.syncInhibit_kept _ (kept_setLane h (fun hH => ?_))
  have hw := h.mem hH l
  dsimp only
  rw [Lane.onPwr_mem, foldl_mem _ (fun _ _ => by simp)]
  exact hw

theorem State.noteReturn_kept (s : State) (l : LaneId) (hk : Kept H qs s) :
    Kept H qs (State.noteReturn s l) := by
  unfold State.noteReturn
  (try dsimp only)
  (repeat' split) <;> repeat' first
   | (with_reducible assumption) | (with_reducible apply kept_foldl) | (with_reducible apply kept_setLane)
   | (with_reducible refine Kept.mem (qs := qs) ?_ ‹_› _) | (with_reducible solve_by_elim) | intro _ | (simp only [Lane.onPwr_mem])
   | dsimp only | split | (with_reducible apply kept_mk) | rfl

theorem State.laneReturns_kept (s : State) (l : LaneId) (src : Nat) (hk : Kept H qs s) :
    Kept H qs (State.laneReturns s l src) := by
  unfold State.laneReturns
  (try dsimp only)
  (repeat' split) <;> repeat' first
   | (with_reducible assumption) | (with_reducible apply kept_setLane) | (with_reducible apply State.syncInhibit_kept)
   | (with_reducible apply State.linksDown_kept) | (with_reducible apply State.noteReturn_kept)
   | (with_reducible refine Kept.mem (qs := qs) ?_ ‹_› _) | (with_reducible solve_by_elim) | intro _
   | (simp only [Lane.onPwr_mem, LaneMain.back_mem]) | dsimp only | split | (with_reducible apply kept_mk) | rfl

theorem State.sendSleep_kept (s : State) (l : LaneId) (hk : Kept H qs s) :
    Kept H qs (State.sendSleep s l) := by
  unfold State.sendSleep
  (try dsimp only)
  (repeat' split) <;> repeat' first
   | (with_reducible assumption) | (with_reducible apply kept_foldl) | (with_reducible apply State.setUnit_kept)
   | (with_reducible refine Kept.mem (qs := qs) ?_ ‹_› _) | (with_reducible solve_by_elim) | intro _ | dsimp only | split
   | (with_reducible apply kept_mk)

theorem State.laneRequest_kept (s : State) (l : LaneId) (target : DomState) (hk : Kept H qs s) :
    Kept H qs (State.laneRequest s l target) := by
  unfold State.laneRequest
  (try dsimp only)
  (repeat' split) <;> repeat' first
   | (with_reducible assumption) | (with_reducible apply State.laneDown_kept) | (with_reducible apply State.laneSleeps_kept)
   | (with_reducible apply State.laneReturns_kept) | intro _ | dsimp only | split | (with_reducible apply kept_mk)

theorem State.planeRequest_kept (s : State) (l : LaneId) (target : DomState) (hk : Kept H qs s) :
    Kept H qs (State.planeRequest s l target) := by
  unfold State.planeRequest
  (try dsimp only)
  (repeat' split) <;> repeat' first
   | (with_reducible assumption) | (with_reducible apply kept_setLane) | (with_reducible apply State.planeDown_kept)
   | (with_reducible refine Kept.mem (qs := qs) ?_ ‹_› _) | (with_reducible solve_by_elim) | intro _ | (simp only [Lane.onPwr_mem])
   | dsimp only | split | (with_reducible apply kept_mk) | rfl

theorem State.polvinRequest_kept (s : State) (target : DomState) (hk : Kept H qs s) :
    Kept H qs (State.polvinRequest s target) := by
  unfold State.polvinRequest
  (try dsimp only)
  (repeat' split) <;> repeat' first
   | (with_reducible assumption) | intro _ | dsimp only | split | (with_reducible apply kept_mk)

theorem State.laneSlot_kept (s : State) (l : LaneId) (hk : Kept H qs s) :
    Kept H qs (State.laneSlot s l) := by
  unfold State.laneSlot
  (try dsimp only)
  (repeat' split) <;> repeat' first
   | (with_reducible assumption) | (with_reducible apply kept_setLane) | (with_reducible apply State.laneRequest_kept)
   | (with_reducible apply State.planeRequest_kept) | (with_reducible refine Kept.mem (qs := qs) ?_ ‹_› _)
   | (with_reducible solve_by_elim) | intro _ | (simp only [Lane.onPwr_mem]) | dsimp only | split | (with_reducible apply kept_mk)
   | rfl

theorem State.laneStops_kept (s : State) (l : LaneId) (hk : Kept H qs s) :
    Kept H qs (State.laneStops s l) := by
  unfold State.laneStops
  (try dsimp only)
  (repeat' split) <;> repeat' first
   | (with_reducible assumption) | (with_reducible apply kept_setLane) | (with_reducible apply State.laneDown_kept)
   | (with_reducible apply State.laneSleeps_kept) | (with_reducible refine Kept.mem (qs := qs) ?_ ‹_› _)
   | (with_reducible solve_by_elim) | intro _ | (simp only [Lane.onPwr_mem]) | dsimp only | split | (with_reducible apply kept_mk)
   | rfl

theorem State.laneStays_kept (s : State) (l : LaneId) (hk : Kept H qs s) :
    Kept H qs (State.laneStays s l) := by
  unfold State.laneStays
  (try dsimp only)
  (repeat' split) <;> repeat' first
   | (with_reducible assumption) | (with_reducible apply kept_setLane) | (with_reducible apply State.laneSlot_kept)
   | (with_reducible refine Kept.mem (qs := qs) ?_ ‹_› _) | (with_reducible solve_by_elim) | intro _ | (simp only [Lane.onPwr_mem])
   | dsimp only | split | (with_reducible apply kept_mk) | rfl

theorem State.cancelSleep_kept (s : State) (hk : Kept H qs s) :
    Kept H qs (State.cancelSleep s) := by
  unfold State.cancelSleep
  (try dsimp only)
  (repeat' split) <;> repeat' first
   | (with_reducible assumption) | (with_reducible apply kept_foldl) | (with_reducible apply State.setUnit_kept)
   | (with_reducible apply State.unitSlot_kept) | (with_reducible apply State.laneStays_kept)
   | (with_reducible refine Kept.mem (qs := qs) ?_ ‹_› _) | (with_reducible solve_by_elim) | intro _ | dsimp only | split
   | (with_reducible apply kept_mk)

theorem State.sleepRound_kept (s : State) (l : LaneId) (hk : Kept H qs s) :
    Kept H qs (State.sleepRound s l) := by
  unfold State.sleepRound
  (try dsimp only)
  (repeat' split) <;> repeat' first
   | (with_reducible assumption) | (with_reducible apply kept_setLane) | (with_reducible apply State.sendSleep_kept)
   | (with_reducible apply State.laneStops_kept) | (with_reducible apply State.laneStays_kept)
   | (with_reducible apply State.cancelSleep_kept) | (with_reducible refine Kept.mem (qs := qs) ?_ ‹_› _)
   | (with_reducible solve_by_elim) | intro _ | (simp only [Lane.onPwr_mem]) | dsimp only | split | (with_reducible apply kept_mk)
   | rfl

theorem State.polvinSleeps_kept (s : State) (hk : Kept H qs s) :
    Kept H qs (State.polvinSleeps s) := by
  unfold State.polvinSleeps
  (try dsimp only)
  (repeat' split) <;> repeat' first
   | (with_reducible assumption) | (with_reducible refine Kept.mem (qs := qs) ?_ ‹_› _) | (with_reducible solve_by_elim) | intro _
   | dsimp only | split | (with_reducible apply kept_mk)

theorem State.polvinSlot_kept (s : State) (hk : Kept H qs s) :
    Kept H qs (State.polvinSlot s) := by
  unfold State.polvinSlot
  (try dsimp only)
  (repeat' split) <;> repeat' first
   | (with_reducible assumption) | (with_reducible apply State.polvinRequest_kept) | intro _ | dsimp only | split
   | (with_reducible apply kept_mk)

theorem State.polvinEntry_kept (s : State) (l : LaneId) (hk : Kept H qs s) :
    Kept H qs (State.polvinEntry s l) := by
  unfold State.polvinEntry
  (try dsimp only)
  (repeat' split) <;> repeat' first
   | (with_reducible assumption) | (with_reducible apply State.polvinSlot_kept) | intro _ | dsimp only | split
   | (with_reducible apply kept_mk)

theorem State.unitSleepRound_kept (s : State) (u : UnitId) (hk : Kept H qs s) :
    Kept H qs (State.unitSleepRound s u) := by
  unfold State.unitSleepRound
  (try dsimp only)
  (repeat' split) <;> repeat' first
   | (with_reducible assumption) | (with_reducible apply State.setUnit_kept) | (with_reducible apply State.unitSleeps_kept)
   | (with_reducible apply State.unitSlot_kept) | intro _ | dsimp only | split | (with_reducible apply kept_mk)

theorem State.unitsReturn_kept (s : State) (hk : Kept H qs s) :
    Kept H qs (State.unitsReturn s) := by
  unfold State.unitsReturn
  (try dsimp only)
  (repeat' split) <;> repeat' first
   | (with_reducible assumption) | (with_reducible apply kept_foldl) | (with_reducible apply State.setUnit_kept)
   | (with_reducible apply State.unitSlot_kept) | (with_reducible refine Kept.mem (qs := qs) ?_ ‹_› _)
   | (with_reducible solve_by_elim) | intro _ | dsimp only | split | (with_reducible apply kept_mk)

theorem State.refuseSleep_kept (s : State) (dom cause step : Nat) (hk : Kept H qs s) :
    Kept H qs (State.refuseSleep s dom cause step) := by
  unfold State.refuseSleep
  (try dsimp only)
  (repeat' split) <;> repeat' first
   | (with_reducible assumption) | (with_reducible apply kept_foldl) | (with_reducible apply kept_setLane)
   | (with_reducible apply State.polvinWakes_kept) | (with_reducible apply State.laneReturns_kept)
   | (with_reducible apply State.unitsReturn_kept) | (with_reducible refine Kept.mem (qs := qs) ?_ ‹_› _)
   | (with_reducible solve_by_elim) | intro _ | (simp only [Lane.onPwr_mem]) | dsimp only | split | (with_reducible apply kept_mk)
   | rfl

theorem State.wakeAll_kept (s : State) (l : LaneId) (src : Nat) (hk : Kept H qs s) :
    Kept H qs (State.wakeAll s l src) := by
  unfold State.wakeAll
  (try dsimp only)
  (repeat' split) <;> repeat' first
   | (with_reducible assumption) | (with_reducible apply kept_foldl) | (with_reducible apply State.polvinWakes_kept)
   | (with_reducible apply State.unitReturns_kept) | (with_reducible apply State.laneReturns_kept)
   | (with_reducible refine Kept.mem (qs := qs) ?_ ‹_› _) | (with_reducible solve_by_elim) | intro _ | dsimp only | split
   | (with_reducible apply kept_mk)

theorem State.wake_kept (s : State) (l : LaneId) (src : WakeSource) (hk : Kept H qs s) :
    Kept H qs (State.wake s l src) := by
  unfold State.wake
  dsimp only
  repeat' split
  · exact kept_setLane hk (fun hH => by rw [Lane.onPwr_mem]; exact hk.mem hH l)
  · exact State.wakeAll_kept _ _ _ hk
  · exact kept_setLane hk (fun hH => by rw [Lane.onPwr_mem]; exact hk.mem hH l)
  · exact hk

theorem State.laneTick_kept (s : State) (l : LaneId) (vl : Nat) (pin : Bool) (hk : Kept H qs s) :
    Kept H qs (State.laneTick s l vl pin) := by
  unfold State.laneTick
  (try dsimp only)
  (repeat' split) <;> repeat' first
   | (with_reducible assumption) | (with_reducible apply kept_setLane) | (with_reducible apply State.polvinTime_kept)
   | (with_reducible apply State.joinTick_kept) | (with_reducible apply State.polvinEntry_kept)
   | (with_reducible refine Kept.mem (qs := qs) ?_ ‹_› _) | (with_reducible solve_by_elim) | intro _
   | (simp only [Lane.aonTick_mem, Lane.mainTick_mem]) | dsimp only | split | (with_reducible apply kept_mk) | rfl

theorem State.groupKey_kept (s : State) (l : LaneId) (hk : Kept H qs s) :
    Kept H qs (State.groupKey s l) := by
  unfold State.groupKey
  (try dsimp only)
  (repeat' split) <;> repeat' first
   | (with_reducible assumption) | (with_reducible apply State.draw_kept) | (with_reducible apply State.giveGroup_kept) | intro _
   | dsimp only | split | (with_reducible apply kept_mk)

theorem State.beaconStart_kept (s : State) (l : LaneId) (hk : Kept H qs s) :
    Kept H qs (State.beaconStart s l) := by
  unfold State.beaconStart
  (try dsimp only)
  (repeat' split) <;> repeat' first
   | (with_reducible assumption) | (with_reducible apply kept_setLane) | (with_reducible apply State.noteEpoch_kept)
   | (with_reducible apply State.groupKey_kept) | (with_reducible refine Kept.mem (qs := qs) ?_ ‹_› _)
   | (with_reducible solve_by_elim) | intro _ | (simp only [Lane.onNet_mem]) | dsimp only | split | (with_reducible apply kept_mk)
   | rfl

theorem State.joinStart_kept (s : State) (l : LaneId) (hk : Kept H qs s) :
    Kept H qs (State.joinStart s l) := by
  unfold State.joinStart
  (try dsimp only)
  (repeat' split) <;> repeat' first
   | (with_reducible assumption) | (with_reducible apply kept_setLane) | (with_reducible apply State.draw_kept)
   | (with_reducible refine Kept.mem (qs := qs) ?_ ‹_› _) | (with_reducible solve_by_elim) | intro _
   | (simp only [Lane.onNet_mem, Lane.putJoin_mem]) | dsimp only | split | (with_reducible apply kept_mk) | rfl

theorem State.seeDomains_kept (s : State) (l : LaneId) (hk : Kept H qs s) :
    Kept H qs (State.seeDomains s l) := by
  unfold State.seeDomains
  (try dsimp only)
  (repeat' split) <;> repeat' first
   | (with_reducible assumption) | (with_reducible apply kept_foldl) | (with_reducible apply kept_setLane)
   | (with_reducible refine Kept.mem (qs := qs) ?_ ‹_› _) | (with_reducible solve_by_elim) | intro _
   | (simp only [Lane.onMain_mem, Lane.onPwr_mem]) | dsimp only | split | (with_reducible apply kept_mk) | rfl

theorem State.windowsRound_kept (s : State) (l : LaneId) (hk : Kept H qs s) :
    Kept H qs (State.windowsRound s l) := by
  unfold State.windowsRound
  (try dsimp only)
  (repeat' split) <;> repeat' first
   | (with_reducible assumption) | (with_reducible apply kept_setLane) | (with_reducible refine Kept.mem (qs := qs) ?_ ‹_› _)
   | (with_reducible solve_by_elim) | intro _ | (simp only [Lane.onMain_mem]) | dsimp only | split | (with_reducible apply kept_mk)
   | rfl

theorem State.laneRound_kept (s : State) (l : LaneId) (hk : Kept H qs s) :
    Kept H qs (State.laneRound s l) := by
  unfold State.laneRound
  have h1 : Kept H qs ((s.setLane l ((s.lanes.get l).bareArrival l |>.timeRound l)).windowsRound l |>.serviceCheck l) :=
    State.serviceCheck_kept _ _ (State.windowsRound_kept _ _ (kept_setLane hk (fun hH => by
      rw [Lane.timeRound_mem, Lane.bareArrival_mem]; exact hk.mem hH l)))
  refine State.polvinSleeps_kept _ (State.sleepRound_kept _ _ (State.joinStart_kept _ _ (State.beaconStart_kept _ _
    (State.seeDomains_kept _ _ (State.syncInhibit_kept _ (kept_setLane h1 (fun hH => ?_)))))))
  have hw := h1.mem hH l
  generalize (State.serviceCheck _ _).lanes.get l = n at hw ⊢
  simp only [apply_ite Lane.main, apply_ite LaneMain.mem, Lane.onMain_mem, Lane.compareSigs_mem, Lane.netRound_mem, Lane.lostRound_mem,
    Lane.modeRound_mem, Lane.promote_mem, Lane.officeRound_mem, Lane.benchRound_mem, Lane.startsAnew_mem, Lane.handOver_mem,
    Lane.countsBegin_mem, ite_self]
  exact hw

theorem State.unitRoundAll_kept (s : State) (u : UnitId) (hk : Kept H qs s) :
    Kept H qs (State.unitRoundAll s u) := by
  unfold State.unitRoundAll
  (try dsimp only)
  (repeat' split) <;> repeat' first
   | (with_reducible assumption) | (with_reducible apply State.setUnit_kept) | (with_reducible apply unitWrites_kept)
   | (with_reducible apply State.takeSnap_kept) | (with_reducible apply State.dropLapsed_kept)
   | (with_reducible apply State.groupRound_kept) | (with_reducible apply State.unitSleepRound_kept) | intro _ | dsimp only | split
   | (with_reducible apply kept_mk)

theorem State.enterSync_kept (s : State) (l : LaneId) (hk : Kept H qs s) :
    Kept H qs (State.enterSync s l) := by
  unfold State.enterSync
  (try dsimp only)
  (repeat' split) <;> repeat' first
   | (with_reducible assumption) | (with_reducible apply kept_foldl) | (with_reducible apply kept_setLane)
   | (with_reducible apply State.syncInhibit_kept) | (with_reducible apply State.laneSlot_kept)
   | (with_reducible refine Kept.mem (qs := qs) ?_ ‹_› _) | (with_reducible solve_by_elim) | intro _
   | (simp only [Lane.onNet_mem, Lane.onPwr_mem, Lane.adoptHolder_mem, Lane.startListening_mem, Lane.startsAnew_mem]) | dsimp only
   | split | (with_reducible apply kept_mk) | rfl

theorem State.configWord_kept (s : State) (l : LaneId) (u : UnitId) (hk : Kept H qs s) :
    Kept H qs (State.configWord s l u) := by
  unfold State.configWord
  (try dsimp only)
  (repeat' split) <;> repeat' first
   | (with_reducible assumption) | (with_reducible apply kept_setLane) | (with_reducible apply State.enterSync_kept)
   | (with_reducible refine Kept.mem (qs := qs) ?_ ‹_› _) | (with_reducible solve_by_elim) | intro _
   | (simp only [Lane.onLoader_mem, Lane.translate_mem]) | dsimp only | split | (with_reducible apply kept_mk) | rfl

theorem State.takeAnswers_kept (s : State) (l : LaneId) (u : UnitId) (hk : Kept H qs s) :
    Kept H qs (State.takeAnswers s l u) := by
  unfold State.takeAnswers
  (try dsimp only)
  (repeat' split) <;> repeat' first
   | (with_reducible assumption) | (with_reducible apply kept_setLane) | (with_reducible apply State.setUnit_kept)
   | (with_reducible refine Kept.mem (qs := qs) ?_ ‹_› _) | (with_reducible solve_by_elim) | intro _ | (simp only [Lane.onMain_mem])
   | dsimp only | split | (with_reducible apply kept_mk) | rfl

theorem State.measIn_kept (s : State) (l : LaneId) (u : UnitId) (b : Bytes) (late stale : Bool) (hk : Kept H qs s) :
    Kept H qs (State.measIn s l u b late stale) := by
  unfold State.measIn
  (try dsimp only)
  (repeat' split) <;> repeat' first
   | (with_reducible assumption) | (with_reducible apply kept_setLane) | (with_reducible apply State.configWord_kept)
   | (with_reducible refine Kept.mem (qs := qs) ?_ ‹_› _) | (with_reducible solve_by_elim) | intro _
   | (simp only [Lane.onMain_mem, Lane.raiseLine_mem, Lane.staleBlock_mem, Lane.takeBlock_mem, Lane.startListening_mem])
   | dsimp only | split | (with_reducible apply kept_mk) | rfl

theorem State.sendJoin_kept (s : State) (l : LaneId) (e : SlotDef) (j : Join) (msg next : Nat) (hk : Kept H qs s) :
    Kept H qs (State.sendJoin s l e j msg next) := by
  unfold State.sendJoin
  (try dsimp only)
  (repeat' split) <;> repeat' first
   | (with_reducible assumption) | (with_reducible apply kept_setLane) | (with_reducible apply State.handKey_kept)
   | (with_reducible refine Kept.mem (qs := qs) ?_ ‹_› _) | (with_reducible solve_by_elim) | intro _
   | (simp only [Lane.putJoin_mem, Lane.depart_mem]) | dsimp only | split | (with_reducible apply kept_mk) | rfl

theorem State.transmit_kept (s : State) (l : LaneId) (e : SlotDef) (hk : Kept H qs s) :
    Kept H qs (State.transmit s l e) := by
  unfold State.transmit
  (try dsimp only)
  (repeat' split) <;> repeat' first
   | (with_reducible assumption) | (with_reducible apply kept_setLane) | (with_reducible apply State.sendJoin_kept)
   | (with_reducible refine Kept.mem (qs := qs) ?_ ‹_› _) | (with_reducible solve_by_elim) | intro _
   | (simp only [Lane.sendData_mem, Lane.sendBeacon_mem, Lane.sendStatus_mem, Lane.sendReply_mem]) | dsimp only | split
   | (with_reducible apply kept_mk) | rfl

theorem State.onIslandService_kept (s : State) (i : IslandId) (f : IslPair → IslPair) (hk : Kept H qs s) :
    Kept H qs (State.onIslandService s i f) := by
  unfold State.onIslandService
  (try dsimp only)
  (repeat' split) <;> repeat' first
   | (with_reducible assumption) | (with_reducible apply kept_onIsland) | intro _ | dsimp only | split
   | (with_reducible apply kept_mk)

theorem State.takeWrite_kept (s : State) (l : LaneId) (w : Writer) (rid addr value mask : Nat) (late : Bool) (hk : Kept H qs s) :
    Kept H qs (State.takeWrite s l w rid addr value mask late) := by
  unfold State.takeWrite
  (try dsimp only)
  (repeat' split) <;> repeat' first
   | (with_reducible assumption) | (with_reducible apply kept_setLane) | (with_reducible refine Kept.mem (qs := qs) ?_ ‹_› _)
   | (with_reducible solve_by_elim) | intro _ | (simp only [Lane.onMain_mem, Lane.forward_mem, LaneMain.commitBits_mem]) | dsimp only | split
   | (with_reducible apply kept_mk) | rfl

theorem State.noteRefusal_kept (s : State) (l : LaneId) (addr st : Nat) (hk : Kept H qs s) :
    Kept H qs (State.noteRefusal s l addr st) := by
  unfold State.noteRefusal
  (try dsimp only)
  (repeat' split) <;> repeat' first
   | (with_reducible assumption) | (with_reducible apply kept_setLane) | (with_reducible refine Kept.mem (qs := qs) ?_ ‹_› _)
   | (with_reducible solve_by_elim) | intro _ | (simp only [Lane.cnvRefused_mem]) | dsimp only | split
   | (with_reducible apply kept_mk) | rfl

theorem State.svcWrite_kept (s : State) (l : LaneId) (w : Writer) (rid addr value mask : Nat) (late : Bool) (hk : Kept H qs s) :
    Kept H qs (State.svcWrite s l w rid addr value mask late).1 := by
  unfold State.svcWrite
  (try dsimp only)
  (repeat' split) <;> repeat' first
   | (with_reducible assumption) | (with_reducible apply State.takeWrite_kept) | (with_reducible apply State.noteRefusal_kept)
   | intro _ | dsimp only | split | (with_reducible apply kept_mk)

theorem State.svcWrites_kept (s : State) (l : LaneId) (w : Writer) (rid : Nat) (ws : List (Nat × Nat)) (late : Bool) (hk : Kept H qs s) :
    Kept H qs (State.svcWrites s l w rid ws late).1 := by
  unfold State.svcWrites
  (try dsimp only)
  (repeat' split) <;> repeat' first
   | (with_reducible assumption) | (with_reducible apply kept_foldl) | (with_reducible apply State.takeWrite_kept)
   | (with_reducible apply State.noteRefusal_kept) | (with_reducible refine Kept.mem (qs := qs) ?_ ‹_› _)
   | (with_reducible solve_by_elim) | intro _ | dsimp only | split | (with_reducible apply kept_mk)

theorem State.svcCommit_kept (s : State) (l : LaneId) (w : Writer) (rid kind units : Nat) (late : Bool) (hk : Kept H qs s) :
    Kept H qs (State.svcCommit s l w rid kind units late).1 := by
  unfold State.svcCommit
  (try dsimp only)
  (repeat' split) <;> repeat' first
   | (with_reducible assumption) | (with_reducible apply kept_foldl) | (with_reducible apply State.takeWrite_kept)
   | (with_reducible refine Kept.mem (qs := qs) ?_ ‹_› _) | (with_reducible solve_by_elim) | intro _ | dsimp only | split
   | (with_reducible apply kept_mk)

theorem State.svcStream_kept (s : State) (l : LaneId) (w : Writer) (rid lane offset : Nat) (hk : Kept H qs s) :
    Kept H qs (State.svcStream s l w rid lane offset).1 := by
  unfold State.svcStream
  (try dsimp only)
  (repeat' split) <;> repeat' first
   | (with_reducible assumption) | (with_reducible apply kept_setLane) | (with_reducible refine Kept.mem (qs := qs) ?_ ‹_› _)
   | (with_reducible solve_by_elim) | intro _ | (simp only [Lane.cnvRefused_mem, Lane.setStream_mem]) | dsimp only | split
   | (with_reducible apply kept_mk) | rfl

theorem State.svcOp_kept (s : State) (l : LaneId) (w : Writer) (rid : Nat) (late : Bool) (y0 : SvcOp) (hk : Kept H qs s) :
    Kept H qs (State.svcOp s l w rid late y0).1 := by
  unfold State.svcOp
  (try dsimp only)
  (repeat' split) <;> repeat' first
   | (with_reducible assumption) | (with_reducible apply State.commit_kept) | (with_reducible apply State.svcWrite_kept)
   | (with_reducible apply State.svcWrites_kept) | (with_reducible apply State.svcCommit_kept)
   | (with_reducible apply State.svcStream_kept) | (with_reducible refine Kept.mem (qs := qs) ?_ ‹_› _)
   | (with_reducible solve_by_elim) | intro _ | dsimp only | split | (with_reducible apply kept_mk)

theorem State.svcOps_kept (s : State) (l : LaneId) (w : Writer) (rid : Nat) (late : Bool) (y0 : Nat) (y1 : List SvcOp) (hk : Kept H qs s) :
    Kept H qs (State.svcOps s l w rid late y0 y1).1 := by
  induction y1 generalizing s y0 with
  | nil => exact hk
  | cons o r ih =>
    unfold State.svcOps
    split
    · exact hk
    · exact ih _ _ (State.svcOp_kept _ _ _ _ _ _ hk)

theorem State.takeBack_kept (s : State) (l : LaneId) (a : RegAcc) (hk : Kept H qs s) :
    Kept H qs (State.takeBack s l a) := by
  unfold State.takeBack
  (try dsimp only)
  (repeat' split) <;> repeat' first
   | (with_reducible assumption) | (with_reducible apply kept_setLane) | (with_reducible apply State.setUnit_kept)
   | (with_reducible refine Kept.mem (qs := qs) ?_ ‹_› _) | (with_reducible solve_by_elim) | intro _ | (simp only [Lane.onUnit_mem])
   | dsimp only | split | (with_reducible apply kept_mk) | rfl

theorem State.withdraw_kept (s : State) (l : LaneId) (w : Writer) (rid : Nat) (hk : Kept H qs s) :
    Kept H qs (State.withdraw s l w rid) := by
  unfold State.withdraw
  (try dsimp only)
  (repeat' split) <;> repeat' first
   | (with_reducible assumption) | (with_reducible apply kept_foldl) | (with_reducible apply kept_setLane)
   | (with_reducible apply State.takeBack_kept) | (with_reducible refine Kept.mem (qs := qs) ?_ ‹_› _)
   | (with_reducible solve_by_elim) | intro _ | (simp only [Lane.onMain_mem]) | dsimp only | split | (with_reducible apply kept_mk)
   | rfl

theorem State.copyIn_kept (s : State) (l : LaneId) (w : Writer) (rid : Nat) (hk : Kept H qs s) :
    Kept H qs (State.copyIn s l w rid) := by
  unfold State.copyIn
  (try dsimp only)
  (repeat' split) <;> repeat' first
   | (with_reducible assumption) | (with_reducible apply kept_foldl) | (with_reducible apply kept_setLane)
   | (with_reducible apply State.withdraw_kept) | (with_reducible refine Kept.mem (qs := qs) ?_ ‹_› _)
   | (with_reducible solve_by_elim) | intro _ | (simp only [Lane.onMain_mem]) | dsimp only | split | (with_reducible apply kept_mk)
   | rfl

theorem State.streamWords_kept (s : State) (l : LaneId) (w : Writer) (x : Stream) (payload : Bytes) (hk : Kept H qs s) :
    Kept H qs (State.streamWords s l w x payload).1 := by
  unfold State.streamWords
  have h := State.svcWrites_kept s l w x.rid (streamWrites l x.offset payload) false hk
  dsimp only
  split
  · exact kept_setLane h (fun hH => by rw [Lane.setStream_mem]; exact h.mem hH l)
  · exact h

theorem State.streamTake_kept (s : State) (l : LaneId) (sender : Nat) (w : Writer) (payload : Bytes) (hk : Kept H qs s) :
    Kept H qs (State.streamTake s l sender w payload).1 := by
  unfold State.streamTake
  (try dsimp only)
  (repeat' split) <;> first
   | exact hk
   | exact kept_setLane hk (fun hH => by rw [Lane.setStream_mem]; exact hk.mem hH l)
   | exact State.streamWords_kept _ _ _ _ _ hk

theorem State.ownCtrl_kept (s : State) (l : LaneId) (w : Writer) (v mask : Nat) (hk : Kept H qs s) :
    Kept H qs (State.ownCtrl s l w v mask) := by
  unfold State.ownCtrl
  (try dsimp only)
  (repeat' split) <;> repeat' first
   | (with_reducible assumption) | (with_reducible apply kept_setLane) | (with_reducible apply State.svcreq_kept)
   | (with_reducible apply State.svcexit_kept) | (with_reducible apply State.sketch_kept)
   | (with_reducible refine Kept.mem (qs := qs) ?_ ‹_› _) | (with_reducible solve_by_elim) | intro _
   | (simp only [Lane.onOffice_mem]) | dsimp only | split | (with_reducible apply kept_mk) | rfl

theorem State.polvinWrite_kept (s : State) (l : LaneId) (w : Writer) (x : ShadowWrite) (hk : Kept H qs s) :
    Kept H qs (State.polvinWrite s l w x) := by
  unfold State.polvinWrite
  (try dsimp only)
  (repeat' split) <;> repeat' first
   | (with_reducible assumption) | (with_reducible apply kept_foldl) | (with_reducible apply State.secWrite_kept)
   | (with_reducible apply State.forcePolvin_kept) | (with_reducible refine Kept.mem (qs := qs) ?_ ‹_› _)
   | (with_reducible solve_by_elim) | intro _ | dsimp only | split | (with_reducible apply kept_mk)

theorem State.applyWrite_kept (s : State) (l : LaneId) (x : ShadowWrite) (hk : Kept H qs s) :
    Kept H qs (State.applyWrite s l x) := by
  unfold State.applyWrite
  (try dsimp only)
  (repeat' split) <;> repeat' first
   | (with_reducible assumption) | (with_reducible apply kept_setLane) | (with_reducible apply State.commit_kept)
   | (with_reducible apply State.ownCtrl_kept) | (with_reducible apply State.polvinWrite_kept)
   | (with_reducible refine Kept.mem (qs := qs) ?_ ‹_› _) | (with_reducible solve_by_elim) | intro _
   | (simp only [Lane.event_mem, laneWrite_mem]) | dsimp only | split | (with_reducible apply kept_mk) | rfl

theorem State.lapse_kept (s : State) (l : LaneId) (w : ShadowWrite) (hk : Kept H qs s) :
    Kept H qs (State.lapse s l w) := by
  unfold State.lapse
  (try dsimp only)
  (repeat' split) <;> repeat' first
   | (with_reducible assumption) | (with_reducible apply kept_setLane) | (with_reducible apply State.takeBack_kept)
   | (with_reducible refine Kept.mem (qs := qs) ?_ ‹_› _) | (with_reducible solve_by_elim) | intro _ | (simp only [Lane.event_mem])
   | dsimp only | split | (with_reducible apply kept_mk) | rfl

theorem State.lapseDue_kept (s : State) (l : LaneId) (hk : Kept H qs s) :
    Kept H qs (State.lapseDue s l) := by
  unfold State.lapseDue
  (try dsimp only)
  (repeat' split) <;> repeat' first
   | (with_reducible assumption) | (with_reducible apply kept_foldl) | (with_reducible apply kept_setLane)
   | (with_reducible apply State.lapse_kept) | (with_reducible refine Kept.mem (qs := qs) ?_ ‹_› _) | (with_reducible solve_by_elim)
   | intro _ | (simp only [Lane.onMain_mem]) | dsimp only | split | (with_reducible apply kept_mk) | rfl

theorem State.applyDue_kept (s : State) (l : LaneId) (hk : Kept H qs s) :
    Kept H qs (State.applyDue s l) := by
  unfold State.applyDue
  (try dsimp only)
  (repeat' split) <;> repeat' first
   | (with_reducible assumption) | (with_reducible apply kept_foldl) | (with_reducible apply kept_setLane)
   | (with_reducible apply State.applyWrite_kept) | (with_reducible refine Kept.mem (qs := qs) ?_ ‹_› _)
   | (with_reducible solve_by_elim) | intro _ | (simp only [Lane.onMain_mem]) | dsimp only | split | (with_reducible apply kept_mk)
   | rfl

theorem State.serveReg_kept (s : State) (l : LaneId) (addr : Nat) (hk : Kept H qs s) :
    Kept H qs (State.serveReg s l addr).1 := by
  unfold State.serveReg
  (try dsimp only)
  (repeat' split) <;> repeat' first
   | (with_reducible assumption) | (with_reducible apply kept_setLane) | (with_reducible refine Kept.mem (qs := qs) ?_ ‹_› _)
   | (with_reducible solve_by_elim) | intro _ | (simp only [laneReadClear_mem, Lane.forward_mem]) | dsimp only | split
   | (with_reducible apply kept_mk) | rfl

theorem State.serveRegs_kept (s : State) (l : LaneId) (y0 : List (Nat × Option Nat)) (hk : Kept H qs s) :
    Kept H qs (State.serveRegs s l y0).1 := by
  induction y0 generalizing s with
  | nil => exact hk
  | cons e r ih => exact ih _ (State.serveReg_kept _ _ _ hk)

theorem State.serveOps_kept (s : State) (l : LaneId) (y0 : List PendOp) (hk : Kept H qs s) :
    Kept H qs (State.serveOps s l y0).1 := by
  induction y0 generalizing s with
  | nil => exact hk
  | cons o r ih =>
    unfold State.serveOps
    cases o with
    | done x => exact ih _ hk
    | read vs => exact ih _ (State.serveRegs_kept _ _ _ hk)

theorem State.serveReqs_kept (s : State) (l : LaneId) (y0 : List PendReq) (hk : Kept H qs s) :
    Kept H qs (State.serveReqs s l y0).1 := by
  induction y0 generalizing s with
  | nil => exact hk
  | cons q r ih =>
    unfold State.serveReqs
    dsimp only
    apply ih
    split
    · exact State.serveOps_kept _ _ _ hk
    · exact hk

theorem State.finishReqs_kept (s : State) (l : LaneId) (hk : Kept H qs s) :
    Kept H qs (State.finishReqs s l) := by
  unfold State.finishReqs
  (try dsimp only)
  (repeat' split) <;> repeat' first
   | (with_reducible assumption) | (with_reducible apply kept_foldl) | (with_reducible apply kept_setLane)
   | (with_reducible refine Kept.mem (qs := qs) ?_ ‹_› _) | (with_reducible solve_by_elim) | intro _ | (simp only [Lane.onMain_mem])
   | dsimp only | split | (with_reducible apply kept_mk) | rfl

theorem State.badInterface_kept (s : State) (l : LaneId) (hk : Kept H qs s) :
    Kept H qs (State.badInterface s l) := by
  unfold State.badInterface
  (try dsimp only)
  (repeat' split) <;> repeat' first
   | (with_reducible assumption) | (with_reducible apply kept_setLane) | (with_reducible apply kept_polvinEvent)
   | (with_reducible apply kept_polvinEvent) | (with_reducible refine Kept.mem (qs := qs) ?_ ‹_› _) | (with_reducible solve_by_elim)
   | intro _ | (simp only [Lane.onMain_mem]) | dsimp only | split | (with_reducible apply kept_mk) | rfl

theorem State.portReply_kept (s : State) (l : LaneId) (hk : Kept H qs s) :
    Kept H qs (State.portReply s l) := by
  unfold State.portReply
  (try dsimp only)
  (repeat' split) <;> repeat' first
   | (with_reducible assumption) | (with_reducible apply kept_setLane) | (with_reducible refine Kept.mem (qs := qs) ?_ ‹_› _)
   | (with_reducible solve_by_elim) | intro _ | (simp only [Lane.onNet_mem, Lane.dropReply_mem]) | dsimp only | split
   | (with_reducible apply kept_mk) | rfl

end Sys2Proof.Machine
end

