-- ==== Sys2Proof/WellFormed.lean ====
section
/-!
DEFINITION. Which operand values the spec admits: channel, input, supply, leg, ring, source and slot numbers in range, and
payloads no longer than the frame that carries them. A command that is not well formed names nothing the module has.
-/
namespace Sys2Proof

/-- Blocks on a lane link are 64 bytes (R17). -/
def blockOk (rx : Option Bytes) : Bool := match rx with | some b => b.length == 64 | none => true

/-- The number of sources a holder's EVT_ block has (R364). -/
def holderSources : Holder → Nat
  | .lane .c => 128
  | .lane _ => 256
  | .unit _ => 32
  | .polvin => 16

/-- Well-formedness of a tick sample: one value per leg, input or supply. -/
def sampleOk : TickSample → Bool
  | .lane _ _ _ => true
  | .island _ m => m.m.length == 3 && m.bsuv < 64 && m.bslo < 64
  | .fb _ _ => true
  | .sio _ m => m.codes.length == 24 && m.vout.length == 8 && m.iout.length == 8 && m.codes.all (fun c => c < 4096)

/-- Well-formed commands. -/
def Instr.wellFormed : Instr → Bool
  | .tickBoundary m => sampleOk m
  | .tickMarkArrival _ _ (some t) _ => t < 4294967296
  | .measurementBlock _ _ rx _ _ => blockOk rx
  | .commandBlock _ _ rx st => blockOk rx && st < 8192
  | .eventSymbol _ _ rx crc => rx.all (fun b => decide (b.length = 9)) && crc.all (fun c => decide (c < 65536))
  | .roundBoundary _ turned => turned.all (fun e => decide (e.1 < 4) && decide (e.2 < 65536))
  | .engineTest m | .postingDeadline _ m => m < 4294967296
  | .serviceRequest _ sender _ q => sender < 4096 && q.payload.length ≤ 1472 && q.arrive < 50000
  | .streamFrame _ sender _ p => sender < 4096 && p.length ≤ 1472
  | .cnvCmt _ h d _ => h < 65536 && d < 256
  | .cnvWinWrite _ o _ => o < 4096 && o % 4 == 0
  | .svcreq _ p | .svcexit _ p | .sketch _ p => p < 4096
  | .sprel _ n => n < 4096
  | .attestationRequest k _ => k < 4
  | .unretire w m => w.id < 4096 && m < 8
  | .newchal w | .enrol w | .rotate w | .passwd w | .unlock w | .lock w | .varnish w | .strip w | .cert w | .bkey w =>
    w.id < 4096
  | .supplyRestart _ p | .testPulseOff _ p | .testPulseOn _ p | .psupOc _ p | .pgood _ p => p < 8
  | .xsClear _ n => n < 24
  | .compareArm _ c e _ | .comparePositionWrite _ c e _ => c < 4 && e < 16
  | .ringStart _ r | .ringStop _ r | .ringClr _ r | .descriptorFetch _ r | .burst _ r | .dmaEnd _ r | .buserr _ r _ => r < 32
  | .force h n | .severeClear h n | .windowExpiry h n => n < holderSources h
  | .clrce _ => true
  | .slotTransmit _ n _ => n < 4096
  | .cyclePoint _ k => k < 8
  | .guidanceSystemCommand _ sa d => sa < 256 && d.all (fun b => b.length == 8)
  | .fdFrame _ _ d => d.all (fun b => decide (b.length ≤ 64))
  | .desat i n _ | .slp i n _ => if i.isValve then n < 6 else n < 3
  | .quadEdge _ c _ o => c < 4 && o < 8000
  | .reacq _ c o => c < 4 && o < 8000
  | .indexPulse _ c | .sentFrame _ c _ | .comparePulseEnd _ c | .zero _ c => c < 4
  | .converterUpdate _ c u => c < 4 && u.angle < 65536 && u.time < 8000
  | .requestLine _ n => n < 128
  | .mark _ m => m < 16
  | .acceptanceWindowClose _ n => n < 12288
  | .trunkLink l m _ => m ≤ planeSegs l
  | .registerSymbol _ _ _ | .commandDeadline _ | .voterSelfTest _ _ | .missingWithdrawal _
  | .tickWorkStart _ _ | .roundOverrun _ | .verdictCheck _ _ | .readbackCrc _ | .tightropeLimit _ | .standstill _
  | .backstop _ | .startupTimeout _ | .suppliesGood _ | .laneReset _ | .clockSwitch _ | .signatureVerdict _
  | .polvinTimeout _ | .translationDone _ _ _ | .retryingEntry _ | .restartDone _ | .restartTimeout _
  | .retirementRecordWrite _ _ | .commitTarget _ | .serviceReply _ _ | .registerWrite _ | .go _ | .abort _ | .start _
  | .slotErased _ | .check _ | .checkDone _ _ | .loadAbort _ | .spclaim _ | .lockoutEnd | .unlockExpiry | .challengeExpiry
  | .ceremonyDone _ | .reportReady | .clrbf _ | .clrcf _ | .clrlatch _ | .rearmRequest _ | .frameReceive _ _
  | .beaconReceive _ _ | .listenExpiry _ | .beaconLost _ | .joinMsg1 _ _ | .joinMsg3 _ _ | .joinMsg2 _ _ | .joinMsg4 _ _
  | .keyEpochAdvance | .rmVacant _ | .sessionOpen _ | .sessionEnd | .addressClaim _ | .requestForAddressClaimed _
  | .canBusoff _ | .comparatorTest _ _ | .ov1 _ | .ov1Release _ | .ov2 _ | .ov2Release _ | .busUv _ | .busUvRelease _
  | .chopperFault _ | .chopperTestPulse _ _ | .hot _ _ | .chopperLimit _ _ | .regenTrip _ | .regenTripEnd _
  | .speedCrossing _ _ | .islandClockLoss _ | .oredFeedLow _ | .oredFeedReturn _ | .laneShed _ _ | .shedRelease _ _
  | .dropOut _ | .mainOff _ | .alwaysOnOff _ | .retentionReturn _ | .sleep _ | .sleepAck _ | .cancel _ | .sleepRefusal _
  | .wake _ _ | .wakeReplay _ | .domainRequest _ _ | .wakeRequest _ | .linkTraining _ _ _ | .linkDown _ _
  | .deviceKeyGeneration | .polvinPowerUp | .unitPowerUp _ | .alwaysOnPowerUp _ | .unitRetentionLimit _
  | .addressClaimLost _ | .tickMarkArrival _ _ none _ => true

end Sys2Proof
end

