-- ==== Sys2Proof/Tests/Slice0.lean ====
section
/-!
SUPPORT. Tests of the model: well-formedness on both sides of every check, a concrete state that meets the hypotheses of every statement,
and single steps whose results are worked out by hand from the spec.
-/
namespace Sys2Proof.Tests
open Sys2Proof Sys2Proof.Machine

/-! States. -/

/-- Lane `l` changed. -/
def onL (s : State) (l : LaneId) (f : Lane → Lane) : State := s.setLane l (f (s.lanes.get l))
/-- The main domain of lane `l` changed. -/
def onM (s : State) (l : LaneId) (f : LaneMain → LaneMain) : State := onL s l (fun n => { n with main := f n.main })
/-- The power registers of lane `l` changed. -/
def onP (s : State) (l : LaneId) (f : PwrRegs → PwrRegs) : State :=
  onL s l (fun n => { n with aon := { n.aon with pwr := f n.aon.pwr } })
/-- The plane of lane `l` changed. -/
def onN (s : State) (l : LaneId) (f : Net → Net) : State := onM s l (fun m => { m with net := f m.net })
/-- The mode of lane `l` changed. -/
def onMode (s : State) (l : LaneId) (f : ModeState → ModeState) : State := onM s l (fun m => { m with mode := f m.mode })
/-- The canvas of lane `l` changed. -/
def onC (s : State) (l : LaneId) (f : Canvas → Canvas) : State := onM s l (fun m => { m with canvas := f m.canvas })
/-- The loader of lane `l` changed. -/
def onD (s : State) (l : LaneId) (f : Loader → Loader) : State := onL s l (fun n => { n with loader := f n.loader })
/-- The common part of unit `u` changed. -/
def onU (s : State) (u : UnitId) (f : UnitCommon → UnitCommon) : State := s.setUnit u (f (s.ucom.get u))
/-- Island `i` changed. -/
def onI (s : State) (i : IslandId) (f : Island → Island) : State := withIsland s i (f (s.isl.get i))
/-- Channel 0 of feedback unit `f` changed. -/
def onCh (s : State) (f : FbId) (g : FbChan → FbChan) : State :=
  { s with fbk := s.fbk.setF f { s.fbk.getF f with ch := [g (channelOf s f 0), {}, {}, {}] } }
/-- Safety-I/O unit `x` changed. -/
def onX (s : State) (x : SioId) (g : SafetyIO → SafetyIO) : State := { s with sio := s.sio.setS x (g (s.sio.getS x)) }
/-- Lane `l`'s view of unit `u` changed. -/
def onV' (s : State) (l : LaneId) (u : UnitId) (f : UnitView → UnitView) : State :=
  onM s l (fun m => { m with units := m.units.set u (f (m.units.get u)) })
/-- The Polvin core changed. -/
def onV (s : State) (f : Polvin → Polvin) : State := { s with polvin := f s.polvin }

/-- A lane in VOTING, in FULL, its plane on. -/
def voting : Lane :=
  { state := .voting, aon := { pwr := { pll := true, phy := .on } },
    main := { mode := { mode := .full, started := true }, time := { tick := 100, round := 12 } } }
/-- A configured unit that admits all three lanes. -/
def loadedUnit : UnitCommon :=
  { tick := 100, round := 12, age := 100, links := Tri.all { up := true, adm := true, agree := true, inwin := true }, cfg := { loaded := true } }
/-- All lanes voting, all units configured, the core owned. -/
def base : State := { lanes := Tri.all voting, ucom := Ten.all loadedUnit, polvin := { ipub := some (zeros 64) } }
/-- As `base` with every lane in SERVICE under Ringmaster 5, at standstill. -/
def service : State :=
  { base with lanes := Tri.all { voting with main := { voting.main with
      mode := { mode := .service, started := true, slow := 40000, park := true }
      office := { holder := some 5 }
      canvas := { cmdrs := [⟨5, 1, true, []⟩] } } } }
/-- The slot of partner 7 that lane A receives, and the one it sends. -/
def rxEntry : SlotDef := ⟨0x20, 0, false, 0, 1, 7, 300, 1000, 0⟩
def txEntry : SlotDef := ⟨0x21, 0, true, 0, 0, 7, 300, 2000, 0⟩
/-- Node 1 with those slots and partner 7 joined. -/
def carousel : State :=
  onN (onC base .a (fun c => { c with net := { self := 1, etype := 0x88B5, wdef := 300, mcap := true }, slots := [rxEntry, txEntry] })) .a
    (fun m => { m with partners := [(7, { joined := true })], keys := [(7, 0#128)], bk := some (zeros 16) })

/-! Witnesses: states and operands that meet the hypotheses of the statements, clause by clause. -/

/-- An island with every limit of its bus passed. -/
def busState : State := onI base .i1 (fun p => { p with
  bus := { p.bus with regen := 8, regenOk := 8, ov1 := true, vbus := 2001 }, live := 0, causes := 0 })
/-- An island in OV2, below its release for eight ticks. -/
def ov2State : State := onI base .i1 (fun p => { p with bus := { p.bus with ov2 := true, ov2Low := 8 }, live := 64, causes := 64 })
/-- An island that drives, a comparator test due. -/
def driving : State := onI base .i1 (fun p => { p with
  sw := 0, comp := [2000, 2000, 2000, 0, 0, 0], causes := 0, cfg := { ssc := 2, base := 300 }, gdv := { testDue := some (0, 1) }
  bus := { p.bus with vbus := 4800 } })
/-- A valve island with one leg tripped in this tick, its other low sides on when the trip came, and a test due that names no leg. -/
def tripped : State := onI base .i5 (fun p => { p with
  sw := 1, causes := 16, gdv := { off := 2, tripAge := some 100, tripOn := 1365, testDue := some (6, 5) } })
/-- Three islands with SPEED chosen and cause 1 in force in the safe state. -/
def safeIsland : State := onI driving .i1 (fun p => { p with sw := 1, causes := 2 })
/-- Everything off. -/
def dark : State := { lanes := Tri.all { dom := .off }, ucom := Ten.all { dom := .off }, polvin := { dom := .off } }

theorem witness_step : ({ State.reset with pending := [.lockoutEnd] } : State).pending = .lockoutEnd :: [] ∧ State.reset.pending = [] := by decide
theorem witness_keeps : memCanonical State.reset ∧ goesOn (step { State.reset with pending := [.lockoutEnd] }) :=
  ⟨by intro l; cases l <;> decide, ⟨_, rfl⟩⟩
theorem witness_memory : memWf [(4, 1#8), (9, 2#8)] = true := by decide
theorem witness_stopped : dark.runs (.isl .i1) = false ∧ dark.runs (.fb .fb1) = false ∧ dark.runs (.sio .sio1) = false ∧
    dark.runs (.isl .i1) = false := by decide
theorem witness_chopper : busState.runs (.isl .i1) = true ∧ 8 ≤ (busState.isl.get .i1).bus.regen ∧ (busState.isl.get .i1).live.testBit 8 = false ∧
    8 ≤ (busState.isl.get .i1).bus.regenOk ∧ (busState.ucom.get (.isl .i1)).cfg.loaded = true ∧
    (busState.isl.get .i1).backLim ≤ (busState.isl.get .i1).back ∧ (busState.isl.get .i1).causes.testBit 0xA = false := by decide
theorem witness_bus : busState.runs (.isl .i1) = true ∧ (busState.isl.get .i1).bus.ov2 = false ∧ (busState.isl.get .i1).bus.uv = false ∧
    (busState.isl.get .i1).bus.ov2Low < 8 ∧
    ov2State.runs (.isl .i1) = true ∧ (ov2State.isl.get .i1).bus.ov2 = true ∧ 8 ≤ (ov2State.isl.get .i1).bus.ov2Low := by decide
theorem witness_trip_single : driving.runs (.isl .i1) = true ∧ armed .i1 (driving.ucom.get (.isl .i1)) (driving.isl.get .i1) 2 true = true ∧
    recentTrip (driving.ucom.get (.isl .i1)) (driving.isl.get .i1) = false ∧ (driving.isl.get .i1).tripRearm = none := by decide
theorem witness_trip_double : tripped.runs (.isl .i5) = true ∧ armed .i5 (tripped.ucom.get (.isl .i5)) (tripped.isl.get .i5) 5 false = true ∧
    (tripped.isl.get .i5).gdv.off.testBit 5 = false ∧ (tripped.isl.get .i5).causes.testBit 5 = false ∧
    recentTrip (tripped.ucom.get (.isl .i5)) (tripped.isl.get .i5) = true := by decide
theorem witness_trip_again : let s := onI driving .i1 (fun p => { p with tripRearm := some 100, gdv := {} });
    s.runs (.isl .i1) = true ∧ armed .i1 (s.ucom.get (.isl .i1)) (s.isl.get .i1) 0 false = true ∧ (s.isl.get .i1).causes.testBit 5 = false ∧
    recentTrip (s.ucom.get (.isl .i1)) (s.isl.get .i1) = false ∧ (s.isl.get .i1).tripRearm = some 100 ∧
    (s.ucom.get (.isl .i1)).age < 100 + 1200000 ∧ armed .i1 (base.ucom.get (.isl .i1)) (base.isl.get .i1) 2 true = false := by decide
/-- As `driving`, with the turn-off of leg 2 running in this tick. -/
def turningOff : State := onI driving .i1 (fun p => { p with gdv := { off := 4, tripAge := some 100, tripOn := 4095 } })
theorem witness_trip_same : turningOff.runs (.isl .i1) = true ∧ armed .i1 (turningOff.ucom.get (.isl .i1)) (turningOff.isl.get .i1) 2 true = true ∧
    recentTrip (turningOff.ucom.get (.isl .i1)) (turningOff.isl.get .i1) = true ∧ (turningOff.isl.get .i1).gdv.off.testBit 2 = true := by decide
theorem witness_test : driving.runs (.isl .i1) = true ∧ (driving.isl.get .i1).gdv.testDue = some (0, 1) ∧ (1 : Nat) ≤ 8 ∧ 0 < IslandId.i1.legs ∧
    (tripped.isl.get .i5).gdv.testDue = some (6, 5) ∧ (5 : Nat) < 6 ∧ IslandId.i5.legs ≤ 6 := by decide
theorem witness_chopper_fault : let s := onU busState (.isl .i1) (fun c => { c with tick := 0, round := 0 });
    s.runs (.isl .i1) = true ∧ (s.isl.get .i1).bus.limit = false ∧ (s.isl.get .i1).bus.ov1 = true ∧ 199 < 200 ∧
    (s.ucom.get (.isl .i1)).tick % 8 = 0 ∧ testPulseRound .i1 = some ((s.ucom.get (.isl .i1)).round % 256) ∧
    2000 < (s.isl.get .i1).bus.vbus ∧ s.devMode ≠ .service ∧ service.devMode = .service := by decide
theorem witness_speed : driving.runs (.isl .i1) = true ∧ (driving.isl.get .i1).cfg.ssc = 2 := by decide
theorem witness_speed_safe : safeIsland.runs (.isl .i1) = true ∧ (safeIsland.isl.get .i1).cfg.ssc = 2 ∧ islandSafe (safeIsland.isl.get .i1) ∧
    (safeIsland.isl.get .i1).causes ≠ 0 ∧ islandForcedOpen (safeIsland.isl.get .i1) = false ∧ islandOv2Lasts (safeIsland.isl.get .i1) = false := by
  refine ⟨by decide, by decide, .inl (by decide), by decide, by decide, by decide⟩
theorem witness_clears : driving.runs (.isl .i1) = true ∧ driving.devMode ≠ .service ∧ service.runs (.isl .i1) = true ∧ service.devMode = .service := by
  decide
/-- Channel 0 in quadrature, at its upper soft limit, a compare entry armed and its speed timed. -/
def quad : State := onCh base .fb1 (fun c => { c with
  cfg := { mode := 1, idxm := 2, slo := -3, shi := 3, cpr := 100 }, pos := 2, cmp := [{ p := 3, arm := true, dir := 1 }] ++ List.replicate 15 {},
  spd := { n := 9, last := some (3, 9) } })
/-- Channel 0 as a resolver on track whose speed is timed. -/
def resolver0 : State := onCh base .fb1 (fun c => { c with cfg := { mode := 2 }, spd := { n := 9, last := some (3, 9) } })
/-- Channel 0 as a resolver whose track is lost, ready to reacquire; and as one on track. -/
def resolverLost : State := onCh base .fb1 (fun c => { c with
  cfg := { mode := 2, tlth := 10, slo := -100000, shi := 100000 }, trk := { lost := true, okUpd := 8192, conv := 444 } })
def resolver (vel : Rat) : State := onCh base .fb1 (fun c => { c with
  cfg := { mode := 2, tlth := 10, slo := -100000, shi := 100000 }, ang := 65535, trk := { vel := vel } })
/-- Channel 0 as a SENT receiver. -/
def sentState : State := onCh base .fb1 (fun c => { c with cfg := { mode := 3, slo := -100, shi := 3000, zofs := 7 } })

theorem witness_quad : quad.runs (.fb .fb1) = true ∧ 0 < (quad.fbk.getF .fb1).ch.length ∧ (channelOf quad .fb1 0).cfg.mode = 1 ∧
    (0 : Nat) < 16 ∧ (15 : Nat) < 16 ∧ (channelOf quad .fb1 0).cmp.length = 16 ∧
    edgeFiltered (channelOf quad .fb1 0).cfg (channelOf quad .fb1 0).quad true ((quad.ucom.get (.fb .fb1)).age * 8000) = false := by decide
/-- As `quad`, with an edge of the other input one time unit before the tick. -/
def filtering : State := onCh quad .fb1 (fun c => { c with cfg := { c.cfg with filt := 1 }, quad := { tb := some 799999 } })
theorem witness_filtered : filtering.runs (.fb .fb1) = true ∧ 0 < (filtering.fbk.getF .fb1).ch.length ∧ (channelOf filtering .fb1 0).cfg.mode = 1 ∧
    edgeFiltered (channelOf filtering .fb1 0).cfg (channelOf filtering .fb1 0).quad true ((filtering.ucom.get (.fb .fb1)).age * 8000) = true ∧
    edgeFiltered (channelOf filtering .fb1 0).cfg (channelOf filtering .fb1 0).quad true ((filtering.ucom.get (.fb .fb1)).age * 8000 + 1) = false := by decide
theorem witness_channel : quad.runs (.fb .fb1) = true ∧ 0 < (quad.fbk.getF .fb1).ch.length ∧ (channelOf quad .fb1 0).cfg.mode = 1 ∧
    (channelOf quad .fb1 0).cfg.idxm = 2 ∧ (channelOf quad .fb1 0).spd.last = some (3, 9) ∧
    (channelOf quad .fb1 0).cfg.zto * 160000 ≤ (quad.ucom.get (.fb .fb1)).age * 8000 - 3 ∧ 15 < (channelOf quad .fb1 0).cmp.length := by decide
theorem witness_compare_words : (0x0000_0007#32).toNat / 2 % 4 = 3 ∧ (0x0000_0007#32).getLsbD 4 = false ∧ (0x0000_0113#32).toNat / 2 % 4 ≠ 0 ∧ (0x0000_0113#32).getLsbD 4 = true ∧ (0x0000_0113#32).toNat / 256 % 256 ≠ 0 ∧
    (0x0000_0001#32).toNat / 2 % 4 = 0 ∧ (0x0000_0013#32).getLsbD 4 = true ∧ (0x0000_0013#32).toNat / 256 % 256 = 0 ∧
    (channelOf quad .fb1 0).cfg.idxm ≠ 1 ∧ (channelOf resolver0 .fb1 0).cfg.mode = 2 ∧ (channelOf resolver0 .fb1 0).trk.lost = false ∧
    (channelOf resolver0 .fb1 0).spd.last = some (3, 9) := by decide
/-- With its excitation off the amplitude of a resolver is 0 and its angle that of the sample. -/
theorem test_demodulate (v : Rat) (a : Nat) : demodulate (channelOf (resolver v) .fb1 0) ⟨a, 0, 0, 0, 1⟩ = (0, a % 65536) := by
  have h : (channelOf (resolver v) .fb1 0).excon = false := rfl
  simp [demodulate, h]
theorem witness_converter : let k := convStep (channelOf (resolver 0) .fb1 0).cfg (channelOf (resolver 0) .fb1 0).trk 0
    let k' := convStep (channelOf (resolver 7) .fb1 0).cfg (channelOf (resolver 7) .fb1 0).trk 0
    |convError (channelOf (resolver 0) .fb1 0).trk 0| ≤ 10 ∧ |convRpm k| ≤ 32000 ∧ convError (channelOf (resolver 0) .fb1 0).trk 0 = 0 ∧
    32000 < |convRpm k'| := by
  have e0 : convError (channelOf (resolver 0) .fb1 0).trk 0 = 0 := by decide +kernel
  have e7 : convError (channelOf (resolver 7) .fb1 0).trk 0 = 0 := by decide +kernel
  have v0 : (channelOf (resolver 0) .fb1 0).trk.vel = 0 := rfl
  have v7 : (channelOf (resolver 7) .fb1 0).trk.vel = 7 := rfl
  refine ⟨?_, ?_, e0, ?_⟩
  · rw [e0]; norm_num
  · simp only [convRpm, convStep, e0, v0]; norm_num
  · simp only [convRpm, convStep, e7, v7]; norm_num
theorem witness_resolver : (resolver 0).runs (.fb .fb1) = true ∧ 0 < ((resolver 0).fbk.getF .fb1).ch.length ∧
    (channelOf (resolver 0) .fb1 0).cfg.mode = 2 ∧ (channelOf (resolver 0) .fb1 0).cfg.ampn = 0 ∧ (channelOf (resolver 0) .fb1 0).trk.lost = false ∧
    ((channelOf (resolver 0) .fb1 0).cfg.tlth : Rat) < |convError (channelOf (resolver 0) .fb1 0).trk 11| ∧
    (channelOf resolverLost .fb1 0).trk.lost = true ∧ 8192 ≤ (channelOf resolverLost .fb1 0).trk.okUpd ∧ (channelOf resolverLost .fb1 0).cfg.mode = 2 := by
  decide +kernel
theorem witness_sent : sentState.runs (.fb .fb1) = true ∧ 0 < (sentState.fbk.getF .fb1).ch.length ∧ (channelOf sentState .fb1 0).cfg.mode = 3 ∧
    (channelOf sentState .fb1 0).cfg.fcw = 0 ∧
    (sentValid (channelOf sentState .fb1 0).sent.cal ⟨560, [120, 130, 140, 150, 160, 170, 180, 120 + 10 * crc4 [1, 2, 3, 4, 5, 6]], 3⟩).isSome = true ∧
    sentValid (channelOf sentState .fb1 0).sent.cal ⟨447, [], 3⟩ = none := by decide

/-- A safety-I/O unit with a supply at the end of its limit time that pulses in this round, and a cross-short seen 16 rounds ago. -/
def sioState : State := onX (onU base (.sio .sio2) (fun c => { c with round := 24, tick := 2 })) .sio2 (fun p => { p with
  sup := [{ on := true, supon := true, limTicks := 96, vsel := 1, pulse := 1 }] ++ List.replicate 7 {}, ins := [{ xs := true, quiet := 16 }] })
theorem witness_supply : sioState.runs (.sio .sio2) = true ∧ 0 < (sioState.sio.getS .sio2).sup.length ∧
    (sioState.ucom.get (.sio .sio2)).tick % 8 = 2 ∧ roundSupply .sio2 (sioState.ucom.get (.sio .sio2)) = some 0 ∧
    pulsing (sioState.ucom.get (.sio .sio2)) (sioState.sio.getS .sio2) 0 = true ∧ (0 : Nat) < 8 ∧
    roundSupply .sio2 ((onU sioState (.sio .sio2) (fun c => { c with tick := 4 })).ucom.get (.sio .sio2)) = some 0 ∧
    ((onU sioState (.sio .sio2) (fun c => { c with tick := 4 })).ucom.get (.sio .sio2)).tick % 8 = 4 ∧ roundSupply .sio2 (sioState.ucom.get (.sio .sio2)) ≠ some 1 ∧
    ((sioState.sio.getS .sio2).sup.getD 0 {}).on = true ∧ 96 ≤ ((sioState.sio.getS .sio2).sup.getD 0 {}).limTicks := by decide
theorem witness_feed : sioState.runs (.sio .sio2) = true ∧ ((sioState.sio.getS .sio2).ins.getD 0 {}).xs = true ∧
    16 ≤ ((sioState.sio.getS .sio2).ins.getD 0 {}).quiet ∧ 0 < (sioState.sio.getS .sio2).ins.length ∧
    (onX sioState .sio2 (fun p => { p with feedLow := true })).runs (.sio .sio2) = true ∧
    ((onX sioState .sio2 (fun p => { p with feedLow := true })).sio.getS .sio2).feedLow = true := by decide

/-- A unit with blocks of two lanes for this tick, and one after its deadline. -/
def voteState : State := onU base (.isl .i1) (fun x => { x with
  vote := { x.vote with windows := List.replicate 13 (some 20) }
  links := ⟨{ x.links.a with mark := some (100, 0), rx := some ⟨100, 1, 1, 5, 0, 0, false, List.replicate 13 2403, 0, true⟩ },
    { x.links.b with mark := some (100, 0), rx := some ⟨100, 2, 1, 5, 0, 0, false, List.replicate 13 2398, 0, true⟩ }, x.links.c⟩ })
def late : State := onU base (.isl .i1) (fun c => { c with vote := { c.vote with done := true } })
theorem witness_mark : base.runs (.isl .i1) = true ∧ ((base.ucom.get (.isl .i1)).links.get .a).up = true ∧ 4294967295 < 4294967296 ∧
    (∀ k, k ≠ LaneId.a → ((base.ucom.get (.isl .i1)).links.get k).mark = none) ∧ ((base.ucom.get (.isl .i1)).links.get .a).adm = true ∧
    (4294967295 : Nat) ≠ (base.ucom.get (.isl .i1)).tick ∧ (State.reset.ucom.get (.isl .i1)).admitted = [] ∧
    (((onV' base .a (.isl .i1) (fun v => { v with mark := some 101 })).lanes.get .a).main.units.get (.isl .i1)).mark = some 101 :=
  ⟨by decide, by decide, by decide, by intro k _; cases k <;> rfl, by decide, by decide, by decide, by decide⟩
theorem witness_command : base.runs (.isl .i1) = true ∧ ((base.ucom.get (.isl .i1)).links.get .a).up = true ∧ loadDue (base.ucom.get (.isl .i1)) = none ∧
    (15 : Nat) < 16 ∧ (5 : Nat) ≠ 2 ∧ (3 : Nat) < 4 ∧ (255 : Nat) < 256 ∧ (List.replicate 13 (-2147483648 : Int)).length = 13 ∧
    (∀ w ∈ List.replicate 13 (-2147483648 : Int), -2147483648 ≤ w ∧ w ≤ 2147483647) ∧ (base.ucom.get (.isl .i1)).tick < 4294967296 ∧
    (base.ucom.get (.isl .i1)).vote.done = false ∧ (late.ucom.get (.isl .i1)).vote.done = true ∧ late.runs (.isl .i1) = true ∧
    loadDue (late.ucom.get (.isl .i1)) = none ∧
    (((onV' base .a (.isl .i1) (fun v => { v with posted := some [] })).lanes.get .a).main.units.get (.isl .i1)).posted = some [] := by decide
theorem witness_deadline : voteState.runs (.isl .i1) = true ∧ (voteState.ucom.get (.isl .i1)).cfg.loaded = true ∧
    (voteState.ucom.get (.isl .i1)).vote.fault = false ∧ (voteState.ucom.get (.isl .i1)).vote.dispute = none ∧
    (voteState.ucom.get (.isl .i1)).vote.out.length = 13 ∧ allLanes.filter (blockValid (voteState.ucom.get (.isl .i1))) = [.a, .b] ∧
    (voteState.ucom.get (.isl .i1)).vote.windows.getD 12 none = some 20 ∧
    (wordVote 3 (wordVals (voteState.ucom.get (.isl .i1)) [.a, .b] 0) 4).1 = none ∧
    (wordVote 3 (wordVals (voteState.ucom.get (.isl .i1)) [.a, .b] 12) 20).1 = some 2400 := by decide
/-- Units at a round boundary, one with a lane missing for eight ticks. -/
def roundState : State := { base with ucom := Ten.all { loadedUnit with
  roundDue := true, links := ⟨{ up := true, adm := true, miss := 8, gone := true }, { up := true, adm := true, miss := 7 }, { up := true, synctk := 64, agree := true }⟩ } }
theorem witness_voter : base.runs (.fb .fb1) = true ∧ (∀ i, (UnitId.fb .fb1) ≠ .isl i) ∧ (base.ucom.get (.fb .fb1)).roundDue = false ∧
    roundState.runs (.fb .fb1) = true ∧ (roundState.ucom.get (.fb .fb1)).roundDue = true :=
  ⟨by decide, by intro i; simp, by decide, by decide, by decide⟩
/-- A unit in RETENTION that is to return, the link of lane A not trained. -/
def returningUnit : State := onU base (.fb .fb1) (fun c => { c with
  dom := .retention, slp := { returning := true }, links := ⟨{}, { up := true }, { up := true }⟩ })
theorem witness_links : (base.lanes.get .a).dom = .on ∧ (base.lanes.get .a).state ≠ .off ∧ (base.lanes.get .a).state ≠ .retired ∧
    (base.lanes.get .a).aon.pwr.pll = true ∧ (base.ucom.get (.sio .sio1)).dom = .on ∧ ((base.ucom.get (.sio .sio1)).links.get .a).up = true ∧
    ((State.reset.ucom.get (.sio .sio1)).links.get .a).up = false ∧ (returningUnit.ucom.get (.fb .fb1)).slp.returning = true ∧
    (returningUnit.ucom.get (.fb .fb1)).slp.slot = none ∧ (returningUnit.ucom.get (.fb .fb1)).dom = .retention ∧
    ((returningUnit.ucom.get (.fb .fb1)).links.get .b).up = true ∧ ((returningUnit.ucom.get (.fb .fb1)).links.get .c).up = true ∧
    (returningUnit.lanes.get .a).aon.pwr.pll = true := by decide
/-- A measurement block of unit 0x4 for tick 100, with its CRC. -/
def measBlock : Bytes := leBytes 4 100 ++ [4#8] ++ zeros 55 ++ leBytes 4 (crc32 (leBytes 4 100 ++ [4#8] ++ zeros 55))
theorem witness_measurement : (base.lanes.get .a).awake = true ∧ ((base.ucom.get (.isl .i1)).links.get .a).up = true ∧ measBlock.length = 64 ∧
    crc32 (slice measBlock 0 60) = u32At measBlock 60 ∧ byteAt measBlock 4 % 16 = (UnitId.isl .i1).code ∧
    (base.lanes.get .a).state = .voting ∧ ([] : Bytes).length ≠ 64 := by decide +kernel
theorem witness_symbols : base.runs (.isl .i1) = true ∧ ((base.ucom.get (.isl .i1)).links.get .a).up = true ∧ (base.lanes.get .a).awake = true ∧
    (List.replicate 8 (⟨0, true, 0, 0⟩ : RegAcc)).length ≤ 8 ∧ (∀ a ∈ List.replicate 8 (⟨0, true, 0, 0⟩ : RegAcc), a.isWrite = true) ∧
    (⟨0x100000, false, 0, 0⟩ : RegAcc).isWrite = false ∧ (⟨0x100000, false, 0, 0⟩ : RegAcc).addr = 0x100000 ∧
    (roundState.ucom.get (.isl .i1)).roundDue = true ∧ roundState.runs (.isl .i1) = true ∧ base.snaps.get (.isl .i1) = none ∧
    (base.takeSnap (.isl .i1)).snaps.get (.isl .i1) = some (base.snapUnit (.isl .i1)) ∧
    (base.ucom.get (.isl .i1)).tick % 256 = (base.lanes.get .a).main.time.tick % 256 := by decide
/-- The nine bytes of the event symbol of a unit in a tick, source 3 pending. -/
def symbol (tick : Nat) : Bytes := leBytes 1 tick ++ leBytes 4 8 ++ zeros 4
theorem witness_event_symbol : (symbol 100).length = 9 ∧ byteAt (symbol 100) 0 = (base.lanes.get .a).main.time.tick % 256 ∧
    byteAt (symbol 99) 0 ≠ (base.lanes.get .a).main.time.tick % 256 ∧
    crc16 0xFFFF (symbol 100) ≠ crc16 0xFFFF (symbol 99) ∧ ((symbol 100).drop 1).length ≠ 9 := by decide +kernel
theorem witness_ticks : base.runs (.isl .i1) = true ∧ base.runs (.fb .fb1) = true ∧ base.runs (.sio .sio1) = true ∧
    (base.lanes.get .a).aon.on = true ∧ (base.lanes.get .a).awake = true ∧ base.waitingJoins = [] := by decide
theorem witness_rounds : roundState.runs (.isl .i1) = true ∧ (roundState.ucom.get (.isl .i1)).roundDue = true ∧
    (roundState.ucom.get (.isl .i1)).shadow.due = [] ∧ (∀ l, ((roundState.ucom.get (.isl .i1)).links.get l).writes = []) ∧
    (roundState.ucom.get (.isl .i1)).slp.since = none ∧
    (let s := onM base .a (fun m => { m with time := { m.time with roundDue := true }, sigs := [(65536, (7, 7))] });
      (s.lanes.get .a).awake = true ∧ (s.lanes.get .a).state = .voting ∧ (s.lanes.get .a).main.time.roundDue = true ∧
      (s.lanes.get .a).aon.pwr.slot ≠ some .off ∧
      ∃ e ∈ ((s.lanes.get .a).turnSigs [(1, 0)]).main.sigs, e.2.1 ≠ e.2.2) :=
  ⟨by decide, by decide, by decide, by intro l; cases l <;> rfl, by decide, by decide⟩
/-- Lanes with a block posted late, a disputed tick to check, and in the tick with TINR 7. -/
def lateLane : State := onM base .a (fun m => { m with check := { late := 1, worked := true } })
def disputed : State := onM base .c (fun m => { m with check := { worked := true, checking := some 99 }, time := { m.time with tick := 103 } })
/-- Lane A with mirror words that differ from the primary ones (R313). -/
def mirrorOff : State := onM base .a (fun m => { m with mwords := Ten.all (List.replicate 13 1) })
theorem witness_tick_work : (base.lanes.get .a).computing = true ∧ (base.lanes.get .a).main.time.tick < 4294967296 ∧
    Upset.late (.sio .sio2) ∈ [Upset.late (.sio .sio2)] ∧
    (mirrorOff.lanes.get .a).computing = true := ⟨by decide, by decide, by simp, by decide⟩
/-- Whether the words of island I1 after lane A's tick work are those of the mirror run, and no NaN was posted. -/
def agreesAfter (s : State) : Bool :=
  match exec (.tickWorkStart .a []) s with
  | .next t => decide ((t.lanes.get .a).main.words.get (.isl .i1) = (t.lanes.get .a).main.mwords.get (.isl .i1)) &&
      decide ((UnitId.isl .i1).code ∉ (t.lanes.get .a).main.nans)
  | _ => false
theorem witness_tick_words : agreesAfter base = true ∧ agreesAfter mirrorOff = false := by decide +kernel
theorem witness_deadlines : (lateLane.lanes.get .a).computing = true ∧ (lateLane.lanes.get .a).main.check.late ≠ 0 ∧
    (disputed.lanes.get .c).computing = true ∧ (disputed.lanes.get .c).main.check.worked = true ∧ (disputed.lanes.get .c).main.check.late = 0 ∧
    4294967295 ≠ 0 ∧ 4294967295 < 4294967296 ∧ LaneId.a ≠ .c ∧ (disputed.lanes.get .c).main.check.checking = some 99 ∧
    (lateLane.lanes.get .a).main.check.late.testBit (UnitId.isl .i1).idx = true ∧
    ((onM lateLane .a (fun m => { m with check := { m.check with verdict := 1 } })).lanes.get .a).main.check.verdict = 1 ∧
    (disputed.lanes.get .c).main.check.failAge = none ∧ disputed.lanes.c.main.time.tick % 8 = 7 := by decide
theorem witness_readback : let s := onM disputed .c (fun m => { m with cref := List.replicate 13 (crc32 [1#8]) });
    s.lanes.c.computing = true ∧ s.lanes.c.main.time.tick % 8 = 7 ∧ s.lanes.c.blockGood 12 [1#8] = true ∧ s.lanes.c.blockGood 12 [2#8] = false := by
  decide +kernel
/-- Lane C whose engines have counted `k` entries more than SCHEDC gives. -/
def counted (k : Nat) : State := onM disputed .c (fun m => { m with engCount := (m.canvas.engineEntries (m.time.tick % 8)).map (· + k) })
theorem witness_counts : (counted 0).lanes.c.miscounts 0 = 0 ∧ (counted 1).lanes.c.miscounts 0 ≠ 0 := by
  have h (k : Nat) (e : Nat) (he : e < 32) : ((counted k).lanes.c.main.engCount.getD e 0) =
      ((counted k).lanes.c.main.canvas.engineEntries ((counted k).lanes.c.main.time.tick % 8)).getD e 0 + k := by
    simp [counted, onM, onL, State.setLane, Tri.get, Tri.set, Canvas.engineEntries, he]
    rfl
  have hf (k : Nat) : (counted k).lanes.c.miscounts 0 = ((List.range 32).filter (fun _ => decide (k ≠ 0))).foldl setBit 0 := by
    unfold Lane.miscounts
    dsimp only
    congr 1
    refine List.filter_congr fun e he => ?_
    have := h k e (by simpa using he)
    rw [this]
    simp [b2n]
  exact ⟨by rw [hf]; rfl, by rw [hf]; decide⟩
/-- Lane C with one SNK cell that writes word 0 of unit I1, whose block reads wrong in the check of a disputed word. -/
def readWrong : State := onM disputed .c (fun m => { m with
  canvas := { m.canvas with cells := [⟨0, 2, false, false, 0, 0, 0, 0, [0x10000000 + 0x100000 * (UnitId.isl .i1).code]⟩] },
  cref := [crc32 [1#8]], check := { m.check with held := 1 } })
theorem witness_check_read : readWrong.lanes.c.computing = true ∧ readWrong.lanes.c.main.check.checking = some 99 ∧
    readWrong.lanes.c.main.check.held.testBit (UnitId.isl .i1).idx = true ∧ 0 ∈ readWrong.lanes.c.main.canvas.cellsBehind (UnitId.isl .i1).code ∧
    (cellBlock 0, [2#8]) ∈ [(0, [2#8])] ∧ readWrong.lanes.c.blockGood (cellBlock 0) [2#8] = false := by decide +kernel
/-- A lane in TIGHTROPE at its limit, one at standstill in a stop, one whose start-up has run out. -/
def tightrope : State := onMode base .a (fun m => { m with mode := .tightrope })
def stopped : State := onMode base .a (fun m => { m with stop := true, slow := 40000 })
def tooLate : State := { onL base .a (fun n => { n with state := .sync, aon := { n.aon with ms := 2500 }, main := {} }) with ucom := Ten.all { loadedUnit with links := Tri.all { up := true } } }
/-- A lane in SYNC to which every unit shows all three lanes admitted. -/
def served : State := onL tooLate .a (fun n => { n with main := { n.main with units := Ten.all { seen := true, was := true, block := zeros 64 } } })
theorem witness_stops : (tightrope.lanes.get .a).computing = true ∧ (tightrope.lanes.get .a).main.mode.mode = .tightrope ∧
    (tightrope.lanes.get .a).main.canvas.mode.trlim * 20000 ≤ (tightrope.lanes.get .a).aon.trSum ∧
    (stopped.lanes.get .a).computing = true ∧ (stopped.lanes.get .a).main.mode.stop = true ∧ 40000 ≤ (stopped.lanes.get .a).main.mode.slow ∧
    (tooLate.lanes.get .a).awake = true ∧ (tooLate.lanes.get .a).main.mode.mode = .none ∧ (tooLate.lanes.get .a).main.mode.started = false ∧
    (tooLate.lanes.get .a).main.mode.startMs + (if (tooLate.lanes.get .a).loader.acached then 400 else 2500) ≤ (tooLate.lanes.get .a).aon.ms ∧
    (tooLate.lanes.get .a).state ≠ .retrying ∧ (tooLate.lanes.get .a).aon.pwr.pll = true ∧
    startMode (tooLate.lanes.get .a).needsFull (tooLate.lanes.get .a).admitCounts = .none ∧
    ((onP tooLate .a (fun p => { p with pll := false })).lanes.get .a).aon.pwr.pll = false ∧
    startMode (served.lanes.get .a).needsFull (served.lanes.get .a).admitCounts ≠ .none := by
  decide +kernel
/-- `service` before SERVICE is entered, and while the vehicle moves. -/
def still : State := onMode service .a (fun m => { m with mode := .full })
def moving : State := onMode still .a (fun m => { m with slow := 39999 })
/-- As `still`, with no lane in SERVICE. -/
def allStill : State := onMode (onMode still .b (fun m => { m with mode := .full })) .c (fun m => { m with mode := .full })
theorem witness_service_first : (∀ x, (allStill.lanes.get x).inService = false) ∧ (still.lanes.get .b).inService = true ∧
    (allStill.lanes.get .a).serviceHolder 5 = true ∧ (allStill.lanes.get .a).parkApplied = true ∧ 40000 ≤ (allStill.lanes.get .a).main.mode.slow :=
  ⟨by intro x; cases x <;> decide, by decide⟩
theorem witness_service : (still.lanes.get .a).computing = true ∧ (still.lanes.get .a).serviceHolder 5 = true ∧ still.polvin.ipub.isSome = true ∧
    (still.lanes.get .a).main.mode.mode = .full ∧ (still.lanes.get .a).main.mode.stop = false ∧ 40000 ≤ (still.lanes.get .a).main.mode.slow ∧
    (still.lanes.get .a).parkApplied = true ∧ (moving.lanes.get .a).main.mode.slow < 40000 ∧ (moving.lanes.get .a).serviceHolder 5 = true ∧
    (service.lanes.get .a).computing = true ∧ (service.lanes.get .a).serviceHolder 5 = true ∧ (service.lanes.get .a).main.mode.mode = .service ∧
    service.polvin.varnish = false ∧ (moving.lanes.get .a).computing = true := by decide
theorem witness_start : (State.reset.lanes.get .a).state = .off ∧ (State.reset.lanes.get .a).dom ≠ .retention ∧
    (State.reset.lanes.get .a).aon.on = true ∧ (base.lanes.get .a).awake = true := by decide
theorem witness_verdict : let s := onL base .a (fun n => { n with state := .boot, loader := { verdictDue := true } });
    (s.lanes.get .a).awake = true ∧ (s.lanes.get .a).state = .boot ∧ (s.lanes.get .a).loader.verdictDue = true ∧ s.polvin.dom = .on ∧
    verdictRefuse s.polvin (s.lanes.get .a).loader.active = none ∧
    (verdictRefuse (onV s (fun p => { p with varnish := true })).polvin (s.lanes.get .a).loader.active).isSome = true := by decide +kernel
theorem witness_translation : let s := onL base .a (fun n => { n with state := .translate });
    (s.lanes.get .a).dom = .on ∧ (s.lanes.get .a).state = .translate ∧ (s.lanes.get .a).loader.recordsDue = false := by decide
/-- A lane whose Retry source is due with `r` restarts behind it. -/
def retryDue (r : List Nat) : State := onL base .a (fun n => { n with
  aon := { n.aon with restarts := r, ms := 60500 }, main := { n.main with check := { retry := some 9 } } })
/-- A lane in RETRYING for 180 ms, its HASH that of its image or not. -/
def retrying (h : Bytes) : State := onL base .a (fun n => { n with aon := { n.aon with causeMs := 20, ms := 200, hash := h }, state := .retrying })
/-- A lane whose retirement record is due. -/
def retiredLane : State := onL base .a (fun n => { n with aon := { n.aon with pendrec := true, retired := true }, state := .retired })
theorem witness_retry : ((retryDue [501, 600]).lanes.get .a).main.check.retry = some 9 ∧ ((retryDue [501, 600]).lanes.get .a).computing = true ∧
    (((retryDue [501, 600]).lanes.get .a).aon.restarts.filter (fun a => ((retryDue [501, 600]).lanes.get .a).aon.ms < a + 60000)).length < 3 ∧
    ((retryDue [501, 600, 700]).lanes.get .a).main.check.retry = some 9 ∧ ((retryDue [501, 600, 700]).lanes.get .a).computing = true ∧
    3 ≤ (((retryDue [501, 600, 700]).lanes.get .a).aon.restarts.filter (fun a => ((retryDue [501, 600, 700]).lanes.get .a).aon.ms < a + 60000)).length ∧
    ((retrying []).lanes.get .a).dom = .on ∧ ((retrying []).lanes.get .a).state = .retrying ∧
    ((retrying []).lanes.get .a).aon.causeMs + 180 ≤ ((retrying []).lanes.get .a).aon.ms ∧ ((retrying []).lanes.get .a).loader.recordsDue = false ∧
    (retiredLane.lanes.get .a).aon.on = true ∧ (retiredLane.lanes.get .a).aon.pendrec = true ∧ retiredLane.polvin.dom = .on ∧
    retiredLane.polvin.clrWait = none ∧ retiredLane.polvin.logBad = false ∧ (onV retiredLane (fun p => { p with logBad := true })).polvin.logBad = true := by
  decide
theorem witness_restart : hashBytes (imgHash ((retrying []).lanes.get .a).loader.active) ≠ ((retrying []).lanes.get .a).aon.hash ∧
    hashBytes (imgHash ((retrying (hashBytes (imgHash []))).lanes.get .a).loader.active) = ((retrying (hashBytes (imgHash []))).lanes.get .a).aon.hash := by
  refine ⟨?_, rfl⟩
  simp [retrying, onL, State.setLane, Tri.get, Tri.set, hashBytes, beBytes, leBytes]
/-- An image whose thirteen required sections are empty (R76-R78); an empty section has CRC-32 0. -/
def emptyImage : Bytes := leBytes 4 0x5643544B ++ leBytes 4 1 ++ leBytes 4 7 ++ leBytes 4 320 ++ leBytes 4 13 ++ zeros 44 ++
  requiredSections.flatMap (fun i => leBytes 4 i ++ leBytes 4 320 ++ zeros 8) ++ zeros 48
/-- R76-R78: it has the right format; a section that is not listed, or a magic number that is not the image's, has not. -/
theorem test_format : formatFind emptyImage = none ∧ formatFind (emptyImage.set 64 15#8) = some (255, 64) ∧
    formatFind (emptyImage.set 0 0#8) = some (255, 0) ∧
    formatRefuse .a { slots := (emptyImage, []) } 0 = none ∧ (formatRefuse .a { slots := (emptyImage, []) } 1).map Refuse.code = some 1 := by decide +kernel
/-- `service` with the loader of lane A in a state. -/
def loading (st : CnvState) : State := onD service .a (fun d => { d with state := st, phash := [1#8] ++ zeros 31 })
theorem witness_pending : ((loading .receiving).lanes.get .a).computing = true ∧ (loading .receiving).polvin.ipub.isSome = true ∧
    ((loading .receiving).lanes.get .a).main.mode.mode = .service ∧ (loading .receiving).polvin.varnish = false ∧
    ((loading .receiving).lanes.get .a).loader.state ≠ .committed ∧ ((loading .receiving).lanes.get .a).loader.erasing = false ∧
    ((loading .receiving).lanes.get .a).loader.state = .receiving ∧ 4092 < 4096 ∧ 4092 % 4 = 0 ∧
    ((onD service .a (fun d => { d with erasing := true })).lanes.get .a).loader.erasing = true ∧
    ((onD service .a (fun d => { d with erasing := true })).lanes.get .a).computing = true := by decide
theorem witness_commit : ((loading .ready).lanes.get .a).computing = true ∧ (loading .ready).polvin.ipub.isSome = true ∧
    ((loading .ready).lanes.get .a).main.mode.mode = .service ∧ (loading .ready).polvin.varnish = false ∧
    ((loading .ready).lanes.get .a).loader.state = .ready ∧ u16At ((loading .ready).lanes.get .a).loader.phash 0 = 1 % 65536 ∧
    (16 : Nat) ≤ 16 ∧ (255 : Nat) ≤ 255 ∧ (loading .ready).polvin.dom = .on ∧ ((loading .empty).lanes.get .a).loader.state ≠ .ready ∧
    u16At ((loading .ready).lanes.get .a).loader.phash 0 ≠ 2 % 65536 ∧ ((loading .checking).lanes.get .a).loader.state = .checking ∧
    (formatRefuse .a ((loading .checking).lanes.get .a).loader ((loading .checking).lanes.get .a).loader.pslot).isSome = true ∧
    (let s := onD service .a (fun d => { d with commit := some (zeros 32, 12), state := .committed });
      (s.lanes.get .a).loader.commit = some (zeros 32, 12) ∧ reached 12 (s.lanes.get .a).main.time.round = true ∧ (s.lanes.get .a).awake = true ∧
      (s.lanes.get .a).loader.state = .committed ∧ s.polvin.ipub.isSome = true ∧ (onMode s .a (fun m => { m with mode := .sketch })).lanes.a.main.mode.mode ≠ .service ∧ s.polvin.retired.testBit LaneId.a.idx = false ∧
      (onV s (fun p => { p with retired := 1 })).polvin.retired.testBit LaneId.a.idx = true ∧ s.polvin.dom ≠ .off) := by
  decide +kernel
/-- `service` with an open session of peer 5. -/
def session : State := { service with port := { up := true, peer := some 5 } }
/-- Lane A with the receive slots of the SREQ of partner 7 on the planes of lanes A and B, partner 7 joined on both. -/
def requesting : State := onN (onC carousel .a (fun c => { c with slots := [{ rxEntry with kind := 5 }, { rxEntry with plane := 1, kind := 5 }] })) .a
  (fun m => { m with keys := [(slotKey 0 7, 0#128), (slotKey 1 7, 0#128)], partners := [(slotKey 0 7, { joined := true }), (slotKey 1 7, { joined := true })] })
/-- As `requesting`, a copy of request 0 taken on the plane of lane A, or on that of B. -/
def copied (q : Nat) : State := onM requesting .a (fun m => { m with service := { seen := [(7, 0, q)] } })
theorem witness_requests : session.servesVia .a 5 .port = true ∧ (zeros 8).length ≠ 1440 ∧ (zeros 1440).length = 1440 ∧
    (session.lanes.get .a).main.service.stream = none ∧ byteAt (zeros 8) 2 = 0 ∧
    requesting.servesVia .a 7 (.plane .a) = true ∧ requesting.servesVia .a 7 (.plane .b) = true ∧ (requesting.lanes.get .a).main.service.seen = [] ∧
    (copied 0).servesVia .a 7 (.plane .b) = true ∧ 0 < LaneId.b.idx ∧ (7, u16At (zeros 8) 0, 0) ∈ ((copied 0).lanes.get .a).main.service.seen ∧
    (copied 1).servesVia .a 7 (.plane .a) = true ∧ (7, u16At (zeros 8) 0, LaneId.b.idx) ∈ ((copied 1).lanes.get .a).main.service.seen ∧
    LaneId.a.idx < LaneId.b.idx := by decide +kernel
theorem witness_replies : (let s := onM session .a (fun m => { m with
      service := { reqs := [⟨5, .port, 1, 12, [.read [(LaneId.a.code * 268435456 + 0x100000, none)]], false, false⟩] } });
    (s.lanes.get .a).serves = true ∧ (s.lanes.get .a).main.shadow.due = [] ∧ (s.lanes.get .a).main.service.replies = [] ∧
    (s.lanes.get .a).main.time.round = 12 ∧ 12 < 16777216 ∧ (s.lanes.get .a).main.sent = []) ∧
    (let s := onM session .a (fun m => { m with service := { replies := [⟨5, .port, 1, 13, []⟩] } });
    (s.lanes.get .a).serves = true ∧ (s.lanes.get .a).main.service.reqs = [] ∧ s.port.up = true ∧ s.portLive = true ∧ s.port.peer = some 5) ∧
    (∀ a ∈ [0x100000, 0x900014, 0xD00034], ∀ l : LaneId, l.code * 268435456 + a ∈ [l.code * 268435456 + 0x100000, l.code * 268435456 + 0x900014,
      l.code * 268435456 + 0xD00034]) ∧
    (let s := onM (onM session .a (fun m => { m with service := { replies := [⟨5, .port, 1, 13, []⟩] } })) .b (fun m => { m with
        service := { replies := [⟨5, .port, 1, 13, []⟩] } });
      LaneId.a.idx < LaneId.b.idx ∧ (s.lanes.get .a).serves = true ∧ (s.lanes.get .b).serves = true ∧ (s.lanes.get .b).main.service.reqs = [] ∧
      ∃ x ∈ (s.lanes.get .a).main.service.replies, x.via = .port ∧ x.rid = 1 ∧ x.effect = 13) := by
  refine ⟨by decide, by decide, by simp, by decide⟩
/-- Lane A with an open stream of peer 5 at the last offset that a frame of 1440 bytes fits, its slot open to be written. -/
def streaming : State := onD (onM session .a (fun m => { m with service := { stream := some ⟨5, LaneId.a.code, 4192864, 3⟩ } })) .a
  (fun d => { d with state := .receiving })
/-- As `session`, with a PERM entry that lets the peer write EVT_STATUS of lane A in any mode. -/
def permitting : State := onC session .a (fun c => { c with
  perms := [⟨LaneId.a.code * 268435456 + 0xC00000, LaneId.a.code * 268435456 + 0xC0001F, 0xFFFFFFFF, 127, 255, 0, false⟩] })
/-- Lane A with one write due in its round. -/
def writeDue : State := onM session .a (fun m => { m with shadow := { due := [⟨some ⟨5, .port⟩, ⟨LaneId.a.code * 268435456 + 0x100000, true, 0, 0⟩, 12, 1⟩] } })
theorem witness_stream : streaming.servesVia .a 5 .port = true ∧ (zeros 1440).length = 1440 ∧
    (streaming.lanes.get .a).main.service.stream = some ⟨5, LaneId.a.code, 4192864, 3⟩ ∧ 4192864 ≤ 4192864 ∧ 4192864 % 4 = 0 ∧
    (streaming.lanes.get .a).main.office.holder = some 5 ∧ streaming.cnvGate .a = 0 ∧ (streaming.lanes.get .a).loader.state = .receiving ∧
    (streaming.lanes.get .a).main.shadow.ranges = [] := by decide +kernel
theorem witness_write : (writeDue.lanes.get .a).serves = true ∧ (writeDue.lanes.get .a).main.sent = [] ∧
    (writeDue.lanes.get .a).main.shadow.due = [⟨some ⟨5, .port⟩, ⟨LaneId.a.code * 268435456 + 0x100000, true, 0, 0⟩, 12, 1⟩] ∧
    reached 12 (writeDue.lanes.get .a).main.time.round = true ∧ (writeDue.lanes.get .a).main.service.reqs = [] ∧
    addrUnit (LaneId.a.code * 268435456 + 0x100000) = LaneId.a.code ∧ addrBlock (LaneId.a.code * 268435456 + 0x100000) ≠ 0xD ∧
    (let x : ShadowWrite := ⟨some ⟨5, .port⟩, ⟨LaneId.a.code * 268435456 + 0xC00000 + 28, true, 0x80000000, 0xFFFFFFFF⟩, 12, 1⟩
     (permitting.lanes.get .a).stillPermitted .a x = true ∧ 7 < 8 ∧ 31 < 32 ∧ addrUnit x.acc.addr = LaneId.a.code ∧ addrBlock x.acc.addr ≠ 0xD) := by decide
/-- A lane and a unit with a staged write and PEND set. -/
def staged : State := onM (onU base (.fb .fb1) (fun c => { c with shadow := { staged := [⟨none, ⟨3, true, 0, 0⟩, 0, 0⟩], pend := true } })) .a
  (fun m => { m with shadow := { staged := [⟨none, ⟨3, true, 0, 0⟩, 0, 0⟩], pend := true } })
theorem witness_go : let s := staged;
    (s.lanes.get .a).computing = true ∧ (s.lanes.get .a).main.shadow.staged ≠ [] ∧ (s.lanes.get .a).main.shadow.pend = true ∧
    s.runs (.fb .fb1) = true ∧ ((s.ucom.get (.fb .fb1)).takenIn).shadow.staged ≠ [] ∧ ((s.ucom.get (.fb .fb1)).takenIn).shadow.pend = true ∧
    (base.lanes.get .a).main.shadow.staged = [] ∧ (base.lanes.get .a).main.shadow.pend = false ∧
    ((base.ucom.get (.fb .fb1)).takenIn).shadow.staged = [] ∧ ((base.ucom.get (.fb .fb1)).takenIn).shadow.pend = false ∧
    ((onM s .a (fun m => { m with time := { m.time with roundDue := true } })).lanes.get .a).main.time.roundDue = true ∧
    ((onM base .a (fun m => { m with time := { m.time with roundDue := true } })).lanes.get .a).main.shadow.staged = [] ∧
    ((onU s (.fb .fb1) (fun c => { c with roundDue := true })).ucom.get (.fb .fb1)).takenIn.roundDue = true := by decide
theorem witness_ceremony : session.polvin.dom = .on ∧ session.polvin.busy = false ∧ session.mayCeremony ⟨5, .port⟩ = true ∧
    session.mayCeremony ⟨6, .port⟩ = false ∧ session.polvin.ipub.isSome = true ∧ (onV session (fun p => { p with ipub := none })).polvin.ipub = none ∧
    2 ∉ [0, 1, 9] ∧ 9 ∈ [0, 1, 9] := by decide
theorem witness_ceremony_pair : (Instr.bkey ⟨5, .port⟩, 9) ∈ [(Instr.newchal ⟨5, .port⟩, 0), (.enrol ⟨5, .port⟩, 1), (.rotate ⟨5, .port⟩, 2),
    (.passwd ⟨5, .port⟩, 3), (.unlock ⟨5, .port⟩, 4), (.lock ⟨5, .port⟩, 5), (.varnish ⟨5, .port⟩, 6), (.strip ⟨5, .port⟩, 7),
    (.cert ⟨5, .port⟩, 8), (.bkey ⟨5, .port⟩, 9)] := by simp
theorem witness_effects : let s := onV session (fun p => { p with cmd := some (9, 0, ⟨5, .port⟩), busy := true });
    s.polvin.dom = .on ∧ s.polvin.cmd = some (9, 0, ⟨5, .port⟩) ∧ s.polvin.clrWait = none ∧ 1 ≤ 9 ∧ 9 ≤ 9 ∧ 9 ≠ 5 ∧
    (onV session (fun p => { p with cmd := some (4, 0, ⟨5, .port⟩), busy := true, leftSvc := true })).polvin.cmd = some (4, 0, ⟨5, .port⟩) := by decide
theorem witness_expiries : let s := onV session (fun p => { p with locked := true });
    s.polvin.locked = true ∧ s.polvin.lockLeft = 0 ∧ 0 < (onV session (fun p => { p with lockLeft := 1 })).polvin.lockLeft ∧
    s.polvin.dom = .on ∧ s.devMode = .service ∧ s.mayCeremony ⟨5, .port⟩ = true ∧ s.polvin.varnish = false ∧ s.polvin.busy = false ∧
    (onV s (fun p => { p with busy := true })).polvin.busy = true := by decide
theorem witness_unretire : (∀ l, (7 : Nat).testBit l.idx = true → (session.lanes.get l).aon.pendrec = false) ∧
    (let s := onL session .b (fun n => { n with aon := { n.aon with pendrec := true } });
      (7 : Nat).testBit LaneId.b.idx = true ∧ (s.lanes.get .b).aon.pendrec = true ∧ s.polvin.dom = .on ∧ s.devMode = .service ∧
      s.mayCeremony ⟨5, .port⟩ = true ∧ s.polvin.varnish = false) ∧
    (let s := onL (onV session (fun p => { p with clrWait := some (1, ⟨5, .port⟩), logBad := false })) .b (fun n => { n with aon := { n.aon with retired := true } });
      (7 : Nat).testBit LaneId.b.idx = true ∧ (s.lanes.get .b).aon.retired = true ∧ s.polvin.retired.testBit LaneId.a.idx = false ∧
      s.polvin.clrWait = some (1, ⟨5, .port⟩) ∧ s.polvin.ipub.isSome = true ∧ (onV s (fun p => { p with ipub := none })).polvin.ipub = none ∧
      (onV s (fun p => { p with varnish := true })).polvin.unlocked = false) ∧
    session.polvin.busy = false ∧ base.devMode ≠ .service ∧ session.mayCeremony ⟨6, .port⟩ = false := by
  refine ⟨by intro l; cases l <;> decide, by decide⟩
theorem witness_polvin : let s := onV base (fun p => { p with att := { signing := some (zeros 16) }, devKey := some 1 })
    base.polvin.dom = .on ∧ base.polvin.att.signing = none ∧ base.polvin.devKey = none ∧ s.polvin.att.signing = some (zeros 16) ∧
    s.polvin.dom = .on ∧ (zeros 16).length = 16 ∧ s.polvin.devKey ≠ none ∧ (3 : Nat) < 4 ∧ (2 : Nat) < 3 ∧
    base.polvin.logBad = false ∧ (onV base (fun p => { p with logBad := true })).polvin.logBad = true := by decide
/-- Lanes that wait for the Polvin core: A with an EPOCH to record, B in BOOT with its retirement record to read. -/
def waitingLanes : State := onL (onD base .a (fun d => { d with ahead := true, asigned := true, aepoch := 9 })) .b (fun n => { n with state := .boot })
theorem witness_waiting : (waitingLanes.lanes.get .a).awake = true ∧ (waitingLanes.lanes.get .a).loader.ahead = true ∧
    (waitingLanes.lanes.get .a).loader.asigned = true ∧ (waitingLanes.lanes.get .b).state = .boot ∧
    (waitingLanes.lanes.get .b).loader.recRead = false ∧ waitingLanes.polvin.retired.testBit LaneId.b.idx = false ∧
    (onV waitingLanes (fun p => { p with retired := 2 })).polvin.retired.testBit LaneId.b.idx = true ∧
    (∀ l, ((base.lanes.get l).awake = true → (base.lanes.get l).loader.ahead = false) ∧
      ((base.lanes.get l).state = .boot → (base.lanes.get l).loader.recRead = true)) := by
  refine ⟨by decide, by decide, by decide, by decide, by decide, by decide, by decide, by intro l; cases l <;> decide⟩
/-- Ring 31 of lane A as given. -/
def ringState (g : Ring) : State := onM base .a (fun m => { m with
  dma := { m.dma with rings := List.replicate 31 {} ++ [g], marks := [0x10004, 0x30001] ++ List.replicate 14 0 } })
theorem witness_rings : LaneId.a ≠ .c ∧ ((ringState {}).lanes.get .a).awake = true ∧ 31 < ((ringState {}).lanes.get .a).main.dma.rings.length ∧
    (((ringState {}).lanes.get .a).main.dma.marks.getD 0 0).testBit 16 = true ∧
    ((ringState {}).lanes.get .a).main.dma.marks.getD 0 0 % 8 = ((ringState {}).lanes.get .a).main.time.tick % 8 ∧
    (((ringState {}).lanes.get .a).main.dma.marks.getD 1 0).testBit 17 = true ∧
    (((ringState {}).lanes.get .a).main.dma.marks.getD 2 0).testBit 16 = false ∧
    ((ringState {}).lanes.get .a).main.canvas.ownerOf (resCode 0x0A LaneId.a.code 31) = none ∧
    ((onC (ringState {}) .a (fun c => { c with own := [(resCode 0x0A LaneId.a.code 31, 254)] })).lanes.get .a).main.canvas.ownerOf
      (resCode 0x0A LaneId.a.code 31) ≠ none := by decide
theorem witness_ring_work : (ringOf (ringState { state := 1 }) .a 31).state = 1 ∧
    (List.range 32).find? (fun k => ringWaits (ringOf (ringState { state := 2, srcs := [0x20000000], dsts := [0x203FFFFF], burst := 8 }) .a k)) = some 31 ∧
    busRange 0x20000000 = some .sram ∧ busRange 0x203FFFFF = some .sram ∧ memWf ((ringState {}).lanes.get .a).main.mem = true ∧
    (ringOf (ringState { state := 2 }) .a 31).state = 2 ∧ (ringOf (ringState { state := 2 }) .a 31).srcs = [] ∧
    [0x203FFFFF].Nodup ∧ (ringOf (ringState { state := 2, srcs := [0x20000000], dsts := [0x203FFFFF], burst := 8, req := 63 }) .a 31).req < 64 ∧
    (ringOf (ringState { state := 2 }) .a 31).moved < 4294967296 ∧ 0x200FFFFF ∉ (ringOf (ringState { state := 2, dsts := [0x203FFFFF] }) .a 31).dsts ∧
    (ringOf (ringState { state := 2, crcKind := 1 }) .a 31).crcKind ≠ 0 ∧
    (0x20000010 < (ringOf (ringState { state := 2, cur := 0x20000010 }) .a 31).cur + 16) := by decide +kernel
theorem witness_ring_requests : (32 : Nat) ≤ 63 ∧ (63 : Nat) < 64 ∧ (31 : Nat) < 32 ∧ ((ringState {}).lanes.get .a).main.dma.fifoLine 65 = true ∧
    ((ringState {}).lanes.get .a).main.dma.fifoLine 95 = false ∧ ((ringState {}).lanes.get .a).main.dma.fifoLine 31 = false ∧
    ((ringState {}).lanes.get .a).main.dma.rings.length = 32 ∧ (ringOf (ringState { state := 2, req := 63, pend := 14 }) .a 31).req = 63 ∧
    (ringOf (ringState { state := 1, req := 63, pend := 15 }) .a 31).pend = 15 ∧ (ringOf (ringState { state := 3 }) .a 31).state ≠ 2 := by decide
/-- A unit with an open window of two rounds that has run out. -/
def windowState : State := onU base (.fb .fb1) (fun c => { c with
  evt := { counts := [(1, { count := 3, start := 5, isOpen := true })], cfg := [(1, ⟨7, 2, 0⟩)] } })
theorem witness_events : base.polvin.dom = .on ∧ (9 : Nat) ≤ 9 ∧ 9 ∉ [0, 6] ∧ 9 < 10 ∧ base.runs (.fb .fb1) = true ∧
    (State.reset.ucom.get (.fb .fb1)).cfg.loaded = false ∧ State.reset.runs (.fb .fb1) = true ∧ (base.ucom.get (.fb .fb1)).cfg.loaded = true ∧
    (base.lanes.get .a).awake = true ∧ (evtDefault (unitKind (.isl .i1)) 4).isSome = true ∧ base.runs (.isl .i1) = true ∧
    (evtDefault (laneKind .a) 0).isSome = true ∧ evtDefault (laneKind .c) 20 = none ∧ (base.lanes.get .a).aon.first.valid = false ∧
    (base.lanes.get .a).main.evt.mask.testBit 14 = false ∧ windowState.runs (.fb .fb1) = true ∧
    (windowState.ucom.get (.fb .fb1)).evt.counts = [(1, { count := 3, start := 5, isOpen := true })] ∧
    evtCfgOf (unitKind (.fb .fb1)) (windowState.ucom.get (.fb .fb1)).evt 1 = some ⟨7, 2, 0⟩ ∧
    7 ≤ ((windowState.ucom.get (.fb .fb1)).round + 16777216 - 5) % 16777216 ∧
    (service.lanes.get .a).awake = true ∧ (service.lanes.get .a).main.mode.mode = .service := by decide
/-- Every block with an occurrence of source 7 and of a SEVERE source 7 at this boundary. -/
def sameBoundary : State := onM (onU (onV base (fun p => { p with evt := { now := 128, sevNow := 128 } })) (.isl .i1) (fun c => { c with
  evt := { now := 128, sevNow := 128 } })) .a (fun m => { m with evt := { now := 128, sevNow := 128 } })
theorem witness_same_boundary : (sameBoundary.lanes.get .a).main.evt.now.testBit 7 = true ∧ (sameBoundary.lanes.get .a).main.evt.sevNow.testBit 7 = true ∧
    (sameBoundary.ucom.get (.isl .i1)).evt.now.testBit 7 = true ∧ (sameBoundary.ucom.get (.isl .i1)).evt.sevNow.testBit 7 = true ∧
    sameBoundary.polvin.evt.now.testBit 7 = true ∧ sameBoundary.polvin.evt.sevNow.testBit 7 = true ∧
    (base.lanes.get .a).main.evt.now.testBit 7 = false ∧ (base.lanes.get .a).main.evt.sevNow.testBit 7 = false ∧
    (base.ucom.get (.isl .i1)).evt.now.testBit 7 = false ∧ (base.ucom.get (.isl .i1)).evt.sevNow.testBit 7 = false ∧
    base.polvin.evt.now.testBit 7 = false ∧ base.polvin.evt.sevNow.testBit 7 = false ∧ 7 ∉ [0, 6] := by decide
/-- Every block with a window of source 1 of two rounds that has run out and one of source 2 of 16 rounds that has not. -/
def twoWindows : EvtBlock :=
  { counts := [(1, { count := 3, start := 5, isOpen := true }), (2, { count := 2, start := 5, isOpen := true })], cfg := [(1, ⟨7, 2, 0⟩), (2, ⟨16, 2, 0⟩)] }
def closing : State := onM (onU (onV base (fun p => { p with evt := twoWindows })) (.fb .fb1) (fun c => { c with evt := twoWindows })) .a
  (fun m => { m with evt := twoWindows })
/-- R368: the window that has run out closes with count 0 and the other stays, in a lane, a unit and the Polvin core. -/
theorem test_windows : (match exec (.windowExpiry (.lane .a) 1) closing with | .next t => (t.lanes.get .a).main.evt.counts | _ => []).map (fun (e : Nat × EvtCount) => (e.1, e.2.count, e.2.isOpen)) =
      [(1, 0, false), (2, 2, true)] ∧
    (match exec (.windowExpiry (.unit (.fb .fb1)) 1) closing with | .next t => (t.ucom.get (.fb .fb1)).evt.counts | _ => []).map (fun (e : Nat × EvtCount) => (e.1, e.2.count, e.2.isOpen)) =
      [(1, 0, false), (2, 2, true)] ∧
    (match exec (.windowExpiry .polvin 1) closing with | .next t => t.polvin.evt.counts | _ => []).map (fun (e : Nat × EvtCount) => (e.1, e.2.count, e.2.isOpen)) =
      [(1, 0, false), (2, 2, true)] := by decide +kernel
/-- A frame of partner 7 with payload 4 bytes in the receive slot, its tag left 0; a beacon; JOIN frames with MSG1 and MSG3. -/
def frame (flags slot dest : Nat) (arr : Int) (pay : Bytes) : RxFrame :=
  ⟨.a, 0, true, frameOf 0x88B5 0 7 dest (headerOf flags 0 12 slot 7 pay.length 0 dest) pay none, arr⟩
def dataFrame (arr : Int) : RxFrame := frame 0 0x20 1 arr (zeros 4)
def beaconFrame : RxFrame := frame 2 0 4095 1000 ([7#8] ++ zeros 15)
def joinFrag (msg len : Nat) : RxFrame :=
  frame 4 0x20 1 9000 (zeros 4 ++ [BitVec.ofNat 8 msg, 0#8, BitVec.ofNat 8 (joinLen msg), 0#8] ++ zeros len)
def listening : State := onL (onN carousel .a (fun m => { m with listening := true })) .a (fun n => { n with state := .sync })
theorem witness_frames : (dataFrame 1000).medium ≠ 9 ∧ carousel.receives .a (dataFrame 1000) = true ∧
    (carousel.lanes.get .a).frameSound (dataFrame 1000) = true ∧ frFlags (dataFrame 1000).bytes = 0 ∧
    frSender (dataFrame 1000).bytes ≠ (carousel.lanes.get .a).main.canvas.net.self ∧
    (carousel.lanes.get .a).main.canvas.rxSlot 0 0 (frSlot (dataFrame 1000).bytes) = some rxEntry ∧ rxEntry.peer = frSender (dataFrame 1000).bytes ∧
    frPeer (dataFrame 1000).bytes = (carousel.lanes.get .a).main.canvas.net.self ∧ ((carousel.lanes.get .a).partner 0 7).silenced = false ∧
    frCycle (dataFrame 1000).bytes = (carousel.lanes.get .a).main.time.round ∧
    ((4000 : Int) - (rxEntry.start : Int)).natAbs ≤ (carousel.lanes.get .a).main.canvas.winOf rxEntry ∧
    ((carousel.lanes.get .a).partner 0 7).joined = true ∧ (carousel.lanes.get .a).main.net.rx = [] ∧
    (carousel.lanes.get .a).rxKey 0 (dataFrame 1000).bytes = some (some 0#128) ∧
    (carousel.lanes.get .a).main.canvas.winOf rxEntry < ((4001 : Int) - (rxEntry.start : Int)).natAbs := by decide +kernel
theorem witness_beacon : listening.receives .a beaconFrame = true ∧ (listening.lanes.get .a).frameSound beaconFrame = true ∧
    frFlags beaconFrame.bytes = 2 ∧ frLen beaconFrame.bytes = 16 ∧ (listening.lanes.get .a).main.net.bk = some (zeros 16) ∧
    (listening.lanes.get .a).main.net.listening = true ∧
    u16At (frPayload beaconFrame.bytes) 0 % 4096 ≠ (listening.lanes.get .a).main.canvas.net.self ∧ (listening.lanes.get .a).state ≠ .voting := by
  decide +kernel
/-- An exchange of partner 7 with lane A at a stage. -/
def joining (j : Join) : State := onN carousel .a (fun m => { m with joins := [(7, j)] })
def join3 : Join := ⟨7, 3, [], [], 0, [], [], 0, none, 0⟩
theorem witness_join : joinTaken carousel .a (joinFrag 1 196) rxEntry 1 0 ∧ (carousel.lanes.get .a).join 7 = none ∧
    ((frPayload (joinFrag 1 195).bytes).drop 8).length < 196 ∧ 196 ≤ ((frPayload (joinFrag 1 196).bytes).drop 8).length ∧
    joinTaken carousel .a (joinFrag 1 195) rxEntry 1 0 ∧ carousel.polvin.dom = .on ∧ (onV carousel (fun p => { p with dom := .off })).polvin.dom ≠ .on ∧
    joinTaken (onV carousel (fun p => { p with dom := .off })) .a (joinFrag 1 196) rxEntry 1 0 := by
  unfold joinTaken; decide +kernel
theorem witness_join3 : ((joining join3).lanes.get .a).join 7 = some join3 ∧ join3.stage = 3 ∧
    joinTaken (joining join3) .a (joinFrag 3 64) rxEntry 3 join3.got.length ∧
    64 ≤ join3.got.length + ((frPayload (joinFrag 3 64).bytes).drop 8).length ∧ (joining join3).polvin.dom = .on := by
  unfold joinTaken; decide +kernel
/-- As `carousel` with partner 7's whole MSG1 waiting at the Polvin core. -/
def waitingJoin : State := joining { join3 with stage := 5, got := zeros 196 }
theorem witness_join_turn : carousel.polvin.joinGap = 0 ∧ carousel.waitingJoins = [] ∧
    (onV carousel (fun p => { p with joinGap := 1 })).polvin.joinGap ≠ 0 ∧
    joinTaken (onV carousel (fun p => { p with joinGap := 1 })) .a (joinFrag 1 196) rxEntry 1 0 ∧
    (waitingJoin.lanes.get .a).aon.on = true ∧ waitingJoin.leadLane = some .a ∧ waitingJoin.polvin.dom = .on ∧ waitingJoin.polvin.joinGap ≤ 1 ∧
    waitingJoin.nextJoin = some (.a, 7) ∧ (waitingJoin.lanes.get .a).join 7 = some { join3 with stage := 5, got := zeros 196 } := by
  unfold joinTaken; decide +kernel
theorem witness_join_follower : (carousel.lanes.get .a).computing = true ∧
    ((joining { join3 with stage := 12, got := zeros 256 }).lanes.get .a).join 7 = some { join3 with stage := 12, got := zeros 256 } ∧
    (zeros 256).length = 256 ∧
    ((joining { join3 with stage := 14, got := zeros 36, key := some 1 }).lanes.get .a).join 7 = some { join3 with stage := 14, got := zeros 36, key := some 1 } ∧
    (zeros 36).length = 36 := by decide +kernel
theorem witness_epoch : let s := onN (onM base .a (fun m => { m with time := { m.time with round := 0xFFFF00 } })) .a (fun m => { m with epoch := 0xFFFE });
    (s.lanes.get .a).awake = true ∧ (s.lanes.get .a).main.time.round = 0xFFFF00 ∧ (s.lanes.get .a).main.net.epoch ≠ 0xFFFF ∧
    (s.lanes.get .b).main.time.round ≠ 0xFFFF00 ∧ (onN s .a (fun m => { m with epoch := 0xFFFF })).lanes.a.main.net.epoch = 0xFFFF := by decide
theorem witness_plane : (listening.lanes.get .a).computing = true ∧ (listening.lanes.get .a).main.net.listening = true ∧
    (listening.lanes.get .a).main.net.heard = false ∧ (listening.lanes.get .a).main.canvas.net.mcap = true ∧ listening.polvin.keyRec ≠ 0xFFFF ∧
    (onV listening (fun p => { p with keyRec := 0xFFFF })).polvin.keyRec = 0xFFFF ∧ (onN listening .a (fun m => { m with clash := true })).lanes.a.main.net.clash = true ∧
    (let s := onN carousel .a (fun m => { m with role := 2, bmiss := 8, cps := [0x180000] });
      (s.lanes.get .a).main.net.role = 2 ∧ 8 ≤ (s.lanes.get .a).main.net.bmiss ∧ ((s.lanes.get .a).main.net.cps.getD 0 0).testBit 19 = true ∧
      (s.lanes.get .a).main.net.phase ≠ 0 ∧ ((s.lanes.get .a).main.net.cps.getD 0 0).testBit (19 + (s.lanes.get .a).main.net.phase) = true) ∧
    (let s := onN carousel .a (fun m => { m with role := 3, bmiss := 7, phase := 0 });
      (s.lanes.get .a).main.net.role = 3 ∧ (s.lanes.get .a).main.net.bmiss < 8 ∧ (s.lanes.get .a).main.net.phase = 0) ∧
    (carousel.lanes.get .a).main.canvas.slots.find? (fun e => !e.tx && e.plane = 0x20 / 4096 && e.slot = 0x20 % 4096) = some rxEntry ∧
    (carousel.lanes.get .a).main.net.rx.any (fun x => x.plane = 0x20 / 4096 && x.slot = 0x20 % 4096) = false ∧
    (carousel.lanes.get .a).aon.pwr.phy = .on ∧
    (let s := onN carousel .a (fun m => { m with rx := [⟨0, 0x20, [], false, 0⟩] });
      (s.lanes.get .a).main.net.rx.any (fun x => x.plane = 0x20 / 4096 && x.slot = 0x20 % 4096) = true) := by decide
theorem witness_segments : let s := onC carousel .a (fun c => { c with slots := [{ rxEntry with medium := 2 }] });
    (s.lanes.get .a).awake = true ∧ (s.lanes.get .a).aon.pwr.phy = .on ∧ 1 < planeSegs .a ∧
    (∃ e ∈ (s.lanes.get .a).main.canvas.slots, e.plane = LaneId.a.idx ∧ e.medium = 1 + 1) ∧
    (∀ e ∈ (s.lanes.get .a).main.canvas.slots, e.plane = LaneId.a.idx → e.medium ≠ 0 + 1) ∧ planeSegs .a ≤ 8 ∧ planeSegs .c ≤ 4 := by decide
/-- `carousel` with its transmit slot of a kind, and a payload posted in it. -/
def sending (kind : Nat) : State := onN (onC carousel .a (fun c => { c with slots := [rxEntry, { txEntry with kind := kind }] })) .a
  (fun m => { m with phase := 0, role := 1, tx := [(0x21, ⟨[1#8], [0], false⟩)] })
theorem witness_slots : (∀ k ∈ [0, 2, 3, 6],
      ((sending k).lanes.get .a).main.canvas.slots.find? (fun e => e.tx && e.plane = LaneId.a.idx && e.slot = 0x21) = some { txEntry with kind := k } ∧
      ((sending k).lanes.get .a).transmits = true ∧ ((sending k).lanes.get .a).join 7 = none) ∧
    ((sending 0).lanes.get .a).txKey .a txEntry = some 0#128 ∧ ((sending 0).lanes.get .a).nullSlot txEntry = false ∧
    ((sending 0).lanes.get .a).released .a txEntry = some [1#8] ∧ (carousel.lanes.get .a).released .a txEntry = none ∧
    ((onN (sending 0) .a (fun m => { m with silenced := true })).lanes.get .a).transmits = false ∧
    ((sending 6).lanes.get .a).main.service.replies = [] ∧ ((sending 3).lanes.get .a).main.net.role = 1 ∧
    ((sending 3).lanes.get .a).main.net.bk = some (zeros 16) := by decide +kernel
/-- `sending` with the gate of its slot, and with a payload of ACT whose mirror copy is not complete. -/
def gated (k : Nat) : State := onM (onN (sending k) .a (fun m => { m with gate := [txEntry] })) .a (fun m => { m with check := { m.check with lateSlots := [0x21] } })
theorem witness_gate : (let n := (gated 0).lanes.get .a;
      let fr := frameSent n .a txEntry 0 7 [1#8] (some 0#128);
      gateOpen n .a txEntry fr 1500 = true ∧ gateOpen n .a txEntry fr 1499 = false ∧ n.main.net.gate.filter (fun e => e.medium = 0) = [txEntry]) ∧
    (let n := (gated 2).lanes.get .a;
      0x21 ∈ n.main.check.lateSlots ∧ n.nullSlot { txEntry with kind := 2 } = false ∧ (n.released .a { txEntry with kind := 2 }).isSome = true ∧
      n.txKey .a { txEntry with kind := 2 } = some 0#128 ∧ n.join 7 = none ∧ n.transmits = true) := by decide +kernel
/-- `sending` with a reply for partner 7, and without one. -/
def replying : State := onM (sending 6) .a (fun m => { m with service := { m.service with replies := [⟨7, .plane .a, 1, 13, []⟩] } })
theorem witness_reply_slot : ((sending 4).lanes.get .a).transmits = true ∧ ((sending 4).lanes.get .a).join 7 = none ∧
    ((sending 4).lanes.get .a).txKey .a { txEntry with kind := 4 } = some 0#128 ∧ (replying.lanes.get .a).transmits = true ∧
    (replying.lanes.get .a).aon.pwr.step1 = false ∧ (replying.lanes.get .a).txKey .a { txEntry with kind := 6 } = some 0#128 ∧
    (replying.lanes.get .a).main.service.replies.find? (fun r => r.sender = 7 && decide (r.via ≠ .port)) = some ⟨7, .plane .a, 1, 13, []⟩ ∧
    ((onP (sending 0) .a (fun p => { p with step2 := true })).lanes.get .a).nullSlot txEntry = true := by decide +kernel
/-- CAN ports of lanes A and B in a mode, claimed. -/
def can (mode name : Nat) : State := onM (onC base .a (fun c => { c with net := { canMode := (mode, 0), canName := (name, 0) } })) .a
  (fun m => { m with can := { claimed := true } })
theorem witness_can : ((can 1 0).lanes.get .a).canRuns .a 1 = true ∧ ((can 1 0).lanes.get .a).main.can.claimed = true ∧
    (((can 1 0).lanes.get .a).canName .a).testBit 63 = false ∧ (((can 1 0x8000000000000000).lanes.get .a).canName .a).testBit 63 = true ∧
    multiPacket 0xEC0000 = true ∧ multiPacket 0xAC0000 = false ∧ ((can 2 0).lanes.get .a).canRuns .a 2 = true ∧ LaneId.a ≠ .c ∧
    ((can 2 0).lanes.get .a).awake = true ∧ ((can 2 0).lanes.get .a).canMode .a ≠ 0 := by decide
/-- `can 1 n` with TEC, the claim last sent, and the addresses lost before. -/
def canAt (name tec sent : Nat) (taken : List Nat) : State := onM (can 1 name) .a (fun m => { m with
  can := { m.can with tec := tec, sent := sent, addr := 247, taken := taken } })
theorem witness_can_counters : ((canAt 0 247 1 []).lanes.get .a).canRuns .a 1 = true ∧ ((canAt 0 247 1 []).lanes.get .a).main.can.tec ≤ 247 ∧
    247 < ((canAt 0 248 0 []).lanes.get .a).main.can.tec ∧ ((canAt 0 248 0 []).lanes.get .a).main.can.sent = 0 ∧
    ((canAt 0 247 1 []).lanes.get .a).main.can.sent ≠ 0 ∧ ((canAt 0 248 0 []).lanes.get .a).canRuns .a 1 = true := by decide
/-- Every other address of 128-247 lost before. -/
def allTaken : State := canAt 0x8000000000000000 0 1 ((List.range 119).map (· + 128))
theorem witness_addresses_left : (allTaken.lanes.get .a).canRuns .a 1 = true ∧ (allTaken.lanes.get .a).main.can.claimed = true ∧
    ((allTaken.lanes.get .a).canName .a).testBit 63 = true ∧
    (∀ a, 128 ≤ a → a ≤ 247 → a = (allTaken.lanes.get .a).main.can.addr ∨ a ∈ (allTaken.lanes.get .a).main.can.taken) ∧
    (∃ a, 128 ≤ a ∧ a ≤ 247 ∧ a ≠ ((canAt 0x8000000000000000 0 1 [246]).lanes.get .a).main.can.addr ∧
      a ∉ ((canAt 0x8000000000000000 0 1 [246]).lanes.get .a).main.can.taken) := by
  refine ⟨by decide, by decide, by decide, ?_, 200, by decide⟩
  intro a h1 h2
  have hc : (allTaken.lanes.get .a).main.can.addr = 247 := rfl
  have ht : (allTaken.lanes.get .a).main.can.taken = (List.range 119).map (· + 128) := rfl
  rw [hc, ht]
  by_cases h : a = 247
  · exact .inl h
  · exact .inr (List.mem_map.mpr ⟨a - 128, List.mem_range.mpr (by omega), by show a - 128 + 128 = a; omega⟩)
theorem witness_office : let s := onM session .a (fun m => { m with office := { holder := some 5, cmdrs := [{ miss := 4 }] } });
    (s.lanes.get .a).computing = true ∧ (s.lanes.get .a).holderGone = true ∧ (session.lanes.get .a).holderGone = false ∧ s.port.up = true ∧
    service.port.up = false ∧ service.portLive = true ∧ service.polvin.dom = .on ∧
    (⟨5, 1, true, []⟩ : CmdrDef) ∈ service.lanes.a.main.canvas.cmdrs ∧ base.portLive = false ∧
    (200000 : Nat) ≤ ({ session.port with idle := 200000 } : Session).idle ∧ session.port.idle < 200000 ∧ 
    session.portLive = true ∧ (onV service (fun p => { p with dom := .off })).portLive = true ∧ (onV service (fun p => { p with dom := .off })).polvin.dom ≠ .on := by
  decide
theorem witness_unowned : let s := onV service (fun p => { p with ipub := none });
    s.portLive = true ∧ s.port.up = false ∧ s.polvin.ipub = none ∧ s.polvin.dom = .on ∧ (s.lanes.get .a).awake = true ∧
    (zeros 196).length = 196 ∧ (zeros 64).length = 64 := by decide +kernel
theorem witness_session_counters : (∀ l, session.port.rxCtr.get l ≠ some 0xFFFFFF) ∧ (∀ l, session.port.txCtr.get l < 0xFFFFFF) ∧
    0xFFFFFF ≤ ({ session.port with txCtr := ⟨0, 0xFFFFFF, 0⟩ } : Session).txCtr.get .b :=
  ⟨by intro l; cases l <;> decide, by intro l; cases l <;> decide, by decide⟩

/-- Lanes, units and the core asleep, as given; and every lane with acknowledgements at s+2. -/
def asleep : State := {
  lanes := Tri.all { voting with state := .off, dom := .retention, aon := { pwr := { slept := true } } }, ucom := Ten.all { loadedUnit with dom := .retention },
  polvin := { dom := .retention } }
/-- A lane that may go to sleep (R394). -/
def stillLane : State := onP (onMode base .a (fun m => { m with slow := 40000, park := true })) .a (fun p => { p with pinLow := 40000 })
def entering (k : Nat) : State := { base with lanes := Tri.all { voting with aon := { pwr := { sleepAt := some 2, acks := k } } } }
theorem witness_input : (base.lanes.get .a).aon.on = true ∧ (base.lanes.get .a).dom = .on ∧ (base.lanes.get .a).state ≠ .off ∧
    (base.lanes.get .a).state ≠ .retired ∧ (base.lanes.get .a).dom ≠ .off ∧ (dark.lanes.get .a).dom = .off ∧
    ((onL dark .a (fun n => { n with aon := { on := false } })).lanes.get .a).aon.on = false ∧ (asleep.lanes.get .a).dom = .retention ∧
    (asleep.lanes.get .a).aon.on = true ∧ (asleep.lanes.get .a).aon.pwr.slept = true ∧ (dark.lanes.get .a).state = .off ∧
    ((onP asleep .a (fun p => { p with slept := false })).lanes.get .a).aon.pwr.slept = false := by decide
theorem witness_sleep : (let s := onU base (.isl .i1) (fun c => { c with slp := { since := some 1, heard := 7 } });
      s.runs (.isl .i1) = true ∧ (s.ucom.get (.isl .i1)).slp.since = some 1 ∧ (s.ucom.get (.isl .i1)).admitted ≠ [] ∧
      (∀ l ∈ (s.ucom.get (.isl .i1)).admitted, (s.ucom.get (.isl .i1)).slp.heard.testBit l.idx = true)) ∧
    ((entering 0x3FF).lanes.get .a).aon.pwr.sleepAt = some 2 ∧ ((entering 0x1FF).lanes.get .a).aon.pwr.acks.testBit (UnitId.sio .sio2).idx = false ∧
    ((entering 0x1FF).ucom.get (.sio .sio2)).links.a.up = true ∧ ((entering 0).lanes.get .a).aon.pwr.sleepAt.isSome = true ∧
    (base.lanes.get .a).aon.pwr.sleepAt = none ∧ ((onD (entering 0) .a (fun d => { d with erasing := true })).lanes.get .a).sleepCause ≠ 0 ∧
    (let s := onI (onU base (.isl .i1) (fun c => { c with slp := { since := some 3 } })) .i1 (fun p => { p with sw := 0 });
      (s.ucom.get (.isl .i1)).slp.since.isSome = true ∧ s.unitCause (.isl .i1) ≠ 0) ∧
    (let s := onU (entering 0) (.isl .i1) (fun c => { c with slp := { since := some 1, slot := some .off } });
      (s.ucom.get (.isl .i1)).dom = .on ∧ (s.ucom.get (.isl .i1)).slp.slot = some .off) ∧
    ((onU (entering 0) (.fb .fb1) (fun c => { c with dom := .retention })).ucom.get (.fb .fb1)).dom ≠ .on := by decide
theorem witness_sleep_acks : ∀ u, ((entering 0x3FF).ucom.get u).links.a.up = true → ((entering 0x3FF).lanes.get .a).aon.pwr.acks.testBit u.idx = true := by
  intro u _; cases u with | isl i => cases i <;> decide | fb f => cases f <;> decide | sio x => cases x <;> decide
theorem witness_sleep_polvin : let s := onV asleep (fun p => { p with dom := .on, busy := true });
    s.polvin.dom = .on ∧ s.polvin.busy = true ∧ ∀ l, (s.lanes.get l).dom ≠ .on := ⟨rfl, rfl, by intro l; cases l <;> decide⟩
theorem witness_wake : (asleep.lanes.get .a).aon.on = true ∧ (asleep.lanes.get .a).mayWake .a .pin = true ∧ (asleep.lanes.get .a).dom = .retention ∧
    (asleep.lanes.get .a).aon.pwr.slept = true ∧ (asleep.lanes.get .a).aon.pwr.sleepAt = none ∧ asleep.entering = false ∧
    (base.lanes.get .a).mayWake .a .link = true ∧ (base.lanes.get .a).aon.pwr.slept = false ∧ (base.lanes.get .a).aon.pwr.sleepAt = none ∧
    ((entering 0).lanes.get .a).aon.pwr.sleepAt.isSome = true ∧ (entering 0).entering = true ∧
    (onP (entering 0) .b (fun p => { p with sleepAt := none, slept := true })).entering = true ∧
    ((onP (entering 0) .b (fun p => { p with sleepAt := none, slept := true })).lanes.get .b).aon.pwr.slept = true ∧
    (let s := onP asleep .a (fun p => { p with slot := some .on, replay := 2 });
      (s.lanes.get .a).aon.pwr.slot = some .on ∧ (s.lanes.get .a).dom = .retention ∧ (s.lanes.get .a).aon.pwr.slept = true ∧ s.entering = false ∧
      (s.lanes.get .a).aon.pwr.replay.testBit 1 = true) := by decide
theorem witness_domains : ((entering 0).lanes.get .a).changing = true ∧ (base.lanes.get .a).changing = false ∧ (base.lanes.get .a).awake = true ∧
    (asleep.lanes.get .a).changing = false ∧ (base.lanes.get .a).maySleep = false ∧ (stillLane.lanes.get .a).maySleep = true ∧
    (stillLane.lanes.get .a).changing = false ∧ (stillLane.lanes.get .a).awake = true ∧
    (asleep.ucom.get (.fb .fb1)).dom = .retention ∧ (asleep.ucom.get (.fb .fb1)).slp = {} ∧
    (dark.ucom.get (.fb .fb1)).dom = .off ∧ (returningUnit.ucom.get (.fb .fb1)).slp.returning = true ∧
    (base.ucom.get (.fb .fb1)).dom = .on ∧ (base.ucom.get (.fb .fb1)).slp = {} ∧ (base.lanes.get .a).computing = true ∧
    ((onU base (.fb .fb1) (fun c => { c with slp := { since := some 1 } })).ucom.get (.fb .fb1)).slp.since.isSome = true ∧
    ((onL service .a (fun n => { n with state := .boot })).lanes.get .a).inService = true ∧ (dark.lanes.get .a).inService = false ∧
    (dark.lanes.get .a).computing = false ∧ ((onP base .a (fun p => { p with cancelling := true })).lanes.get .a).aon.pwr.cancelling = true ∧
    (base.lanes.get .a).aon.pwr.cancelling = false ∧ (dark.lanes.get .a).dom = .off ∧ asleep.polvin.dom = .retention ∧ asleep.polvin.entry = none ∧
    base.polvin.dom = .on ∧ base.polvin.entry = none ∧ base.polvin.busy = false ∧
    (onV base (fun p => { p with entry := some 1 })).polvin.entry.isSome = true := by
  decide
/-- A PID with three regions, boundaries 2 and 5, HYST 0.5. -/
def regionCell : CellDef := ⟨0, 5, false, false, 0, 0, 0, 0, [0, 0, 0, 0, 0, 0, 0, 0x40400000, 0x3F000000, 0x40000000, 0x40A00000]⟩
theorem witness_regions : 1 < pcount (regionCell.p 7) ∧ pcount (regionCell.p 7) = 3 ∧ pidBound false regionCell 1 < pidBound false regionCell 2 ∧ pidBound true regionCell 1 < pidBound true regionCell 2 := by
  decide +kernel
theorem witness_addresses : let f := frame 0 0x20 2 1000 (zeros 4);
    f.medium ≠ 9 ∧ carousel.receives .a f = true ∧ frDest f.bytes ≠ macOf 0 (carousel.lanes.get .a).main.canvas.net.self ∧ frDest f.bytes ≠ groupMac 0 ∧
    ((sending 0).lanes.get .a).transmits = true ∧ { txEntry with kind := 0 } ∈ ((sending 0).lanes.get .a).main.canvas.slots ∧
    ((sending 0).lanes.get .a).main.canvas.net.self < 4096 := by decide +kernel
theorem witness_port_address : let f := { frame 0 0x20 2 1000 (zeros 4) with medium := 9 };
    f.medium = 9 ∧ (service.lanes.get .a).awake = true ∧ service.portLive = true ∧
    frDest f.bytes ≠ macOf 0 (service.lanes.get .a).main.canvas.net.self ∧ frDest f.bytes ≠ groupMac 0 := by decide +kernel
theorem witness_departs : ∃ t, exec (.slotTransmit .a 0x21 2000) (gated 0) = .next t ∧ (t.lanes.get .a).main.net.sent.isSome = true := ⟨_, rfl, by decide +kernel⟩

/-! Well-formedness: one ill-formed command for each check, which it refuses, and its neighbour, which it takes. -/

theorem test_ill_formed : ([
    .tickBoundary (.island .i1 ⟨[0, 0], 0, 0, 0, 0, 0, 0, 0⟩), .tickBoundary (.sio .sio1 ⟨[], [], [], 0, 0, false, false⟩),
    .tickMarkArrival (.isl .i1) .a (some 4294967296) 0, .measurementBlock .a (.isl .i1) (some []) false false,
    .commandBlock (.isl .i1) .a none 8192, .eventSymbol .a (.isl .i1) (some (zeros 10)) none, .eventSymbol .a (.isl .i1) none (some 65536), .roundBoundary (.lane .a) [(4, 0)], .engineTest 4294967296,
    .serviceRequest .a 4096 .port ⟨[], 0⟩, .serviceRequest .a 5 .port ⟨[], 50000⟩, .streamFrame .a 4096 .port [], .postingDeadline .c 4294967296, .cnvCmt .a 65536 16 true, .cnvWinWrite .a 4096 0, .cnvWinWrite .a 2 0, .svcreq .a 4096, .sprel .a 4096,
    .attestationRequest 4 0, .unretire ⟨1, .port⟩ 8, .newchal ⟨4096, .port⟩, .psupOc .sio1 8, .xsClear .sio1 24, .compareArm .fb1 4 0 0,
    .compareArm .fb1 0 16 0, .ringStart .a 32, .force .polvin 16, .force (.unit (.isl .i1)) 32, .force (.lane .c) 128, .slotTransmit .a 4096 0,
    .cyclePoint .a 8, .guidanceSystemCommand .a 256 (some (zeros 8)), .guidanceSystemCommand .a 0 (some (zeros 7)), .fdFrame .a 0 (some (zeros 65)), .desat .i1 3 false,
    .slp .i5 6 true, .quadEdge .fb1 0 true 8000, .reacq .fb1 4 0, .indexPulse .fb1 4, .converterUpdate .fb1 0 ⟨65536, 0, 0, 0, 1⟩,
    .requestLine .a 128, .mark .a 16, .acceptanceWindowClose .a 12288, .trunkLink .a 9 true, .trunkLink .c 5 true] : List Instr).all (fun i => !i.wellFormed) = true := by
  decide
theorem test_well_formed : ([
    .tickMarkArrival (.isl .i1) .a (some 4294967295) 0, .eventSymbol .a (.isl .i1) (some (zeros 9)) (some 65535), .fdFrame .a 0 (some (zeros 64)), .cnvCmt .a 65535 255 true, .cnvWinWrite .a 4092 0, .psupOc .sio1 7, .xsClear .sio1 23,
    .compareArm .fb1 3 15 0, .ringStart .a 31, .force .polvin 15, .force (.lane .a) 255, .desat .i1 2 false, .slp .i5 5 true,
    .mark .a 15, .trunkLink .a 8 true, .trunkLink .c 4 true, .serviceRequest .a 4095 .port ⟨[], 49999⟩, .roundBoundary (.lane .a) [(3, 65535)]] : List Instr).all Instr.wellFormed = true := by decide
theorem test_no_word : decodeTableWord 32 0x12345678 = none := rfl

/-! Single steps and operations, their results from the spec's tables or by hand. -/

/-- R26, first row: median 2403, lane C counted against. -/
theorem test_vote_median : (wordVote 3 [(.a, 2403), (.b, 2398), (.c, 2520)] 20).1 = some 2403 := by decide
/-- R26, second row: differences of exactly W agree. -/
theorem test_vote_window : (wordVote 3 [(.a, 2403), (.b, 2423), (.c, 2383)] 20).1 = some 2403 := by decide
/-- R26, third row: no majority, the word is held. -/
theorem test_vote_no_majority : (wordVote 3 [(.a, 2400), (.b, 2450), (.c, 2500)] 20).1 = none := by decide
/-- R26, fourth and fifth rows: the mean of two, rounded toward zero. -/
theorem test_vote_mean : (wordVote 3 [(.a, 2403), (.b, 2398)] 20).1 = some 2400 ∧ (wordVote 3 [(.a, -2403), (.b, -2398)] 20).1 = some (-2400) := by
  decide
/-- R200: HOT sets above 2.0 kJ (200 units of 10 J), stays at 1.0 kJ, clears below it. -/
theorem test_hot : (match exec (.hot .i1 201) base with | .next t => (t.isl.get .i1).bus.hot | _ => false) = true ∧
    (match exec (.hot .i1 100) (onI base .i1 (fun p => { p with bus := { p.bus with hot := true } })) with
      | .next t => (t.isl.get .i1).bus.hot | _ => false) = true ∧
    (match exec (.hot .i1 99) (onI base .i1 (fun p => { p with bus := { p.bus with hot := true } })) with
      | .next t => (t.isl.get .i1).bus.hot | _ => true) = false := by decide
/-- R218: POS is held at its soft limit. -/
theorem test_quad_saturates : (match exec (.quadEdge .fb1 0 true 0) quad with | .next t => (channelOf t .fb1 0).pos | _ => 0) = 3 ∧
    (match exec (.quadEdge .fb1 0 true 0) (onCh quad .fb1 (fun c => { c with pos := 3 })) with | .next t => (channelOf t .fb1 0).pos | _ => 0) = 3 := by
  decide
/-- R194: a single-leg trip opens the island, whose other legs keep their enables. -/
theorem test_trip : (match exec (.desat .i1 2 true) driving with
    | .next t => ((t.isl.get .i1).sw, (t.isl.get .i1).gdv.off, (t.isl.get .i1).causes) | _ => (0, 0, 0)) = (1, 4, 16) := by decide
/-- R249 with p = 1, n = 2. -/
theorem test_mac : macOf 1 2 = 0x020056421002 ∧ groupMac 2 = 0x030056422FFF := by decide
/-- R292: the sixteenth request is dropped and counted. -/
theorem test_ring_overrun : (match exec (.requestLine .a 63) (ringState { state := 2, req := 63, pend := 15 }) with
    | .next t => ((ringOf t .a 31).pend, (ringOf t .a 31).ovrqn.n) | _ => (0, 0)) = (15, 1) := by decide +kernel
/-- R52: ROUND wraps at 2^24 and TICK at 2^32. -/
theorem test_tick_wraps : (match exec (.tickBoundary (.fb .fb1 0)) (onU base (.fb .fb1) (fun c => { c with tick := 4294967295 })) with
    | .next t => ((t.ucom.get (.fb .fb1)).tick, (t.ucom.get (.fb .fb1)).roundDue) | _ => (1, false)) = (0, true) := by decide
/-- R387: 8.9 V brings step 1 and no other. -/
theorem test_shed : (match exec (.laneShed .a 8900) base with
    | .next t => ((t.lanes.get .a).aon.pwr.step1, (t.lanes.get .a).aon.pwr.step2) | _ => (false, true)) = (true, false) := by decide
/-- R131: at B + HYST the region moves up, at B - HYST it stays. -/
theorem test_region : pidStay ⟨false, false⟩ regionCell 0 (5 / 2) = 1 ∧ pidStay ⟨true, false⟩ regionCell 1 (3 / 2) = 1 := by decide +kernel
/-- R367, R375: a forced TRNG_FAIL ends a NEWCHAL in progress with RESULT STATE and sets STATUS bit 6. -/
theorem test_forced_trng : (match exec (.force .polvin 6) (onV session (fun p => { p with busy := true, cmd := some (0, 0, ⟨5, .port⟩) })) with
    | .next t => (t.polvin.cmd.map (fun c => c.2.1), t.polvin.evt.status) | _ => (none, 0)) = (some 1, 64) := by decide
/-- R345, R375: a forced PASS_FAIL counts a failure; the tenth starts a lockout of 1 min. -/
theorem test_forced_pass_fail : (match exec (.force .polvin 0) (onV session (fun p => { p with failCount := 9 })) with
    | .next t => (t.polvin.failCount, t.polvin.locked, t.polvin.lockMin) | _ => (0, false, 0)) = (10, true, 1) := by decide

end Sys2Proof.Tests
end

namespace Sys2Proof.Machine
open Sys2Proof

/-! ## Reset and the power-up of a unit (R12, R35, R67, R93, R201, R202, R385) -/

@[simp] theorem State.reset_lane (l : LaneId) : State.reset.lanes.get l = {} := Tri.get_all _ l
@[simp] theorem State.reset_ucom (u : UnitId) : State.reset.ucom.get u = {} := Ten.get_all _ u
@[simp] theorem State.reset_isl (i : IslandId) : State.reset.isl.get i = {} := Six.get_all _ i

/-- Every link of a unit's common part at its reset values is at its own. -/
@[simp] theorem UnitCommon.reset_link (l : LaneId) : ({} : UnitCommon).links.get l = {} := Tri.get_all _ l

/-- A cause that does not count toward LATCH comes into force with no event (R202). -/
theorem raiseCause_uncounted (id : IslandId) (p : IslPair) (n : Nat) (h : countedMask.testBit n = false) :
    raiseCause id p n = (p.1, settleSw id (raised p n)) := by
  simp [raiseCause, raised, h]

@[simp] theorem settleSw_inhibit (id : IslandId) (i : Island) : (settleSw id i).inhibit = i.inhibit := by rw [settleSw_rest]
@[simp] theorem raised_inhibit (p : IslPair) (n : Nat) : (raised p n).inhibit = p.2.inhibit := by
  unfold raised; simp only []; split <;> split <;> rfl

/-- An island at its reset values that sees the level of lane C's inhibit line. -/
def freshIsland (b : IslandBus) (on : Bool) : Island := { bus := b, inhibit := on }

section freshIsland
variable (b : IslandBus) (on : Bool)
@[simp] theorem freshIsland_cfg : (freshIsland b on).cfg = {} := rfl
@[simp] theorem freshIsland_gdv : (freshIsland b on).gdv = {} := rfl
@[simp] theorem freshIsland_bus : (freshIsland b on).bus = b := rfl
@[simp] theorem freshIsland_inhibit : (freshIsland b on).inhibit = on := rfl
@[simp] theorem freshIsland_clockLost : (freshIsland b on).clockLost = false := rfl
/-- Cause 0xC, no canvas, is in force in a fresh island (R201). -/
@[simp] theorem freshIsland_unloaded : (freshIsland b on).causes.testBit 0xC = true :=
  show Nat.testBit 4096 12 = true by decide
end freshIsland

/-- Lane C's inhibit line asserted on an island at its reset values brings cause 0xB into force (R35). -/
theorem setInhibit_fresh_on (id : IslandId) (b : IslandBus) :
    setInhibit id ({}, freshIsland b false) true = ({}, settleSw id (raised ({}, freshIsland b true) 0xB)) :=
  raiseCause_uncounted id ({}, freshIsland b true) 0xB rfl

/-- A fresh island is OPEN with cause 0xC in force whatever it sees of the inhibit line (R35, R201, R202). -/
theorem setInhibit_fresh (id : IslandId) (b : IslandBus) (on : Bool) :
    ∃ x, setInhibit id ({}, freshIsland b false) on = ({}, x) ∧
      x.sw = 1 ∧ x.cfg = {} ∧ x.gdv = {} ∧ x.bus = b ∧ x.causes.testBit 0xC = true ∧ x.inhibit = on := by
  cases on with
  | false => exact ⟨_, rfl, rfl, rfl, rfl, rfl, freshIsland_unloaded b false, rfl⟩
  | true =>
    refine ⟨_, setInhibit_fresh_on id b, ?_, ?_⟩
    · have opens : islandForcedOpen (raised ({}, freshIsland b true) 0xB) = true := by
        simp [islandForcedOpen, islandOpensFirst, raised_causes]
      rw [settleSw_sw _ _ (by simp) (causes_ne_zero (raised_causes _ _)), decidedSw_forced id opens]
    · simp [raised_other]

/-- An island's parts once its registers and the lanes' ends of its links are reset: at their reset values, but for the limit the
chopper driver signals (R199). -/
theorem State.islPair_resetPart (s : State) (i : IslandId) :
    (((s.setUnit (.isl i) {}).resetPart (.isl i)).viewsReset (.isl i)).islPair i =
      ({}, freshIsland { limit := (s.isl.get i).bus.limit } false) := by
  simp [State.islPair, State.viewsReset, State.resetPart, freshIsland]

/-- The power-up of an island: a fresh island that sees the inhibit line, on the state whose lanes' ends are reset. -/
theorem execUnitPowerUp_isl (s : State) (i : IslandId) :
    exec (.unitPowerUp (.isl i)) s = .next ((s.viewsReset (.isl i)).putIsl i
      (setInhibit i ({}, freshIsland { limit := (s.isl.get i).bus.limit } false) s.inhibitLevel)) := by
  have level : (((s.setUnit (.isl i) {}).resetPart (.isl i)).viewsReset (.isl i)).inhibitLevel = s.inhibitLevel := rfl
  simp only [exec, execUnitPowerUp, State.islPair_resetPart, level]
  simp [State.putIsl, State.viewsReset, State.resetPart, State.setUnit]

/-- What a lane holds of the unit whose view is changed, and of the others. -/
theorem Lane.onUnit_view (n : Lane) (u v : UnitId) (f : UnitView → UnitView) :
    (n.onUnit u f).main.units.get v = if v = u then f (n.main.units.get v) else n.main.units.get v := by
  split
  next h => subst h; simp [Lane.onUnit]
  next h => simp [Lane.onUnit, Ten.get_set_other _ _ _ _ h]

/-- Resetting the lanes' ends of a unit's links changes what each lane holds of that unit. -/
@[simp] theorem State.viewsReset_lane (s : State) (u : UnitId) (l : LaneId) :
    (s.viewsReset u).lanes.get l = (s.lanes.get l).onUnit u UnitView.linkReset := Tri.get_map _ _ l

/-- Settles O6: reset leaves every part at its reset values, and the power-up of a unit puts them back. -/
theorem resetAndPowerUp : Obligations.ResetAndPowerUp := by
  unfold Obligations.ResetAndPowerUp
  refine ⟨⟨fun l => ?lane, fun u => ?unit, fun i => ?island, rfl, rfl, rfl⟩,
    fun s f => rfl, fun s x => rfl, fun s i => ?powerUp, fun s u v l => ?views⟩
  case lane => simp
  case unit => simp
  case island => simp
  case powerUp =>
    obtain ⟨x, hx, h⟩ := setInhibit_fresh i { limit := (s.isl.get i).bus.limit } s.inhibitLevel
    refine ⟨_, execUnitPowerUp_isl s i, onlyIsland_putIsl _ i _, ?_⟩
    rw [hx]
    simpa using h
  case views => rw [State.viewsReset_lane, Lane.onUnit_view]

end Sys2Proof.Machine

namespace Sys2Proof.Machine
open Sys2Proof

/-! ## Association lists -/

/-- The value put under a key is the one found there. -/
@[simp] theorem assocGet_assocPut_same {α : Type} (m : List (Nat × α)) (n : Nat) (v : α) : assocGet (assocPut m n v) n = some v := by
  induction m with
  | nil => simp [assocPut, assocGet]
  | cons e r ih =>
    obtain ⟨k, w⟩ := e
    simp only [assocPut]
    split
    · simp [assocGet]
    · split
      · simp [assocGet]
      next hne => simp [assocGet, Ne.symm hne, ih]

/-! ## An operation on one lane -/

/-- Where its condition holds, the effect on a lane is that lane replaced. -/
theorem State.onLane_pos {s : State} {l : LaneId} {p : Lane → Bool} {f : Lane → Lane} (h : p (s.lanes.get l) = true) :
    s.onLane l p f = s.setLane l (f (s.lanes.get l)) := if_pos h

/-- Where its condition does not hold, an operation on a lane changes nothing (log entry 2). -/
theorem State.onLane_neg {s : State} {l : LaneId} {p : Lane → Bool} {f : Lane → Lane} (h : p (s.lanes.get l) = false) :
    s.onLane l p f = s := if_neg (by simp [h])

/-- A lane put in place changes no other part. -/
theorem onlyLane_setLane (s : State) (l : LaneId) (n : Lane) : onlyLane l s (s.setLane l n) := by simp [onlyLane]

@[simp] theorem Lane.event_net (n : Lane) (l : LaneId) (k : Nat) (b : Bool) : (n.event l k b).main.net = n.main.net := rfl
@[simp] theorem Lane.event_canvas (n : Lane) (l : LaneId) (k : Nat) (b : Bool) : (n.event l k b).main.canvas = n.main.canvas := rfl

/-- An occurrence of a source the lane has sets its bit of EVT_STATUS (R371). -/
theorem Lane.event_status (n : Lane) (l : LaneId) (k : Nat) (h : (evtDefault (laneKind l) k).isSome = true) :
    (n.event l k).main.evt.status = setBit n.main.evt.status k := by
  obtain ⟨d, hd⟩ := Option.isSome_iff_exists.mp h
  simp [Lane.event, evtOccur, evtCfgOf, EvtBlock.had, hd]

/-- Every lane has the sources 7 to 14, the network's BEACON_LOST and cycle points among them (R365). -/
theorem evtDefault_lane (l : LaneId) (k : Nat) (h : 7 ≤ k) (h' : k ≤ 14) : (evtDefault (laneKind l) k).isSome = true := by
  cases l <;> interval_cases k <;> rfl

/-- A change of the network state that changes nothing leaves the lane as it is. -/
theorem Lane.onNet_same {n : Lane} {f : Net → Net} (h : f n.main.net = n.main.net) : n.onNet f = n := by
  simp only [Lane.onNet, Lane.onMain, h]

/-! ## A request line leaves the network alone (R291, R292) -/

@[simp] theorem Lane.requestRing_net (l : LaneId) (line : Nat) (n : Lane) (r : Nat) : (n.requestRing l line r).main.net = n.main.net := by
  simp only [Lane.requestRing]
  (repeat' split) <;> rfl

theorem foldl_net {α : Type} (f : Lane → α → Lane) (h : ∀ n x, (f n x).main.net = n.main.net) (xs : List α) (n : Lane) :
    (xs.foldl f n).main.net = n.main.net :=
  xs.foldlRecOn (motive := fun m => m.main.net = n.main.net) f rfl fun m hm x _ => (h m x).trans hm

@[simp] theorem Lane.raiseLine_net (n : Lane) (l : LaneId) (line : Nat) : (n.raiseLine l line).main.net = n.main.net := by
  unfold Lane.raiseLine
  split
  · exact foldl_net _ (Lane.requestRing_net l line) _ _
  · rfl

@[simp] theorem Lane.watchSlot_net (n : Lane) (l : LaneId) (plane slot : Nat) : (n.watchSlot l plane slot).main.net = n.main.net :=
  foldl_net _ (fun _ _ => Lane.raiseLine_net _ _ _) _ _

/-- A partner reads back as it was put, through any change that leaves the network alone. -/
theorem Lane.partner_of_net {n m : Lane} {plane ident : Nat} {p : Partner} (h : m.main.net = (n.putPartner plane ident p).main.net) :
    m.partner plane ident = p := by
  simp [Lane.partner, h, Lane.putPartner]

/-- A row that acts on a lane where a condition holds: there it replaces that lane. -/
theorem exec_acts {c : Instr} {s : State} {l : LaneId} {p : Lane → Bool} {f : Lane → Lane} {n : Lane}
    (hc : exec c s = .next (s.onLane l p f)) (h : p (s.lanes.get l) = true) (hn : f (s.lanes.get l) = n) :
    exec c s = .next (s.setLane l n) := by rw [hc, State.onLane_pos h, hn]

/-- A row that acts on a lane where a condition holds: elsewhere it changes nothing (log entry 2). -/
theorem exec_idle {c : Instr} {s : State} {l : LaneId} {p : Lane → Bool} {f : Lane → Lane} (hc : exec c s = .next (s.onLane l p f))
    (h : p (s.lanes.get l) = false) : exec c s = .next s := by rw [hc, State.onLane_neg h]

/-! ## The rows of the plane -/

/-- A receive slot closes without a frame: its partner's gap is marked and the watches on it raise their lines (R261, R291). -/
theorem execAcceptanceWindowClose_missed {s : State} {l : LaneId} {slot : Nat} {e : SlotDef} (hc : (s.lanes.get l).computing = true)
    (he : (s.lanes.get l).main.canvas.slots.find? (fun e => !e.tx && e.plane = slot / 4096 && e.slot = slot % 4096) = some e)
    (hrx : (s.lanes.get l).main.net.rx.any (fun x => x.plane = slot / 4096 && x.slot = slot % 4096) = false) :
    exec (.acceptanceWindowClose l slot) s = .next (s.setLane l (((s.lanes.get l).putPartner (slot / 4096) e.peer
      { (s.lanes.get l).partner (slot / 4096) e.peer with
        gap := ((s.lanes.get l).partner (slot / 4096) e.peer).gap || !((s.lanes.get l).partner (slot / 4096) e.peer).heard }).watchSlot l
          (slot / 4096) (slot % 4096))) := by
  rw [exec_acts rfl hc rfl]
  simp only [he, hrx, Bool.false_eq_true, if_false]

/-- A receive slot that took a frame closes, and nothing changes (R261). -/
theorem execAcceptanceWindowClose_taken {s : State} {l : LaneId} {slot : Nat} {e : SlotDef} (hc : (s.lanes.get l).computing = true)
    (he : (s.lanes.get l).main.canvas.slots.find? (fun e => !e.tx && e.plane = slot / 4096 && e.slot = slot % 4096) = some e)
    (hrx : (s.lanes.get l).main.net.rx.any (fun x => x.plane = slot / 4096 && x.slot = slot % 4096) = true) :
    exec (.acceptanceWindowClose l slot) s = .next s := by
  rw [exec_acts rfl hc rfl]
  simp only [he, hrx, if_true, State.setLane_self]

/-- The network state of lane `l` once the PHY of a medium has shown its link up or down (R2, R282, R418). -/
def linkShown (l : LaneId) (n : Lane) (medium : Nat) (up : Bool) (m : Net) : Net :=
  if medium = 0 then { m with trunkUp := up }
  else if medium ≤ planeSegs l ∧ n.main.canvas.slots.any (fun e => e.plane = l.idx && e.medium = medium) then
    { m with segUp := if up then setBit m.segUp (medium - 1) else clearBit m.segUp (medium - 1) }
  else m

/-- TRUNK_LINK in a lane that is awake with its PHY on. -/
theorem execTrunkLink_acts {s : State} {l : LaneId} (medium : Nat) (up : Bool) (ha : (s.lanes.get l).awake = true) (hp : (s.lanes.get l).aon.pwr.phy = .on) :
    exec (.trunkLink l medium up) s = .next (s.setLane l ((s.lanes.get l).onNet (linkShown l (s.lanes.get l) medium up))) :=
  exec_acts rfl (by simp [ha, hp]) rfl

theorem linkShown_segment {l : LaneId} {n : Lane} {k : Nat} (hk : k < planeSegs l)
    (he : ∃ e ∈ n.main.canvas.slots, e.plane = l.idx ∧ e.medium = k + 1) (up : Bool) (m : Net) :
    linkShown l n (k + 1) up m = { m with segUp := if up then setBit m.segUp k else clearBit m.segUp k } := by
  have named : n.main.canvas.slots.any (fun e => e.plane = l.idx && e.medium = k + 1) = true := by simpa using he
  exact (if_neg (Nat.succ_ne_zero k)).trans (if_pos ⟨hk, named⟩)

/-- A segment the plane does not have, or the slot table does not use, is held in high impedance (R2, R418). -/
theorem linkShown_none {l : LaneId} {n : Lane} {k : Nat}
    (hk : planeSegs l ≤ k ∨ ∀ e ∈ n.main.canvas.slots, e.plane = l.idx → e.medium ≠ k + 1) (up : Bool) (m : Net) :
    linkShown l n (k + 1) up m = m := by
  refine (if_neg (Nat.succ_ne_zero k)).trans (if_neg ?_)
  rintro ⟨hle, hany⟩
  simp only [List.any_eq_true, Bool.and_eq_true, decide_eq_true_eq] at hany
  obtain ⟨e, he, hplane, hmedium⟩ := hany
  rcases hk with hk | hk
  · omega
  · exact hk e he hplane hmedium

/-- Settles O51: each row of the plane where its condition holds and where it does not. -/
theorem planeEvents : Obligations.PlaneEvents := by
  unfold Obligations.PlaneEvents
  intro s l
  refine ⟨?listen, ?lost, ?point, ?window, ?link⟩
  case listen =>
    intro hc hl hh
    refine ⟨fun hm => exec_acts rfl ?_ rfl, fun hm => exec_idle rfl ?_⟩ <;> simpa [hc, hl, hh, Lane.mayBeacon] using hm
  case lost =>
    intro hc hr
    refine ⟨fun hm => ⟨_, exec_acts rfl (by simp [hc, hr, hm]) rfl, onlyLane_setLane _ _ _, ?_⟩, fun hm => exec_idle rfl (by simp [hm])⟩
    simp [Lane.event_status _ l 11 (evtDefault_lane l 11 (by omega) (by omega)), Lane.mayBeacon, recovery]
  case point =>
    intro k hk
    refine ⟨fun hc he hp hn => ⟨_, exec_acts rfl ?_ rfl, onlyLane_setLane _ _ _, ?_⟩, fun hp => exec_idle rfl (by simp [hp])⟩
    · simp only [hc, hk, he, hn, hp, ne_eq, not_false_eq_true, decide_true, Bool.and_self]
    · simp [Lane.event_status _ l 12 (evtDefault_lane l 12 (by omega) (by omega))]
  case window =>
    intro slot e hc he
    refine ⟨fun hrx => ⟨_, execAcceptanceWindowClose_missed hc he hrx, onlyLane_setLane _ _ _, ?_⟩, execAcceptanceWindowClose_taken hc he⟩
    rw [State.setLane_lanes, Tri.get_set_same]
    exact ⟨Lane.partner_of_net (Lane.watchSlot_net _ _ _ _), by simp [Lane.putPartner], by simp⟩
  case link =>
    intro ha hp
    refine ⟨fun up => execTrunkLink_acts 0 up ha hp, fun k up hk he => ?_, fun k up hk => ?_⟩ <;> rw [execTrunkLink_acts _ _ ha hp]
    · simp [Lane.onNet, Lane.onMain, linkShown_segment hk he]
    · rw [Lane.onNet_same (linkShown_none hk up _), State.setLane_self]

end Sys2Proof.Machine

namespace Sys2Proof.Machine
open Sys2Proof

/-! ## What stays outside a lane -/

/-- The other lanes and the Polvin core are as they were. -/
def othersKept (l : LaneId) (s t : State) : Prop := (∀ k, k ≠ l → t.lanes.get k = s.lanes.get k) ∧ t.polvin = s.polvin

theorem othersKept_refl (l : LaneId) (s : State) : othersKept l s s := ⟨fun _ _ => rfl, rfl⟩

theorem othersKept.trans {l : LaneId} {s t u : State} (h : othersKept l s t) (h' : othersKept l t u) : othersKept l s u :=
  ⟨fun k hk => (h'.1 k hk).trans (h.1 k hk), h'.2.trans h.2⟩

theorem othersKept_setLane (l : LaneId) (s : State) (n : Lane) : othersKept l s (s.setLane l n) :=
  ⟨fun _ hk => Tri.get_set_other _ _ _ _ hk, rfl⟩

/-- A change of lane `l` alone leaves the others alone. -/
theorem othersKept_of_onlyLane {l : LaneId} {s t : State} (h : onlyLane l s t) : othersKept l s t := by
  rw [h]; exact othersKept_setLane l s _

theorem onlyLane_refl (l : LaneId) (s : State) : onlyLane l s s := (State.setLane_self s l).symm

theorem onlyLane_trans {l : LaneId} {s t u : State} (h : onlyLane l s t) (h' : onlyLane l t u) : onlyLane l s u := by
  unfold onlyLane at *
  rw [h, State.setLane_setLane] at h'
  exact h'

/-! ## Taking the operations of a request (R406, R408) -/

/-- The register service of a lane but for its open stream: what waits, what is to be answered, what was acted on. -/
def Lane.queues (n : Lane) : Service := { n.main.service with stream := none }

/-- `t` is `s` after lane `l` took some operation: nothing outside the lane has changed, and no request or reply of it. -/
structure OpTaken (l : LaneId) (s t : State) : Prop where
  frame : onlyLane l s t
  queues : (t.lanes.get l).queues = (s.lanes.get l).queues

theorem OpTaken.refl (l : LaneId) (s : State) : OpTaken l s s := ⟨onlyLane_refl l s, rfl⟩

theorem OpTaken.trans {l : LaneId} {s t u : State} (h : OpTaken l s t) (h' : OpTaken l t u) : OpTaken l s u :=
  ⟨onlyLane_trans h.frame h'.frame, h'.queues.trans h.queues⟩

theorem OpTaken.reqs {l : LaneId} {s t : State} (h : OpTaken l s t) :
    (t.lanes.get l).main.service.reqs = (s.lanes.get l).main.service.reqs := (Service.mk.inj h.queues).1

theorem OpTaken.seen {l : LaneId} {s t : State} (h : OpTaken l s t) :
    (t.lanes.get l).main.service.seen = (s.lanes.get l).main.service.seen := (Service.mk.inj h.queues).2.2.1

theorem opTaken_setLane {l : LaneId} {s : State} {n : Lane} (h : n.queues = (s.lanes.get l).queues) : OpTaken l s (s.setLane l n) :=
  ⟨onlyLane_setLane s l n, by simpa using h⟩

theorem opTaken_foldl {α : Type} {l : LaneId} (f : State → α → State) (h : ∀ s x, OpTaken l s (f s x)) (xs : List α) (s : State) :
    OpTaken l s (xs.foldl f s) :=
  xs.foldlRecOn f (OpTaken.refl l s) fun t ht x _ => ht.trans (h t x)

theorem opTaken_cnvRefused {l : LaneId} (s : State) (st : Nat) : OpTaken l s (s.setLane l ((s.lanes.get l).cnvRefused st)) :=
  opTaken_setLane (by unfold Lane.cnvRefused; split <;> rfl)

section operations
variable (s : State) (l : LaneId) (w : Writer) (rid : Nat)

theorem State.takeWrite_taken (addr value mask : Nat) (late : Bool) : OpTaken l s (s.takeWrite l w rid addr value mask late) := by
  unfold State.takeWrite
  dsimp only
  split
  · exact opTaken_setLane (by split <;> rfl)
  · exact opTaken_setLane (by (repeat' split) <;> rfl)

theorem State.noteRefusal_taken (addr st : Nat) : OpTaken l s (s.noteRefusal l addr st) := by
  unfold State.noteRefusal
  split
  · exact opTaken_cnvRefused s st
  · exact OpTaken.refl l s

theorem State.svcWrite_taken (addr value mask : Nat) (late : Bool) : OpTaken l s (s.svcWrite l w rid addr value mask late).1 := by
  simp only [State.svcWrite]
  split
  · exact s.takeWrite_taken l w rid addr value mask late
  · exact s.noteRefusal_taken l addr _

theorem State.svcWrites_taken (ws : List (Nat × Nat)) (late : Bool) : OpTaken l s (s.svcWrites l w rid ws late).1 := by
  unfold State.svcWrites
  split
  · exact s.noteRefusal_taken l _ _
  · exact opTaken_foldl _ (fun t e => t.takeWrite_taken l w rid e.1 e.2 0xFFFFFFFF late) ws s

theorem State.svcCommit_taken (kind units : Nat) (late : Bool) : OpTaken l s (s.svcCommit l w rid kind units late).1 := by
  simp only [State.svcCommit]
  split
  · exact OpTaken.refl l s
  · split
    · exact OpTaken.refl l s
    · exact opTaken_foldl _ (fun t a => t.takeWrite_taken l w rid a _ _ late) _ s

theorem State.svcStream_taken (lane offset : Nat) : OpTaken l s (s.svcStream l w rid lane offset).1 := by
  simp only [State.svcStream]
  generalize (if (s.lanes.get l).main.office.holder ≠ some w.id then 1 else s.cnvGate l) = st
  split
  · exact opTaken_cnvRefused s _
  · exact opTaken_setLane rfl

theorem State.svcOp_taken (late : Bool) (o : SvcOp) : OpTaken l s (s.svcOp l w rid late o).1 := by
  cases o with
  | read count addr => exact OpTaken.refl l s
  | write addr value mask => exact s.svcWrite_taken l w rid addr value mask late
  | bwrite addr ws =>
    simp only [State.svcOp]
    split
    · exact s.svcWrites_taken l w rid _ late
    · exact OpTaken.refl l s
  | commit kind units => exact s.svcCommit_taken l w rid kind units late
  | wstream lane offset => exact s.svcStream_taken l w rid lane offset
  | bad => exact OpTaken.refl l s

theorem State.svcOps_taken (late : Bool) (room : Nat) (os : List SvcOp) : OpTaken l s (s.svcOps l w rid late room os).1 := by
  induction os generalizing s room with
  | nil => exact OpTaken.refl l s
  | cons o os ih =>
    simp only [State.svcOps]
    split
    · exact OpTaken.refl l s
    · exact (s.svcOp_taken l w rid late o).trans (ih _ _)

end operations

/-! ## Withdrawing the copies of a request (R408, log entry 142) -/

/-- A waiting request is a copy of request `rid` of `id` that came over one of the planes `qs`. -/
def PendReq.copyOn (id rid : Nat) (qs : List LaneId) (r : PendReq) : Bool :=
  decide (r.sender = id ∧ r.rid = rid) && qs.any (fun q => decide (r.via = .plane q))

/-- `t` is `s` after lane `l` withdrew the copies of request `rid` of `id` that came over the planes `qs`: the requests that wait, the
time, and what lies outside the lanes' units and lane `l`. -/
structure CopiesWithdrawn (l : LaneId) (id rid : Nat) (qs : List LaneId) (s t : State) : Prop where
  others : othersKept l s t
  time : (t.lanes.get l).main.time = (s.lanes.get l).main.time
  reqs : (t.lanes.get l).main.service.reqs = (s.lanes.get l).main.service.reqs.filter (fun r => r.served || !r.copyOn id rid qs)

section withdraw
variable {l : LaneId} {id rid : Nat} {qs qs' : List LaneId} {s t u : State}

theorem CopiesWithdrawn.refl (l : LaneId) (id rid : Nat) (s : State) : CopiesWithdrawn l id rid [] s s :=
  ⟨othersKept_refl l s, rfl, by simp [PendReq.copyOn]⟩

theorem PendReq.copyOn_append (r : PendReq) : r.copyOn id rid (qs ++ qs') = (r.copyOn id rid qs || r.copyOn id rid qs') := by
  simp only [PendReq.copyOn, List.any_append, Bool.and_or_distrib_left]

theorem CopiesWithdrawn.trans (h : CopiesWithdrawn l id rid qs s t) (h' : CopiesWithdrawn l id rid qs' t u) :
    CopiesWithdrawn l id rid (qs ++ qs') s u := by
  refine ⟨h.others.trans h'.others, h'.time.trans h.time, ?_⟩
  rw [h'.reqs, h.reqs, List.filter_filter]
  refine List.filter_congr fun r _ => ?_
  rw [PendReq.copyOn_append, Bool.not_or, Bool.or_and_distrib_left, Bool.and_comm]

theorem copiesWithdrawn_setLane {n : Lane} (ht : n.main.time = (s.lanes.get l).main.time)
    (hr : n.main.service.reqs = (s.lanes.get l).main.service.reqs.filter (fun r => r.served || !r.copyOn id rid qs)) :
    CopiesWithdrawn l id rid qs s (s.setLane l n) :=
  ⟨othersKept_setLane l s n, by simpa using ht, by simpa using hr⟩

/-- Taking back an access touches the unit's links and what the lane forwards. -/
theorem State.takeBack_copies (s : State) (a : RegAcc) : CopiesWithdrawn l id rid [] s (s.takeBack l a) := by
  unfold State.takeBack
  split
  · exact .refl l id rid s
  · exact ⟨⟨fun _ hk => Tri.get_set_other _ _ _ _ hk, rfl⟩, by simp [Lane.onUnit], by simp [Lane.onUnit, PendReq.copyOn]⟩

theorem State.takeBacks_copies (s : State) (xs : List ShadowWrite) :
    CopiesWithdrawn l id rid [] s (xs.foldl (fun s x => s.takeBack l x.acc) s) :=
  xs.foldlRecOn _ (.refl l id rid s) fun t ht x _ => ht.trans (t.takeBack_copies x.acc)

theorem State.withdraw_copies (s : State) (q : LaneId) : CopiesWithdrawn l id rid [q] s (s.withdraw l ⟨id, .plane q⟩ rid) := by
  unfold State.withdraw
  rw [← List.nil_append [q]]
  refine (s.takeBacks_copies _).trans (copiesWithdrawn_setLane rfl (List.filter_congr fun r _ => ?_))
  simp [PendReq.copyOn, and_comm, Bool.or_assoc]

theorem State.withdraws_copies (s : State) (qs : List LaneId) :
    CopiesWithdrawn l id rid qs s (qs.foldl (fun s q => s.withdraw l ⟨id, .plane q⟩ rid) s) := by
  induction qs generalizing s with
  | nil => exact .refl l id rid s
  | cons q qs ih => exact (s.withdraw_copies q).trans (ih _)

end withdraw

/-! ## The copies of a request in a cycle (R408) -/

theorem Service.mem_copies {v : Service} {sender rid q : Nat} : q ∈ v.copies sender rid ↔ (sender, rid, q) ∈ v.seen := by
  simp [Service.copies]

/-- A copy is ignored when one of a lower-lettered plane has acted. -/
theorem Service.acted_plane {v : Service} {sender rid : Nat} {p : LaneId} :
    v.acted sender rid (.plane p) = true ↔ ∃ q, q < p.idx ∧ (sender, rid, q) ∈ v.seen := by
  simp only [Service.acted, List.any_eq_true, decide_eq_true_eq, Service.mem_copies]
  exact exists_congr fun q => and_comm

theorem Service.acted_lowest {v : Service} {sender rid : Nat} {p : LaneId} (h : ∀ q, q < p.idx → (sender, rid, q) ∉ v.seen) :
    v.acted sender rid (.plane p) = false := by
  rw [Bool.eq_false_iff, ne_eq, Service.acted_plane]
  rintro ⟨q, hlt, hq⟩
  exact h q hlt hq

theorem Service.acted_first {v : Service} {sender rid : Nat} {via : Via} (h : via = .port ∨ ∀ q, (sender, rid, q) ∉ v.seen) :
    v.acted sender rid via = false := by
  cases via with
  | port => rfl
  | plane p => exact Service.acted_lowest fun q _ => h.resolve_left (by simp) q

/-- The planes above `p` whose copies of a request have acted. -/
def Service.laterCopies (v : Service) (sender rid : Nat) (p : LaneId) : List LaneId :=
  allLanes.filter (fun q => decide (p.idx < q.idx) && (v.copies sender rid).contains q.idx)

/-- A copy that acts withdraws those of higher-lettered planes. -/
theorem State.copyIn_plane (s : State) (l : LaneId) (id rid : Nat) (p : LaneId) :
    CopiesWithdrawn l id rid ((s.lanes.get l).main.service.laterCopies id rid p) s (s.copyIn l ⟨id, .plane p⟩ rid) := by
  have step := (s.withdraws_copies (l := l) (id := id) (rid := rid) ((s.lanes.get l).main.service.laterCopies id rid p)).trans
    (qs' := []) (copiesWithdrawn_setLane (n := Lane.onMain _ fun m => { m with service := { m.service with
      seen := m.service.seen ++ [(id, rid, p.idx)] } }) rfl (by simp [PendReq.copyOn]))
  rwa [List.append_nil] at step

/-- The first copy of a request in a cycle withdraws nothing; it is noted. -/
theorem State.copyIn_first {s : State} {l : LaneId} {w : Writer} {rid : Nat}
    (h : w.via = .port ∨ ∀ q, (w.id, rid, q) ∉ (s.lanes.get l).main.service.seen) :
    s.copyIn l w rid = s.setLane l ((s.lanes.get l).onMain fun m => { m with service := { m.service with
      seen := m.service.seen ++ (match w.via with | .plane p => [(w.id, rid, p.idx)] | .port => []) } }) := by
  obtain ⟨id, via⟩ := w
  cases via with
  | port =>
    simp only [List.append_nil]
    exact (State.setLane_self s l).symm
  | plane p =>
    have none : (s.lanes.get l).main.service.copies id rid = [] :=
      List.eq_nil_iff_forall_not_mem.mpr fun q hq => (h.resolve_left (by simp)) q (Service.mem_copies.mp hq)
    simp [State.copyIn, none]

/-! ## Requests (R405, R408, R410) -/

/-- The request a lane queues: it is due at the coming boundary, later where it lands in the hand-over cycle or a write of it does. -/
def queuedRequest (n : Lane) (sender : Nat) (via : Via) (rid : Nat) (ops : List PendOp) : PendReq :=
  ⟨sender, via, rid, (n.main.time.round + 1) % 16777216, ops, n.main.time.roundDue || ops.any PendOp.straddles, false⟩

/-- A request that names no operation, or more than 64, is answered FORMAT (R410). -/
theorem requestOps_format {pay : Bytes} (h : byteAt pay 2 = 0 ∨ 64 < byteAt pay 2) : requestOps pay = [.bad] := by
  have bad : byteAt pay 2 = 0 ∨ 64 < byteAt pay 2 ∨ 1432 < pay.length := by tauto
  simp [requestOps, bad]

theorem State.svcOps_bad (s : State) (l : LaneId) (w : Writer) (rid room : Nat) (late : Bool) (h : 4 ≤ room) :
    s.svcOps l w rid late room [.bad] = (s, [settled 0xB]) := by
  simp [State.svcOps, State.replySize, State.svcOp, Nat.not_lt.mpr h]

/-- A request on which no copy of a lower-lettered plane has acted: from the state in which its later copies are withdrawn, its
operations are taken and it is queued. -/
theorem execServiceRequest_takes {s : State} {l : LaneId} {sender : Nat} {via : Via} {pay : Bytes} (arrive : Nat)
    (hs : s.servesVia l sender via = true) (hp : pay.length ≠ 1440)
    (ha : (s.lanes.get l).main.service.acted sender (u16At pay 0) via = false) :
    ∃ t ops, exec (.serviceRequest l sender via ⟨pay, arrive⟩) s = .next t ∧
      let c := s.copyIn l ⟨sender, via⟩ (u16At pay 0)
      onlyLane l c t ∧
      (t.lanes.get l).main.service.reqs =
        (c.lanes.get l).main.service.reqs ++ [queuedRequest (c.lanes.get l) sender via (u16At pay 0) ops] ∧
      (t.lanes.get l).main.service.seen = (c.lanes.get l).main.service.seen ∧
      (via = .port → byteAt pay 2 = 0 ∨ 64 < byteAt pay 2 → ops = [settled 0xB]) := by
  generalize hc : s.copyIn l ⟨sender, via⟩ (u16At pay 0) = c
  generalize hr : c.svcOps l ⟨sender, via⟩ (u16At pay 0) ((c.lanes.get l).lateForUnits arrive)
    ((c.lanes.get l).replyRoom l ⟨sender, via⟩) (requestOps pay) = r
  have taken : OpTaken l c r.1 := hr ▸ State.svcOps_taken _ _ _ _ _ _ _
  have run : exec (.serviceRequest l sender via ⟨pay, arrive⟩) s = .next (r.1.setLane l ((r.1.lanes.get l).queueRequest
      (queuedRequest (c.lanes.get l) sender via (u16At pay 0) r.2))) := by
    simp only [exec, execServiceRequest]
    rw [if_pos ⟨hs, hp, by simp [ha]⟩, hc, hr]
    rfl
  refine ⟨_, r.2, run, onlyLane_trans taken.frame (onlyLane_setLane _ _ _), ?_, ?_, ?_⟩
  · simp [Lane.queueRequest, taken.reqs]
  · simp [Lane.queueRequest, taken.seen]
  · rintro rfl hf
    rw [← hr, requestOps_format hf, State.svcOps_bad _ _ _ _ _ _ (by simp [Lane.replyRoom])]

/-- A copy of a request that has acted over a lower-lettered plane is ignored (R408). -/
theorem execServiceRequest_ignored {s : State} {l : LaneId} {sender : Nat} {via : Via} {pay : Bytes} (arrive : Nat)
    (ha : (s.lanes.get l).main.service.acted sender (u16At pay 0) via = true) :
    exec (.serviceRequest l sender via ⟨pay, arrive⟩) s = .next s := by
  simp [exec, execServiceRequest, ha]

/-- The requests over planes above `p` that a copy of plane `p` withdraws, as the claim lists them. -/
theorem PendReq.copyOn_laterCopies (r : PendReq) (v : Service) (sender rid : Nat) (p : LaneId) :
    r.copyOn sender rid (v.laterCopies sender rid p) = (decide (r.sender = sender ∧ r.rid = rid) &&
      allLanes.any (fun q => decide (r.via = .plane q ∧ p.idx < q.idx ∧ (sender, rid, q.idx) ∈ v.seen))) := by
  rw [PendReq.copyOn, Service.laterCopies, List.any_filter]
  congr 2
  funext q
  simp [Service.mem_copies, Bool.and_comm, Bool.and_assoc]

/-! ## Stream frames (R407) -/

/-- A frame for which no stream is open is answered FORMAT, with RID 0 (log entry 67). -/
theorem execStreamFrame_closed {s : State} {l : LaneId} {sender : Nat} {via : Via} {pay : Bytes}
    (hs : s.servesVia l sender via = true) (hp : pay.length = 1440) (hc : (s.lanes.get l).main.service.stream = none) :
    exec (.streamFrame l sender via pay) s = .next (s.setLane l ((s.lanes.get l).queueRequest
      ⟨sender, via, 0, ((s.lanes.get l).main.time.round + 1) % 16777216, [settled 0xB], (s.lanes.get l).main.time.roundDue, false⟩)) := by
  simp [exec, execStreamFrame, hs, hp, State.streamTake, hc, Lane.inHandOver]

/-- A lane's code is none of a unit (R8). -/
@[simp] theorem ofCode_laneCode (l : LaneId) : UnitId.ofCode l.code = none := by cases l <;> rfl

theorem laneCode_bounds (l : LaneId) : 1 ≤ l.code ∧ l.code ≤ 3 := by cases l <;> decide

/-- An address of a lane's own registers, taken apart (R7, R8, R403). -/
theorem laneAddr (l : LaneId) {a : Nat} (b o : Nat) (h : a = l.code * 268435456 + b * 1048576 + o) (hb : b < 256) (ho : o < 1048576) :
    addrUnit a = l.code ∧ addrBlock a = b ∧ addrOff a = o := by
  obtain ⟨h1, h3⟩ := laneCode_bounds l
  simp only [addrUnit, addrBlock, addrOff]
  omega

/-- The address of a word a stream writes: the page register, or a word of the canvas window, of the CNV_ block (R106). -/
def streamAddr (l : LaneId) (a : Nat) : Prop :=
  ∃ o, (o = 0x14 ∨ (0x1000 ≤ o ∧ o < 0x2000 ∧ o % 4 = 0)) ∧ a = l.code * 268435456 + 0xF * 1048576 + o

theorem streamWrites_addr {l : LaneId} {ofs : Nat} {pay : Bytes} (ho : ofs % 4 = 0) {e : Nat × Nat} (he : e ∈ streamWrites l ofs pay) :
    streamAddr l e.1 := by
  simp only [streamWrites, List.mem_flatMap, List.mem_append, List.mem_range] at he
  obtain ⟨i, _, he | he⟩ := he
  · split at he
    · exact ⟨0x14, .inl rfl, by simp_all⟩
    · simp at he
  · exact ⟨0x1000 + (ofs + 4 * i) % 4096, .inr (by omega), by simp_all; omega⟩

/-- The pending image is open to the writer (R98, R106, R346). -/
def imageOpen (s : State) (l : LaneId) (who : Nat) : Prop :=
  (s.lanes.get l).main.office.holder = some who ∧ s.cnvGate l = 0 ∧ (s.lanes.get l).loader.state = .receiving

/-- The canvas window reads as 0 (R106). -/
theorem cnvRead_window (n : Lane) (l : LaneId) {o : Nat} (h1 : 0x1000 ≤ o) (h2 : o < 0x2000) : cnvRead n l o = some 0 := by
  unfold cnvRead
  dsimp only
  repeat rw [if_neg (by omega)]
  rw [if_pos ⟨h1, h2⟩]

/-- The registers a stream writes are there. -/
theorem State.regValue_stream (s : State) {l : LaneId} {a : Nat} (ha : streamAddr l a) : ∃ old, s.regValue l a = some old := by
  obtain ⟨o, ho, rfl⟩ := ha
  obtain ⟨hu, hb, hf⟩ := laneAddr l 0xF o rfl (by decide) (by omega)
  have aligned : o % 4 = 0 := by omega
  simp only [State.regValue, laneRead, hu, hb, hf, aligned, ne_eq, not_true_eq_false, if_false, if_true, ← Option.isSome_iff_exists]
  rcases ho with rfl | ⟨h1, h2, _⟩
  · rfl
  · rw [cnvRead_window _ l h1 h2]; rfl

/-- Into an open image every word of a stream is written. -/
theorem State.writeStatus_stream {s : State} {l : LaneId} {w : Writer} (h : imageOpen s l w.id) {a : Nat} (ha : streamAddr l a) (v m : Nat) :
    s.writeStatus l w a v m = 0 := by
  obtain ⟨hh, hg, hr⟩ := h
  obtain ⟨old, hold⟩ := s.regValue_stream ha
  obtain ⟨o, ho, rfl⟩ := ha
  obtain ⟨hu, hb, hf⟩ := laneAddr l 0xF o rfl (by decide) (by omega)
  obtain ⟨h1, h3⟩ := laneCode_bounds l
  have e14 : l.code ≠ 14 := by omega
  have e15 : l.code ≠ 15 := by omega
  have check : s.checkCnv l w.id o (v &&& m) = 0 := by
    simp only [State.checkCnv]
    rw [if_neg (not_not.mpr hh), if_neg (by omega), if_neg (not_not.mpr hg), if_neg fun h => (by omega : o ≠ 0x10) h.1,
      if_neg fun h => h.2 hr]
  simp [State.writeStatus, hu, hb, hf, hold, e14, e15, State.reaches, check]

/-- A write of the pending image as it waits for its boundary, one later where it was taken in the hand-over cycle (R70, R407). -/
def imageWrite (n : Lane) (w : Writer) (rid : Nat) (e : Nat × Nat) : ShadowWrite :=
  ⟨some w, ⟨e.1, true, BitVec.ofNat 32 e.2, 0xFFFFFFFF⟩, (n.main.time.round + (if n.main.time.roundDue then 2 else 1)) % 16777216, rid⟩

theorem streamAddr_code {l : LaneId} {a : Nat} (ha : streamAddr l a) : addrUnit a = l.code ∧ addrBlock a = 0xF := by
  obtain ⟨o, ho, rfl⟩ := ha
  obtain ⟨hu, hb, _⟩ := laneAddr l 0xF o rfl (by decide) (by omega)
  exact ⟨hu, hb⟩

/-- A word of a stream taken by a lane without a COMMIT group waits among the writes that are due. -/
theorem State.takeWrite_image {s : State} {l : LaneId} {w : Writer} {rid : Nat} {e : Nat × Nat} (ha : streamAddr l e.1)
    (hg : (s.lanes.get l).main.shadow.ranges = []) :
    ∃ h : Shadow, s.takeWrite l w rid e.1 e.2 0xFFFFFFFF false = s.setLane l ((s.lanes.get l).onMain fun m => { m with shadow := h }) ∧
      h.ranges = [] ∧ h.due = (s.lanes.get l).main.shadow.due ++ [imageWrite (s.lanes.get l) w rid e] := by
  obtain ⟨hu, hb⟩ := streamAddr_code ha
  have added (x : ShadowWrite) : shadowAdd (s.lanes.get l).main.shadow x =
      { (s.lanes.get l).main.shadow with due := (s.lanes.get l).main.shadow.due ++ [x] } := by
    simp [shadowAdd, inGroup, hg]
  have taken : s.takeWrite l w rid e.1 e.2 0xFFFFFFFF false = s.setLane l ((s.lanes.get l).onMain fun m => { m with shadow :=
      let h := shadowAdd m.shadow (imageWrite (s.lanes.get l) w rid e)
      if (s.lanes.get l).main.time.roundDue then h.straddled else h }) := by
    simp [State.takeWrite, hu, hb, Lane.okStatus, Lane.inHandOver, imageWrite]
    cases (s.lanes.get l).main.time.roundDue <;> rfl
  refine ⟨_, taken, ?_⟩
  split <;> simp [added, Shadow.straddled, hg]

/-- The words of a stream wait, in their order, among the writes that are due. -/
theorem State.takeWrites_image {l : LaneId} {w : Writer} {rid : Nat} (ws : List (Nat × Nat)) (s : State)
    (ha : ∀ e ∈ ws, streamAddr l e.1) (hg : (s.lanes.get l).main.shadow.ranges = []) :
    ((ws.foldl (fun s e => s.takeWrite l w rid e.1 e.2 0xFFFFFFFF false) s).lanes.get l).main.shadow.due =
      (s.lanes.get l).main.shadow.due ++ ws.map (imageWrite (s.lanes.get l) w rid) := by
  induction ws generalizing s with
  | nil => simp
  | cons e ws ih =>
    obtain ⟨h, hs, hr, hd⟩ := State.takeWrite_image (w := w) (rid := rid) (ha e List.mem_cons_self) hg
    rw [List.foldl_cons, hs, ih _ (fun x hx => ha x (List.mem_cons_of_mem e hx)) (by simpa using hr)]
    have same (n : Lane) (h : Shadow) : imageWrite (n.onMain fun m => { m with shadow := h }) w rid = imageWrite n w rid := rfl
    simp [hd, same]

/-- The state after the words of a stream frame are taken. -/
def State.imageWritten (s : State) (l : LaneId) (w : Writer) (rid ofs : Nat) (pay : Bytes) : State :=
  (streamWrites l ofs pay).foldl (fun s e => s.takeWrite l w rid e.1 e.2 0xFFFFFFFF false) s

theorem State.imageWritten_taken (s : State) (l : LaneId) (w : Writer) (rid ofs : Nat) (pay : Bytes) :
    OpTaken l s (s.imageWritten l w rid ofs pay) :=
  opTaken_foldl _ (fun t (e : Nat × Nat) => t.takeWrite_taken l w rid e.1 e.2 0xFFFFFFFF false) (streamWrites l ofs pay) s

theorem State.imageWritten_due {s : State} {l : LaneId} (w : Writer) (rid : Nat) {ofs : Nat} (pay : Bytes) (h4 : ofs % 4 = 0)
    (hg : (s.lanes.get l).main.shadow.ranges = []) :
    ((s.imageWritten l w rid ofs pay).lanes.get l).main.shadow.due =
      (s.lanes.get l).main.shadow.due ++ (streamWrites l ofs pay).map (imageWrite (s.lanes.get l) w rid) :=
  State.takeWrites_image _ s (fun _ he => streamWrites_addr h4 he) hg

/-- A run of writes none of which is refused is taken, in its order (R406). -/
theorem State.svcWrites_accepted {s : State} {l : LaneId} {w : Writer} {rid : Nat} {ws : List (Nat × Nat)} {late : Bool}
    (h : ∀ e ∈ ws, s.writeStatus l w e.1 e.2 0xFFFFFFFF = 0) :
    s.svcWrites l w rid ws late = (ws.foldl (fun s e => s.takeWrite l w rid e.1 e.2 0xFFFFFFFF late) s,
      (s.lanes.get l).okStatus ((ws.map Prod.fst).headD 0) late) := by
  unfold State.svcWrites
  split
  next e he =>
    have refused := List.find?_some he
    simp [h e (List.mem_of_find?_eq_some he)] at refused
  next => rfl

/-- Into an open image the words of a stream frame are taken and the stream goes on: OK, with STRADDLE in the hand-over cycle (R70, R407). -/
theorem State.streamWords_image {s : State} {l : LaneId} {w : Writer} {ofs rid : Nat} {pay : Bytes} (h4 : ofs % 4 = 0) (hi : imageOpen s l w.id) :
    s.streamWords l w ⟨w.id, l.code, ofs, rid⟩ pay =
      ((s.imageWritten l w rid ofs pay).setLane l (((s.imageWritten l w rid ofs pay).lanes.get l).setStream
        (some ⟨w.id, l.code, ofs + 1440, rid⟩)), if (s.lanes.get l).main.time.roundDue then 256 else 0) := by
  have accepted := State.svcWrites_accepted (rid := rid) (late := false) fun e he => State.writeStatus_stream hi (streamWrites_addr (pay := pay) h4 he) e.2 0xFFFFFFFF
  unfold State.streamWords
  rw [accepted]
  cases h : (s.lanes.get l).main.time.roundDue <;> simp [Lane.okStatus, Lane.inHandOver, h, State.imageWritten]

/-- A stream frame into an open image. -/
theorem execStreamFrame_open {s : State} {l : LaneId} {sender ofs rid : Nat} {via : Via} {pay : Bytes}
    (hs : s.servesVia l sender via = true) (hp : pay.length = 1440)
    (hx : (s.lanes.get l).main.service.stream = some ⟨sender, l.code, ofs, rid⟩) (ho : ofs ≤ 4192864) (h4 : ofs % 4 = 0)
    (hi : imageOpen s l sender) :
    let t := s.imageWritten l ⟨sender, via⟩ rid ofs pay
    let late := (s.lanes.get l).main.time.roundDue
    exec (.streamFrame l sender via pay) s = .next (t.setLane l (((t.lanes.get l).setStream (some ⟨sender, l.code, ofs + 1440, rid⟩)).queueRequest
      ⟨sender, via, rid, ((s.lanes.get l).main.time.round + 1) % 16777216, [settled (if late then 256 else 0)], late, false⟩)) := by
  have words := State.streamWords_image (w := ⟨sender, via⟩) (rid := rid) (pay := pay) h4 hi
  have take : s.streamTake l sender ⟨sender, via⟩ pay = ((s.streamWords l ⟨sender, via⟩ ⟨sender, l.code, ofs, rid⟩ pay).1,
      (s.streamWords l ⟨sender, via⟩ ⟨sender, l.code, ofs, rid⟩ pay).2, rid) := by
    simp only [State.streamTake, hx, Nat.not_lt.mpr ho, ne_eq, not_true_eq_false, or_self, if_false]
  simp only [exec, execStreamFrame]
  rw [if_pos ⟨hs, hp⟩, take, words]
  simp [Lane.inHandOver]

/-! ## The round boundary of the register service (R13, R70, R103, R408) -/

theorem roundsSince_self (r : Nat) : roundsSince r r = 0 := by
  simp only [roundsSince]; omega

/-- Lane C's inhibit lines reach the islands; no lane changes. -/
theorem State.syncInhibit_outside (s : State) : s.syncInhibit.lanes = s.lanes ∧ s.syncInhibit.polvin = s.polvin := by
  refine allIslands.foldlRecOn (motive := fun (t : State) => t.lanes = s.lanes ∧ t.polvin = s.polvin) _ ⟨rfl, rfl⟩ fun t ht i _ => ?_
  unfold State.ifRuns
  split
  · exact ht
  · exact ht

@[simp] theorem State.syncInhibit_lanes (s : State) : s.syncInhibit.lanes = s.lanes := s.syncInhibit_outside.1
@[simp] theorem State.syncInhibit_polvin (s : State) : s.syncInhibit.polvin = s.polvin := s.syncInhibit_outside.2

/-- A lane without a request that waits completes none. -/
theorem State.finishReqs_idle {s : State} {l : LaneId} (h : (s.lanes.get l).main.service.reqs = []) : s.finishReqs l = s := by
  simp only [State.finishReqs, h, List.foldl_nil, Lane.onMain]
  rw [← h]
  exact s.setLane_self l

/-- Where no write to the Polvin core is due, nothing malformed reaches it, whether the lane's interface fails or not (R367). -/
theorem State.badInterface_none {s : State} {l : LaneId} (bad : Bool) (h : ∀ x ∈ (s.lanes.get l).main.shadow.due, addrUnit x.acc.addr ≠ 14) :
    (if bad then s.badInterface l else s) = s := by
  have none : (s.lanes.get l).main.shadow.due.any (fun w => decide (addrUnit w.acc.addr = 14) &&
      reached w.effect (s.lanes.get l).main.time.round) = false := by
    rw [List.any_eq_false]
    intro x hx
    simp [h x hx]
  cases bad
  · rfl
  · simp [State.badInterface, none]

/-- Where nothing was forwarded, nothing lapses. -/
theorem State.lapseDue_none {s : State} {l : LaneId} (h : (s.lanes.get l).main.sent = []) : s.lapseDue l = s := by
  simp only [State.lapseDue, h, List.filter_nil, List.foldl_nil, Lane.onMain]
  rw [← h]
  exact s.setLane_self l

/-- A lane whose due writes have been taken out. -/
def Lane.dueTaken (n : Lane) : Lane :=
  { n with main := { n.main with shadow := { n.main.shadow with due := [], pend := false } } }

theorem State.applyDue_none {s : State} {l : LaneId} (h : (s.lanes.get l).main.shadow.due = []) :
    s.applyDue l = s.setLane l (s.lanes.get l).dueTaken := by
  simp [State.applyDue, h, Lane.onMain, Lane.dueTaken]

theorem State.applyDue_one {s : State} {l : LaneId} {x : ShadowWrite} (h : (s.lanes.get l).main.shadow.due = [x])
    (hx : reached x.effect (s.lanes.get l).main.time.round = true) :
    s.applyDue l = (s.setLane l (s.lanes.get l).dueTaken).applyWrite l x := by
  simp [State.applyDue, h, hx, Lane.onMain, Lane.dueTaken]

/-- A write to a register of the lane's own, other than OWN_CTRL, as it takes effect or lapses (R13, R103). -/
theorem State.applyWrite_own {s : State} {l : LaneId} {x : ShadowWrite} (hu : addrUnit x.acc.addr = l.code)
    (ho : ¬ (addrBlock x.acc.addr = 0xD ∧ addrOff x.acc.addr = 0x30)) :
    s.applyWrite l x = s.setLane l (if (s.lanes.get l).stillPermitted l x then
      laneWrite (s.lanes.get l) l x.acc.addr x.acc.value.toNat x.acc.mask.toNat else (s.lanes.get l).event l 5) := by
  obtain ⟨h1, h3⟩ := laneCode_bounds l
  simp only [State.applyWrite, hu, ho, if_false]
  rw [if_neg (by omega : ¬ l.code = 14), if_neg (by omega : ¬ l.code = 15)]
  cases (s.lanes.get l).stillPermitted l x <;> rfl

/-! ### A register write leaves the requests alone -/

@[simp] theorem Lane.event_service (n : Lane) (l : LaneId) (k : Nat) (b : Bool) : (n.event l k b).main.service = n.main.service := rfl

theorem Lane.force_service (n : Lane) (l : LaneId) (k : Nat) : (n.force l k).main.service = n.main.service := by
  have ask (n : Lane) : (n.askRetry k).main.service = n.main.service := by
    unfold Lane.askRetry; split <;> rfl
  simp only [Lane.force, Lane.selfFail]
  (repeat' split) <;> simp [ask]

theorem laneEvtWrite_service (n : Lane) (l : LaneId) (off v mask : Nat) : (laneEvtWrite n l off v mask).main.service = n.main.service := by
  unfold laneEvtWrite
  split
  · exact List.foldlRecOn _ (motive := fun (m : Lane) => m.main.service = n.main.service) _ rfl fun m hm k _ => (m.force_service l k).trans hm
  · rfl

theorem cnvWrite_reqs (n : Lane) (off v mask : Nat) : (cnvWrite n off v mask).main.service.reqs = n.main.service.reqs := by
  simp only [cnvWrite]
  (repeat' split) <;> rfl

theorem dmaWrite_service (n : Lane) (off v mask : Nat) : (dmaWrite n off v mask).main.service = n.main.service := by
  simp only [dmaWrite]
  (repeat' split) <;> rfl

theorem laneWrite_reqs (n : Lane) (l : LaneId) (addr v mask : Nat) : (laneWrite n l addr v mask).main.service.reqs = n.main.service.reqs := by
  simp only [laneWrite]
  (repeat' split) <;> simp [laneEvtWrite_service, cnvWrite_reqs, dmaWrite_service, Lane.onMem]

/-- Where the requests of a lane are none after the writes of its boundary, the boundary ends with them. -/
theorem execRegisterWrite_idle {s t : State} {l : LaneId} {bad : Bool} (hs : (s.lanes.get l).serves = true)
    (ht : (((if bad then s.badInterface l else s).lapseDue l).applyDue l) = t) (hr : (t.lanes.get l).main.service.reqs = []) :
    exec (.registerWrite ⟨l, bad⟩) s = .next t.syncInhibit := by
  simp only [exec, execRegisterWrite, ht, hr, State.serveReqs]
  rw [if_pos hs]
  have same : t.setLane l ((t.lanes.get l).onMain fun m => { m with service := { m.service with reqs := [] } }) = t := by
    rw [← hr]; exact t.setLane_self l
  rw [same, State.finishReqs_idle (by simpa using hr)]

/-! ### A register of the lane's own is written at the boundary -/

/-- A write of the boundary to a register of the lane's own, other than OWN_CTRL, as the only one due, where no request waits (R13, R103). -/
theorem execRegisterWrite_write {s : State} {l : LaneId} {bad : Bool} {x : ShadowWrite} (hs : (s.lanes.get l).serves = true)
    (hsent : (s.lanes.get l).main.sent = []) (hdue : (s.lanes.get l).main.shadow.due = [x])
    (hx : reached x.effect (s.lanes.get l).main.time.round = true) (hreq : (s.lanes.get l).main.service.reqs = [])
    (hu : addrUnit x.acc.addr = l.code) (ho : ¬ (addrBlock x.acc.addr = 0xD ∧ addrOff x.acc.addr = 0x30)) :
    exec (.registerWrite ⟨l, bad⟩) s = .next (s.setLane l (if (s.lanes.get l).stillPermitted l x then
      laneWrite (s.lanes.get l).dueTaken l x.acc.addr x.acc.value.toNat x.acc.mask.toNat else (s.lanes.get l).dueTaken.event l 5)).syncInhibit := by
  obtain ⟨h1, h3⟩ := laneCode_bounds l
  have clean : (if bad then s.badInterface l else s) = s := State.badInterface_none bad (by simp [hdue, hu]; omega)
  have permitted : (s.lanes.get l).dueTaken.stillPermitted l x = (s.lanes.get l).stillPermitted l x := rfl
  refine execRegisterWrite_idle hs ?_ ?_
  · rw [clean, State.lapseDue_none hsent, State.applyDue_one hdue hx, State.applyWrite_own hu ho]
    simp [permitted]
  · simp only [State.setLane_lanes, Tri.get_set_same]
    split
    · rw [laneWrite_reqs]; exact hreq
    · exact hreq

/-- A bit of EVT_STATUS written 1 is cleared, but where the hardware set it at the same boundary (R9, R10, R383). -/
theorem laneWrite_evtStatus (n : Lane) (l : LaneId) {addr w j : Nat} (v mask : Nat) (hw : w < 8)
    (ha : addr = l.code * 268435456 + 0xC * 1048576 + 4 * w) :
    (laneWrite n l addr v mask).main.evt.status.testBit (32 * w + j) =
      (n.main.evt.status.testBit (32 * w + j) && (!(v.testBit j && mask.testBit j) || n.main.evt.now.testBit (32 * w + j))) := by
  obtain ⟨_, hb, hf⟩ := laneAddr l 0xC (4 * w) ha (by decide) (by omega)
  have word : 4 * w % 32 / 4 = w := by omega
  have bit : ((v &&& mask) <<< (32 * w)).testBit (32 * w + j) = (v.testBit j && mask.testBit j) := by
    simp [Nat.testBit_shiftLeft]
  simp only [laneWrite, hb, hf, laneEvtWrite, evtWrite, word]
  rw [if_neg (by omega), if_pos (by omega)]
  simp only [testBit_clearMask, bit]
  simp

/-! ### A register of the lane's own is read at the boundary -/

/-- Reading clears registers, not what waits in the register service (R9). -/
theorem laneReadClear_service (n : Lane) (l : LaneId) (addr : Nat) : (laneReadClear n l addr).main.service = n.main.service := by
  simp only [laneReadClear, dmaReadClear, canReadClear]
  (repeat' split) <;> rfl

theorem State.serveReg_own {s : State} {l : LaneId} {addr : Nat} (hu : addrUnit addr = l.code) :
    s.serveReg l addr = (s.setLane l (laneReadClear (s.lanes.get l) l addr), some ((laneRead s l addr).getD 0)) := by
  obtain ⟨h1, h3⟩ := laneCode_bounds l
  simp only [State.serveReg, hu, ofCode_laneCode]
  rw [if_neg (by omega)]

/-- The one request of a lane whose boundary has come, a read of one register, is served (R408). -/
theorem State.serveReqs_read {s : State} {l : LaneId} {r : PendReq} {addr : Nat} (hu : addrUnit addr = l.code) (hs : r.served = false)
    (hb : reached ((r.effect + b2n r.late) % 16777216) (s.lanes.get l).main.time.round = true) (ho : r.ops = [.read [(addr, none)]]) :
    s.serveReqs l [r] = (s.setLane l (laneReadClear (s.lanes.get l) l addr),
      [{ r with ops := [.read [(addr, some ((laneRead s l addr).getD 0))]], served := true }]) := by
  simp [State.serveReqs, hs, hb, ho, State.serveOps, State.serveRegs, State.serveReg_own hu]

/-- The one request of a lane, a read that is served, becomes its reply (R408). -/
theorem State.finishReqs_read {s : State} {l : LaneId} {r : PendReq} {addr v : Nat} (hr : (s.lanes.get l).main.service.reqs = [r])
    (hp : (s.lanes.get l).main.service.replies = []) (hs : r.served = true) (ho : r.ops = [.read [(addr, some v)]]) :
    s.finishReqs l = s.setLane l ((s.lanes.get l).onMain fun m => { m with service := { m.service with
      reqs := [], replies := [⟨r.sender, r.via, r.rid, r.effect, [⟨0, [v]⟩]⟩] } }) := by
  have done : s.readDone l (.read [(addr, some v)]) = some ⟨0, [v]⟩ := rfl
  simp [State.finishReqs, hr, hp, hs, ho, done, addReply]

/-- A lane with nothing left to write whose one request, a read of a register of its own, has come to its boundary: the read is served
from the registers as they stand, and its reply waits. -/
theorem execRegisterWrite_read {s : State} {l : LaneId} {bad : Bool} {sender rid effect addr : Nat} {via : Via}
    (hs : (s.lanes.get l).serves = true) (hsent : (s.lanes.get l).main.sent = []) (hdue : (s.lanes.get l).main.shadow.due = [])
    (hrep : (s.lanes.get l).main.service.replies = [])
    (hreq : (s.lanes.get l).main.service.reqs = [⟨sender, via, rid, effect, [.read [(addr, none)]], false, false⟩])
    (he : effect = (s.lanes.get l).main.time.round) (hlt : effect < 16777216) (hu : addrUnit addr = l.code) :
    ∃ t, exec (.registerWrite ⟨l, bad⟩) s = .next t ∧ othersKept l s t ∧
      t.lanes.get l = (laneReadClear (s.lanes.get l).dueTaken l addr).onMain fun m => { m with service := { m.service with
        reqs := [], replies := [⟨sender, via, rid, effect, [⟨0, [(laneRead (s.setLane l (s.lanes.get l).dueTaken) l addr).getD 0]⟩]⟩] } } := by
  have clean : (if bad then s.badInterface l else s) = s := State.badInterface_none bad (by simp [hdue])
  have due : (((if bad then s.badInterface l else s).lapseDue l).applyDue l) = s.setLane l (s.lanes.get l).dueTaken := by
    rw [clean, State.lapseDue_none hsent, State.applyDue_none hdue]
  have served := State.serveReqs_read (s := s.setLane l (s.lanes.get l).dueTaken) (l := l)
    (r := ⟨sender, via, rid, effect, [.read [(addr, none)]], false, false⟩) hu rfl
    (by simp [Lane.dueTaken, reached, b2n, Nat.mod_eq_of_lt hlt, ← he, roundsSince_self]) rfl
  have waiting : ((s.setLane l (s.lanes.get l).dueTaken).lanes.get l).main.service.reqs =
      [⟨sender, via, rid, effect, [.read [(addr, none)]], false, false⟩] := by simpa [Lane.dueTaken] using hreq
  simp only [exec, execRegisterWrite]
  rw [if_pos hs, due, waiting, served]
  refine ⟨_, congrArg _ (State.finishReqs_read (by simp; rfl) (by simp [laneReadClear_service, Lane.dueTaken, hrep]) rfl rfl), ?_, ?_⟩
  · refine ⟨fun k hk => ?_, ?_⟩
    · simp [Tri.get_set_other _ _ _ _ hk]
    · simp
  · simp [Lane.onMain]

/-! ## Replies on the service port (R338, R408, R410) -/

/-- Lane `k` still has to send its reply to the request that `r` answers. -/
def awaitsPort (s : State) (r : Reply) (k : LaneId) : Prop :=
  (s.lanes.get k).serves = true ∧
    ((∃ x ∈ (s.lanes.get k).main.service.replies, x.via = .port ∧ x.rid = r.rid ∧ x.effect = r.effect) ∨
      (∃ x ∈ (s.lanes.get k).main.service.reqs, x.via = .port ∧ x.rid = r.rid ∧ x.effect = r.effect))

/-- A lane's turn on the service port comes when no lane before it has a reply to send. -/
theorem State.portTurn_iff {s : State} {l : LaneId} {r : Reply} {rs : List Reply} (h : (s.lanes.get l).main.service.replies = r :: rs)
    (hv : r.via = .port) : s.portTurn l = true ↔ ¬ ∃ k, k.idx < l.idx ∧ awaitsPort s r k := by
  have every (p : LaneId → Prop) : (∀ k ∈ allLanes, p k) ↔ ∀ k, p k :=
    ⟨fun h k => h k (by cases k <;> decide), fun h k _ => h k⟩
  have head : (s.lanes.get l).main.service.replies.find? (fun r => decide (r.via = .port)) = some r := by simp [h, hv]
  simp only [State.portTurn, head, List.all_eq_true, every, not_exists]
  refine forall_congr' fun k => ?_
  rcases Nat.lt_or_ge k.idx l.idx with hk | hk
  · cases hs : (s.lanes.get k).serves <;> simp [awaitsPort, hs, Nat.not_le.mpr hk, hk]
  · simp [hk, Nat.not_lt.mpr hk]

/-- The reply sent is the lane's oldest, under the next frame counter of the port (R338, R410). -/
theorem State.portReply_sends {s : State} {l : LaneId} {r : Reply} {rs : List Reply} (h : (s.lanes.get l).main.service.replies = r :: rs)
    (hv : r.via = .port) (hup : s.port.up = true) (hl : s.portLive = true) (hp : s.port.peer = some r.sender) :
    let t := s.portReply l
    othersKept l s t ∧ (t.lanes.get l).main.service.replies = rs ∧ t.port = { s.port with txCtr := s.port.txCtr.set l (s.port.txCtr.get l + 1) } ∧
      ∃ b, (t.lanes.get l).main.service.sent = some (r, b) := by
  have head : (s.lanes.get l).main.service.replies.find? (fun r => decide (r.via = .port)) = some r := by simp [h, hv]
  simp only [State.portReply, head]
  rw [if_pos ⟨hup, hl, hp⟩]
  refine ⟨⟨fun k hk => Tri.get_set_other _ _ _ _ hk, rfl⟩, ?_, rfl, replyBytes l r 1440, ?_⟩
  · simp [Lane.dropReply, h]
  · simp [Lane.dropReply]

/-- SERVICE_REPLY on the service port in a lane whose requests are all answered. -/
theorem execServiceReply_port {s : State} {l : LaneId} (hs : (s.lanes.get l).serves = true) (hreq : (s.lanes.get l).main.service.reqs = []) :
    exec (.serviceReply l .port) s = .next (if s.portTurn l then s.portReply l else s) := by
  simp only [exec, execServiceReply]
  rw [if_pos hs, State.finishReqs_idle hreq]

/-- Settles O39: a request is taken after its later copies are withdrawn, a stream word by word; the boundary applies the one write due or
serves the one read that waits; a reply leaves in its lane's turn. -/
theorem registerServiceRequests : Obligations.RegisterServiceRequests := by
  unfold Obligations.RegisterServiceRequests
  refine ⟨fun s l sender via pay hs => ⟨fun arrive hp => ?_, fun hp => ?_⟩, fun s l bad hs hsent => ⟨?write, ?read⟩, ?reply⟩
  · intro v new
    refine ⟨fun h => ?first, fun p hv => ⟨fun hq => ?ignored, fun hq => ?later⟩⟩
    case first =>
      obtain ⟨t, ops, run, frame, reqs, seen, format⟩ := execServiceRequest_takes arrive hs hp (Service.acted_first h)
      rw [State.copyIn_first h] at frame reqs seen
      exact ⟨t, ops, run, onlyLane_trans (onlyLane_setLane _ _ _) frame,
        reqs.trans (by rw [State.setLane_lanes, Tri.get_set_same]; rfl), seen.trans (by rw [State.setLane_lanes, Tri.get_set_same]; rfl), format⟩
    case ignored =>
      subst hv
      exact execServiceRequest_ignored arrive (Service.acted_plane.mpr hq)
    case later =>
      subst hv
      obtain ⟨t, ops, run, frame, reqs, _, _⟩ := execServiceRequest_takes arrive hs hp (Service.acted_lowest hq)
      obtain ⟨others, time, kept⟩ := s.copyIn_plane l sender (u16At pay 0) p
      obtain ⟨lanes, polvin⟩ := others.trans (othersKept_of_onlyLane frame)
      refine ⟨t, ops, run, lanes, polvin, ?_⟩
      rw [reqs, kept, queuedRequest, time]
      simp only [PendReq.copyOn_laterCopies]
      rfl
  · refine ⟨fun hc => execStreamFrame_closed hs hp hc, ?_⟩
    intro ofs rid hx ho h4 hh hg hr late
    have taken := s.imageWritten_taken l ⟨sender, via⟩ rid ofs pay
    refine ⟨_, execStreamFrame_open hs hp hx ho h4 ⟨hh, hg, hr⟩, onlyLane_trans taken.frame (onlyLane_setLane _ _ _), ?_, ?_, fun hn => ?_⟩
    · simp [Lane.queueRequest, Lane.setStream]
    · simp [Lane.queueRequest, Lane.setStream, taken.reqs, settled, late]
    · simp only [Lane.queueRequest, Lane.setStream, State.setLane_lanes, Tri.get_set_same, Lane.onMain_main,
        State.imageWritten_due ⟨sender, via⟩ rid pay h4 hn]
      rfl
  case write =>
    intro x hdue hx hreq hu ho n
    refine ⟨_, execRegisterWrite_write hs hsent hdue hx hreq hu ho, fun k hk => ?_, ?_, fun w j hw _ ha hp => ?_, ?_⟩
    · simp [Tri.get_set_other _ _ _ _ hk]
    · simp
    · simp only [State.syncInhibit_lanes, State.setLane_lanes, Tri.get_set_same, hp, if_true]
      exact laneWrite_evtStatus _ l _ _ hw ha
    · simp only [State.syncInhibit_lanes, State.setLane_lanes, Tri.get_set_same]
      rfl
  case read =>
    intro sender via rid effect addr hdue hrep hreq he hlt ha
    obtain ⟨b, o, eq, regs⟩ : ∃ b o, addr = l.code * 268435456 + b * 1048576 + o ∧ (b, o) ∈ [(1, 0), (9, 0x14), (0xD, 0x34)] := by
      simp only [List.mem_cons, List.not_mem_nil, or_false] at ha
      rcases ha with rfl | rfl | rfl
      exacts [⟨1, 0, by omega, by simp⟩, ⟨9, 0x14, by omega, by simp⟩, ⟨0xD, 0x34, by omega, by simp⟩]
    have small : b < 256 ∧ o < 1048576 := by
      simp only [List.mem_cons, List.not_mem_nil, or_false, Prod.mk.injEq] at regs
      omega
    obtain ⟨hu, hb, hf⟩ := laneAddr l b o eq small.1 small.2
    obtain ⟨t, run, ⟨lanes, polvin⟩, lane⟩ := execRegisterWrite_read (bad := bad) hs hsent hdue hrep hreq he hlt hu
    refine ⟨t, (laneRead (s.setLane l (s.lanes.get l).dueTaken) l addr).getD 0, run, by simp [lane], by simp [lane], lanes, polvin, ?_⟩
    simp only [List.mem_cons, List.not_mem_nil, or_false, Prod.mk.injEq] at regs
    rcases regs with ⟨rfl, rfl⟩ | ⟨rfl, rfl⟩ | ⟨rfl, rfl⟩ <;>
      simp [lane, laneRead, laneReadClear, hb, hf, laneTckRead, crsRead, ownRead, Lane.dueTaken]
  case reply =>
    intro s l r rs hs hreq hrep hv hup hl hp holds
    refine ⟨fun hk => ?_, fun hk => ?_⟩
    · rw [execServiceReply_port hs hreq, if_neg fun ht => (State.portTurn_iff hrep hv).mp ht hk]
    · obtain ⟨⟨lanes, polvin⟩, replies, port, sent⟩ := State.portReply_sends hrep hv hup hl hp
      exact ⟨_, by rw [execServiceReply_port hs hreq, if_pos ((State.portTurn_iff hrep hv).mpr hk)], replies, port, sent, lanes, polvin⟩

end Sys2Proof.Machine

namespace Sys2Proof.Machine
open Sys2Proof

/-! ## One island replaced -/

section withIsland
variable (s : State) (i : IslandId) (x : Island)

@[simp] theorem withIsland_isl : (withIsland s i x).isl = s.isl.set i x := rfl
@[simp] theorem withIsland_ucom : (withIsland s i x).ucom = s.ucom := rfl

end withIsland

/-- An island whose clock stands as it did runs as it did. -/
theorem runs_withIsland {s : State} {i : IslandId} {x : Island} (hx : x.clockLost = (s.isl.get i).clockLost) (k : IslandId) :
    (withIsland s i x).runs (.isl k) = s.runs (.isl k) := by
  have clock : ((withIsland s i x).isl.get k).clockLost = (s.isl.get k).clockLost := by
    by_cases hk : k = i
    · subst hk; simpa using hx
    · simp [Six.get_set_other _ _ _ _ hk]
  exact congrArg (fun b => decide ((s.ucom.get (.isl k)).dom = .on) && !b) clock

/-- An island replaced changes nothing else. -/
theorem onlyIsland_withIsland (s : State) (i : IslandId) (x : Island) : onlyIsland i s (withIsland s i x) := by
  rw [← putIsl_same]; exact onlyIsland_putIsl _ _ _

/-- A row that replaces a running island and leaves its common part alone. -/
theorem exec_withIsland {c : Instr} {s : State} {i : IslandId} {f : IslPair → IslPair} {x : Island}
    (hc : exec c s = .next (s.onIsland i f)) (h : s.runs (.isl i) = true) (hf : f (s.islPair i) = (s.ucom.get (.isl i), x)) :
    exec c s = .next (withIsland s i x) := by rw [hc, onIsland_run h, hf, putIsl_same]

/-- A row that leaves a running island and its common part as they are changes nothing. -/
theorem exec_same {c : Instr} {s : State} {i : IslandId} {f : IslPair → IslPair}
    (hc : exec c s = .next (s.onIsland i f)) (h : s.runs (.isl i) = true) (hf : f (s.islPair i) = s.islPair i) :
    exec c s = .next s := by
  rw [hc, onIsland_run h, hf]
  simp [State.putIsl, State.islPair]

/-- A row that brings a cause into force on a running island changes that island, which then has the cause. -/
theorem exec_raises {c : Instr} {s : State} {i : IslandId} {f : IslPair → IslPair} {q : IslPair} {n : Nat}
    (hc : exec c s = .next (s.onIsland i f)) (h : s.runs (.isl i) = true) (hf : f (s.islPair i) = raiseCause i q n) :
    ∃ t, exec c s = .next t ∧ onlyIsland i s t ∧ t.isl.get i = settleSw i (raised q n) := by
  rw [hc, onIsland_run h, hf]
  exact ⟨_, rfl, onlyIsland_putIsl _ _ _, by simp [raiseCause_island]⟩

@[simp] theorem settleSw_fast (id : IslandId) (i : Island) : (settleSw id i).fast = i.fast := by rw [settleSw_rest]
@[simp] theorem settleSw_back (id : IslandId) (i : Island) : (settleSw id i).back = i.back := by rw [settleSw_rest]

/-- An island that has its clock and a cause newly in force is in its safe state. -/
theorem settleSw_raised_safe (id : IslandId) {q : IslPair} (n : Nat) (hc : q.2.clockLost = false) :
    islandSafe (settleSw id (raised q n)) := raiseCause_island id q n ▸ raiseCause_safe q n id hc

/-! ## Bus voltage and regeneration (R43, R198-R201, R207) -/

theorem mem_busIslands (b : BusId) (k : IslandId) : k ∈ busIslands b ↔ k.bus = b := by
  cases b <;> cases k <;> decide

/-- The chopper of a bus is on where one of its islands requests it (R207). -/
theorem State.chopperOn_iff (s : State) (b : BusId) :
    s.chopperOn b = true ↔ ∃ k, k.bus = b ∧ s.runs (.isl k) = true ∧ (s.isl.get k).bus.ov1 = true := by
  simp [State.chopperOn, mem_busIslands]

/-- An island whose request changes leaves the chopper of the other bus as it was. -/
theorem chopperOn_otherBus {s : State} {i : IslandId} {x : Island} (hx : x.clockLost = (s.isl.get i).clockLost) {b : BusId}
    (hb : b ≠ i.bus) : (withIsland s i x).chopperOn b = s.chopperOn b := by
  rw [Bool.eq_iff_iff, State.chopperOn_iff, State.chopperOn_iff]
  refine exists_congr fun k => and_congr_right fun hk => ?_
  have other : k ≠ i := fun h => hb (by rw [← hk, h])
  simp [runs_withIsland hx, Six.get_set_other _ _ _ _ other]

/-- HOT by the energy of the model (R200): above 2.0 kJ, until below 1.0 kJ. -/
theorem hotOf_eq (e : Nat) (hot : Bool) : hotOf e hot = (decide (200 < e) || (decide (100 ≤ e) && hot)) := by
  unfold hotOf
  by_cases h1 : 200 < e
  · simp [h1]
  · by_cases h2 : e < 100
    · simp [h1, h2, Nat.not_le.mpr h2]
    · simp [h1, h2, Nat.not_lt.mp h2]

theorem execOv1_run {s : State} {i : IslandId} (h : s.runs (.isl i) = true) : exec (.ov1 i) s =
    .next (withIsland s i { s.isl.get i with bus := { (s.isl.get i).bus with ov1 := true } }) :=
  exec_withIsland rfl h rfl

theorem execOv1Release_run {s : State} {i : IslandId} (h : s.runs (.isl i) = true) : exec (.ov1Release i) s =
    .next (withIsland s i { s.isl.get i with bus := { (s.isl.get i).bus with ov1 := false } }) :=
  exec_withIsland rfl h rfl

/-- Settles O8: requests and HOT replace the island's bus part, from which the chopper is read; a trip raises its cause. -/
theorem chopperRequestAndRegeneration : Obligations.ChopperRequestAndRegeneration := by
  unfold Obligations.ChopperRequestAndRegeneration
  refine ⟨fun s i h => ⟨execOv1_run h, execOv1Release_run h, fun e => ?hot⟩, fun s i h => ⟨?on, ?off⟩, fun s i h => ⟨?trip, ?tripEnd, ?backstop⟩⟩
  case hot => exact exec_withIsland rfl h (by simp only [withBus, hotOf_eq]; rfl)
  case on =>
    refine ⟨_, execOv1_run h, (State.chopperOn_iff _ _).mpr ⟨i, rfl, ?_⟩, fun b hb => chopperOn_otherBus (by rfl) hb⟩
    rw [runs_withIsland (by rfl)]
    simp [h]
  case off =>
    refine ⟨_, execOv1Release_run h, fun b hb => chopperOn_otherBus (by rfl) hb, ?_⟩
    rw [State.chopperOn_iff]
    refine exists_congr fun k => ?_
    rw [runs_withIsland (by rfl)]
    by_cases hk : k = i
    · simp [hk]
    · simp [hk, Six.get_set_other _ _ _ _ hk]
  case trip =>
    intro hr hl
    obtain ⟨t, ht, only, after⟩ := exec_raises (c := .regenTrip i) (n := 8) rfl h (if_pos ⟨hr, by simp [hl]⟩)
    refine ⟨t, ht, only, ?_⟩
    rw [after]
    exact ⟨by simp [raised_causes], by simp [raised_live], settleSw_raised_safe i 8 (runs_clock h), by simp⟩
  case tripEnd => exact fun hr => exec_withIsland rfl h (if_pos hr)
  case backstop =>
    intro hl hb hc
    obtain ⟨t, ht, only, after⟩ := exec_raises (c := .backstop i) (n := 0xA) rfl h (if_pos ⟨hl, hb, by simp [hc]⟩)
    refine ⟨t, ht, only, ?_⟩
    rw [after]
    exact ⟨by simp [raised_causes], settleSw_raised_safe i 0xA (runs_clock h), by simp⟩

/-! ## The switch state of an island whose causes, or whose speed, have changed (R34, R35, R186, R198) -/

/-- The conditions that last are the ones that lasted, with that of the cause raised, but for the latch. -/
theorem raised_live_other (q : IslPair) (n k : Nat) (hk : k ≠ 0xE) :
    (raised q n).live.testBit k = (q.2.live.testBit k || decide (k = n)) := by
  unfold raised; simp only []; split <;> split <;> simp [testBit_setBit, hk]

/-- OV2 brought into force decides SHORT in a motor island, unless a cause asked before it opens (R35, R198). -/
theorem decidedSw_raised_ov2 (id : IslandId) (q : IslPair) :
    decidedSw id (raised q 6) = 1 + (if islandOpensFirst q.2 || id.isValve then 0 else 1) := by
  have first : islandOpensFirst (raised q 6) = islandOpensFirst q.2 := by
    simp [islandOpensFirst, raised_other, raised_live_other]
  have lasts : islandOv2Lasts (raised q 6) = true := by simp [islandOv2Lasts, raised_causes, raised_live]
  rw [decidedSw_eq, first, lasts]
  cases islandOpensFirst q.2 <;> cases id.isValve <;> rfl

/-- Bus undervoltage brought into force opens whatever else is in force (R186). -/
theorem islandForcedOpen_raised_uv (q : IslPair) : islandForcedOpen (raised q 0xD) = true := by
  simp [islandForcedOpen, islandOpensFirst, raised_causes, raised_live]

/-- Where OV2 does not last, the causes in force open or leave the canvas choice (R35). -/
theorem decidedSw_noOv2 (id : IslandId) {x : Island} (h : islandOv2Lasts x = false) :
    decidedSw id x = if islandForcedOpen x = true then 1 else choiceSw x := by
  rw [decidedSw_eq, islandForcedOpen, h]
  cases islandOpensFirst x <;> cases x.causes.testBit 0xD <;> rfl

/-- The switch state of the canvas choice, in the terms claims use (R34). -/
theorem choiceSw_eq (x : Island) : choiceSw x = if x.cfg.ssc = 1 ∨ x.cfg.ssc = 2 ∧ x.fast = true then 2 else 1 := by
  unfold choiceSw
  by_cases h1 : x.cfg.ssc = 1 <;> simp [h1]

/-- What the causes decide does not depend on the switch state. -/
@[simp] theorem decidedSw_settleSw (id : IslandId) (x : Island) : decidedSw id (settleSw id x) = decidedSw id x := by
  rw [settleSw_rest, decidedSw_eq, decidedSw_eq]; rfl

/-- What forces OPEN does not depend on the switch state. -/
@[simp] theorem islandForcedOpen_settleSw (id : IslandId) (x : Island) : islandForcedOpen (settleSw id x) = islandForcedOpen x := by
  rw [settleSw_rest]; rfl

/-- An island that leaves its safe state for refresh keeps its switch state; any other is settled. -/
def settledUnlessRefresh (id : IslandId) (x : Island) : Island := if x.sw = 3 then x else settleSw id x

/-- Nothing but the switch state is settled. -/
theorem settledUnlessRefresh_rest (id : IslandId) (x : Island) :
    settledUnlessRefresh id x = { x with sw := (settledUnlessRefresh id x).sw } := by
  unfold settledUnlessRefresh
  split
  · rfl
  · exact settleSw_rest id x

/-- Without a cause in force, or in refresh, the switch state stays. -/
theorem settledUnlessRefresh_stays (id : IslandId) {x : Island} (hc : x.clockLost = false) (h : x.causes = 0 ∨ x.sw = 3) :
    settledUnlessRefresh id x = x := by
  unfold settledUnlessRefresh
  split
  · rfl
  next h3 => simp [settleSw, hc, h.resolve_right h3]

theorem settledUnlessRefresh_settles (id : IslandId) {x : Island} (h : x.sw ≠ 3) : settledUnlessRefresh id x = settleSw id x :=
  if_neg h

/-- A running island with a bus voltage released: the condition of its cause has ended (R198). -/
def released (x : Island) (b : IslandBus) (cause : Nat) : Island := { x with bus := b, live := clearBit x.live cause }

/-- Settles O9: each limit raises its cause and settles the island, each release ends the condition and settles it again. -/
theorem busVoltageLimits : Obligations.BusVoltageLimits := by
  unfold Obligations.BusVoltageLimits
  refine ⟨fun s i h => ⟨?ov2, ?uv⟩, fun s i h => ⟨?ov2Release, ?tooSoon, ?uvRelease⟩⟩
  case ov2 =>
    intro ho
    obtain ⟨t, ht, only, after⟩ := exec_raises (c := .ov2 i) (n := 6) rfl h (if_neg (by simp [ho]))
    refine ⟨t, ht, only, ?_⟩
    rw [after, settleSw_sw i _ (by simpa [withBus] using runs_clock h) (causes_ne_zero (raised_causes _ _)), decidedSw_raised_ov2]
    simp only [settleSw_bus, raised_bus, settleSw_causes, raised_causes, settleSw_live, raised_live, true_and]
    exact ⟨rfl, rfl⟩
  case uv =>
    intro hu
    obtain ⟨t, ht, only, after⟩ := exec_raises (c := .busUv i) (n := 0xD) rfl h (if_neg (by simp [hu]))
    refine ⟨t, ht, only, ?_⟩
    rw [after, settleSw_sw i _ (by simpa [withBus] using runs_clock h) (causes_ne_zero (raised_causes _ _)),
      decidedSw_forced i (islandForcedOpen_raised_uv _)]
    simp only [settleSw_bus, raised_bus, settleSw_causes, raised_causes, settleSw_live, raised_live, and_true]
    rfl
  case ov2Release =>
    intro ho h8
    let x := released (s.isl.get i) { (s.isl.get i).bus with ov2 := false } 6
    refine ⟨_, exec_withIsland rfl h (x := settledUnlessRefresh i x) (if_pos ⟨ho, h8⟩), ?_⟩
    rw [withIsland_isl, Six.get_set_same]
    refine ⟨congrArg _ (settledUnlessRefresh_rest i x), fun hs => ?_, fun hc h3 => ?_⟩
    · rw [settledUnlessRefresh_stays i (x := x) (runs_clock h) hs]; rfl
    · have ended : islandOv2Lasts x = false := by simp [islandOv2Lasts, x, released]
      rw [settledUnlessRefresh_settles i (x := x) h3, islandForcedOpen_settleSw, settleSw_sw i x (runs_clock h) hc,
        decidedSw_noOv2 i ended, choiceSw_eq]
      rfl
  case tooSoon => exact fun h8 => exec_same rfl h (if_neg (by simp [h8]))
  case uvRelease =>
    let x := released (s.isl.get i) { (s.isl.get i).bus with uv := false } 0xD
    refine ⟨_, exec_withIsland rfl h (x := settledUnlessRefresh i x) rfl, ?_⟩
    rw [withIsland_isl, Six.get_set_same]
    refine ⟨congrArg _ (settledUnlessRefresh_rest i x), fun hs => ?_, fun hc h3 => ?_⟩
    · rw [settledUnlessRefresh_stays i (x := x) (runs_clock h) hs]; rfl
    · rw [settledUnlessRefresh_settles i (x := x) h3, ← settleSw_eq, settleSw_sw i x (runs_clock h) hc,
        settleSw_sw i _ ((settleSw_clockLost i x).trans (runs_clock h)) ((settleSw_causes i x).trans_ne hc), decidedSw_settleSw]

/-- An island with its own speed taken: at base speed and above it chooses SHORT, below 90 % of it OPEN (R34). -/
def atSpeed (x : Island) (rpm : Nat) : Island :=
  { x with fast := if x.cfg.base ≤ rpm then true else if 10 * rpm < 9 * x.cfg.base then false else x.fast }

/-- An island that drives, or leaves its safe state for refresh, takes only its speed. -/
theorem speedCross_drives (id : IslandId) (p : IslPair) (rpm : Nat) (h : p.2.sw = 0 ∨ p.2.sw = 3) :
    speedCross id p rpm = (p.1, atSpeed p.2 rpm) := congrArg (Prod.mk p.1) (if_pos h.symm)

/-- An island in its safe state takes its speed and is settled. -/
theorem speedCross_settles (id : IslandId) (p : IslPair) (rpm : Nat) (h : ¬ (p.2.sw = 0 ∨ p.2.sw = 3)) :
    speedCross id p rpm = (p.1, settleSw id (atSpeed p.2 rpm)) := congrArg (Prod.mk p.1) (if_neg fun x => h x.symm)

/-- Settles O13: a driving island keeps its switch state; one in its safe state is settled, by the choice where nothing else decides. -/
theorem speedCrossingChoosesShort : Obligations.SpeedCrossingChoosesShort := by
  unfold Obligations.SpeedCrossingChoosesShort
  intro s i rpm h hs
  let x := atSpeed (s.isl.get i) rpm
  by_cases drives : (s.isl.get i).sw = 0 ∨ (s.isl.get i).sw = 3
  · refine ⟨_, exec_withIsland rfl h (speedCross_drives i _ rpm drives), onlyIsland_withIsland s i _, rfl, ?_⟩
    rw [withIsland_isl, Six.get_set_same]
    refine ⟨rfl, fun _ => rfl, fun safe => ?_⟩
    rcases drives with h0 | h3 <;> simp_all [islandSafe]
  · refine ⟨_, exec_withIsland rfl h (x := settleSw i x) (speedCross_settles i _ rpm drives), onlyIsland_withIsland s i _, rfl, ?_⟩
    rw [withIsland_isl, Six.get_set_same]
    refine ⟨settleSw_rest i x, fun d => absurd d drives, fun _ hc hf ho => ?_⟩
    have forced : islandForcedOpen x = false := hf
    have ssc : x.cfg.ssc = 2 := hs
    rw [settleSw_sw i x (runs_clock h) hc, decidedSw_noOv2 i (x := x) ho, forced, choiceSw_eq, settleSw_fast]
    simp [ssc]

/-- Where none of the causes 5, 9, 0xA and 0xE is in force, a re-arm may be asked for (R202, R203). -/
theorem latched_none (c : Nat) : (c &&& latchedMask = 0) ↔ [5, 9, 0xA, 0xE].all (fun n => !c.testBit n) = true := by
  have mask : latchedMask = 2 ^ 5 ||| 2 ^ 9 ||| 2 ^ 0xA ||| 2 ^ 0xE := rfl
  rw [mask]
  simp only [Nat.and_or_distrib_left, Nat.and_two_pow, Nat.or_eq_zero_iff]
  simp [and_assoc]

/-- A clear is taken in SERVICE only, and there replaces a running island (R209). -/
theorem onIslandService_withIsland {s : State} {i : IslandId} {f : IslPair → IslPair} {x : Island} (h : s.runs (.isl i) = true)
    (hs : s.devMode = .service) (hf : f (s.islPair i) = (s.ucom.get (.isl i), x)) : s.onIslandService i f = withIsland s i x := by
  rw [State.onIslandService, if_pos hs, onIsland_run h, hf, putIsl_same]

/-- CLRBF: the cause and the hold of the bridge leave, and the island takes the state of the causes that stay (R194, R202). -/
theorem clearBridge_eq (id : IslandId) (p : IslPair) : clearBridge id p = (p.1, islandSettled id { p.2 with
    causes := clearBit p.2.causes 5, live := clearBit p.2.live 5, rearms := [], tripRearm := none
    gdv := { p.2.gdv with off := 0, tripAge := none } }) := congrArg (Prod.mk p.1) (settleSw_eq id _)

/-- CLRLATCH: the latch, the comparator failure and the backstop leave likewise (R43, R202). -/
theorem clearLatch_eq (id : IslandId) (p : IslPair) : clearLatch id p = (p.1, islandSettled id { p.2 with
    causes := clearBit (clearBit (clearBit p.2.causes 0xE) 9) 0xA, live := clearBit (clearBit (clearBit p.2.live 0xE) 9) 0xA
    rearms := [], back := 0, gdv := { p.2.gdv with lowFail := false } }) := congrArg (Prod.mk p.1) (settleSw_eq id _)

/-- A re-arm is asked for unless a cause that only SERVICE clears is in force (R202, R203). -/
theorem rearmAsk_eq (x : Island) :
    rearmAsk x = { x with rq := x.rq || [5, 9, 0xA, 0xE].all (fun n => !x.causes.testBit n) } := by
  unfold rearmAsk
  by_cases hm : x.causes &&& latchedMask = 0
  · simp only [hm, ne_eq, not_true_eq_false, if_false, (latched_none _).mp hm, Bool.or_true]
  · have barred : [5, 9, 0xA, 0xE].all (fun n => !x.causes.testBit n) = false := Bool.eq_false_iff.mpr (mt (latched_none _).mpr hm)
    simp only [hm, ne_eq, not_false_eq_true, if_true, barred, Bool.or_false]

/-- Settles O14: each row replaces the island by what its rule writes, settled where causes leave. -/
theorem islandClears : Obligations.IslandClears := by
  unfold Obligations.IslandClears
  intro s i h
  refine ⟨⟨_, exec_withIsland rfl h rfl, by simp [State.runs], rfl⟩, fun hs => ⟨?clrbf, ?clrlatch⟩, fun hs => ⟨?noClrbf, ?noClrlatch⟩,
    exec_withIsland rfl h (congrArg (Prod.mk _) (rearmAsk_eq _))⟩
  case clrbf => exact congrArg _ (onIslandService_withIsland h hs (clearBridge_eq _ _))
  case clrlatch => exact congrArg _ (onIslandService_withIsland h hs (clearLatch_eq _ _))
  case noClrbf => exact congrArg _ (if_neg hs)
  case noClrlatch => exact congrArg _ (if_neg hs)

end Sys2Proof.Machine

namespace Sys2Proof.Machine
open Sys2Proof

/-! ## The vote of one word (R25) -/

/-- The middle one of three values. -/
def middle (x y z : Int) : Int := max (min x y) (min (max x y) z)

/-- Of three values sorted the middle one stands second. -/
theorem sortInts_three (x y z : Int) : ∃ a b, sortInts [x, y, z] = [a, middle x y z, b] := by
  by_cases hxy : x ≤ y <;> by_cases hyz : y ≤ z <;> by_cases hxz : x ≤ z <;>
    simp [sortInts, insertSorted, hxy, hyz, hxz, middle] <;> omega

/-- Settles O22: three values have a middle one, from which the lanes apart are counted; two values and one are the function's own cases. -/
theorem wordVote_byValues : Obligations.WordVote := by
  unfold Obligations.WordVote
  refine ⟨fun adm w x y z => ⟨middle x y z, rfl, ?_⟩, fun _ _ _ _ _ _ => rfl, fun _ _ _ _ => rfl⟩
  obtain ⟨a, b, hs⟩ := sortInts_three x y z
  have counted : (([(LaneId.a, x), (.b, y), (.c, z)].filter (fun v => decide (w < (v.2 - middle x y z).natAbs))).map (fun v => v.1)).length =
      (if w < (x - middle x y z).natAbs then 1 else 0) + (if w < (y - middle x y z).natAbs then 1 else 0) +
        (if w < (z - middle x y z).natAbs then 1 else 0) := by
    rw [List.length_map, ← List.countP_eq_length_filter]
    simp only [List.countP_cons, List.countP_nil, decide_eq_true_eq]
    ring
  rw [← counted]
  simp only [wordVote, List.map_cons, List.map_nil, hs]

/-! ## An event of a unit (R66, R368, R371) -/

/-- Every unit has the source 0, VOTER_FAULT, and 9 to 12 of an island (R367). -/
theorem evtDefault_unit_voter (u : UnitId) : (evtDefault (unitKind u) 0).isSome = true := by cases u <;> rfl

/-- An occurrence in a block sets its source's bit of STATUS (R371). -/
theorem evtOccur_status (k : EvKind) (b : EvtBlock) (n tick round : Nat) (h : (evtDefault k n).isSome = true) :
    (evtOccur k b n false tick round).status = setBit b.status n := by
  obtain ⟨d, hd⟩ := Option.isSome_iff_exists.mp h
  simp [evtOccur, evtCfgOf, EvtBlock.had, hd]

/-- The common part of a unit but for what an event of it may change: its event block, the events pending on its links, and
their merges. -/
def UnitCommon.quiet (c : UnitCommon) : UnitCommon :=
  { c.eachLink (fun _ k => { k with evPend := 0 }) with evt := {}, merged := 0 }

/-- An occurrence of an event changes nothing else in a unit. -/
@[simp] theorem unitEvt_quiet (u : UnitId) (c : UnitCommon) (n : Nat) (b : Bool) : (unitEvt u c n b).quiet = c.quiet := by
  simp only [unitEvt]
  split
  · rfl
  · split
    · rfl
    · simp only [UnitCommon.quiet, UnitCommon.eachLink]
      congr 2 <;> split <;> rfl

/-- What `quiet` leaves of a link. -/
theorem UnitCommon.quiet_link (c : UnitCommon) (l : LaneId) : c.quiet.links.get l = { c.links.get l with evPend := 0 } := by
  cases l <;> rfl

/-- So the vote is untouched by an event. -/
theorem UnitCommon.vote_of_quiet {c d : UnitCommon} (h : d.quiet = c.quiet) : d.vote = c.vote :=
  show d.quiet.vote = c.quiet.vote by rw [h]

/-- And a link but for its pending event. -/
theorem UnitCommon.link_of_quiet {c d : UnitCommon} (h : d.quiet = c.quiet) (l : LaneId) :
    d.links.get l = { c.links.get l with evPend := (d.links.get l).evPend } := by
  have hl := (UnitCommon.quiet_link d l).symm.trans ((congrArg (fun x => x.links.get l) h).trans (UnitCommon.quiet_link c l))
  exact congrArg (fun k : LinkState => { k with evPend := (d.links.get l).evPend }) hl

end Sys2Proof.Machine

namespace Sys2Proof.Machine
open Sys2Proof

/-! ## The vote of all words at the command deadline (R23-R25, R28) -/

/-- Replacing the value at a place is the library's `set`. -/
theorem updAt_const {α : Type} (xs : List α) (n : Nat) (v : α) : updAt xs n (fun _ => v) = xs.set n v := by
  induction xs generalizing n with
  | nil => rfl
  | cons x xs ih =>
    cases n with
    | zero => rfl
    | succ n => exact congrArg (x :: ·) (ih n)

/-- Words put in place, each at most once, are those read afterwards; the others read as before. -/
theorem putWords_getD (f : Nat → Option Int) (ns : List Nat) (out : List Int) (hn : ns.Nodup) (hl : ∀ n ∈ ns, n < out.length) (w : Nat) :
    (putWords out (ns.filterMap (fun n => (f n).map (fun x => (n, x))))).getD w 0 =
      if w ∈ ns then (f w).getD (out.getD w 0) else out.getD w 0 := by
  induction ns generalizing out with
  | nil => simp [putWords]
  | cons n ns ih =>
    obtain ⟨hnot, hn⟩ := List.nodup_cons.mp hn
    obtain ⟨hlt, hl⟩ := List.forall_mem_cons.mp hl
    cases hf : f n with
    | none =>
      simp only [List.filterMap_cons, hf, Option.map_none, ih out hn hl, List.mem_cons]
      by_cases hw : w = n
      · simp [hw, hnot, hf]
      · simp [hw]
    | some x =>
      have step : putWords out ((n :: ns).filterMap (fun n => (f n).map (fun x => (n, x)))) =
          putWords (out.set n x) (ns.filterMap (fun n => (f n).map (fun x => (n, x)))) := by
        simp [hf, putWords, updAt_const]
      rw [step, ih (out.set n x) hn (by simpa using hl)]
      by_cases hw : w = n
      · simp [hw, hnot, hf, List.getD_eq_getElem?_getD, hlt]
      · simp [hw, List.getD_eq_getElem?_getD, Ne.symm hw]

/-- What the vote of a tick with valid blocks gives for a word, if it is voted and its lanes agree. -/
def votedValue (c : UnitCommon) (valid : List LaneId) (w : Nat) : Option Int :=
  (c.vote.windows.getD w none).bind (fun win => (wordVote c.admitted.length (wordVals c valid w) win).1)

/-- The words whose vote was lost. -/
def lostWords (c : UnitCommon) (valid : List LaneId) : List (Nat × Nat) :=
  (votedWords c.vote).filter (fun w => (wordVote c.admitted.length (wordVals c valid w.1) w.2).1 = none)

theorem mem_votedWords (v : VoteState) (e : Nat × Nat) :
    e ∈ votedWords v ↔ e.1 < 13 ∧ v.windows.getD e.1 none = some e.2 := by
  simp only [votedWords, List.mem_filterMap, List.mem_range, Option.map_eq_some_iff]
  constructor
  · rintro ⟨w, hw, win, hwin, rfl⟩; exact ⟨hw, hwin⟩
  · rintro ⟨hw, hwin⟩; exact ⟨e.1, hw, e.2, hwin, rfl⟩

/-- No vote is lost where every voted word has its value. -/
theorem lostWords_nil (c : UnitCommon) (valid : List LaneId) :
    lostWords c valid = [] ↔ ∀ w, w < 13 → (c.vote.windows.getD w none).isSome = true → votedValue c valid w ≠ none := by
  simp only [lostWords, List.filter_eq_nil_iff, mem_votedWords, Prod.forall, decide_eq_true_eq]
  constructor
  · intro h w hw hs
    obtain ⟨win, hwin⟩ := Option.isSome_iff_exists.mp hs
    exact fun hn => h w win ⟨hw, hwin⟩ (by rwa [votedValue, hwin] at hn)
  · rintro h w win ⟨hw, hwin⟩
    exact fun hn => h w hw (hwin ▸ rfl) (by rwa [votedValue, hwin])

/-- The words won are put in place one by one. -/
theorem votedWords_won (c : UnitCommon) (valid : List LaneId) :
    ((votedWords c.vote).map (fun w => (w, wordVote c.admitted.length (wordVals c valid w.1) w.2))).filterMap
      (fun r => r.2.1.map (fun x => (r.1.1, x))) =
    (List.range 13).filterMap (fun w => (votedValue c valid w).map (fun x => (w, x))) := by
  rw [votedWords, List.filterMap_map, List.filterMap_filterMap]
  refine congrArg (List.filterMap · _) (funext fun w => ?_)
  rw [votedValue]
  cases c.vote.windows.getD w none <;> rfl

/-- The vote where no resolution runs: every word with a value takes it, and a word without one begins a resolution. -/
theorem voteTick_undisputed {c : UnitCommon} (valid : List LaneId) (hd : c.vote.dispute = none) :
    (voteTick c valid).1.out = putWords c.vote.out ((List.range 13).filterMap (fun w => (votedValue c valid w).map (fun x => (w, x)))) ∧
    (voteTick c valid).1.dispute = (if lostWords c valid = [] then none else some c.tick) ∧
    (voteTick c valid).1.fresh = true ∧ (voteTick c valid).2.2 = false := by
  have lost : (((votedWords c.vote).map (fun w => (w, wordVote c.admitted.length (wordVals c valid w.1) w.2))).filter
      (fun r => r.2.1 = none)).map (fun r => r.1) = lostWords c valid := by
    rw [List.filter_map, List.map_map, lostWords]
    exact List.map_id _
  simp only [voteTick, hd, lost, votedWords_won]
  by_cases h : lostWords c valid = [] <;> simp [h]

/-- Occurrences of several events change what one may. -/
@[simp] theorem unitEvts_quiet (u : UnitId) (c : UnitCommon) (ns : List Nat) : (unitEvts u c ns).quiet = c.quiet := by
  refine List.foldlRecOn _ _ (motive := fun d : UnitCommon => d.quiet = c.quiet) rfl fun d hd n _ => ?_
  rw [unitEvt_quiet, hd]

/-- The vote a command deadline leaves in a unit with valid blocks and no fault that holds its words. -/
theorem unitDeadline_vote {u : UnitId} {c : UnitCommon} (hl : c.cfg.loaded = true)
    (hf : c.vote.fault = false ∨ ∃ i, u = .isl i) (hv : allLanes.filter (blockValid c) ≠ []) :
    (unitDeadline u c).1.vote = { (voteTick c (allLanes.filter (blockValid c))).1 with done := true } ∧
    (unitDeadline u c).2 = (voteTick c (allLanes.filter (blockValid c))).2.2 := by
  have admits : c.admitted ≠ [] := by
    obtain ⟨l, hmem⟩ := List.exists_mem_of_ne_nil _ hv
    obtain ⟨hin, hval⟩ := List.mem_filter.mp hmem
    exact List.ne_nil_of_mem (List.mem_filter.mpr ⟨hin, (Bool.and_eq_true_iff.mp hval).1⟩)
  have votes : c.votes = true := by simp [UnitCommon.votes, hl, admits]
  refine ⟨?vote, ?safe⟩ <;> unfold unitDeadline <;> extract_lets stuck valid v r kept ended staleWord evented posted judged cleared
  case safe => rw [show r = voteTick c valid by simp only [r, votes, valid, hv]; rfl]
  case vote =>
    have tick : r = voteTick c valid := by simp only [r, votes, valid, hv]; rfl
    have free : stuck = false := by rcases hf with hf | ⟨i, rfl⟩ <;> simp [stuck, *]
    have taken : kept = r.1 := by simp only [kept, free]; rfl
    have all : cleared.vote = { kept with done := true } := by simp only [cleared]; split <;> rfl
    exact all.trans (by rw [taken, tick])

/-- Beside the vote a deadline touches only the event block of an island's common part. -/
theorem islandDeadline_vote (i : IslandId) (p : IslPair) : (islandDeadline i p false).1.vote = p.1.vote := by
  unfold islandDeadline
  extract_lets fresh v old _ asked run rearmed
  have hfresh : fresh.1.vote = p.1.vote := by simp only [fresh]; split <;> [contradiction; (split <;> rfl)]
  have hrearmed : rearmed.1.vote = p.1.vote := by
    rw [← hfresh]; simp only [rearmed]; split <;> rfl
  split
  · split <;> exact hrearmed
  · exact hfresh

/-- Settles O23: with no resolution running the deadline's vote puts the words won in place, and a word lost begins a resolution. -/
theorem commandDeadlineVotes : Obligations.CommandDeadlineVotes := by
  unfold Obligations.CommandDeadlineVotes
  intro s u hr hl hf hd hlen
  extract_lets c valid voted
  intro hv
  obtain ⟨vote, safe⟩ := unitDeadline_vote (u := u) hl hf hv
  obtain ⟨out, dispute, fresh, still⟩ := voteTick_undisputed valid hd
  have value : voted = votedValue c valid := by
    funext w
    simp only [voted, votedValue]
    cases c.vote.windows.getD w none <;> rfl
  rw [value]
  obtain ⟨t, ht, hvote, hframe⟩ : ∃ t, exec (.commandDeadline u) s = .next t ∧ (t.ucom.get u).vote = (unitDeadline u c).1.vote ∧
      (t.lanes = s.lanes ∧ t.polvin = s.polvin ∧ ∀ k, k ≠ u → t.ucom.get k = s.ucom.get k) := by
    refine ⟨_, congrArg Host.Outcome.next (if_pos hr), ?_, ?_⟩
    · cases u with
      | isl i => simpa [c, safe.trans still] using islandDeadline_vote i ((unitDeadline (.isl i) c).1, s.isl.get i)
      | fb f => simp [voteSafe, c]
      | sio x => simp [voteSafe, c]
    · cases u <;> exact ⟨by simp, by simp, fun k hk => by simp [Ten.get_set_other _ _ _ _ hk]⟩
  refine ⟨t, ht, ?_⟩
  rw [hvote, vote]
  refine ⟨rfl, fresh, fun w hw => ?_, fun ⟨w, hw, hs, hn⟩ => ?_, fun h => ?_, hframe⟩
  · exact (congrArg (List.getD · w 0) out).trans ((putWords_getD _ _ _ List.nodup_range (by simp [hlen]) w).trans (if_pos (List.mem_range.mpr hw)))
  · exact dispute.trans (if_neg fun h => (lostWords_nil c valid).mp h w hw hs hn)
  · exact dispute.trans (if_pos ((lostWords_nil c valid).mpr h))

end Sys2Proof.Machine

namespace Sys2Proof.Machine
open Sys2Proof

/-! ## The voter self-test and the lanes missing for eight ticks (R27, R31-R33) -/

@[simp] theorem eachLink_get (c : UnitCommon) (f : LaneId → LinkState → LinkState) (l : LaneId) :
    (c.eachLink f).links.get l = f l (c.links.get l) := by cases l <;> rfl

/-- A source that a unit has is set by an occurrence (R371). -/
theorem unitEvt_status (u : UnitId) (c : UnitCommon) (n : Nat) (h : (evtDefault (unitKind u) n).isSome = true) :
    (unitEvt u c n).evt.status.testBit n = true := by
  have set : (evtOccur (unitKind u) c.evt n false c.tick (roundNow c % 16777216)).status.testBit n = true := by
    rw [evtOccur_status _ _ _ _ _ h]; simp
  unfold unitEvt
  simp only [EvtBlock.had, Bool.false_and, Bool.false_eq_true, if_false]
  split <;> exact set

/-- The change of the vote by a failed self-test (R33). -/
def failedTest (u : UnitId) (c : UnitCommon) : VoteState :=
  { c.vote with lastPat := c.tick % 16, passes := 0, fault := true, tfail := satAdd 16 c.vote.tfail 1,
                out := match u with | .isl _ => c.vote.out | _ => c.vote.act }

/-- Beside it there is one event, VOTER_FAULT. -/
theorem unitSelfTest_failed (u : UnitId) (c : UnitCommon) : unitSelfTest u c false = unitEvt u { c with vote := failedTest u c } 0 := rfl

/-- Settles O24: a failed test is the change of the vote and one event; withdrawal is `withdrawMissing` at a boundary that is due. -/
theorem voterTestAndWithdrawal : Obligations.VoterTestAndWithdrawal := by
  unfold Obligations.VoterTestAndWithdrawal
  intro s u hr
  refine ⟨congrArg Host.Outcome.next (if_pos hr), ?failed, ?withdrawn, ?early, fun _ _ => rfl⟩
  case failed =>
    refine ⟨_, congrArg Host.Outcome.next (if_pos hr), by simp [onlyUnit], ?_⟩
    have quiet := unitEvt_quiet u { s.ucom.get u with vote := failedTest u (s.ucom.get u) } 0 false
    simp only [State.setUnit_ucom, Ten.get_set_same, unitSelfTest_failed, UnitCommon.vote_of_quiet quiet]
    refine ⟨rfl, rfl, rfl, unitEvt_status _ _ _ (evtDefault_unit_voter u), fun l => (UnitCommon.link_of_quiet quiet l :), fun h => ?_⟩
    cases u with
    | isl i => exact absurd rfl (h i)
    | fb f => rfl
    | sio x => rfl
  case withdrawn =>
    intro hd
    refine ⟨_, congrArg Host.Outcome.next ((if_pos hr).trans (if_pos hd)), by simp [onlyUnit], ?_⟩
    simp only [State.setUnit_ucom, Ten.get_set_same]
    exact ⟨rfl, eachLink_get _ _⟩
  case early => exact fun hd => congrArg Host.Outcome.next ((if_pos hr).trans (if_neg (by simp [hd])))

end Sys2Proof.Machine

namespace Sys2Proof.Machine
open Sys2Proof

/-! ## Links and the return of a unit from RETENTION (R35, R58, R67, R365, R396) -/

/-- A unit with no request waiting runs again, an island in the state of its causes. -/
theorem unitReturns_free {s : State} {u : UnitId} (h : (s.ucom.get u).slp.slot = none) :
    s.unitReturns u = unitSettled u (s.setUnit u { s.ucom.get u with dom := .on, slp := {} }) := by
  rw [State.unitReturns, h, ← unitOn_eq]; rfl

/-- The links that `allRetrained` asks of. -/
theorem State.allRetrained_iff (s : State) (u : UnitId) : s.allRetrained u = true ↔
    ∀ k, (s.lanes.get k).dom = .off ∨ (s.lanes.get k).state = .off ∨ (s.lanes.get k).state = .retired ∨
      ((s.ucom.get u).links.get k).up = true := by
  have every : ∀ p : LaneId → Bool, allLanes.all p = true ↔ ∀ k, p k = true :=
    fun p => ⟨fun h k => List.all_eq_true.mp h k (by cases k <;> decide), fun h => List.all_eq_true.mpr fun k _ => h k⟩
  simp [State.allRetrained, every, or_assoc]

/-- Every lane has the source 18, the loss of a link (R365). -/
theorem evtDefault_linkDown (l : LaneId) : (evtDefault (laneKind l) 18).isSome = true := by cases l <;> rfl

/-- Settles O25: both rows change one link of the unit; the return of the unit is `unitReturns` with no request waiting. -/
theorem linksAndRetention : Obligations.LinksAndRetention := by
  unfold Obligations.LinksAndRetention
  intro s l u
  refine ⟨fun d hdom hoff hret hpll => ⟨fun hon => ?trained, fun hr hb hslot hothers => ?retrained⟩, fun hup hdom hoff hret => ?down,
    fun hup => if_neg (by simp [hup]), fun hr hb hslot => ?limit⟩
  case trained =>
    refine (if_pos ⟨hdom, hoff, hret, hpll, by simp [hon]⟩).trans (if_neg fun h => ?_)
    simp [hon] at h
  case retrained =>
    have all : (s.setUnit u ((s.ucom.get u).setLink l { (s.ucom.get u).links.get l with up := true, delay := d })).allRetrained u = true := by
      rw [State.allRetrained_iff]
      intro k
      by_cases hk : k = l
      · simp [hk, UnitCommon.setLink]
      · simpa [UnitCommon.setLink, Tri.get_set_other _ _ _ _ hk] using hothers k hk
    refine (if_pos ⟨hdom, hoff, hret, hpll, by simp [hr]⟩).trans ((if_pos ⟨hr, by simpa [UnitCommon.setLink] using hb, all⟩).trans ?_)
    rw [unitReturns_free (by simpa [UnitCommon.setLink] using hslot)]
    simp
  case down =>
    refine ⟨_, (if_pos hup).trans (if_pos (by simpa [Lane.onUnit] using ⟨hdom, hoff, hret⟩)), ?_⟩
    refine ⟨by simp [onlyLane, State.laneEvent], by simp [State.laneEvent, UnitCommon.setLink]; rfl, fun k hk => ?_, ?_, ?_, ?_⟩
    · simp [State.laneEvent, UnitCommon.setLink, Tri.get_set_other _ _ _ _ hk]
    · simp [State.laneEvent, Lane.event, Lane.onUnit]
    · simp [State.laneEvent, Lane.event_status _ _ _ (evtDefault_linkDown l)]
    · simp [State.laneEvent, Lane.event, Lane.onUnit]
  case limit => exact (if_pos ⟨hr, hb⟩).trans (congrArg Host.Outcome.next (unitReturns_free hslot))

end Sys2Proof.Machine

namespace Sys2Proof.Machine
open Sys2Proof

/-! ## A measurement block that completes a start (R19, R93, R398) -/

/-- The measurement block of island 1 that shows the records taken, with its CRC. -/
def loadedBlock : Bytes := (zeros 4 ++ [4] ++ zeros 10 ++ [3] ++ zeros 44) ++ leBytes 4 (crc32 (zeros 4 ++ [4] ++ zeros 10 ++ [3] ++ zeros 44))

/-- A lane in TRANSLATE whose units have all shown their records taken, and for whose domain a request to go OFF waits. -/
def offWaits : Lane :=
  { state := .translate, loader := { recordsDue := true }, aon := { pwr := { slot := some .off } },
    main := { units := Ten.all { block := loadedBlock, seen := true, sentRec := true } } }

/-- Three such lanes, their links trained. -/
def offWaitsAll : State := { lanes := Tri.all offWaits, ucom := Ten.all { links := Tri.all { up := true } } }

theorem loadedBlock_sound : loadedBlock.length = 64 ∧ crc32 (slice loadedBlock 0 60) = u32At loadedBlock 60 ∧
    byteAt loadedBlock 4 % 16 = (UnitId.isl .i1).code := by decide +kernel

/-- The block a lane holds of island 1 after an outcome. -/
def blockAfter : Host.Outcome State Fault Refusal → Bytes
  | .next t => ((t.lanes.get .a).main.units.get (.isl .i1)).block
  | _ => []

/-- As the block completes the configuration the lane enters SYNC, and the request that waited takes it OFF, its views lost (R398). -/
theorem offWaits_block : blockAfter (exec (.measurementBlock .a (.isl .i1) (some loadedBlock) false false) offWaitsAll) = [] := by
  decide +kernel

/-- Refutes O26: the block is not the lane's view where it ends the start of a lane for which a request to go OFF waits: the lane enters SYNC and the
request acts, with it the main domain and all it held of the units goes to its reset values (R387, R398). -/
theorem not_measurementBlockTaken : ¬ Obligations.MeasurementBlockTaken := by
  unfold Obligations.MeasurementBlockTaken
  intro h
  obtain ⟨length, crc, code⟩ := loadedBlock_sound
  obtain ⟨sound, -⟩ := h offWaitsAll .a (.isl .i1) loadedBlock rfl rfl
  obtain ⟨t, ht, hblock, -⟩ := sound length crc code
  have lost := offWaits_block
  rw [ht] at lost
  have empty : loadedBlock = [] := hblock.symm.trans lost
  rw [empty] at length
  contradiction

end Sys2Proof.Machine

namespace Sys2Proof.Machine
open Sys2Proof

/-! ## The bytes of a command block (R18) -/

section Bytes

/-- What is read behind a leading part is read of the rest. -/
theorem byteAt_append (pre rest : Bytes) (i : Nat) : byteAt (pre ++ rest) (pre.length + i) = byteAt rest i := by
  simp only [byteAt, List.getD_eq_getElem?_getD, List.getElem?_append_right (Nat.le_add_right _ _), Nat.add_sub_cancel_left]

theorem u32At_append (pre rest : Bytes) (i : Nat) : u32At (pre ++ rest) (pre.length + i) = u32At rest i := by
  simp only [u32At, u16At, Nat.add_assoc, byteAt_append]

@[simp] theorem leBytes_length (n v : Nat) : (leBytes n v).length = n := by
  induction n generalizing v with
  | zero => rfl
  | succ n ih => exact congrArg Nat.succ (ih _)

/-- A 32-bit number is read as it was written. -/
theorem u32At_leBytes (v : Nat) (rest : Bytes) (h : v < 4294967296) : u32At (leBytes 4 v ++ rest) 0 = v := by
  simp [u32At, u16At, byteAt, leBytes]
  omega

/-- So is a signed one. -/
theorem toSigned_ofSigned (v : Int) (hlo : -2147483648 ≤ v) (hhi : v ≤ 2147483647) : toSigned 32 (ofSigned 32 v) = v := by
  have pattern : ((v % (2 ^ 32 : Nat)).toNat : Int) = v % 4294967296 := Int.toNat_of_nonneg (Int.emod_nonneg _ (by decide))
  unfold toSigned ofSigned
  split <;> omega

theorem i32At_leBytesI (v : Int) (rest : Bytes) (hlo : -2147483648 ≤ v) (hhi : v ≤ 2147483647) :
    i32At (leBytesI 4 v ++ rest) 0 = v := by
  have small : ofSigned 32 v < 4294967296 := by simp only [ofSigned]; omega
  rw [i32At, leBytesI, u32At_leBytes _ _ small, toSigned_ofSigned v hlo hhi]

/-- Signed words in a row are read as they were written, wherever the row stands. -/
theorem i32At_words (ws : List Int) (pre post : Bytes) (h : ∀ w ∈ ws, -2147483648 ≤ w ∧ w ≤ 2147483647) :
    (List.range ws.length).map (fun w => i32At (pre ++ (ws.flatMap (leBytesI 4) ++ post)) (pre.length + 4 * w)) = ws := by
  induction ws generalizing pre with
  | nil => rfl
  | cons v ws ih =>
    obtain ⟨⟨hlo, hhi⟩, hws⟩ := List.forall_mem_cons.mp h
    have head : i32At (pre ++ ((v :: ws).flatMap (leBytesI 4) ++ post)) (pre.length + 4 * 0) = v := by
      rw [i32At, u32At_append, List.flatMap_cons, List.append_assoc]
      exact i32At_leBytesI v _ hlo hhi
    have tail := ih (pre ++ leBytesI 4 v) hws
    rw [List.length_cons, List.range_succ_eq_map, List.map_cons, List.map_map, head]
    refine congrArg (v :: ·) (Eq.trans (List.map_congr_left fun w _ => ?_) tail)
    simp [leBytesI, Nat.mul_add, Nat.add_comm, Nat.add_assoc, Nat.add_left_comm]

/-- A CRC-32 register keeps its 32 bits. -/
theorem crc32Shift_lt (n r : Nat) (h : r < 2 ^ 32) : crc32Shift n r < 2 ^ 32 := by
  induction n generalizing r with
  | zero => exact h
  | succ n ih =>
    have half : r >>> 1 < 2 ^ 32 := by rw [Nat.shiftRight_eq_div_pow]; omega
    refine ih _ ?_
    split
    · exact Nat.xor_lt_two_pow half (by decide)
    · exact half

theorem crc32_lt (bs : Bytes) : crc32 bs < 4294967296 := by
  have reg : crc32Reg bs < 2 ^ 32 :=
    List.foldlRecOn bs _ (motive := fun r : Nat => r < 2 ^ 32) (by decide) fun r hr b _ =>
      crc32Shift_lt 8 _ (Nat.xor_lt_two_pow hr (by omega))
  exact Nat.xor_lt_two_pow reg (by decide)

end Bytes

section CommandBlock
variable (tick lane mode state verdict vtick : Nat) (wd : Bool) (ws : List Int)

/-- The 60 bytes of a command block before its CRC. -/
def cmdBody : Bytes :=
  leBytes 4 tick ++ ([BitVec.ofNat 8 (lane + 16 * mode), BitVec.ofNat 8 (state + 16 * verdict + 64 * b2n wd),
    BitVec.ofNat 8 vtick, 0] ++ (List.range 13).flatMap (fun w => leBytesI 4 (ws.getD w 0)))

theorem cmdBytes_eq : cmdBytes tick lane mode state verdict vtick wd ws =
    cmdBody tick lane mode state verdict vtick wd ws ++ leBytes 4 (crc32 (cmdBody tick lane mode state verdict vtick wd ws)) := by
  simp only [cmdBytes, cmdBody, List.append_assoc]

theorem cmdBody_length : (cmdBody tick lane mode state verdict vtick wd ws).length = 60 := by
  simp [cmdBody, leBytesI, List.length_flatMap]

theorem cmdBytes_length : (cmdBytes tick lane mode state verdict vtick wd ws).length = 64 := by
  rw [cmdBytes_eq, List.length_append, cmdBody_length, leBytes_length]

/-- The CRC is right. -/
theorem cmdBytes_crc : crc32 (slice (cmdBytes tick lane mode state verdict vtick wd ws) 0 60) =
    u32At (cmdBytes tick lane mode state verdict vtick wd ws) 60 := by
  have body := cmdBody_length tick lane mode state verdict vtick wd ws
  have crc := u32At_append (cmdBody tick lane mode state verdict vtick wd ws)
    (leBytes 4 (crc32 (cmdBody tick lane mode state verdict vtick wd ws)) ++ []) 0
  rw [u32At_leBytes _ _ (crc32_lt _), List.append_nil, body, ← cmdBytes_eq] at crc
  rw [crc, cmdBytes_eq, slice, List.drop_zero, List.take_left' body]

/-- The tick stands first. -/
theorem cmdBytes_tick (h : tick < 4294967296) : u32At (cmdBytes tick lane mode state verdict vtick wd ws) 0 = tick := by
  rw [cmdBytes_eq, cmdBody, List.append_assoc]
  exact u32At_leBytes tick _ h

/-- Behind it stand the lane with the mode, the state with the verdict and WITHDRAW, and the verdict's tick. -/
theorem cmdBytes_byte (i : Nat) : byteAt (cmdBytes tick lane mode state verdict vtick wd ws) (4 + i) =
    byteAt ([BitVec.ofNat 8 (lane + 16 * mode), BitVec.ofNat 8 (state + 16 * verdict + 64 * b2n wd), BitVec.ofNat 8 vtick, 0] ++
      ((List.range 13).flatMap (fun w => leBytesI 4 (ws.getD w 0)) ++
        leBytes 4 (crc32 (cmdBody tick lane mode state verdict vtick wd ws)))) i := by
  have read := byteAt_append (leBytes 4 tick)
  rw [cmdBytes_eq, cmdBody]
  simp only [leBytes_length] at read
  simp only [List.append_assoc, read]

theorem cmdBytes_byte4 : byteAt (cmdBytes tick lane mode state verdict vtick wd ws) 4 = (lane + 16 * mode) % 256 := by
  rw [cmdBytes_byte _ _ _ _ _ _ _ _ 0]; simp [byteAt]

theorem cmdBytes_byte5 : byteAt (cmdBytes tick lane mode state verdict vtick wd ws) 5 = (state + 16 * verdict + 64 * b2n wd) % 256 := by
  rw [cmdBytes_byte _ _ _ _ _ _ _ _ 1]; simp [byteAt]

theorem cmdBytes_byte6 : byteAt (cmdBytes tick lane mode state verdict vtick wd ws) 6 = vtick % 256 := by
  rw [cmdBytes_byte _ _ _ _ _ _ _ _ 2]; simp [byteAt]

variable {ws}

/-- A list of 13 words by its places. -/
theorem words_by_place (h : ws.length = 13) : (List.range 13).flatMap (fun w => leBytesI 4 (ws.getD w 0)) = ws.flatMap (leBytesI 4) := by
  have places : (List.range 13).map (fun w => ws.getD w 0) = ws := by
    refine List.ext_getElem (by simp [h]) fun i hi hi' => ?_
    simp [List.getD_eq_getElem?_getD, hi']
  conv_rhs => rw [← places, List.flatMap_map]

/-- The 13 words follow. -/
theorem cmdBytes_words (h : ws.length = 13) (hws : ∀ w ∈ ws, -2147483648 ≤ w ∧ w ≤ 2147483647) :
    (List.range 13).map (fun w => i32At (cmdBytes tick lane mode state verdict vtick wd ws) (8 + 4 * w)) = ws := by
  rw [cmdBytes_eq]
  generalize leBytes 4 (crc32 (cmdBody tick lane mode state verdict vtick wd ws)) = crc
  have words := i32At_words ws (leBytes 4 tick ++ [BitVec.ofNat 8 (lane + 16 * mode), BitVec.ofNat 8 (state + 16 * verdict + 64 * b2n wd),
    BitVec.ofNat 8 vtick, 0]) crc hws
  rw [h, List.length_append, leBytes_length] at words
  rw [cmdBody, words_by_place h, List.append_assoc, List.append_assoc]
  rw [List.append_assoc] at words
  exact words

end CommandBlock

/-- What a block with a right CRC is parsed to, by its bytes. -/
theorem parseCmd_sound {bs : Bytes} {tick lane mode state verdict vtick : Nat} {wd : Bool} {ws : List Int}
    (hlen : bs.length = 64) (hcrc : crc32 (slice bs 0 60) = u32At bs 60) (ht : u32At bs 0 = tick)
    (h4 : byteAt bs 4 = lane + 16 * mode) (h5 : byteAt bs 5 = state + 16 * verdict + 64 * b2n wd) (h6 : byteAt bs 6 = vtick)
    (hws : (List.range 13).map (fun w => i32At bs (8 + 4 * w)) = ws) (hl : lane < 4) (hs : state < 16) (hv : verdict < 4)
    (stale : Nat) : parseCmd bs stale =
      { tick, lane, mode, state, verdict, vtick, withdraw := wd, words := ws, stale, crcOk := true } := by
  have withdraw : (byteAt bs 5).testBit 6 = wd := by
    rw [h5, Nat.testBit_eq_decide_div_mod_eq]
    cases wd <;> simp [b2n] <;> omega
  have shown : bitsOf (byteAt bs 5) 5 4 = verdict := by
    rw [h5, bitsOf, Nat.shiftRight_eq_div_pow]
    cases wd <;> simp [b2n] <;> omega
  have crcOk : decide (bs.length = 64 ∧ crc32 (slice bs 0 60) = u32At bs 60) = true := decide_eq_true ⟨hlen, hcrc⟩
  rw [parseCmd, crcOk, withdraw, shown, ht, h4, h5, h6, hws]
  congr 1 <;> omega

/-- A command block is parsed as it was written. -/
theorem parseCmd_cmdBytes {tick lane mode state verdict vtick : Nat} {wd : Bool} {ws : List Int} (ht : tick < 4294967296)
    (hl : lane < 4) (hm : mode < 16) (hs : state < 16) (hv : verdict < 4) (hn : vtick < 256) (hlen : ws.length = 13)
    (hws : ∀ w ∈ ws, -2147483648 ≤ w ∧ w ≤ 2147483647) (stale : Nat) :
    parseCmd (cmdBytes tick lane mode state verdict vtick wd ws) stale =
      { tick, lane, mode, state, verdict, vtick, withdraw := wd, words := ws, stale, crcOk := true } := by
  have flag : b2n wd < 2 := by cases wd <;> decide
  refine parseCmd_sound (cmdBytes_length _ _ _ _ _ _ _ _) (cmdBytes_crc _ _ _ _ _ _ _ _) (cmdBytes_tick _ _ _ _ _ _ _ _ ht)
    ?_ ?_ ?_ (cmdBytes_words _ _ _ _ _ _ _ hlen hws) hl hs hv stale
  · rw [cmdBytes_byte4]; omega
  · rw [cmdBytes_byte5]; omega
  · rw [cmdBytes_byte6]; omega

end Sys2Proof.Machine

namespace Sys2Proof.Machine
open Sys2Proof

/-! ## A command block received (R18, R23, R27, R28, R91, R93) -/

/-- A sound block of the unit's tick and of the lane of its link, before the deadline: what the link becomes, and the record it brings. -/
theorem unitReceive_named {u : UnitId} {c : UnitCommon} {l : LaneId} {bs : Bytes} {stale : Nat} {r : CmdRx}
    (hd : c.vote.done = false) (hup : (c.links.get l).up = true) (hp : parseCmd bs stale = r) (hok : r.crcOk = true)
    (ht : r.tick = c.tick) (hl : r.lane = l.code) :
    ∃ k, k.rx = some r ∧ k.adm = ((c.links.get l).adm && !r.withdraw && decide (r.verdict < 2)) ∧
      k.recs = (if r.state ≠ 2 then { (c.links.get l).recs with active := false } else (c.links.get l).recs) ∧
      unitReceive u c l bs stale = (if r.state = 2 ∧ stale = 0 then unitRecord
        ({ c with stale := satAdd 16 c.stale (popCount 13 stale) }.setLink l k) l r.words
        else { c with stale := satAdd 16 c.stale (popCount 13 stale) }.setLink l k) := by
  have early : ¬ (c.vote.done = true ∨ ¬ (c.links.get l).up = true) := by simp [hd, hup]
  generalize hres : unitReceive u c l bs stale = res
  unfold unitReceive at hres
  rw [if_neg early, hp] at hres
  extract_lets r' counted named taken withdrawn judged _ ended posted at hres
  have isNamed : named = true := decide_eq_true ⟨ht, hl⟩
  rw [if_pos hok] at hres
  have hwithdrawn : withdrawn.rx = some r ∧ withdrawn.recs = (c.links.get l).recs ∧
      withdrawn.adm = ((c.links.get l).adm && !r.withdraw && decide (r.verdict < 2)) := by
    by_cases h : r.withdraw = true ∨ 2 ≤ r.verdict
    · rw [show withdrawn = withdrawLink taken from if_pos ⟨isNamed, h⟩]
      refine ⟨rfl, rfl, ?_⟩
      rcases h with h | h
      · simp [withdrawLink, h]
      · simp [withdrawLink, Nat.not_lt.mpr h]
    · rw [show withdrawn = taken from if_neg fun hc => h hc.2]
      obtain ⟨kept, clean⟩ := not_or.mp h
      exact ⟨rfl, rfl, by simp [taken, kept, Nat.not_le.mp clean]⟩
  have hjudged : judged.rx = withdrawn.rx ∧ judged.recs = withdrawn.recs ∧ judged.adm = withdrawn.adm := by
    simp only [judged]
    split
    · exact ⟨rfl, rfl, rfl⟩
    · split <;> exact ⟨rfl, rfl, rfl⟩
  obtain ⟨hrx, hrecs, hadm⟩ := hjudged
  obtain ⟨hrx', hrecs', hadm'⟩ := hwithdrawn
  refine ⟨ended, ?rx, ?adm, ?recs, hres.symm.trans (by rw [isNamed]; simp only [true_and]; rfl)⟩
  case rx => rw [← hrx', ← hrx]; simp only [ended]; split <;> rfl
  case adm => rw [← hadm', ← hadm]; simp only [ended]; split <;> rfl
  case recs =>
    rw [← hrecs', ← hrecs]
    simp only [ended, isNamed, true_and]
    split <;> rfl

/-- The record set a unit is to load is read from its configuration and the records of its links. -/
theorem loadDue_sameRecs {c d : UnitCommon} (hcfg : d.cfg = c.cfg)
    (hrecs : ∀ m, (d.links.get m).recs.recs = (c.links.get m).recs.recs ∧ (d.links.get m).recs.total = (c.links.get m).recs.total) :
    loadDue d = loadDue c := by
  have hash : ∀ m, setHash (d.links.get m).recs = setHash (c.links.get m).recs := fun m => by simp only [setHash, hrecs m]
  have complete : ∀ m, setComplete (d.links.get m).recs = setComplete (c.links.get m).recs := fun m => by simp only [setComplete, hrecs m]
  have recs : ∀ m, setRecs (d.links.get m).recs = setRecs (c.links.get m).recs := fun m => by simp only [setRecs, hrecs m]
  simp only [loadDue, pairComplete, hcfg, hash, complete, recs]

/-- A cause raised changes the common part of an island by an event at most. -/
@[simp] theorem raiseCause_quiet (i : IslandId) (p : IslPair) (n : Nat) : (raiseCause i p n).1.quiet = p.1.quiet := by
  simp only [raiseCause]
  split
  · exact unitEvt_quiet _ _ _ _
  · rfl

/-- A unit's own part configured anew leaves its common part but for an event, and all else. -/
theorem State.reconfigure_rest (s : State) (b : Nat) (u : UnitId) : ((s.reconfigure b u).ucom.get u).quiet = (s.ucom.get u).quiet ∧
    (s.reconfigure b u).lanes = s.lanes ∧ ∀ v, v ≠ u → (s.reconfigure b u).ucom.get v = s.ucom.get v := by
  cases u with
  | isl i =>
    refine ⟨?_, rfl, fun v hv => by simp [State.reconfigure, Ten.get_set_other _ _ _ _ hv]⟩
    simp only [State.reconfigure, State.putIsl_ucom, Ten.get_set_same, islandConfigure, raiseCause_quiet, State.islPair]
  | fb f => exact ⟨by simp [State.reconfigure], rfl, fun v hv => by simp [State.reconfigure]⟩
  | sio x => exact ⟨by simp [State.reconfigure], rfl, fun v hv => by simp [State.reconfigure]⟩

/-- A load that may be due keeps the record sets the lanes are sending, the lanes and the other units (R93). -/
theorem State.loadUnit_rest (s : State) (u : UnitId) : (∀ l, ((s.loadUnit u).ucom.get u).links.get l = { (s.ucom.get u).links.get l with
      agree := (((s.loadUnit u).ucom.get u).links.get l).agree, synctk := (((s.loadUnit u).ucom.get u).links.get l).synctk,
      evPend := (((s.loadUnit u).ucom.get u).links.get l).evPend }) ∧
    (s.loadUnit u).lanes = s.lanes ∧ ∀ v, v ≠ u → (s.loadUnit u).ucom.get v = s.ucom.get v := by
  unfold State.loadUnit
  split
  · exact ⟨fun _ => rfl, rfl, fun _ _ => rfl⟩
  · next recs _ =>
    extract_lets st
    obtain ⟨quiet, lanes, others⟩ := State.reconfigure_rest (s.setUnit u (unitLoad (s.ucom.get u) recs st)) st.backLim u
    refine ⟨fun l => ?_, lanes, fun v hv => (others v hv).trans (by simp [Ten.get_set_other _ _ _ _ hv])⟩
    have link := UnitCommon.link_of_quiet quiet l
    rw [State.setUnit_ucom, Ten.get_set_same] at link
    rw [link]
    cases l <;> rfl

/-- Settles O21: the block is parsed as it was written, so the link takes it; a record block goes on to the lane's set, which a load keeps. -/
theorem commandBlockReceived : Obligations.CommandBlockReceived := by
  unfold Obligations.CommandBlockReceived
  refine ⟨fun s u l mode state verdict vtick wd ws hr hup hdue hm hs hv hn hlen hws ht => ?received, fun s u l bs stale hr hp => ?posted⟩
  case posted => exact ⟨_, rfl, by simp [exec, execCommandBlock, hp, Lane.takePosted, Lane.onUnit]⟩
  case received =>
    extract_lets bs
    have hp : parseCmd bs 0 = _ := parseCmd_cmdBytes ht (by cases l <;> decide) hm hs hv hn hlen hws 0
    clear_value bs
    refine ⟨fun hd hst => ?voted, fun hd hst => ?record, fun hd => ?late⟩
    case late =>
      refine congrArg Host.Outcome.next ((if_pos hr).trans ?_)
      have same : unitReceive u (s.ucom.get u) l bs 0 = s.ucom.get u := if_pos (Or.inl hd)
      show s.receiveBlock u l bs 0 = s
      rw [State.receiveBlock, same, State.setUnit_self, State.loadUnit, hdue]
    case voted =>
      obtain ⟨k, hrx, hadm, hrecs, heq⟩ := unitReceive_named hd hup hp rfl rfl rfl (u := u)
      rw [if_neg (by simp [hst])] at heq
      have due : loadDue (unitReceive u (s.ucom.get u) l bs 0) = none := by
        rw [← hdue, heq]
        refine loadDue_sameRecs rfl fun m => ?_
        by_cases hm : m = l
        · subst hm; simp [UnitCommon.setLink, hrecs, hst]
        · simp [UnitCommon.setLink, Tri.get_set_other _ _ _ _ hm]
      have received : s.receiveBlock u l bs 0 = s.setUnit u (unitReceive u (s.ucom.get u) l bs 0) := by
        rw [State.receiveBlock, State.loadUnit]; simp [due]
      refine ⟨s.setUnit u (unitReceive u (s.ucom.get u) l bs 0), congrArg Host.Outcome.next ((if_pos hr).trans received), by simp [onlyUnit], ?_⟩
      rw [heq]
      simp only [State.setUnit_ucom, Ten.get_set_same, UnitCommon.setLink, Tri.get_set_same]
      exact ⟨⟨_, hrx, rfl, rfl, rfl, rfl, rfl, rfl⟩, hadm, trivial⟩
    case record =>
      obtain ⟨k, -, -, hrecs, heq⟩ := unitReceive_named hd hup hp rfl rfl rfl (u := u)
      rw [if_pos ⟨hst, rfl⟩] at heq
      obtain ⟨links, lanes, others⟩ := State.loadUnit_rest (s.setUnit u (unitReceive u (s.ucom.get u) l bs 0)) u
      refine ⟨s.receiveBlock u l bs 0, congrArg Host.Outcome.next (if_pos hr), lanes, ?_, fun v hv => (others v hv).trans (by simp [Ten.get_set_other _ _ _ _ hv])⟩
      rw [State.receiveBlock, links l]
      simp [heq, unitRecord, UnitCommon.setLink, hrecs, hst]

end Sys2Proof.Machine

namespace Sys2Proof.Machine
open Sys2Proof

/-! ## The self-checks of a lane: what an event and a failed check leave alone (R29, R316, R365) -/

/-- A lane but for what its events and self-checks write: its event block with FIRST, its check state and its memory error registers. -/
def Lane.unchecked (n : Lane) : Lane :=
  { n with main := { n.main with evt := {}, check := {} }, aon := { n.aon with first := {}, mem := {} } }

@[simp] theorem Lane.event_unchecked (n : Lane) (l : LaneId) (k : Nat) (b : Bool) : (n.event l k b).unchecked = n.unchecked := rfl
@[simp] theorem Lane.onCheck_unchecked (n : Lane) (f : CheckState → CheckState) : (n.onCheck f).unchecked = n.unchecked := rfl
@[simp] theorem Lane.onMem_unchecked (n : Lane) (f : MemRegs → MemRegs) : (n.onMem f).unchecked = n.unchecked := rfl
@[simp] theorem Lane.askRetry_unchecked (n : Lane) (k : Nat) : (n.askRetry k).unchecked = n.unchecked := by
  unfold Lane.askRetry; split <;> rfl
@[simp] theorem Lane.selfFail_unchecked (n : Lane) (k : Nat) : (n.selfFail k).unchecked = n.unchecked := by
  rw [Lane.selfFail, Lane.askRetry_unchecked, Lane.onCheck_unchecked]
@[simp] theorem Lane.failEvent_unchecked (n : Lane) (l : LaneId) (k : Nat) : (n.failEvent l k).unchecked = n.unchecked := by
  rw [Lane.failEvent, Lane.selfFail_unchecked, Lane.event_unchecked]
@[simp] theorem Lane.retryEvent_unchecked (n : Lane) (l : LaneId) (k : Nat) : (n.retryEvent l k).unchecked = n.unchecked := by
  simp only [Lane.retryEvent]; split <;> simp
@[simp] theorem Lane.mismatch_unchecked (n : Lane) (l : LaneId) (kind plane ident core : Nat) :
    (n.mismatch l kind plane ident core).unchecked = n.unchecked := by
  rw [Lane.mismatch, Lane.failEvent_unchecked, Lane.onMem_unchecked]

/-- Whether the lane computes is no matter of its checks. -/
theorem Lane.computing_of_unchecked {m n : Lane} (h : m.unchecked = n.unchecked) : m.computing = n.computing :=
  show m.unchecked.computing = n.unchecked.computing by rw [h]

theorem Lane.main_of_unchecked {m n : Lane} (h : m.unchecked = n.unchecked) :
    m.main = { n.main with evt := m.main.evt, check := m.main.check } :=
  congrArg (fun x : Lane => { x.main with evt := m.main.evt, check := m.main.check }) h

/-! ### What a failed self-check writes -/

@[simp] theorem Lane.askRetry_evt (n : Lane) (k : Nat) : (n.askRetry k).main.evt = n.main.evt := by
  unfold Lane.askRetry; split <;> rfl
@[simp] theorem Lane.askRetry_aon (n : Lane) (k : Nat) : (n.askRetry k).aon = n.aon := by
  unfold Lane.askRetry; split <;> rfl
@[simp] theorem Lane.event_check (n : Lane) (l : LaneId) (k : Nat) (b : Bool) : (n.event l k b).main.check = n.main.check := rfl
@[simp] theorem Lane.event_eng (n : Lane) (l : LaneId) (k : Nat) (b : Bool) : (n.event l k b).aon.mem = n.aon.mem := rfl

/-- A lane that computes notes the source it retries for, the first standing (R377). -/
theorem Lane.askRetry_check (n : Lane) (k : Nat) : (n.askRetry k).main.check =
    { n.main.check with retry := if n.computing then some (n.main.check.retry.getD k) else n.main.check.retry } := by
  unfold Lane.askRetry
  split
  · simp only [Lane.onCheck]; cases n.main.check.retry <;> rfl
  · rfl

/-- Beside a retry asked for, a check that fails leaves a dirty verdict, and the lane withdraws (R29, R316). -/
theorem Lane.failEvent_check (n : Lane) (l : LaneId) (k : Nat) : (n.failEvent l k).main.check =
    { n.main.check with failAge := some n.main.time.age, verdict := 2, vtick := n.main.time.tick % 256, withdraw := true,
                        retry := if n.computing then some (n.main.check.retry.getD k) else n.main.check.retry } := by
  simp only [Lane.failEvent, Lane.selfFail, Lane.askRetry_check]; rfl
@[simp] theorem Lane.failEvent_evt (n : Lane) (l : LaneId) (k : Nat) : (n.failEvent l k).main.evt = (n.event l k).main.evt := by
  simp only [Lane.failEvent, Lane.selfFail, Lane.askRetry_evt]; rfl
@[simp] theorem Lane.failEvent_mem_regs (n : Lane) (l : LaneId) (k : Nat) : (n.failEvent l k).aon.mem = n.aon.mem := by
  simp only [Lane.failEvent, Lane.selfFail, Lane.askRetry_aon]; rfl
@[simp] theorem Lane.retryEvent_evt (n : Lane) (l : LaneId) (k : Nat) : (n.retryEvent l k).main.evt = (n.event l k).main.evt := by
  simp only [Lane.retryEvent]; split <;> simp
@[simp] theorem Lane.retryEvent_mem_regs (n : Lane) (l : LaneId) (k : Nat) : (n.retryEvent l k).aon.mem = n.aon.mem := by
  simp only [Lane.retryEvent]; split <;> simp
/-- An event whose SEVERE bit makes the lane retry changes no more of the checks. -/
theorem Lane.retryEvent_check (n : Lane) (l : LaneId) (k : Nat) : (n.retryEvent l k).main.check =
    { n.main.check with retry := (n.retryEvent l k).main.check.retry } := by
  simp only [Lane.retryEvent]; split <;> simp [Lane.askRetry_check]

/-- STATUS keeps the bits it has (R371). -/
theorem Lane.event_status_kept (n : Lane) (l : LaneId) (k : Nat) {j : Nat} (h : n.main.evt.status.testBit j = true) :
    (n.event l k).main.evt.status.testBit j = true := by
  unfold Lane.event evtOccur
  split
  · exact h
  · simp [EvtBlock.had, testBit_setBit, h]

/-- The bit of an occurrence (R371). -/
theorem Lane.event_status_set (n : Lane) (l : LaneId) (k : Nat) (h : (evtDefault (laneKind l) k).isSome = true) :
    (n.event l k).main.evt.status.testBit k = true := by simp [Lane.event_status n l k h]

/-- Sources of every lane, of lanes A and B, and of lane C (R365). -/
theorem evtDefault_overrun (l : LaneId) : (evtDefault (laneKind l) 0).isSome = true := by cases l <;> rfl
theorem evtDefault_mirror {l : LaneId} (h : l ≠ .c) : (evtDefault (laneKind l) 128).isSome = true := by
  cases l with
  | a => rfl
  | b => rfl
  | c => exact absurd rfl h
theorem evtDefault_roundOverrun {l : LaneId} (h : l ≠ .c) : (evtDefault (laneKind l) 131).isSome = true := by
  cases l with
  | a => rfl
  | b => rfl
  | c => exact absurd rfl h

end Sys2Proof.Machine

namespace Sys2Proof.Machine
open Sys2Proof

/-! ## The posting deadline (R56, R312, R313, R316, R319) -/

/-- What one element's step reaches and every step keeps holds after the fold. -/
theorem foldl_reaches {α β : Type} {f : β → α → β} {P : β → Prop} {x : α} {xs : List α} (hx : x ∈ xs) (hf : ∀ b, P (f b x))
    (hk : ∀ b y, P b → P (f b y)) (b : β) : P (xs.foldl f b) := by
  obtain ⟨before, after, rfl⟩ := List.append_of_mem hx
  rw [List.foldl_append, List.foldl_cons]
  exact after.foldlRecOn (motive := P) f (hf _) fun b hb y _ => hk b y hb

@[simp] theorem Lane.overrun_unchecked (n : Lane) (l : LaneId) : (n.overrun l).unchecked = n.unchecked := by
  rw [Lane.overrun, Lane.onCheck_unchecked, Lane.retryEvent_unchecked]

/-- A lane at its posting deadline: TICK_OVERRUN, and the islands' blocks that are missing (R56, R312, R313). -/
def Lane.atDeadline (n : Lane) (l : LaneId) : Lane :=
  (allUnits.filter (fun u => privUnit l u && n.main.check.lateTo u)).foldl (Lane.blockMismatch l)
    (if !n.main.check.worked ∨ n.main.check.late ≠ 0 then n.overrun l else n)

/-- The row is that, and the engines of lane C that miscount (R319). -/
theorem execPostingDeadline_run {s : State} {l : LaneId} (hc : (s.lanes.get l).computing = true) (miss : Nat) :
    exec (.postingDeadline l miss) s = .next (s.setLane l (let m := (s.lanes.get l).atDeadline l
      if l = .c ∧ m.miscounts miss ≠ 0 then (m.onMem (fun g => { g with eng := g.eng ||| m.miscounts miss })).failEvent l 15 else m)) :=
  congrArg Host.Outcome.next (if_pos hc)

/-- Lane C has no privileged blocks (R310). -/
theorem Lane.atDeadline_laneC (n : Lane) :
    n.atDeadline .c = if !n.main.check.worked ∨ n.main.check.late ≠ 0 then n.overrun .c else n := rfl

/-- The engines that miscount are no matter of the checks. -/
theorem Lane.miscounts_of_unchecked {m n : Lane} (h : m.unchecked = n.unchecked) (miss : Nat) : m.miscounts miss = n.miscounts miss :=
  show m.unchecked.miscounts miss = n.unchecked.miscounts miss by rw [h]

theorem Lane.miscounts_atDeadlineC (n : Lane) (miss : Nat) : (n.atDeadline .c).miscounts miss = n.miscounts miss := by
  rw [Lane.atDeadline_laneC]
  split
  · exact Lane.miscounts_of_unchecked (Lane.overrun_unchecked _ _) miss
  · rfl

/-- A mask built from a list of bits has those of the list. -/
theorem testBit_foldl_setBit (es : List Nat) (v e : Nat) : (es.foldl setBit v).testBit e = (v.testBit e || decide (e ∈ es)) := by
  induction es generalizing v with
  | nil => simp
  | cons x xs ih => simp [ih, testBit_setBit, Bool.or_assoc]

/-- What a late lane has recorded, `n` being the lane as it came to the deadline (R56, R316). -/
def Overdue (n m : Lane) : Prop :=
  m.main.time = n.main.time ∧ m.main.net = n.main.net ∧ m.main.evt.status.testBit 0 = true ∧
    m.main.check.failAge = some n.main.time.age ∧ (n.main.check.verdict = 1 → m.main.check.verdict = 2 ∧ m.main.check.withdraw = true)

theorem Lane.overrun_overdue (n : Lane) (l : LaneId) : Overdue n (n.overrun l) := by
  have main := Lane.main_of_unchecked (Lane.overrun_unchecked n l)
  refine ⟨by rw [main], by rw [main], ?_, ?_, fun h => ?_⟩
  · exact (congrArg (fun e => e.status.testBit 0) (Lane.retryEvent_evt n l 0)).trans (Lane.event_status_set n l 0 (evtDefault_overrun l))
  · rfl
  · simp only [Lane.overrun, Lane.onCheck]
    rw [Lane.retryEvent_check]
    simp [h]

/-- A check that fails thereafter keeps it so. -/
theorem Overdue.failEvent {n m : Lane} (h : Overdue n m) (l : LaneId) (k : Nat) : Overdue n (m.failEvent l k) := by
  obtain ⟨time, net, status, -, -⟩ := h
  have main := Lane.main_of_unchecked (Lane.failEvent_unchecked m l k)
  refine ⟨by rw [main, ← time], by rw [main, ← net], ?_, ?_, fun _ => ?_⟩
  · rw [Lane.failEvent_evt]; exact Lane.event_status_kept _ _ _ status
  · rw [Lane.failEvent_check, time]
  · rw [Lane.failEvent_check]; exact ⟨rfl, rfl⟩

theorem Overdue.blockMismatch {n m : Lane} (h : Overdue n m) (l : LaneId) (u : UnitId) : Overdue n (m.blockMismatch l u) :=
  Overdue.failEvent (m := m.onMem _) h l 128

theorem Lane.atDeadline_overdue {n : Lane} (l : LaneId) (h : n.main.check.worked = false ∨ n.main.check.late ≠ 0) :
    Overdue n (n.atDeadline l) := by
  rw [Lane.atDeadline, if_pos (by simpa using h)]
  exact List.foldlRecOn _ _ (Lane.overrun_overdue n l) fun m hm u _ => hm.blockMismatch l u

/-- The mark a missing block leaves: it is withheld, MIRROR_MISMATCH has occurred and the verdict is dirty (R313). -/
def Withheld (u : UnitId) (m : Lane) : Prop :=
  (m.main.units.get u).posted = none ∧ m.main.evt.status.testBit 128 = true ∧ m.main.check.verdict = 2

theorem Lane.blockMismatch_withheld {l : LaneId} (hl : l ≠ .c) (m : Lane) (u : UnitId) : Withheld u (m.blockMismatch l u) := by
  refine ⟨by simp [Lane.blockMismatch, Lane.post, Lane.onMain], ?_, ?_⟩
  · simp only [Lane.blockMismatch, Lane.post, Lane.onMain, Lane.mismatch, Lane.failEvent_evt]
    exact Lane.event_status_set _ _ _ (evtDefault_mirror hl)
  · simp only [Lane.blockMismatch, Lane.post, Lane.onMain, Lane.mismatch, Lane.failEvent_check]

theorem Withheld.blockMismatch {l : LaneId} (hl : l ≠ .c) {u : UnitId} {m : Lane} (h : Withheld u m) (v : UnitId) :
    Withheld u (m.blockMismatch l v) := by
  obtain ⟨-, status, verdict⟩ := Lane.blockMismatch_withheld hl m v
  refine ⟨?_, status, verdict⟩
  have main := Lane.main_of_unchecked (Lane.mismatch_unchecked m l 1 0 v.code (m.main.canvas.outputCore l v.code))
  simp only [Lane.blockMismatch, Lane.post, Lane.onMain]
  rw [main]
  by_cases hv : u = v
  · simp [hv]
  · simpa [Ten.get_set_other _ _ _ _ hv] using h.1

/-- The islands whose blocks lane A or B has not posted by the deadline. -/
theorem Lane.atDeadline_withheld {n : Lane} {l : LaneId} (hl : l ≠ .c) (i : IslandId) (h : n.main.check.lateTo (.isl i) = true) :
    Withheld (.isl i) (n.atDeadline l) := by
  refine foldl_reaches (x := UnitId.isl i) (List.mem_filter.mpr ⟨by cases i <;> decide, ?_⟩)
    (fun m => Lane.blockMismatch_withheld hl m _) (fun m u hm => hm.blockMismatch hl u) _
  simp [privUnit, procLane, hl, h]

/-- In time, there is nothing to do. -/
theorem Lane.atDeadline_inTime {n : Lane} (l : LaneId) (hw : n.main.check.worked = true) (hl : n.main.check.late = 0) : n.atDeadline l = n := by
  have none : ∀ u, n.main.check.lateTo u = false := fun u => by simp [CheckState.lateTo, hw, hl]
  simp [Lane.atDeadline, none, hw, hl]

/-! ## Verdicts, engine tests and readbacks (R29, R317, R320, R321) -/

/-- Whether a self-check has failed since the disputed tick began (R29). -/
def Lane.failedSince (n : Lane) (d : Nat) : Bool :=
  match n.main.check.failAge with
  | some a => decide (n.main.time.age ≤ a + (n.main.time.tick + 4294967296 - d) % 4294967296)
  | none => false

/-- The verdict on a tick in dispute. -/
theorem Lane.verdictDone_checking {n : Lane} {d : Nat} (h : n.main.check.checking = some d) (ok : Bool) :
    n.verdictDone ok = n.onCheck (fun c => { c with
      verdict := if ok && !n.failedSince d then 1 else 2, vtick := d % 256, withdraw := c.withdraw || !(ok && !n.failedSince d),
      checking := c.next, next := none, held := c.nextHeld, nextHeld := 0 }) := by
  unfold Lane.verdictDone
  rw [h]
  rfl

/-- A lane that computes and checks a disputed tick without upsets (R317). -/
theorem execVerdictCheck_run {s : State} {l : LaneId} {d : Nat} {finds : CheckFinds} (hc : (s.lanes.get l).computing = true)
    (hd : (s.lanes.get l).main.check.checking = some d) (hu : finds.upsets = []) :
    exec (.verdictCheck l finds) s = .next (s.setLane l
      ((if procLane l then s.lanes.get l else (s.lanes.get l).verdictReadback (s.lanes.get l).main.check.held finds.read).verdictDone
        ((s.lanes.get l).reproduces l d (s.lanes.get l).main.check.held []))) := by
  refine congrArg Host.Outcome.next ((if_pos hc).trans ?_)
  simp only [hd, hu, List.foldl_nil]

theorem Lane.verdictReadback_nil (n : Lane) (held : Nat) : n.verdictReadback held [] = n := by simp [Lane.verdictReadback]

@[simp] theorem Lane.readbackFail_unchecked (n : Lane) (b : Nat) : (n.readbackFail b).unchecked = n.unchecked := by
  rw [Lane.readbackFail, Lane.failEvent_unchecked, Lane.onMem_unchecked]

/-- What a wrong readback leaves (R321): the failed check of this tick, the event and the register. -/
def ReadWrong (m : Lane) : Prop :=
  m.main.check.failAge = some m.main.time.age ∧ m.main.evt.status.testBit 17 = true ∧ m.aon.mem.rbFail = true

theorem Lane.readbackFail_wrong (m : Lane) (b : Nat) : ReadWrong (m.readbackFail b) := by
  have time : (m.readbackFail b).main.time = m.main.time := by rw [Lane.main_of_unchecked (Lane.readbackFail_unchecked m b)]
  refine ⟨?_, ?_, ?_⟩
  · rw [time, Lane.readbackFail, Lane.failEvent_check]; rfl
  · rw [Lane.readbackFail, Lane.failEvent_evt]; exact Lane.event_status_set _ _ _ rfl
  · rw [Lane.readbackFail, Lane.failEvent_mem_regs]; rfl

/-- The readback of a verdict check leaves what is checked as it is. -/
theorem Lane.verdictReadback_checking (n : Lane) (held : Nat) (read : List (Nat × Bytes)) :
    (n.verdictReadback held read).main.check.checking = n.main.check.checking := by
  refine List.foldlRecOn _ _ (motive := fun m : Lane => m.main.check.checking = n.main.check.checking) rfl fun m hm b _ => ?_
  rw [Lane.readbackFail, Lane.failEvent_check]
  exact hm

/-- A block behind the held words that is read wrong is found. -/
theorem Lane.verdictReadback_wrong {n : Lane} {held i : Nat} {u : UnitId} {bs : Bytes} {read : List (Nat × Bytes)}
    (hu : held.testBit u.idx = true) (hi : i ∈ n.main.canvas.cellsBehind u.code) (hr : (cellBlock i, bs) ∈ read)
    (hb : n.blockGood (cellBlock i) bs = false) : ReadWrong (n.verdictReadback held read) := by
  refine foldl_reaches (x := cellBlock i) (List.mem_filter.mpr ⟨?_, ?_⟩) (fun m => Lane.readbackFail_wrong m _)
    (fun m b _ => Lane.readbackFail_wrong m b) n
  · refine List.mem_dedup.mpr (List.mem_flatMap.mpr ⟨u, ?_, List.mem_map.mpr ⟨i, hi, rfl⟩⟩)
    exact List.mem_filter.mpr ⟨by rcases u with i | f | x <;> [cases i; cases f; cases x] <;> decide, hu⟩
  · exact List.any_eq_true.mpr ⟨_, hr, by simp [hb]⟩

/-- A block of canvas memory read back is noted (R321). -/
def Lane.noteReadback (n : Lane) (b : Nat) : Lane :=
  n.onMem (fun g => { g with rbBlock := b, rbPasses := if b = 255 then satAdd 16 g.rbPasses 1 else g.rbPasses })

theorem execReadbackCrc_run {s : State} {read : Option Bytes} {b : Nat} (hc : s.lanes.c.computing = true)
    (ht : s.lanes.c.main.time.tick % 8 = 7) (hb : s.lanes.c.main.time.round % 256 = b) :
    exec (.readbackCrc read) s = .next (s.setLane .c (if s.lanes.c.blockGood b (read.getD (s.lanes.c.main.cmem.getD b []))
      then s.lanes.c.noteReadback b else (s.lanes.c.noteReadback b).readbackFail b)) := by
  subst hb
  exact congrArg Host.Outcome.next ((if_pos hc).trans (congrArg _ (if_pos ht)))

/-- Settles O31: the deadline by `atDeadline`, the verdict by `verdictDone`, and lane C's checks each by their failed event. -/
theorem deadlinesVerdictsSelfChecks : Obligations.DeadlinesVerdictsSelfChecks := by
  unfold Obligations.DeadlinesVerdictsSelfChecks
  refine ⟨fun s l hc => ⟨fun hlate miss => ?overdue, fun miss hw hl hm => ?inTime, fun miss hl hm => ?miscount, fun miss e he => ?engines,
    fun hl => ?roundOverrun, fun hl => ?roundC⟩, fun s l d finds hc hd hu hr => ?verdict, fun s d i u bs finds hc hd hu hheld hi hread hbad => ?wrong,
    fun s k hc ht hk hk' => ?engine, fun s read hc ht => ?readback⟩
  case overdue =>
    have overdue := Lane.atDeadline_overdue l hlate
    refine ⟨_, execPostingDeadline_run hc miss, onlyLane_setLane _ _ _, ?_⟩
    simp only [State.setLane_lanes, Tri.get_set_same]
    have after : Overdue (s.lanes.get l) (let m := (s.lanes.get l).atDeadline l
        if l = .c ∧ m.miscounts miss ≠ 0 then (m.onMem (fun g => { g with eng := g.eng ||| m.miscounts miss })).failEvent l 15 else m) := by
      simp only []
      split
      · exact Overdue.failEvent (m := Lane.onMem _ _) overdue l 15
      · exact overdue
    obtain ⟨-, net, status, age, verdict⟩ := after
    refine ⟨status, age, net, verdict, fun hl i hi => ?_⟩
    rw [if_neg fun h => hl h.1]
    exact Lane.atDeadline_withheld hl i (by simpa [CheckState.lateTo] using hi)
  case inTime =>
    rw [execPostingDeadline_run hc, Lane.atDeadline_inTime l hw hl]
    simp only []
    rw [if_neg fun h => hm.elim (fun hl => hl h.1) h.2, State.setLane_self]
  case miscount =>
    subst hl
    refine ⟨_, execPostingDeadline_run hc miss, onlyLane_setLane _ _ _, ?_⟩
    simp only [State.setLane_lanes, Tri.get_set_same, Lane.miscounts_atDeadlineC]
    rw [if_pos ⟨trivial, hm⟩]
    refine ⟨?_, ?_, ?_, ?_⟩
    · rw [Lane.failEvent_evt]; exact Lane.event_status_set _ _ _ rfl
    · rw [Lane.failEvent_mem_regs, Lane.atDeadline_laneC]
      split
      · exact congrArg (fun g : MemRegs => g.eng ||| (s.lanes.get .c).miscounts miss) (Lane.retryEvent_mem_regs (s.lanes.get .c) .c 0)
      · rfl
    · rw [Lane.failEvent_check]
    · rw [Lane.failEvent_check]
  case engines => simp [Lane.miscounts, testBit_foldl_setBit, he]
  case roundOverrun =>
    refine ⟨_, congrArg Host.Outcome.next (if_pos (by simp [hc, procLane, hl])), onlyLane_setLane _ _ _, ?_⟩
    simp only [State.setLane_lanes, Tri.get_set_same]
    refine ⟨?_, ?_, ?_⟩
    · rw [Lane.retryEvent_evt]; exact Lane.event_status_set _ _ _ (evtDefault_roundOverrun hl)
    · rw [Lane.main_of_unchecked (Lane.retryEvent_unchecked _ _ _)]
    · rw [Lane.main_of_unchecked (Lane.retryEvent_unchecked _ _ _)]
  case roundC => exact congrArg Host.Outcome.next (if_neg (by simp [procLane, hl]))
  case verdict =>
    extract_lets failed ok
    rw [execVerdictCheck_run hc hd hu]
    have kept : (if procLane l then s.lanes.get l else
        (s.lanes.get l).verdictReadback (s.lanes.get l).main.check.held finds.read) = s.lanes.get l := by
      rcases hr with hr | hl
      · rw [hr, Lane.verdictReadback_nil]; split <;> rfl
      · exact if_pos (by simp [procLane, hl])
    rw [kept, Lane.verdictDone_checking hd]
    rfl
  case wrong =>
    refine ⟨_, execVerdictCheck_run (l := .c) hc hd hu, onlyLane_setLane _ _ _, ?_⟩
    rw [show ∀ n : Lane, (s.setLane .c n).lanes.c = n from fun _ => rfl, if_neg (by decide)]
    obtain ⟨age, status, fail⟩ := Lane.verdictReadback_wrong (n := s.lanes.c) hheld hi hread hbad
    have checking := (Lane.verdictReadback_checking s.lanes.c s.lanes.c.main.check.held finds.read).trans hd
    have failed : (s.lanes.c.verdictReadback s.lanes.c.main.check.held finds.read).failedSince d = true := by
      rw [Lane.failedSince, age]; exact decide_eq_true (Nat.le_add_right _ _)
    rw [show s.lanes.get .c = s.lanes.c from rfl, Lane.verdictDone_checking checking, failed]
    refine ⟨status, fail, ?_, ?_⟩
    · simp [Lane.onCheck]
    · simp [Lane.onCheck]
  case engine =>
    refine ⟨_, congrArg Host.Outcome.next ((if_pos hc).trans (congrArg _ (if_pos ⟨ht, hk⟩))), onlyLane_setLane _ _ _, ?_⟩
    rw [show ∀ n : Lane, (s.setLane .c n).lanes.c = n from fun _ => rfl, Lane.failEvent_check, Lane.failEvent_evt, Lane.failEvent_mem_regs]
    exact ⟨by simp [Lane.onMem, Nat.mod_eq_of_lt hk', show s.lanes.get .c = s.lanes.c from rfl], rfl, rfl, Lane.event_status_set _ _ _ rfl⟩
  case readback =>
    extract_lets b ok
    refine ⟨_, execReadbackCrc_run hc ht rfl, onlyLane_setLane _ _ _, ?_⟩
    rw [show ∀ n : Lane, (s.setLane .c n).lanes.c = n from fun _ => rfl]
    by_cases hok : ok = true
    · rw [if_pos hok]
      exact ⟨rfl, fun h => absurd (hok.symm.trans h) (by decide), fun _ => rfl⟩
    · rw [if_neg hok, Lane.readbackFail, Lane.failEvent_check, Lane.failEvent_evt, Lane.failEvent_mem_regs]
      exact ⟨rfl, fun _ => ⟨rfl, rfl, rfl, Lane.event_status_set _ _ _ rfl⟩, fun h => absurd h hok⟩

end Sys2Proof.Machine

namespace Sys2Proof.Machine
open Sys2Proof

/-! ## What the tick work leaves of a lane: its state, its tick and its mode (R305) -/

/-- The domain, the state, the tick and the mode of a lane. -/
def Lane.clock (n : Lane) : DomState × LState × Nat × Mode := (n.dom, n.state, n.main.time.tick, n.main.mode.mode)

theorem Lane.clock_of_unchecked {m n : Lane} (h : m.unchecked = n.unchecked) : m.clock = n.clock :=
  show m.unchecked.clock = n.unchecked.clock by rw [h]

theorem foldl_clock {α : Type} (f : Lane → α → Lane) (h : ∀ n x, (f n x).clock = n.clock) (xs : List α) (n : Lane) :
    (xs.foldl f n).clock = n.clock :=
  xs.foldlRecOn (motive := fun m => m.clock = n.clock) f rfl fun m hm x _ => (h m x).trans hm

@[simp] theorem Lane.onMain_clock (n : Lane) (f : LaneMain → LaneMain) (ht : (f n.main).time.tick = n.main.time.tick)
    (hm : (f n.main).mode.mode = n.main.mode.mode) : (n.onMain f).clock = n.clock := by
  simp [Lane.clock, Lane.onMain, ht, hm]

@[simp] theorem Lane.requestRing_clock (l : LaneId) (line : Nat) (n : Lane) (r : Nat) : (n.requestRing l line r).clock = n.clock := by
  simp only [Lane.requestRing]; (repeat' split) <;> rfl

@[simp] theorem Lane.raiseLine_clock (n : Lane) (l : LaneId) (line : Nat) : (n.raiseLine l line).clock = n.clock := by
  unfold Lane.raiseLine
  split
  · exact foldl_clock _ (Lane.requestRing_clock l line) _ _
  · rfl

section cells
variable (n : Lane) (l : LaneId) (m : Bool) (a : Run) (d : CellDef) (s : CellState) (fl : Flips) (vec : Option (List (Nat × Word)))
  (cut : List Nat) (ds : List CellDef)

@[simp] theorem Lane.event_clock (k : Nat) (b : Bool) : (n.event l k b).clock = n.clock := rfl
@[simp] theorem Lane.failEvent_clock (k : Nat) : (n.failEvent l k).clock = n.clock := Lane.clock_of_unchecked (Lane.failEvent_unchecked _ _ _)
@[simp] theorem Lane.mismatch_clock (kind plane ident core : Nat) : (n.mismatch l kind plane ident core).clock = n.clock :=
  Lane.clock_of_unchecked (Lane.mismatch_unchecked _ _ _ _ _ _)
@[simp] theorem Lane.shiftCells_clock (tinr : Nat) : (n.shiftCells tinr).clock = n.clock := rfl
@[simp] theorem Lane.fold_clock (task : Nat) (ws : List Nat) : (n.fold m task ws).clock = n.clock := rfl
@[simp] theorem Lane.postBoth_clock (u : UnitId) (w : Nat) (v : Int) : (n.postBoth u w v).clock = n.clock := rfl
@[simp] theorem Lane.putCell_clock (i : Nat) : (n.putCell m i s).clock = n.clock := by unfold Lane.putCell; split <;> rfl
@[simp] theorem Lane.postBytes_clock (slot off : Nat) (v : Bytes) : (n.postBytes m slot off v).clock = n.clock := by
  unfold Lane.postBytes; split <;> rfl
@[simp] theorem Lane.postWord_clock (u : UnitId) (w : Nat) (v : Int) : (n.postWord m u w v).clock = n.clock := by
  unfold Lane.postWord; split <;> rfl
@[simp] theorem Lane.keepFlags_clock : (n.keepFlags a d s).clock = n.clock := by unfold Lane.keepFlags; (repeat' split) <;> rfl
@[simp] theorem Lane.noteNan_clock (sel : Nat) : (n.noteNan l d sel).clock = n.clock := by unfold Lane.noteNan; split <;> rfl
@[simp] theorem Lane.loseRamp_clock (i : Nat) : (n.loseRamp m i).clock = n.clock := by simp [Lane.loseRamp]
@[simp] theorem Lane.latchSources_clock : (n.latchSources a).clock = n.clock := foldl_clock _ (fun _ _ => by simp) _ _
@[simp] theorem Lane.stampAct_clock : (n.stampAct l m d).clock = n.clock := by simp only [Lane.stampAct]; (repeat' split) <;> simp
@[simp] theorem Lane.postSnk_clock (sel : Nat) (v : Int) : (n.postSnk l a d sel v).clock = n.clock := by
  simp only [Lane.postSnk]; (repeat' split) <;> simp
@[simp] theorem Lane.trackLinks_clock (later : CellDef → Bool) : (n.trackLinks a ds later d).clock = n.clock :=
  foldl_clock _ (fun n w => by dsimp only; (repeat' split) <;> simp) _ _
@[simp] theorem Lane.ranCell_clock : (n.ranCell l a d s).clock = n.clock := by simp only [Lane.ranCell]; (repeat' split) <;> simp
@[simp] theorem Lane.runCell_clock : (n.runCell l a fl vec d).clock = n.clock := by simp only [Lane.runCell]; (repeat' split) <;> simp
@[simp] theorem Lane.runCells_clock : (n.runCells l a fl vec cut ds).clock = n.clock := by
  simp [Lane.runCells, foldl_clock]
@[simp] theorem Lane.syncTrack_clock (before : Bool) : (n.syncTrack a before).clock = n.clock :=
  foldl_clock _ (fun n w => by dsimp only; (repeat' split) <;> simp) _ _
@[simp] theorem Lane.foldRound_clock (tinr : Nat) : (n.foldRound l a ds tinr).clock = n.clock := by
  unfold Lane.foldRound
  split
  · exact foldl_clock _ (fun n w => by split <;> simp) _ _
  · rfl
@[simp] theorem Lane.runOnce_clock : (n.runOnce l a fl vec cut).clock = n.clock := by
  simp only [Lane.runOnce]; (repeat' split) <;> simp
@[simp] theorem Lane.runTick_clock (ups : List Upset) : (n.runTick l ups).clock = n.clock := by
  simp only [Lane.runTick]; split <;> simp

end cells

@[simp] theorem Lane.busSteps_clock (n : Lane) : n.busSteps.clock = n.clock := rfl
@[simp] theorem Lane.motorTick_clock (n : Lane) (l : LaneId) : (n.motorTick l).clock = n.clock := rfl
@[simp] theorem Lane.post_clock (n : Lane) (u : UnitId) (b : Option Bytes) : (n.post u b).clock = n.clock := rfl
@[simp] theorem Lane.superviseIsland_clock (n : Lane) (i : IslandId) : (n.superviseIsland i).clock = n.clock := by
  simp only [Lane.superviseIsland]; (repeat' split) <;> simp
@[simp] theorem Lane.superviseFb_clock (n : Lane) (f : FbId) : (n.superviseFb f).clock = n.clock :=
  foldl_clock _ (fun _ _ => Lane.postBoth_clock _ _ _ _) _ _
@[simp] theorem Lane.superviseSio_clock (n : Lane) (x : SioId) : (n.superviseSio x).clock = n.clock := rfl
@[simp] theorem Lane.supervise_clock (n : Lane) : n.supervise.clock = n.clock := by
  simp [Lane.supervise, foldl_clock Lane.superviseIsland (fun _ _ => Lane.superviseIsland_clock _ _)]
@[simp] theorem Lane.foldWordsOf_clock (n : Lane) (ups : List Upset) : (n.foldWordsOf ups).clock = n.clock :=
  foldl_clock _ (fun _ _ => by simp) _ _
@[simp] theorem Lane.compareSlots_clock (n : Lane) (l : LaneId) (ups : List Upset) : (n.compareSlots l ups).clock = n.clock :=
  foldl_clock _ (fun _ _ => by dsimp only; split <;> simp) _ _

/-! ## The blocks of a tick (R18, R140, R312, R313) -/

@[simp] theorem Lane.closeVerdict_unchecked (n : Lane) : n.closeVerdict.unchecked = n.unchecked := by
  simp only [Lane.closeVerdict]; (repeat' split) <;> simp
@[simp] theorem Lane.closeVerdict_evt (n : Lane) : n.closeVerdict.main.evt = n.main.evt := by
  simp only [Lane.closeVerdict]; (repeat' split) <;> simp <;> rfl
/-- A verdict posted leaves the marks of the tick's checks, but that a dirty one is a reason to retry (R29). -/
theorem Lane.closeVerdict_check (n : Lane) : n.closeVerdict.main.check = { n.main.check with
    verdict := 0, retry := n.closeVerdict.main.check.retry } ∧ (n.main.check.retry ≠ none → n.closeVerdict.main.check.retry ≠ none) := by
  simp only [Lane.closeVerdict]
  split
  · next h => exact ⟨by rw [← h], id⟩
  · split
    · exact ⟨rfl, id⟩
    · rw [Lane.askRetry_check]
      refine ⟨rfl, fun h => ?_⟩
      split
      · simp
      · exact h

/-- A lane in its tick work before it posts (R305). -/
def Lane.beforePosts (n : Lane) (l : LaneId) (ups : List Upset) : Lane :=
  let n := n.busSteps.onMain (fun m => { m with time := { m.time with tmax := max m.time.tmax (Config.workTime 0 l.idx m.time.tick % 65536) } })
  let n := ((n.runTick l ups).supervise).motorTick l
  let n := if procLane l then n.foldWordsOf ups
    else n.onMain (fun m => { m with engCount := m.canvas.engineEntries (m.time.tick % 8) })
  (ups.foldl (Lane.upset l) n).compareSlots l ups

/-- A lane in its tick work that has posted. -/
def Lane.posts (n : Lane) (l : LaneId) (ups : List Upset) : Lane := allUnits.foldl (Lane.postUnit l ups) (n.beforePosts l ups)

@[simp] theorem Lane.beforePosts_clock (n : Lane) (l : LaneId) : (n.beforePosts l []).clock = n.clock := by
  simp only [Lane.beforePosts, List.foldl_nil]; split <;> simp

/-- What tick work does after the posts. -/
theorem Lane.tickWork_posts (n : Lane) (l : LaneId) (ups : List Upset) : ∃ store, n.tickWork l ups =
    (((n.posts l ups).onMain (fun m => { m with store := store })).onCheck (fun c => { c with worked := true })).closeVerdict := ⟨_, rfl⟩

end Sys2Proof.Machine

namespace Sys2Proof.Machine
open Sys2Proof

/-! ## Posting the ten blocks (R18, R140, R310-R313) -/

/-- What the steps of a fold keep, and what one element's step reaches where that holds and no other element's step undoes, holds after it. -/
theorem foldl_reaches_of {α β : Type} {f : β → α → β} {I P : β → Prop} {x : α} {xs : List α} (hx : x ∈ xs) {b : β} (hb : I b)
    (hI : ∀ b y, I b → I (f b y)) (hf : ∀ b, I b → P (f b x)) (hk : ∀ b y, y ≠ x → P b → P (f b y)) : P (xs.foldl f b) := by
  obtain ⟨before, after, rfl⟩ := List.append_of_mem hx
  rw [List.foldl_append, List.foldl_cons]
  have hI' : I (before.foldl f b) := before.foldlRecOn (motive := I) f hb fun b hb y _ => hI b y hb
  refine (after.foldlRecOn (motive := fun b => I b ∧ P b) f ⟨hI _ _ hI', hf _ hI'⟩ fun b hb y _ => ⟨hI b y hb.1, ?_⟩).2
  by_cases hy : y = x
  · rw [hy]; exact hf b hb.1
  · exact hk b y hy hb.2

/-- What posting reads of a lane: its clock and its two buffers of words. -/
def Lane.outputs (n : Lane) : (DomState × LState × Nat × Mode) × Ten (List Int) × Ten (List Int) × List Nat :=
  (n.clock, n.main.words, n.main.mwords, n.main.nans)

@[simp] theorem Lane.post_outputs (n : Lane) (u : UnitId) (b : Option Bytes) : (n.post u b).outputs = n.outputs := rfl
@[simp] theorem Lane.blockMismatch_outputs (l : LaneId) (n : Lane) (u : UnitId) : (n.blockMismatch l u).outputs = n.outputs := by
  have h := Lane.mismatch_unchecked n l 1 0 u.code (n.main.canvas.outputCore l u.code)
  rw [Lane.blockMismatch, Lane.post_outputs]
  exact (congrArg Lane.outputs h : _)
@[simp] theorem Lane.postUnit_outputs (l : LaneId) (ups : List Upset) (n : Lane) (u : UnitId) : (Lane.postUnit l ups n u).outputs = n.outputs := by
  unfold Lane.postUnit
  split
  · rfl
  · split <;> simp

theorem mem_allUnits (u : UnitId) : u ∈ allUnits := by rcases u with i | f | x <;> [cases i; cases f; cases x] <;> decide

theorem Lane.blockMatches_of_outputs {m n : Lane} (h : m.outputs = n.outputs) (u : UnitId) : m.blockMatches [] u = n.blockMatches [] u := by
  simp only [Lane.outputs, Prod.mk.injEq] at h
  obtain ⟨-, words, mwords, nans⟩ := h
  simp only [Lane.blockMatches, words, mwords, nans]

theorem Lane.computing_of_clock {m n : Lane} (h : m.clock = n.clock) : m.computing = n.computing := by
  simp only [Lane.clock, Prod.mk.injEq] at h
  obtain ⟨dom, state, -⟩ := h
  simp only [Lane.computing, dom, state]

/-- One unit's post touches no other unit. -/
theorem Lane.postUnit_other (l : LaneId) (ups : List Upset) (n : Lane) {u v : UnitId} (h : u ≠ v) :
    (Lane.postUnit l ups n v).main.units.get u = n.main.units.get u := by
  have mismatch := Lane.main_of_unchecked (Lane.mismatch_unchecked n l 1 0 v.code (n.main.canvas.outputCore l v.code))
  unfold Lane.postUnit
  split
  · simp [Lane.post, Lane.onMain, Lane.onCheck, Ten.get_set_other _ _ _ _ h]
  · split
    · rw [Lane.blockMismatch, Lane.post, Lane.onMain, mismatch]
      simp [Ten.get_set_other _ _ _ _ h]
    · simp [Lane.post, Lane.onMain, Ten.get_set_other _ _ _ _ h]

/-- A block not posted in time (R140). -/
theorem Lane.posts_late {l : LaneId} {ups : List Upset} {u : UnitId} (hu : Upset.late u ∈ ups) (n : Lane) :
    ((n.posts l ups).main.units.get u).posted = none := by
  refine foldl_reaches_of (P := fun b : Lane => (b.main.units.get u).posted = none) (I := fun _ => True) (mem_allUnits u) trivial (fun _ _ _ => trivial) (fun m _ => ?_) (fun m v hv hm => ?_)
  · rw [Lane.postUnit, if_pos (List.contains_iff_mem.mpr hu)]
    simp [Lane.post, Lane.onMain]
  · rw [Lane.postUnit_other l ups m (Ne.symm hv)]; exact hm

section inTime
variable {n : Lane} {l : LaneId}

/-- What posts in time leave of what they read. -/
theorem Lane.posts_outputs (n : Lane) (l : LaneId) (ups : List Upset) : (n.posts l ups).outputs = (n.beforePosts l ups).outputs :=
  List.foldlRecOn _ _ (motive := fun m : Lane => m.outputs = (n.beforePosts l ups).outputs) rfl
    fun m hm u _ => (Lane.postUnit_outputs l ups m u).trans hm

/-- A block whose two buffers are alike, or that has one buffer, is posted as it stands (R140, R310). -/
theorem Lane.posts_block {u : UnitId} (h : privUnit l u = true → (n.posts l []).blockMatches [] u = true) :
    ∃ m : Lane, m.clock = n.clock ∧ ((n.posts l []).main.units.get u).posted = some (m.blockFor l (m.main.words.get u)) := by
  refine foldl_reaches_of (P := fun b : Lane => ∃ m : Lane, m.clock = n.clock ∧ (b.main.units.get u).posted = some (m.blockFor l (m.main.words.get u)))
    (I := fun b : Lane => b.outputs = (n.beforePosts l []).outputs) (mem_allUnits u) rfl
    (fun b v hb => (Lane.postUnit_outputs l [] b v).trans hb) (fun b hb => ⟨b, ?_, ?_⟩) (fun b v hv hb => ?_)
  · exact (congrArg Prod.fst hb).trans (Lane.beforePosts_clock n l)
  · have posted : Lane.postUnit l [] b u = b.post u (some (b.blockFor l (b.main.words.get u))) := by
      rw [Lane.postUnit, if_neg (by simp), if_neg]
      rintro ⟨priv, no⟩
      exact no ((Lane.blockMatches_of_outputs (hb.trans (Lane.posts_outputs n l []).symm) u).trans (h priv))
    simp [posted, Lane.post, Lane.onMain]
  · rw [Lane.postUnit_other l [] b (Ne.symm hv)]; exact hb

/-- The marks of a privileged block that is withheld (R312, R313, R316). -/
def Mismatched (u : UnitId) (m : Lane) : Prop :=
  (m.main.units.get u).posted = none ∧ m.main.check.withdraw = true ∧ m.main.check.retry ≠ none ∧ m.main.evt.status.testBit 128 = true

theorem Lane.blockMismatch_mismatched (hl : l ≠ .c) {m : Lane} (hc : m.computing = true) (u : UnitId) : Mismatched u (m.blockMismatch l u) := by
  have computes : (m.onMem (fun g => { g with lastmm := lastMm 1 0 u.code (m.main.canvas.outputCore l u.code), mirn := satAdd 16 g.mirn 1 })).computing = true := hc
  refine ⟨by simp [Lane.blockMismatch, Lane.post, Lane.onMain], ?_, ?_, ?_⟩
  · simp only [Lane.blockMismatch, Lane.post, Lane.onMain, Lane.mismatch, Lane.failEvent_check]
  · simp [Lane.blockMismatch, Lane.post, Lane.onMain, Lane.mismatch, Lane.failEvent_check, computes]
  · simp only [Lane.blockMismatch, Lane.post, Lane.onMain, Lane.mismatch, Lane.failEvent_evt]
    exact Lane.event_status_set _ _ _ (evtDefault_mirror hl)

/-- They stay as the other blocks are posted. -/
theorem Mismatched.postUnit {u v : UnitId} {m : Lane} (hv : v ≠ u) (h : Mismatched u m) : Mismatched u (Lane.postUnit l [] m v) := by
  obtain ⟨posted, withdraw, retry, status⟩ := h
  refine ⟨by rwa [Lane.postUnit_other l [] m (Ne.symm hv)], ?_⟩
  rw [Lane.postUnit, if_neg (by simp)]
  split
  · simp only [Lane.blockMismatch, Lane.post, Lane.onMain, Lane.mismatch, Lane.failEvent_check, Lane.failEvent_evt]
    refine ⟨trivial, ?_, Lane.event_status_kept _ _ _ status⟩
    split
    · simp
    · exact retry
  · exact ⟨withdraw, retry, status⟩

theorem Lane.posts_mismatched (hl : l ≠ .c) (hc : n.computing = true) {i : IslandId} (h : (n.posts l []).blockMatches [] (.isl i) = false) :
    Mismatched (.isl i) (n.posts l []) := by
  refine foldl_reaches_of (I := fun b : Lane => b.outputs = (n.beforePosts l []).outputs) (mem_allUnits (.isl i)) rfl
    (fun b v hb => (Lane.postUnit_outputs l [] b v).trans hb) (fun b hb => ?_) (fun b v hv hb => hb.postUnit hv)
  have clock : b.clock = n.clock := (congrArg Prod.fst hb).trans (Lane.beforePosts_clock n l)
  have differs : b.blockMatches [] (.isl i) = false :=
    (Lane.blockMatches_of_outputs (hb.trans (Lane.posts_outputs n l []).symm) _).trans h
  rw [Lane.postUnit, if_neg (by simp), if_pos ⟨by simp [privUnit, procLane, hl], by simp [differs]⟩]
  exact Lane.blockMismatch_mismatched hl ((Lane.computing_of_clock clock).trans hc) _

end inTime

/-- After the posts, tick work notes itself done and counts a verdict. -/
theorem Lane.tickWork_after (n : Lane) (l : LaneId) (ups : List Upset) :
    (n.tickWork l ups).outputs = (n.posts l ups).outputs ∧ (n.tickWork l ups).main.units = (n.posts l ups).main.units ∧
      (n.tickWork l ups).main.evt = (n.posts l ups).main.evt ∧ (n.tickWork l ups).main.check.worked = true ∧
      (n.tickWork l ups).main.check.withdraw = (n.posts l ups).main.check.withdraw ∧
      ((n.posts l ups).main.check.retry ≠ none → (n.tickWork l ups).main.check.retry ≠ none) := by
  obtain ⟨store, h⟩ := Lane.tickWork_posts n l ups
  rw [h]
  generalize hm : ((n.posts l ups).onMain (fun m => { m with store := store })).onCheck (fun c => { c with worked := true }) = m
  have closed := Lane.closeVerdict_unchecked m
  have main := Lane.main_of_unchecked closed
  obtain ⟨check, retry⟩ := Lane.closeVerdict_check m
  refine ⟨(congrArg Lane.outputs closed :).trans (by rw [← hm]; rfl), by rw [main, ← hm]; rfl, by rw [Lane.closeVerdict_evt, ← hm]; rfl,
    by rw [check, ← hm]; rfl, by rw [check, ← hm]; rfl, fun h => retry (by rw [← hm]; exact h)⟩

theorem execTickWorkStart_run {s : State} {l : LaneId} (hc : (s.lanes.get l).computing = true) (ups : List Upset) :
    exec (.tickWorkStart l ups) s = .next (s.setLane l (((s.lanes.get l).raiseLine l 10).tickWork l ups)) := by
  have awake : (s.lanes.get l).awake = true := by
    simp only [Lane.computing, Lane.awake, Bool.and_eq_true, decide_eq_true_eq] at hc ⊢
    obtain ⟨on, h | h⟩ := hc <;> simp [on, h]
  have computes : ((s.lanes.get l).raiseLine l 10).computing = true := (Lane.computing_of_clock (Lane.raiseLine_clock _ _ _)).trans hc
  simp only [exec, execTickWorkStart, awake, if_true, computes]

/-- Settles O30: the blocks are those of the fold of posts, whose marks the end of tick work keeps. -/
theorem tickWorkPostsBlocks : Obligations.TickWorkPostsBlocks := by
  unfold Obligations.TickWorkPostsBlocks
  refine fun s l hc => ⟨fun ht => ?posts, fun ups u hu => ?late⟩
  case late =>
    refine ⟨_, execTickWorkStart_run hc ups, onlyLane_setLane _ _ _, ?_⟩
    obtain ⟨-, units, -⟩ := Lane.tickWork_after ((s.lanes.get l).raiseLine l 10) l ups
    simp only [State.setLane_lanes, Tri.get_set_same, units]
    exact Lane.posts_late hu _
  case posts =>
    refine ⟨_, execTickWorkStart_run hc [], onlyLane_setLane _ _ _, ?_⟩
    simp only [State.setLane_lanes, Tri.get_set_same]
    generalize hn : (s.lanes.get l).raiseLine l 10 = n
    have raised : n.clock = (s.lanes.get l).clock := by rw [← hn, Lane.raiseLine_clock]
    obtain ⟨outputs, units, evt, worked, withdraw, retry⟩ := Lane.tickWork_after n l []
    have clock : (n.tickWork l []).clock = (s.lanes.get l).clock :=
      (congrArg Prod.fst (outputs.trans (Lane.posts_outputs n l []))).trans ((Lane.beforePosts_clock n l).trans raised)
    refine ⟨worked, congrArg (fun x => x.2.1) clock, by rw [Lane.tickWork_mem, ← hn, Lane.raiseLine_mem], fun u hu => ?_, fun i hl hi => ?_⟩
    · have alike : privUnit l u = true → (n.posts l []).blockMatches [] u = true := by
        intro priv
        rw [← Lane.blockMatches_of_outputs outputs]
        cases u with
        | isl i =>
          obtain ⟨words, nans⟩ := hu i rfl (by simpa [privUnit, procLane] using priv)
          simp [Lane.blockMatches, words, nans]
        | fb f => simp [privUnit] at priv
        | sio x => simp [privUnit] at priv
      obtain ⟨m, hm, hb⟩ := Lane.posts_block alike
      rw [units, hb]
      have hclock := hm.trans raised
      simp only [Lane.clock, Prod.mk.injEq] at hclock
      obtain ⟨-, -, tick, mode⟩ := hclock
      refine ⟨_, rfl, cmdBytes_length _ _ _ _ _ _ _ _, ?_, ?_⟩
      · rw [← tick]; exact cmdBytes_tick _ _ _ _ _ _ _ _ (tick ▸ ht)
      · rw [← mode, Lane.blockFor, cmdBytes_byte4]
        exact Nat.mod_eq_of_lt (by cases l <;> cases m.main.mode.mode <;> decide)
    · obtain ⟨posted, hw, hr, status⟩ := Lane.posts_mismatched (n := n) hl ((Lane.computing_of_clock raised).trans hc) (i := i) (by
        rw [← Lane.blockMatches_of_outputs outputs]
        rcases hi with h | h <;> simp [Lane.blockMatches, h])
      exact ⟨by rw [units, posted], by rw [withdraw, hw], retry hr, by rw [evt, status]⟩

end Sys2Proof.Machine

namespace Sys2Proof.Machine
open Sys2Proof

/-! ## Lane C's inhibit lines (R35, R45) -/

/-- A change of the inhibit line leaves the common part but for an event, and the clock. -/
theorem setInhibit_rest (i : IslandId) (p : IslPair) (on : Bool) :
    (setInhibit i p on).1.quiet = p.1.quiet ∧ (setInhibit i p on).2.clockLost = p.2.clockLost := by
  unfold setInhibit
  split
  · exact ⟨rfl, rfl⟩
  · split
    · refine ⟨by simp, ?_⟩
      simp only [raiseCause_island, settleSw_clockLost, raised_clockLost]
      split <;> rfl
    · exact ⟨rfl, by simp [freeCause, dropCause]⟩

/-- The line an island then sees. -/
theorem setInhibit_inhibit (i : IslandId) (p : IslPair) (on : Bool) : (setInhibit i p on).2.inhibit = on := by
  unfold setInhibit
  split
  · next h => exact h.symm
  · next h =>
    split
    · next ho => simp [raiseCause_island, ho]
    · next ho => simp [freeCause, dropCause, ho]

/-- One island sees the level of lane C's inhibit line. -/
def State.seeInhibit (s : State) (i : IslandId) : State :=
  s.ifRuns (.isl i) (fun s => s.putIsl i (setInhibit i (s.islPair i) s.inhibitLevel))

theorem State.syncInhibit_fold (s : State) : s.syncInhibit = allIslands.foldl State.seeInhibit s := rfl

/-- What it leaves: the lanes, the common parts but for events, and which units run. -/
theorem State.seeInhibit_rest (s : State) (i : IslandId) : (s.seeInhibit i).lanes = s.lanes ∧
    (∀ u, ((s.seeInhibit i).ucom.get u).quiet = (s.ucom.get u).quiet) ∧
    ∀ k, ((s.seeInhibit i).isl.get k).clockLost = (s.isl.get k).clockLost := by
  unfold State.seeInhibit State.ifRuns
  split
  · obtain ⟨quiet, clock⟩ := setInhibit_rest i (s.islPair i) s.inhibitLevel
    refine ⟨rfl, fun u => ?_, fun k => ?_⟩
    · by_cases hu : u = .isl i
      · subst hu; simpa using quiet
      · simp [Ten.get_set_other _ _ _ _ hu]
    · by_cases hk : k = i
      · subst hk; simpa using clock
      · simp [Six.get_set_other _ _ _ _ hk]
  · exact ⟨rfl, fun _ => rfl, fun _ => rfl⟩

/-- A unit's domain is no matter of its events. -/
theorem UnitCommon.dom_of_quiet {c d : UnitCommon} (h : d.quiet = c.quiet) : d.dom = c.dom := show d.quiet.dom = c.quiet.dom by rw [h]

theorem State.syncInhibit_quiet (s : State) (u : UnitId) : (s.syncInhibit.ucom.get u).quiet = (s.ucom.get u).quiet :=
  List.foldlRecOn (motive := fun t : State => (t.ucom.get u).quiet = (s.ucom.get u).quiet) _ _ rfl
    fun t ht i _ => (((State.seeInhibit_rest t i).2.1 u).trans ht :)

/-- Every running island sees the level as it is (R35). -/
theorem State.syncInhibit_level (s : State) (i : IslandId) (h : s.runs (.isl i) = true) :
    (s.syncInhibit.isl.get i).inhibit = s.inhibitLevel := by
  rw [State.syncInhibit_fold]
  refine foldl_reaches_of (x := i) (I := fun t : State => t.lanes = s.lanes ∧ (t.ucom.get (.isl i)).dom = (s.ucom.get (.isl i)).dom ∧
    (t.isl.get i).clockLost = (s.isl.get i).clockLost) (P := fun t : State => (t.isl.get i).inhibit = s.inhibitLevel)
    (by cases i <;> decide) ⟨rfl, rfl, rfl⟩ (fun t k ⟨lanes, dom, clock⟩ => ?_) (fun t ⟨lanes, dom, clock⟩ => ?_) (fun t k hk ht => ?_)
  · obtain ⟨lanes', quiet, clock'⟩ := State.seeInhibit_rest t k
    exact ⟨lanes'.trans lanes, (UnitCommon.dom_of_quiet (quiet _)).trans dom, (clock' i).trans clock⟩
  · have runs : t.runs (.isl i) = true := by simpa only [State.runs, dom, clock] using h
    rw [State.seeInhibit, State.ifRuns, if_pos runs]
    simp only [State.putIsl_isl, Six.get_set_same, setInhibit_inhibit, State.inhibitLevel, lanes]
  · rw [State.seeInhibit, State.ifRuns]
    split
    · simpa [Six.get_set_other _ _ _ _ (Ne.symm hk)] using ht
    · exact ht

/-! ## Controlled stops and HALT (R35, R41, R42, R44) -/

theorem Lane.awake_of_computing {n : Lane} (h : n.computing = true) : n.awake = true := by
  simp only [Lane.computing, Lane.awake, Bool.and_eq_true, decide_eq_true_eq] at h ⊢
  obtain ⟨on, h | h⟩ := h <;> simp [on, h]

/-- A lane that is awake and enters HALT is held there; lane C then asserts its lines. -/
theorem haltedIn_halt {s : State} {l : LaneId} {n : Lane} (h : n.awake = true) : haltedIn l s ((s.setLane l n.halt).syncInhibit) := by
  unfold haltedIn
  simp only [State.syncInhibit_lanes, State.syncInhibit_polvin, State.setLane_lanes, Tri.get_set_same, State.setLane_polvin]
  refine ⟨rfl, rfl, rfl, rfl, fun k hk => Tri.get_set_other _ _ _ _ hk, trivial, fun hl i hi => ?_⟩
  subst hl
  rw [State.syncInhibit_level (s.setLane .c n.halt) i hi]
  simp only [Lane.awake, Bool.and_eq_true, decide_eq_true_eq] at h
  obtain ⟨⟨on, notOff⟩, notRetired⟩ := h
  exact Bool.and_eq_true_iff.mpr ⟨decide_eq_true ⟨on, notOff, notRetired⟩, rfl⟩

/-- The start-up rule put to a lane again leaves all but its mode (R391). -/
theorem Lane.startsAnew_rest (n : Lane) (b : Bool) : ∃ m, n.startsAnew b = n.onMode (fun _ => m) ∧
    (n.main.mode.mode = .none → n.main.mode.started = false → m.mode = .none ∧ m.started = false ∧ m.startMs = n.main.mode.startMs) := by
  simp only [Lane.startsAnew]
  split
  · exact ⟨_, rfl, fun _ _ => ⟨rfl, rfl, rfl⟩⟩
  · exact ⟨n.main.mode, rfl, fun h h' => ⟨h, h', rfl⟩⟩

/-- Settles O32: the rows end in `halt` where their conditions hold, which the start-up rule put anew leaves as they are. -/
theorem stopsAndHalt : Obligations.StopsAndHalt := by
  unfold Obligations.StopsAndHalt
  intro s l
  obtain ⟨m, anew, start⟩ := Lane.startsAnew_rest (s.lanes.get l) s.polvin.ipub.isNone
  refine ⟨fun hc hm ht => ?limit, fun hc hstop hslow => ?standstill, fun hw hr hp hm hst hsm hms => ?timeout, fun h => ?kept⟩
  case limit => exact congrArg Host.Outcome.next (if_pos (by simp [hc, hm, ht]))
  case standstill => exact ⟨_, congrArg Host.Outcome.next (if_pos ⟨hc, hstop, hslow⟩), haltedIn_halt (Lane.awake_of_computing hc)⟩
  case timeout =>
    obtain ⟨mode, started, startMs⟩ := start hm hst
    refine ⟨_, congrArg Host.Outcome.next (if_pos ?_), haltedIn_halt ?_⟩
    · rw [anew]; exact ⟨hw, hr, hp, mode, by simp [Lane.onMode, started], (congrArg (· + _) startMs).trans_le hms, hsm⟩
    · rw [anew]; exact hw
  case kept =>
    refine congrArg Host.Outcome.next (if_neg ?_)
    rw [anew]
    rintro ⟨-, -, pll, -, -, -, few⟩
    rcases h with h | h
    · exact absurd pll (by simp [Lane.onMode, h])
    · exact h few

end Sys2Proof.Machine

namespace Sys2Proof.Machine
open Sys2Proof

/-! ## What a log entry, the end of a session and a plane that stops leave alone (R280, R338, R355) -/

section log
variable (s : State) (w : Option Writer) (action code arg : Nat) (chash : Bytes)

/-- A log entry is a change of the Polvin core. -/
theorem State.logAs_polvin : ∃ p : Polvin, s.logAs w action code arg chash = { s with polvin := p } ∧ p.dom = s.polvin.dom ∧
    p.retired = s.polvin.retired ∧ p.ipub = s.polvin.ipub ∧ p.clrWait = s.polvin.clrWait := by
  have folded : s.polvin.fold.dom = s.polvin.dom ∧ s.polvin.fold.retired = s.polvin.retired ∧ s.polvin.fold.ipub = s.polvin.ipub ∧
      s.polvin.fold.clrWait = s.polvin.clrWait := by
    unfold Polvin.fold; split <;> exact ⟨rfl, rfl, rfl, rfl⟩
  simp only [State.logAs]
  split
  · exact ⟨_, rfl, rfl, rfl, rfl, rfl⟩
  · split
    · exact ⟨_, rfl, rfl, rfl, rfl, rfl⟩
    · exact ⟨_, rfl, folded⟩

@[simp] theorem State.logAs_lanes : (s.logAs w action code arg chash).lanes = s.lanes := by
  obtain ⟨p, h, -⟩ := s.logAs_polvin w action code arg chash; rw [h]
@[simp] theorem State.logAs_ucom : (s.logAs w action code arg chash).ucom = s.ucom := by
  obtain ⟨p, h, -⟩ := s.logAs_polvin w action code arg chash; rw [h]
@[simp] theorem State.logAs_dom : (s.logAs w action code arg chash).polvin.dom = s.polvin.dom := by
  obtain ⟨p, h, hp, -⟩ := s.logAs_polvin w action code arg chash; rw [h, ← hp]
@[simp] theorem State.logAs_retired : (s.logAs w action code arg chash).polvin.retired = s.polvin.retired := by
  obtain ⟨p, h, -, hp, -⟩ := s.logAs_polvin w action code arg chash; rw [h, ← hp]
@[simp] theorem State.logAs_clrWait : (s.logAs w action code arg chash).polvin.clrWait = s.polvin.clrWait := by
  obtain ⟨p, h, -, -, -, hp⟩ := s.logAs_polvin w action code arg chash; rw [h, ← hp]

end log

/-- A lane that is told of the end of a session (R338). -/
def Lane.told (n : Lane) (ended : Option Nat) : Lane := n.onOffice (fun o => { o with endedPeer := ended })

/-- A session that ends tells each lane, and changes no more of it. -/
theorem State.sessionDown_lane (s : State) (k : LaneId) : ∃ p, s.sessionDown.lanes.get k = (s.lanes.get k).told p := by
  by_cases h : s.port.up = true
  · exact ⟨s.port.peer, by cases k <;> simp [State.sessionDown, h, Tri.map, Tri.get, Lane.told, Lane.onOffice]⟩
  · exact ⟨(s.lanes.get k).main.office.endedPeer, by cases k <;> simp [State.sessionDown, h, Tri.map, Tri.get, Lane.told, Lane.onOffice, Lane.onMain]⟩
@[simp] theorem State.sessionDown_polvin (s : State) : s.sessionDown.polvin = s.polvin := rfl
@[simp] theorem State.sessionDown_ucom (s : State) : s.sessionDown.ucom = s.ucom := rfl

/-- The plane of a lane that stops: its trunk, segments and PHY (R386). -/
def Lane.planeless (n : Lane) : Lane :=
  (n.onNet (fun m => { m with trunkUp := false, segUp := 0 })).onPwr (fun p => { p with phy := .off })

theorem State.planeDown_own (s : State) (l : LaneId) : ∃ p, (s.planeDown l).lanes.get l = (s.lanes.get l).planeless.told p := by
  have none : (s.lanes.get l).planeless = (s.lanes.get l).planeless.told (s.lanes.get l).main.office.endedPeer := rfl
  simp only [State.planeDown]
  split
  · obtain ⟨p, h⟩ := State.sessionDown_lane (s.setLane l (s.lanes.get l).planeless) l
    exact ⟨p, h.trans (by simp)⟩
  · exact ⟨_, (by simp; rfl : _ = (s.lanes.get l).planeless).trans none⟩

theorem State.planeDown_other (s : State) {l k : LaneId} (hk : k ≠ l) : ∃ p, (s.planeDown l).lanes.get k = (s.lanes.get k).told p := by
  simp only [State.planeDown]
  split
  · obtain ⟨p, h⟩ := State.sessionDown_lane (s.setLane l (s.lanes.get l).planeless) k
    exact ⟨p, h.trans (by simp [Tri.get_set_other _ _ _ _ hk])⟩
  · exact ⟨(s.lanes.get k).main.office.endedPeer, by simp [Tri.get_set_other _ _ _ _ hk]; rfl⟩
@[simp] theorem State.planeDown_polvin (s : State) (l : LaneId) : (s.planeDown l).polvin = s.polvin := by
  simp only [State.planeDown]; split <;> rfl
@[simp] theorem State.planeDown_ucom (s : State) (l : LaneId) : (s.planeDown l).ucom = s.ucom := by
  simp only [State.planeDown]; split <;> rfl

/-! ## A lane whose main domain goes down (R37, R47, R67, R387) -/

/-- One unit after another changed, each once: every unit has changed by itself. -/
theorem foldl_setUnit_get (f : UnitId → UnitCommon → UnitCommon) (us : List UnitId) (hn : us.Nodup) (s : State) (u : UnitId) :
    (us.foldl (fun s v => s.setUnit v (f v (s.ucom.get v))) s).ucom.get u = if u ∈ us then f u (s.ucom.get u) else s.ucom.get u := by
  induction us generalizing s with
  | nil => rfl
  | cons v us ih =>
    obtain ⟨hnot, hn⟩ := List.nodup_cons.mp hn
    rw [List.foldl_cons, ih hn]
    by_cases hu : u = v
    · simp [hu, hnot]
    · simp [hu, Ten.get_set_other _ _ _ _ hu]

theorem State.linksDown_outside (s : State) (l : LaneId) : (s.linksDown l).lanes = s.lanes ∧ (s.linksDown l).polvin = s.polvin := by
  rw [State.linksDown]
  exact List.foldlRecOn (motive := fun t : State => t.lanes = s.lanes ∧ t.polvin = s.polvin) _ _ ⟨rfl, rfl⟩ fun _ ht _ _ => ht
@[simp] theorem State.linksDown_lanes (s : State) (l : LaneId) : (s.linksDown l).lanes = s.lanes := (s.linksDown_outside l).1
@[simp] theorem State.linksDown_polvin (s : State) (l : LaneId) : (s.linksDown l).polvin = s.polvin := (s.linksDown_outside l).2
theorem State.linksDown_unit (s : State) (l : LaneId) (u : UnitId) : (s.linksDown l).ucom.get u =
    (s.ucom.get u).setLink l (lostLink ((s.ucom.get u).links.get l)) := by
  have each := foldl_setUnit_get (fun _ c => c.setLink l (lostLink (c.links.get l))) allUnits (by decide) s u
  rwa [if_pos (mem_allUnits u)] at each

/-- What is left of a lane that is down in a state and a domain: its always-on domain and what lies in flash. -/
def Lane.down (n : Lane) (st : LState) (dom : DomState) : Lane :=
  { n with state := st, dom := dom, main := {}, loader := n.loader.restart,
           aon := { n.aon with pwr := { n.aon.pwr with
             phy := .off, pll := false, sleepAt := none, cancelling := false, slept := false, firstMs := none, slot := none, pslot := none, replay := 0 } } }

section laneDown
variable (s : State) (l : LaneId) (st : LState) (dom : DomState)

@[simp] theorem State.laneDown_own : (s.laneDown l st dom).lanes.get l = (s.lanes.get l).down st dom := by
  obtain ⟨p, h⟩ := State.planeDown_own (s.linksDown l) l
  rw [State.linksDown_lanes] at h
  simp only [State.laneDown, State.syncInhibit_lanes, State.setLane_lanes, Tri.get_set_same, h]
  rfl

theorem State.laneDown_other {k : LaneId} (hk : k ≠ l) : ∃ p, (s.laneDown l st dom).lanes.get k = (s.lanes.get k).told p := by
  obtain ⟨p, h⟩ := State.planeDown_other (s.linksDown l) hk
  rw [State.linksDown_lanes] at h
  refine ⟨p, ?_⟩
  simp only [State.laneDown, State.syncInhibit_lanes, State.setLane_lanes, Tri.get_set_other _ _ _ _ hk, h]

@[simp] theorem State.laneDown_polvin : (s.laneDown l st dom).polvin = s.polvin := by simp [State.laneDown]

/-- Its ten links are down; no other link, and no unit's domain, changes. -/
theorem State.laneDown_quiet (u : UnitId) : ((s.laneDown l st dom).ucom.get u).quiet =
    ((s.ucom.get u).setLink l (lostLink ((s.ucom.get u).links.get l))).quiet := by
  rw [State.laneDown, State.syncInhibit_quiet]
  simp [State.linksDown_unit]

theorem State.laneDown_links (u : UnitId) : (((s.laneDown l st dom).ucom.get u).links.get l).up = false := by
  rw [UnitCommon.link_of_quiet (s.laneDown_quiet l st dom u)]
  simp [UnitCommon.setLink, lostLink]

end laneDown

end Sys2Proof.Machine

namespace Sys2Proof.Machine
open Sys2Proof

/-! ## SERVICE entered and left (R46, R139, R337, R338) -/

/-- The latched flags of the other lanes are cleared, the entering lane's own are its own matter. -/
theorem State.serviceOthers_get (s : State) (l k : LaneId) :
    (s.serviceOthers l).lanes.get k = if k = l then s.lanes.get k else (s.lanes.get k).clearLatched := by
  cases l <;> cases k <;> rfl
theorem State.serviceOthers_polvin (s : State) (l : LaneId) : (s.serviceOthers l).polvin = s.polvin := by cases l <;> rfl

section serviceIn
variable (s : State) (l : LaneId) (w : Option Writer)

theorem State.serviceIn_own : (s.serviceIn l w).lanes.get l = (s.lanes.get l).enterService.portPhy l := by
  simp only [State.serviceIn]
  split <;> simp [State.serviceOthers_get]

/-- The first lane to enter takes the others' latched flags with it. -/
theorem State.serviceIn_other {k : LaneId} (hk : k ≠ l) : (s.serviceIn l w).lanes.get k =
    if allLanes.all (fun x => !(s.lanes.get x).inService) = true then (s.lanes.get k).clearLatched else s.lanes.get k := by
  simp only [State.serviceIn]
  split <;> simp [State.serviceOthers_get, hk, Tri.get_set_other _ _ _ _ hk]

theorem State.serviceIn_polvin : (s.serviceIn l w).polvin.dom = s.polvin.dom ∧ (s.serviceIn l w).polvin.retired = s.polvin.retired := by
  simp only [State.serviceIn]
  split <;> simp [State.serviceOthers_polvin]

/-- A lane that leaves SERVICE has no stream of register writes (R407). -/
def Lane.streamless (n : Lane) : Lane := n.onMain (fun m => { m with service := { m.service with stream := none } })

theorem State.serviceOut_own (f : Lane → Lane) : ∃ p, (s.serviceOut l w f).lanes.get l = (f (s.lanes.get l)).streamless.told p := by
  simp only [State.serviceOut]
  split
  · obtain ⟨p, h⟩ := State.sessionDown_lane ((s.setLane l (f (s.lanes.get l)).streamless).syncInhibit.serviceLeft) l
    exact ⟨p, by rw [State.logAs_lanes]; exact h.trans (by simp [State.serviceLeft])⟩
  · exact ⟨(f (s.lanes.get l)).main.office.endedPeer, by simp; rfl⟩

theorem State.serviceOut_polvin (f : Lane → Lane) :
    (s.serviceOut l w f).polvin.dom = s.polvin.dom ∧ (s.serviceOut l w f).polvin.retired = s.polvin.retired := by
  simp only [State.serviceOut]
  split <;> simp [State.serviceLeft]

end serviceIn

/-- No lane is in SERVICE, as the first entry asks. -/
theorem noneInService_iff (s : State) : allLanes.all (fun x => !(s.lanes.get x).inService) = true ↔ ∀ x, (s.lanes.get x).inService = false :=
  ⟨fun h x => by simpa using List.all_eq_true.mp h x (by cases x <;> decide), fun h => List.all_eq_true.mpr fun x _ => by simp [h x]⟩

/-- Settles O33: entry is `serviceIn`, refusal the count, and both exits `serviceOut` with the mode they give. -/
theorem serviceEntryAndExit : Obligations.ServiceEntryAndExit := by
  unfold Obligations.ServiceEntryAndExit
  intro s l who hc hw hp
  have holder : (s.lanes.get l).main.office.holder = some who := by
    simp only [Lane.serviceHolder, Bool.and_eq_true, decide_eq_true_eq] at hw
    exact hw.1
  refine ⟨fun hm hstop hslow hpark => ?entry, fun hslow => ?refused, fun hm => ⟨?exit, fun hv => ?sketch⟩⟩
  case entry =>
    refine ⟨s.serviceIn l (some (s.pathOf l who)), ?_, ?_⟩
    · refine congrArg Host.Outcome.next ((if_pos hw).trans ((if_neg (by simp [hc, hp])).trans (if_pos ⟨hm, by simp [hstop], hslow, hpark⟩)))
    · rw [State.serviceIn_own]
      have own : ∀ n : Lane, (n.portPhy l).main = n.main ∧ (n.portPhy l).aon.halt = n.aon.halt ∧ (n.portPhy l).aon.latched = n.aon.latched := by
        intro n; unfold Lane.portPhy; split <;> exact ⟨rfl, rfl, rfl⟩
      obtain ⟨main, halt, latched⟩ := own (s.lanes.get l).enterService
      rw [main, halt, latched]
      refine ⟨rfl, rfl, rfl, rfl, fun ⟨x, hx⟩ k hk => ?_, fun hnone k hk => ?_⟩
      · rw [State.serviceIn_other _ _ _ hk, if_neg]
        rw [noneInService_iff]
        exact fun h => absurd hx (by simp [h x])
      · rw [State.serviceIn_other _ _ _ hk, if_pos ((noneInService_iff s).mpr hnone)]
        exact ⟨rfl, rfl, rfl, rfl⟩
  case refused =>
    exact congrArg Host.Outcome.next ((if_pos hw).trans ((if_neg (by simp [hc, hp])).trans
      (if_neg fun h => absurd h.2.2.1 (Nat.not_le.mpr hslow))))
  case exit =>
    obtain ⟨p, h⟩ := State.serviceOut_own s l (some (s.pathOf l who))
      (fun n => n.onMode (fun m => { m with mode := (n.derived l).getD .none, park := false, started := true }))
    exact ⟨_, congrArg Host.Outcome.next ((if_pos holder).trans (if_pos ⟨hc, hm, hp⟩)), by rw [h]; exact ⟨rfl, rfl, rfl⟩⟩
  case sketch =>
    obtain ⟨p, h⟩ := State.serviceOut_own s l (some (s.pathOf l who)) Lane.enterSketch
    refine ⟨_, congrArg Host.Outcome.next ((if_pos ⟨hw, ?_⟩).trans (if_pos ⟨hc, hm, hp⟩)), by rw [h]; exact ⟨rfl, rfl, rfl, rfl⟩⟩
    exact hv.imp (by simp) id

end Sys2Proof.Machine

namespace Sys2Proof.Machine
open Sys2Proof

/-! ## A lane's start and reset (R37, R67, R325, R378, R387, R392) -/

/-- What decides whether a lane is still at BOOT: its state, whether it has read its retirement record, and its clock. -/
def Lane.bootKey (n : Lane) : LState × Bool × Bool := (n.state, n.loader.recRead, n.aon.pwr.pll)

/-- Lane `l` stands at BOOT in `t` as in `s`, and the Polvin core runs as it did and holds the same records of retirement. -/
def BootSame (l : LaneId) (s t : State) : Prop :=
  (t.lanes.get l).bootKey = (s.lanes.get l).bootKey ∧ t.polvin.dom = s.polvin.dom ∧ t.polvin.retired = s.polvin.retired

section boot
variable {s t : State} {l : LaneId}

theorem BootSame.refl (l : LaneId) (s : State) : BootSame l s s := ⟨rfl, rfl, rfl⟩

theorem BootSame.setLane {n : Lane} (h : BootSame l s t) (hn : n.bootKey = (t.lanes.get l).bootKey) : BootSame l s (t.setLane l n) := by
  obtain ⟨key, core⟩ := h
  exact ⟨by simpa using hn.trans key, core⟩

theorem BootSame.loader {f : Loader → Loader} (h : BootSame l s t) (hf : ∀ d, (f d).recRead = d.recRead) :
    BootSame l s (t.setLane l ((t.lanes.get l).onLoader f)) :=
  h.setLane (by simp [Lane.bootKey, Lane.onLoader, hf])

theorem BootSame.syncInhibit (h : BootSame l s t) : BootSame l s t.syncInhibit := by simpa [BootSame] using h

theorem BootSame.logEvent (h : BootSame l s t) (action code arg : Nat) (chash : Bytes) : BootSame l s (t.logEvent action code arg chash) := by
  simpa [BootSame, State.logEvent] using h

theorem BootSame.refuseImage (h : BootSame l s t) (r : Refuse) : BootSame l s (t.refuseImage l r) := by
  refine BootSame.logEvent ?_ _ _ _ _
  exact h.loader fun _ => rfl

/-- Whatever mode it boots in. -/
theorem BootSame.bootMode (h : BootSame l s t) (unsigned : Bool) : BootSame l s (t.bootMode l unsigned) := by
  obtain ⟨key, dom, retired⟩ := h
  simp only [State.bootMode]
  split
  · split
    · exact ⟨key, dom, retired⟩
    · obtain ⟨dom', retired'⟩ := State.serviceIn_polvin t l none
      refine ⟨?_, dom'.trans dom, retired'.trans retired⟩
      rw [State.serviceIn_own, ← key]
      unfold Lane.portPhy; split <;> rfl
  · split
    · split
      · obtain ⟨p, own⟩ := State.serviceOut_own t l none Lane.enterSketch
        obtain ⟨dom', retired'⟩ := State.serviceOut_polvin t l none Lane.enterSketch
        exact ⟨by rw [own, ← key]; rfl, dom'.trans dom, retired'.trans retired⟩
      · exact ⟨key, dom, retired⟩
    · split
      · exact (BootSame.setLane (n := (t.lanes.get l).halt) ⟨key, dom, retired⟩ rfl).syncInhibit
      · split
        · exact (BootSame.setLane (n := (t.lanes.get l).enterSketch) ⟨key, dom, retired⟩ rfl).syncInhibit
        · exact ⟨key, dom, retired⟩

theorem BootSame.bootPatch (l : LaneId) (s : State) : BootSame l s (s.bootPatch l) := by
  simp only [State.bootPatch]
  split
  · refine BootSame.logEvent ?_ _ _ _ _
    exact (BootSame.refl l s).loader fun _ => rfl
  · exact BootSame.refl _ _

/-- A lane stays at BOOT until it has read its retirement record (R37). -/
theorem Lane.leaveBoot_unread {n : Lane} (h : n.bootKey.2.1 = false) : n.leaveBoot = n :=
  if_neg fun hc => absurd hc.2.1 (by simpa [Lane.bootKey] using h)

theorem BootSame.bootImage (hr : (s.lanes.get l).bootKey.2.1 = false) : BootSame l s (s.bootImage l) := by
  have patched := BootSame.bootPatch l s
  simp only [State.bootImage]
  split
  · exact (patched.bootMode _).refuseImage _
  · have inMode := BootSame.bootMode (patched.loader (f := fun d => { d with
        ahash := hashBytes (imgHash ((s.bootPatch l).lanes.get l).loader.active), aepoch := imgEpoch ((s.bootPatch l).lanes.get l).loader.active,
        asigned := imgSigned ((s.bootPatch l).lanes.get l).loader.active }) fun _ => rfl)
      (!imgSigned ((s.bootPatch l).lanes.get l).loader.active && !(s.bootPatch l).polvin.varnish)
    split
    · exact inMode.loader fun _ => rfl
    · split
      · exact inMode.refuseImage _
      · refine BootSame.logEvent ?_ _ _ _ _
        refine inMode.setLane ((congrArg Lane.bootKey (Lane.leaveBoot_unread ?_)).trans rfl)
        exact (congrArg (fun k => k.2.1) inMode.1).trans hr

/-- The core wakes where it sleeps (R396). -/
theorem State.polvinWakes_dom (s : State) : s.polvinWakes.polvin.dom = (if s.polvin.dom = .off then .off else .on) := by
  simp only [State.polvinWakes]
  cases s.polvin.dom <;> rfl

/-- The retirement record read at BOOT (R37, R378). -/
theorem State.readRecord_state (hb : (s.lanes.get l).state = .boot) (hp : (s.lanes.get l).aon.pwr.pll = false)
    (hr : (s.lanes.get l).loader.recRead = false) :
    ((s.readRecord l).lanes.get l).state =
      if s.polvin.dom ≠ .off ∧ s.polvin.retired.testBit l.idx = true then .retired else .boot := by
  have dom := s.polvinWakes_dom
  have lanes : s.polvinWakes.lanes = s.lanes := rfl
  have retired : s.polvinWakes.polvin.retired = s.polvin.retired := rfl
  by_cases hd : s.polvin.dom = .off
  · have asleep : s.polvinWakes.polvin.dom ≠ .on := by simp [dom, hd]
    simp [State.readRecord, asleep, lanes, hb, hd]
  · have awake : s.polvinWakes.polvin.dom = .on := by simp [dom, hd]
    simp only [State.readRecord, lanes, hb, hr, awake, retired]
    by_cases ht : s.polvin.retired.testBit l.idx = true
    · simp [ht, hd, Lane.down, Lane.onAon]
    · have stays : ((s.lanes.get l).onLoader (fun d => { d with recRead := true })).leaveBoot =
          (s.lanes.get l).onLoader (fun d => { d with recRead := true }) :=
        if_neg fun hc => absurd hc.2.2.2.1 (by simp [Lane.onLoader, hp])
      rw [show (if s.polvin.dom ≠ .off ∧ s.polvin.retired.testBit l.idx = true then LState.retired else .boot) = .boot from
        if_neg fun h => ht h.2, if_neg (by simp), if_neg ht, stays]
      have kept : (((s.lanes.get l).onLoader (fun d => { d with recRead := true })).enterService.portPhy l).state = .boot := by
        unfold Lane.portPhy; split <;> exact hb
      split
      · rw [State.serviceIn_own, State.setLane_lanes, Tri.get_set_same]; exact kept
      · rw [State.setLane_lanes, Tri.get_set_same]; exact hb

/-- A commit taken wakes the core at most, and keeps its records of retirement (R99, R346). -/
theorem State.takeCommit_polvin (s : State) (l : LaneId) (h : Bytes) :
    ((s.takeCommit l h).polvin.dom = .off ↔ s.polvin.dom = .off) ∧ (s.takeCommit l h).polvin.retired = s.polvin.retired := by
  have recorded : ∀ (t : State) (e : Nat) (b : Bool), (t.commitRecord h e b).polvin.dom = t.polvin.dom ∧
      (t.commitRecord h e b).polvin.retired = t.polvin.retired := by
    intro t e b
    simp only [State.commitRecord]
    split
    · exact ⟨rfl, rfl⟩
    · (repeat' split) <;> simp [State.logEvent]
  obtain ⟨dom, retired⟩ := recorded s.polvinWakes (imgEpoch (s.lanes.get l).loader.pending) (imgSigned (s.lanes.get l).loader.pending)
  simp only [State.takeCommit, State.setLane_polvin, dom, retired, s.polvinWakes_dom]
  refine ⟨?_, rfl⟩
  split <;> simp [*]

/-- On its PLL a lane that holds its verdict goes on to TRANSLATE, but for a failed mask ROM and a record still to be read. -/
theorem Lane.leaveBoot_onPll {n : Lane} (hp : n.aon.pwr.pll = true) : n.leaveBoot = { n with
    state := if n.state = .boot ∧ n.loader.verified = true ∧ n.loader.retained = false ∧ n.loader.romBad = false ∧ n.loader.recRead = true
      then .translate else n.state } := by
  unfold Lane.leaveBoot
  by_cases h : n.state = .boot ∧ n.loader.verified = true ∧ n.loader.retained = false ∧ n.loader.romBad = false ∧ n.loader.recRead = true
  · obtain ⟨hb, hv, hr, hm, hrec⟩ := h
    simp [hb, hv, hr, hm, hrec, hp]
  · rw [if_neg h, if_neg fun ⟨hb, hrec, hm, _, hv, hr⟩ => h ⟨hb, hv, by simpa using hr, by simpa using hm, hrec⟩]

end boot

/-- Settles O34: the start goes through `bootImage`, which leaves the lane at BOOT, to the retirement record; a reset is `laneDown`. -/
theorem laneStartAndReset : Obligations.LaneStartAndReset := by
  unfold Obligations.LaneStartAndReset
  intro s l
  refine ⟨fun hoff hret hon => ?start, ?reset, fun hw => ?switch⟩
  case start =>
    refine ⟨_, congrArg Host.Outcome.next (if_pos ⟨hoff, hret, hon⟩), ?_⟩
    by_cases hf : (s.lanes.get l).aon.retired = true
    · rw [if_pos hf, if_pos (Or.inl hf), State.laneDown_own]
      rfl
    · rw [if_neg hf]
      extract_lets t n m _ b
      have core : (t.polvin.dom = .off ↔ s.polvin.dom = .off) ∧ t.polvin.retired = s.polvin.retired := by
        simp only [t]
        split
        · exact s.takeCommit_polvin l _
        · exact ⟨Iff.rfl, rfl⟩
      have unread : b.bootKey = (.boot, false, b.aon.pwr.pll) := by
        simp only [b, Lane.bootKey, Loader.activate]
        split <;> rfl
      generalize hp : (b.onPwr (fun p => { p with pll := false, src := setBit p.src 4 })) = o
      have key : o.bootKey = (.boot, false, false) := by rw [← hp]; exact congrArg (fun k => (k.1, k.2.1, false)) unread
      obtain ⟨same, dom, retired⟩ := BootSame.bootImage (s := t.setLane l o) (l := l) (by simp [key])
      simp only [State.setLane_lanes, Tri.get_set_same, State.setLane_polvin] at same dom retired
      obtain ⟨state, read, pll⟩ : _ ∧ _ ∧ _ := by simpa only [Lane.bootKey, Prod.mk.injEq] using same.trans key
      rw [State.readRecord_state state pll read, dom, retired, core.2]
      simp [hf, core.1]
  case reset =>
    refine ⟨_, rfl, by simp [Lane.down], by simp [Lane.down], fun u => State.laneDown_links _ _ _ _ u, fun k hk => ?_, State.laneDown_polvin _ _ _ _⟩
    obtain ⟨p, h⟩ := State.laneDown_other s l .off (if (s.lanes.get l).dom = .on then .on else .off) hk
    rw [h]; rfl
  case switch => exact congrArg Host.Outcome.next ((if_pos hw).trans (congrArg (s.setLane l) (Lane.leaveBoot_onPll rfl)))

end Sys2Proof.Machine

namespace Sys2Proof.Machine
open Sys2Proof

/-! ## The verdict on an image, and translation (R37, R84, R85, R87, R90, R91, R95) -/

/-- A lane that has refused an image stays as it was but for what its loader reports (R90). -/
theorem State.refuseImage_lanes (s : State) (l : LaneId) (r : Refuse) : (s.refuseImage l r).lanes =
    s.lanes.set l ((s.lanes.get l).onLoader (fun d => { d.report r with verdictDue := false })) := by
  simp [State.refuseImage, State.logLoad, State.logEvent]
theorem State.refuseImage_ucom (s : State) (l : LaneId) (r : Refuse) : (s.refuseImage l r).ucom = s.ucom := by
  simp [State.refuseImage, State.logLoad, State.logEvent]

/-- Leaving BOOT changes the state alone. -/
theorem Lane.leaveBoot_rest (n : Lane) : n.leaveBoot = { n with state := n.leaveBoot.state } := by
  unfold Lane.leaveBoot; split <;> rfl

/-- A lane takes the keys the core hands out, if it does, into its network state. -/
theorem State.keyShare_lanes (s : State) (l : LaneId) : ∃ f, (s.keyShare l).lanes = s.lanes.set l ((s.lanes.get l).onNet f) := by
  simp only [State.keyShare]
  split
  · exact ⟨_, rfl⟩
  · exact ⟨id, (show s.lanes.set l (s.lanes.get l) = s.lanes by simp).symm⟩

/-- A lane with its canvas loaded, but for keys it takes with it. -/
def Lane.loaded (n : Lane) (l : LaneId) : Lane := (n.carry l).onAon (fun a => { a with hash := n.loader.ahash, epoch := n.loader.aepoch })

theorem State.loaded_lanes (s : State) (l : LaneId) : ∃ f, (s.loaded l).lanes = s.lanes.set l (((s.lanes.get l).loaded l).onNet f) := by
  have entries : ∀ t : State, (t.polvinLoads l).lanes = t.lanes := by
    intro t; unfold State.polvinLoads; split <;> rfl
  obtain ⟨f, h⟩ := State.keyShare_lanes ((s.setLane l ((s.lanes.get l).loaded l)).polvinLoads l) l
  refine ⟨f, ?_⟩
  simp only [entries, State.setLane_lanes, Tri.get_set_same] at h
  simpa [State.loaded, State.logLoad, State.logEvent, Lane.loaded] using h

/-- The cache entry of a translation changes the cache and the marks of bad flash alone. -/
theorem Loader.cached_rest (d : Loader) (l : LaneId) (h code : Bytes) :
    d.cached l h code = { d with hit := false, cache := cacheWith d h code, bad := (d.cached l h code).bad } := by
  simp only [Loader.cached]
  split <;> rfl

/-- What translation leaves: all but the cache and an event. -/
theorem Lane.translate_rest (n : Lane) (l : LaneId) (im : Bytes) (read : Option Bytes) :
    (n.translate l im read).state = n.state ∧ (n.translate l im read).loader.ahash = n.loader.ahash ∧
      (n.translate l im read).loader.aepoch = n.loader.aepoch ∧ (n.translate l im read).loader.recordsDue = n.loader.recordsDue ∧
      (n.translate l im read).loader.active = n.loader.active ∧ (n.translate l im read).main.canvas = n.main.canvas := by
  have cached : ∀ h code, (n.loader.cached l h code).ahash = n.loader.ahash ∧ (n.loader.cached l h code).aepoch = n.loader.aepoch ∧
      (n.loader.cached l h code).recordsDue = n.loader.recordsDue ∧ (n.loader.cached l h code).active = n.loader.active := by
    intro h code; rw [Loader.cached_rest]; exact ⟨rfl, rfl, rfl, rfl⟩
  obtain ⟨hash, epoch, due, active⟩ := cached (hashBytes (imgHash im)) (Config.translation l.idx im)
  simp only [Lane.translate]
  split
  · exact ⟨rfl, rfl, rfl, rfl, rfl, rfl⟩
  · split
    · exact ⟨rfl, rfl, rfl, rfl, rfl, rfl⟩
    · split
      · split
        · exact ⟨rfl, rfl, rfl, rfl, rfl, rfl⟩
        · exact ⟨rfl, hash, epoch, due, active, rfl⟩
      · exact ⟨rfl, hash, epoch, due, active, rfl⟩

/-- Every lane has the source 19, POLVIN_LOST (R365). -/
theorem evtDefault_polvinLost (l : LaneId) : (evtDefault (laneKind l) 19).isSome = true := by cases l <;> rfl

/-- Settles O35: refusals are reported by the loader, and the load of a canvas that passes is `Lane.loaded`. -/
theorem verdictAndTranslation : Obligations.VerdictAndTranslation := by
  unfold Obligations.VerdictAndTranslation
  refine ⟨fun s l hw hb hd => ⟨fun hp => ?verdict, ?timeout⟩, fun s l cached kept hon ht hr => ?translation⟩
  case verdict =>
    refine ⟨_, congrArg Host.Outcome.next (if_pos ⟨hw, hb, hd, hp⟩), ?_⟩
    cases hv : verdictRefuse s.polvin (s.lanes.get l).loader.active with
    | none =>
      simp only []
      rw [Lane.leaveBoot_rest]
      refine ⟨by simp [Lane.onLoader], fun k hk => by simp [Tri.get_set_other _ _ _ _ hk], by simp [Lane.onLoader]⟩
    | some r =>
      simp only [State.refuseImage_lanes, Tri.get_set_same]
      exact ⟨rfl, fun k hk => Tri.get_set_other _ _ _ _ hk, hb, rfl, rfl⟩
  case timeout =>
    refine ⟨_, congrArg Host.Outcome.next (if_pos ⟨hw, hb, hd⟩), fun k hk => ?_, State.refuseImage_ucom _ _ _, ?_⟩
    · simp [State.refuseImage_lanes, State.laneEvent, Tri.get_set_other _ _ _ _ hk]
    · simp only [State.refuseImage_lanes, State.laneEvent, State.setLane_lanes, Tri.get_set_same]
      exact ⟨hb, rfl, rfl, Lane.event_status_set _ _ _ (evtDefault_polvinLost l)⟩
  case translation =>
    refine ⟨s.loadSteps l cached, congrArg Host.Outcome.next (if_pos ⟨hon, ht, by simp [hr]⟩), ?_⟩
    simp only [State.loadSteps]
    cases hc : laneCheck l (s.lanes.get l).loader.active with
    | some r =>
      simp only [State.refuseImage_lanes, Tri.get_set_same]
      exact ⟨fun k hk => Tri.get_set_other _ _ _ _ hk, ht, rfl, hr, rfl⟩
    | none =>
      obtain ⟨state, hash, epoch, due, active, canvas⟩ := (s.lanes.get l).translate_rest l (s.lanes.get l).loader.active cached
      by_cases hv : vectorsPass l (parseCanvas (s.lanes.get l).loader.active) = true
      · obtain ⟨f, hf⟩ := State.loaded_lanes (s.setLane l ((s.lanes.get l).translate l (s.lanes.get l).loader.active cached)) l
        simp only [if_pos hv, hf, State.setLane_lanes, Tri.get_set_same]
        refine ⟨fun k hk => by simp [Tri.get_set_other _ _ _ _ hk], state.trans ht, rfl, rfl, congrArg parseCanvas active, hash, epoch⟩
      · simp only [if_neg hv, State.refuseImage_lanes, State.setLane_lanes, Tri.get_set_same]
        exact ⟨fun k hk => by simp [Tri.get_set_other _ _ _ _ hk], state.trans ht, rfl, due.trans hr, canvas⟩

end Sys2Proof.Machine

namespace Sys2Proof.Machine
open Sys2Proof

/-! ## RETRYING, the restart and retirement (R37, R96, R355, R377, R378) -/

/-- A lane that retires is down, with its flag, its cause and a record due. -/
theorem retiredIn_retire (s : State) (l : LaneId) (src : Nat) : retiredIn l src (s.retire l src) := by
  refine ⟨by simp [State.retire, Lane.down], by simp [State.retire, Lane.down], by simp [State.retire], by simp [State.retire],
    by simp [State.retire], by simp [State.retire, Lane.down], fun u => ?_⟩
  simp only [State.retire, State.setLane_ucom]
  exact State.laneDown_links s l .retired .off u

/-- A record of retirement is logged by the core, which no lane sees (R355). -/
theorem State.logEvent_written (s : State) (action code arg : Nat) (chash : Bytes) (hd : s.polvin.dom = .on) :
    (s.polvin.logBad = false → (s.logEvent action code arg chash).polvin.logSeq = s.polvin.logSeq + 1) ∧
    (s.polvin.logBad = true → (s.logEvent action code arg chash).polvin.logSeq = s.polvin.logSeq ∧
      (s.logEvent action code arg chash).polvin.evt.status.testBit 3 = true) := by
  have fold : s.polvin.fold.logSeq = s.polvin.logSeq := by unfold Polvin.fold; split <;> rfl
  refine ⟨fun hb => ?_, fun hb => ?_⟩
  · simp [State.logEvent, State.logAs, hd, hb, Polvin.append, fold]
  · have set : (s.polvinEvent 3).polvin.evt.status.testBit 3 = true := by
      simp [State.polvinEvent, evtOccur_status .polvin s.polvin.evt 3 _ _ rfl]
    simp only [State.logEvent, State.logAs, hd, hb]
    exact ⟨rfl, set⟩

/-- Translation leaves the always-on record of the image alone. -/
theorem Lane.translate_aon_hash (n : Lane) (l : LaneId) (im : Bytes) (read : Option Bytes) : (n.translate l im read).aon.hash = n.aon.hash := by
  simp only [Lane.translate]
  (repeat' split) <;> rfl

/-- Settles O36: entry and retirement by the number of recent entries; the restart by the steps its image passes; the record by the core's log. -/
theorem retryRestartRetire : Obligations.RetryRestartRetire := by
  unfold Obligations.RetryRestartRetire
  refine ⟨fun s l => ⟨fun src hr hc hn => ?retry, fun src hr hc hn => ?fourth, fun hon ht hms => ?timeout⟩,
    fun s l => ⟨fun hon ht hd code => ?restart, fun hon hp hd hw => ?written, fun hon hp => ?lost⟩⟩
  case retry =>
    refine ⟨((s.setLane l ((s.lanes.get l).enterRetrying src)).syncInhibit), ?_, ?_⟩
    · have few : ¬ 3 ≤ (s.lanes.get l).aon.recent.length := Nat.not_le.mpr hn
      simp only [exec, execRetryingEntry, hr, hc, few, if_true, if_false]
    · simp only [State.syncInhibit_lanes, State.syncInhibit_polvin, State.setLane_lanes, State.setLane_polvin, Tri.get_set_same]
      exact ⟨rfl, rfl, rfl, rfl, rfl, fun k hk => Tri.get_set_other _ _ _ _ hk, trivial⟩
  case fourth =>
    refine ⟨s.retire l src, ?_, retiredIn_retire s l src⟩
    have many : 3 ≤ (s.lanes.get l).aon.recent.length := hn
    simp only [exec, execRetryingEntry, hr, hc, many, if_true]
  case timeout => exact ⟨_, congrArg Host.Outcome.next (if_pos ⟨hon, ht, hms⟩), retiredIn_retire s l 0xFF⟩
  case restart =>
    refine ⟨_, congrArg Host.Outcome.next (State.onLane_pos (by simp [hon, ht, hd])), onlyLane_setLane _ _ _, ?_⟩
    simp only [State.setLane_lanes, Tri.get_set_same]
    obtain ⟨state, -, -, due, active, -⟩ := (s.lanes.get l).translate_rest l (s.lanes.get l).loader.active code
    by_cases hh : hashBytes (imgHash (s.lanes.get l).loader.active) = (s.lanes.get l).aon.hash
    · rw [if_neg (by simp [hh])]
      cases hr : stepsRefuse l (s.lanes.get l).loader.active with
      | some r => exact ⟨ht, rfl, fun h => absurd hh h, fun _ => ⟨hd, rfl⟩⟩
      | none => exact ⟨state.trans ht, Lane.translate_aon_hash _ _ _ _, fun h => absurd hh h, fun _ => ⟨rfl, rfl, congrArg parseCanvas active⟩⟩
    · rw [if_pos hh]
      exact ⟨ht, rfl, fun _ => ⟨hd, rfl⟩, fun h => absurd h hh⟩
  case written =>
    refine ⟨_, congrArg Host.Outcome.next ((if_pos ⟨hon, hp⟩).trans (if_pos ⟨rfl, hd⟩)), ?_⟩
    extract_lets _ t u
    have waits : ∀ n : Lane, (u.setLane l n).clearWaiting = u.setLane l n := fun n => by
      have none : u.polvin.clrWait = none := by simpa [u, State.logEvent, t] using hw
      simp [State.clearWaiting, none]
    have logged := t.logEvent_written 0x10 0 l.code t.devHash hd
    have retired : u.polvin.retired = setBit s.polvin.retired l.idx := by simp [u, State.logEvent, t]
    have lanes : u.lanes = s.lanes := by simp [u, State.logEvent, t]
    rw [waits]
    exact ⟨by simp [Lane.onAon], retired, logged.1, logged.2, fun k hk => by simp [Tri.get_set_other _ _ _ _ hk, lanes]⟩
  case lost =>
    refine ⟨_, congrArg Host.Outcome.next ((if_pos ⟨hon, hp⟩).trans (if_neg (by simp))), onlyLane_setLane _ _ _, ?_⟩
    simp only [State.laneEvent, State.setLane_lanes, Tri.get_set_same]
    exact ⟨hp, Lane.event_status_set _ _ _ (evtDefault_polvinLost l)⟩

end Sys2Proof.Machine

namespace Sys2Proof.Machine
open Sys2Proof

/-! ## A lane that sleeps or returns (R67, R385, R390, R393, R396) -/

/-- A fold that visits an element once: what no other element's step touches ends as that one step leaves it. -/
theorem foldl_visits {α β γ : Type} {f : β → α → β} (view : β → γ) {x : α} {xs : List α} (hx : x ∈ xs) (hn : xs.Nodup)
    (hv : ∀ b y, y ≠ x → view (f b y) = view b) (b : β) : ∃ c, view c = view b ∧ view (xs.foldl f b) = view (f c x) := by
  obtain ⟨before, after, rfl⟩ := List.append_of_mem hx
  obtain ⟨-, hn', hd⟩ := List.nodup_append.mp hn
  have still : ∀ (ys : List α) (b : β), x ∉ ys → view (ys.foldl f b) = view b := by
    intro ys b hy
    refine ys.foldlRecOn (motive := fun c => view c = view b) f rfl fun c hc y hmem => ?_
    rw [hv c y (fun h => hy (h ▸ hmem)), hc]
  refine ⟨before.foldl f b, still before b fun h => hd x h x (by simp) rfl, ?_⟩
  rw [List.foldl_append, List.foldl_cons]
  exact still after _ (List.nodup_cons.mp hn').1

/-- A lane with the time of the first return noted for it (R391). -/
def Lane.noted (n : Lane) (first : Option Nat) : Lane := n.onPwr (fun p => { p with firstMs := first })

/-- The return of a lane is noted by the others at most. -/
theorem State.noteReturn_rest (s : State) (l : LaneId) : (s.noteReturn l).ucom = s.ucom ∧ (s.noteReturn l).polvin = s.polvin ∧
    (s.noteReturn l).lanes.get l = s.lanes.get l ∧ ∀ k, ∃ f, (s.noteReturn l).lanes.get k = (s.lanes.get k).noted f := by
  have same : s.ucom = s.ucom ∧ s.polvin = s.polvin ∧ s.lanes.get l = s.lanes.get l ∧ ∀ k, ∃ f, s.lanes.get k = (s.lanes.get k).noted f :=
    ⟨rfl, rfl, rfl, fun k => ⟨(s.lanes.get k).aon.pwr.firstMs, rfl⟩⟩
  unfold State.noteReturn
  split
  · refine List.foldlRecOn (motive := fun t : State => t.ucom = s.ucom ∧ t.polvin = s.polvin ∧ t.lanes.get l = s.lanes.get l ∧
      ∀ k, ∃ f, t.lanes.get k = (s.lanes.get k).noted f) _ _ same fun t ⟨units, core, own, lanes⟩ x hx => ?_
    have other : l ≠ x := fun h => by simp [h] at hx
    dsimp only
    split
    · refine ⟨units, core, by simpa [Tri.get_set_other _ _ _ _ other] using own, fun k => ?_⟩
      obtain ⟨f, h⟩ := lanes k
      by_cases hk : k = x
      · subst hk; simp only [State.setLane_lanes, Tri.get_set_same, h]; exact ⟨_, rfl⟩
      · exact ⟨f, by simpa [Tri.get_set_other _ _ _ _ hk] using h⟩
    · exact ⟨units, core, own, lanes⟩
  · exact same

/-- A lane back from RETENTION, in a mode and by a source (R390, R393). -/
def Lane.returned (n : Lane) (m : ModeState) (src : Nat) : Lane :=
  { n with state := .boot, dom := .on, main := n.main.back m
           loader := { n.loader with retained := true, recordsDue := false, verified := false, verdictDue := false }
           aon := { n.aon with pwr := { n.aon.pwr with pll := false, src := setBit n.aon.pwr.src src, slept := false, firstMs := none } } }

section laneReturns
variable (s : State) (l : LaneId) (src : Nat)

theorem State.laneReturns_own : (s.laneReturns l src).lanes.get l = (s.lanes.get l).returned (s.returnMode l) src := by
  obtain ⟨-, -, own, -⟩ := State.noteReturn_rest (s.linksDown l) l
  simp only [State.laneReturns, State.syncInhibit_lanes, State.setLane_lanes, Tri.get_set_same, own, State.linksDown_lanes]
  rfl

theorem State.laneReturns_other {k : LaneId} (hk : k ≠ l) : ∃ f, (s.laneReturns l src).lanes.get k = (s.lanes.get k).noted f := by
  obtain ⟨-, -, -, lanes⟩ := State.noteReturn_rest (s.linksDown l) l
  simpa [State.laneReturns, Tri.get_set_other _ _ _ _ hk] using lanes k

theorem State.laneReturns_polvin : (s.laneReturns l src).polvin = s.polvin := by
  obtain ⟨-, core, -⟩ := State.noteReturn_rest (s.linksDown l) l
  simpa [State.laneReturns] using core

theorem State.laneReturns_quiet (u : UnitId) : ((s.laneReturns l src).ucom.get u).quiet =
    ((s.ucom.get u).setLink l (lostLink ((s.ucom.get u).links.get l))).quiet := by
  obtain ⟨units, -⟩ := State.noteReturn_rest (s.linksDown l) l
  rw [State.laneReturns, State.syncInhibit_quiet, State.setLane_ucom, units, State.linksDown_unit]

/-- So no unit's domain nor its sleep changes. -/
theorem State.laneReturns_unit (u : UnitId) : ((s.laneReturns l src).ucom.get u).dom = (s.ucom.get u).dom ∧
    ((s.laneReturns l src).ucom.get u).slp = (s.ucom.get u).slp := by
  have quiet := s.laneReturns_quiet l src u
  exact ⟨(congrArg (fun c : UnitCommon => c.dom) quiet :), (congrArg (fun c : UnitCommon => c.slp) quiet :)⟩

end laneReturns

/-- A lane with other views of the units and all else as it was. -/
def SameBut (n m : Lane) : Prop := m = { n with main := { n.main with units := m.main.units } }

theorem SameBut.refl (n : Lane) : SameBut n n := rfl
theorem SameBut.trans {n m o : Lane} (h : SameBut n m) (g : SameBut m o) : SameBut n o := by
  unfold SameBut at *
  rw [g, h]
theorem SameBut.onUnit {n m : Lane} (h : SameBut n m) (u : UnitId) (f : UnitView → UnitView) : SameBut n (m.onUnit u f) := by
  unfold SameBut at *
  rw [h]; rfl

theorem State.resetPart_rest (s : State) (u : UnitId) : (s.resetPart u).ucom = s.ucom ∧ (s.resetPart u).lanes = s.lanes ∧
    (s.resetPart u).polvin = s.polvin := by cases u <;> exact ⟨rfl, rfl, rfl⟩

/-- A unit that enters RETENTION (R67, R385): its common part, the lanes' ends of its links, and no other unit. -/
theorem State.unitSleeps_rest (s : State) (u : UnitId) :
    (s.unitSleeps u).ucom = s.ucom.set u { (s.ucom.get u).eachLink (fun _ k => resetLink k) with dom := .retention, slp := {} } ∧
    (∀ k, (s.unitSleeps u).lanes.get k = (s.lanes.get k).onUnit u UnitView.linkReset) ∧ (s.unitSleeps u).polvin = s.polvin := by
  cases u <;> exact ⟨rfl, fun k => Tri.get_map _ _ k, rfl⟩

@[simp] theorem State.unitOn_lanes (s : State) (u : UnitId) : (s.unitOn u).lanes = s.lanes := by cases u <;> rfl
@[simp] theorem State.unitOn_polvin (s : State) (u : UnitId) : (s.unitOn u).polvin = s.polvin := by cases u <;> rfl
@[simp] theorem State.unitOn_ucom (s : State) (u : UnitId) : (s.unitOn u).ucom = s.ucom.set u (s.ucom.get u).returnOn := by cases u <;> rfl

/-- What a change of one unit does outside it: the lanes' ends of its links at most. -/
def OnlyUnit (u : UnitId) (s t : State) : Prop :=
  (∀ k, SameBut (s.lanes.get k) (t.lanes.get k)) ∧ t.polvin = s.polvin ∧ ∀ v, v ≠ u → t.ucom.get v = s.ucom.get v

theorem OnlyUnit.refl (u : UnitId) (s : State) : OnlyUnit u s s := ⟨fun _ => rfl, rfl, fun _ _ => rfl⟩
theorem OnlyUnit.trans {u : UnitId} {s t r : State} (h : OnlyUnit u s t) (g : OnlyUnit u t r) : OnlyUnit u s r := by
  obtain ⟨lanes, core, units⟩ := h
  obtain ⟨lanes', core', units'⟩ := g
  exact ⟨fun k => (lanes k).trans (lanes' k), core'.trans core, fun v hv => (units' v hv).trans (units v hv)⟩

theorem State.unitOn_only (s : State) (u : UnitId) : OnlyUnit u s (s.unitOn u) :=
  ⟨fun k => by rw [s.unitOn_lanes]; exact SameBut.refl _, s.unitOn_polvin u,
   fun v hv => by rw [s.unitOn_ucom, Ten.get_set_other _ _ _ _ hv]⟩
theorem State.unitSleeps_only (s : State) (u : UnitId) : OnlyUnit u s (s.unitSleeps u) := by
  obtain ⟨units, lanes, core⟩ := s.unitSleeps_rest u
  exact ⟨fun k => by rw [lanes]; exact (SameBut.refl _).onUnit _ _, core, fun v hv => by rw [units, Ten.get_set_other _ _ _ _ hv]⟩

/-- A unit that a request takes OFF is at its reset values (R398). -/
theorem State.unitRequest_off (s : State) (u : UnitId) :
    (s.unitRequest u .off).ucom = s.ucom.set u { dom := .off } ∧
    (∀ k, (s.unitRequest u .off).lanes.get k = (s.lanes.get k).onUnit u UnitView.linkReset) ∧ (s.unitRequest u .off).polvin = s.polvin := by
  obtain ⟨units, lanes, core⟩ := (s.setUnit u { dom := .off }).resetPart_rest u
  refine ⟨units, fun k => ?_, core⟩
  simp only [State.unitRequest, State.viewsReset_lane, lanes, State.setUnit_lanes]

theorem State.unitRequest_only (s : State) (u : UnitId) (target : DomState) : OnlyUnit u s (s.unitRequest u target) := by
  cases target with
  | on => dsimp only [State.unitRequest]; split; exacts [s.unitOn_only u, .refl u s]
  | retention => dsimp only [State.unitRequest]; split; exacts [s.unitSleeps_only u, .refl u s]
  | off =>
    obtain ⟨units, lanes, core⟩ := s.unitRequest_off u
    exact ⟨fun k => by rw [lanes]; exact (SameBut.refl _).onUnit _ _, core, fun v hv => by rw [units, Ten.get_set_other _ _ _ _ hv]⟩

theorem State.unitReturns_only (s : State) (u : UnitId) : OnlyUnit u s (s.unitReturns u) := by
  unfold State.unitReturns State.unitSlot
  split
  · exact (s.unitOn_only u).trans (State.unitRequest_only _ u _)
  · exact s.unitOn_only u

/-- The domain of a unit after its return: ON, but where a request waited that takes it out of ON (R396, R398). -/
theorem State.unitReturns_dom (s : State) (u : UnitId) : ((s.unitReturns u).ucom.get u).dom = ((s.ucom.get u).slp.slot).getD .on := by
  have on : ((s.unitOn u).ucom.get u).dom = .on := by rw [s.unitOn_ucom, Ten.get_set_same]; rfl
  unfold State.unitReturns State.unitSlot
  split
  case h_1 target hslot =>
    rw [hslot]
    cases target with
    | on => rw [State.unitRequest, if_neg (by rw [on]; decide)]; exact on
    | retention =>
      obtain ⟨units, -⟩ := (s.unitOn u).unitSleeps_rest u
      rw [State.unitRequest, if_pos on, units, Ten.get_set_same]; rfl
    | off =>
      obtain ⟨units, -⟩ := (s.unitOn u).unitRequest_off u
      rw [units, Ten.get_set_same]; rfl
  case h_2 hslot => rw [hslot, on]; rfl

/-! ## A wake (R393, R397, R398) -/

/-- Every unit in RETENTION returns. -/
def State.unitsWake (s : State) : State :=
  allUnits.foldl (fun s u => if (s.ucom.get u).dom = .retention then s.unitReturns u else s) s

theorem State.unitsWake_rest (s : State) : (∀ k, SameBut (s.lanes.get k) (s.unitsWake.lanes.get k)) ∧ s.unitsWake.polvin = s.polvin := by
  refine List.foldlRecOn (motive := fun t : State => (∀ k, SameBut (s.lanes.get k) (t.lanes.get k)) ∧ t.polvin = s.polvin) _ _
    ⟨fun k => SameBut.refl _, rfl⟩ fun t ht u _ => ?_
  split
  · obtain ⟨lanes, core⟩ := ht
    obtain ⟨lanes', core', -⟩ := t.unitReturns_only u
    exact ⟨fun k => (lanes k).trans (lanes' k), core'.trans core⟩
  · exact ht

theorem State.unitsWake_dom (s : State) (u : UnitId) (h : (s.ucom.get u).dom = .retention) :
    ((s.unitsWake).ucom.get u).dom = ((s.ucom.get u).slp.slot).getD .on := by
  obtain ⟨t, same, ended⟩ := foldl_visits (fun t : State => t.ucom.get u) (f := fun (t : State) v => if (t.ucom.get v).dom = .retention then t.unitReturns v else t)
    (mem_allUnits u) (by decide : allUnits.Nodup) (fun t v hv => by
      split
      · exact (t.unitReturns_only v).2.2 u (Ne.symm hv)
      · rfl) s
  rw [State.unitsWake, ended, if_pos (by rw [same, h]), t.unitReturns_dom, same]

/-- What a wake elsewhere leaves of a lane: all that this family's statements speak of. -/
def Lane.wakeKey (n : Lane) : LState × DomState × Loader × Canvas × Aon :=
  (n.state, n.dom, n.loader, n.main.canvas, { n.aon with pwr := { n.aon.pwr with firstMs := none } })

@[simp] theorem Lane.noted_wakeKey (n : Lane) (f : Option Nat) : (n.noted f).wakeKey = n.wakeKey := rfl
theorem SameBut.wakeKey {n m : Lane} (h : SameBut n m) : m.wakeKey = n.wakeKey := by
  unfold SameBut at h
  rw [h]; rfl

/-- A lane that sleeps and may return. -/
def Lane.sleeper (n : Lane) : Bool := decide (n.dom = .retention) && n.aon.pwr.slept && n.aon.on
theorem Lane.sleeper_of_wakeKey {n m : Lane} (h : m.wakeKey = n.wakeKey) : m.sleeper = n.sleeper :=
  (congrArg (fun k : LState × DomState × Loader × Canvas × Aon => decide (k.2.1 = .retention) && k.2.2.2.2.pwr.slept && k.2.2.2.2.on) h :)

/-- The other lanes that sleep return (R391, R393). -/
def State.lanesWake (s : State) (l : LaneId) : State :=
  allLanes.foldl (fun s x => if x ≠ l ∧ (s.lanes.get x).dom = .retention ∧ (s.lanes.get x).aon.pwr.slept ∧ (s.lanes.get x).aon.on
    then s.laneReturns x 3 else s) s

theorem State.wakeAll_eq (s : State) (l : LaneId) (src : Nat) (h : (s.lanes.get l).dom = .retention) :
    s.wakeAll l src = ((s.laneReturns l src).unitsWake.lanesWake l).polvinWakes := by
  rw [State.wakeAll, if_pos h]; rfl

theorem State.lanesWake_rest (s : State) (l : LaneId) : ((s.lanesWake l).lanes.get l).wakeKey = (s.lanes.get l).wakeKey ∧
    (s.lanesWake l).polvin = s.polvin ∧ ∀ u, ((s.lanesWake l).ucom.get u).dom = (s.ucom.get u).dom := by
  refine List.foldlRecOn (motive := fun t : State => (t.lanes.get l).wakeKey = (s.lanes.get l).wakeKey ∧ t.polvin = s.polvin ∧
    ∀ u, (t.ucom.get u).dom = (s.ucom.get u).dom) _ _ ⟨rfl, rfl, fun _ => rfl⟩ fun t ⟨lane, core, units⟩ x _ => ?_
  split
  case isTrue h =>
    obtain ⟨f, own⟩ := t.laneReturns_other x 3 (Ne.symm h.1)
    exact ⟨by rw [own, Lane.noted_wakeKey, lane], (t.laneReturns_polvin x 3).trans core, fun u => (t.laneReturns_unit x 3 u).1.trans (units u)⟩
  case isFalse => exact ⟨lane, core, units⟩

theorem State.lanesWake_dom (s : State) {l k : LaneId} (hk : k ≠ l) (h : (s.lanes.get k).sleeper = true) :
    ((s.lanesWake l).lanes.get k).dom = .on := by
  have all : k ∈ allLanes := by cases k <;> decide
  obtain ⟨t, same, ended⟩ := foldl_visits (fun t : State => (t.lanes.get k).wakeKey)
    (f := fun (s : State) x => if x ≠ l ∧ (s.lanes.get x).dom = .retention ∧ (s.lanes.get x).aon.pwr.slept ∧ (s.lanes.get x).aon.on
      then s.laneReturns x 3 else s) all (by decide : allLanes.Nodup) (fun t x hx => by
      split
      · obtain ⟨f, other⟩ := t.laneReturns_other x 3 (Ne.symm hx)
        rw [other, Lane.noted_wakeKey]
      · rfl) s
  have asleep : k ≠ l ∧ (t.lanes.get k).dom = .retention ∧ (t.lanes.get k).aon.pwr.slept ∧ (t.lanes.get k).aon.on := by
    have sleeper := (Lane.sleeper_of_wakeKey same).trans h
    simp only [Lane.sleeper, Bool.and_eq_true, decide_eq_true_eq] at sleeper
    exact ⟨hk, sleeper.1.1, sleeper.1.2, sleeper.2⟩
  rw [if_pos asleep] at ended
  have dom := (congrArg (fun key : LState × DomState × Loader × Canvas × Aon => key.2.1) ended :)
  exact dom.trans (congrArg (fun n : Lane => n.dom) (t.laneReturns_own k 3))

/-- A wake brings its lane back, and every unit, lane and the core that slept (R393, R398). -/
theorem State.wakeAll_awake (s : State) (l : LaneId) (src : Nat) (h : (s.lanes.get l).dom = .retention) :
    ((s.wakeAll l src).lanes.get l).wakeKey = ((s.lanes.get l).returned (s.returnMode l) src).wakeKey ∧ allAwake l s (s.wakeAll l src) := by
  have lane : ((s.wakeAll l src).lanes.get l).wakeKey = ((s.lanes.get l).returned (s.returnMode l) src).wakeKey := by
    obtain ⟨own, -⟩ := (s.laneReturns l src).unitsWake.lanesWake_rest l
    obtain ⟨same, -⟩ := (s.laneReturns l src).unitsWake_rest
    rw [s.wakeAll_eq l src h]
    exact own.trans ((same l).wakeKey.trans (congrArg Lane.wakeKey (s.laneReturns_own l src)))
  have units : ∀ u, (s.ucom.get u).dom = .retention → ((s.wakeAll l src).ucom.get u).dom = ((s.ucom.get u).slp.slot).getD .on := by
    intro u hu
    obtain ⟨-, -, same⟩ := (s.laneReturns l src).unitsWake.lanesWake_rest l
    obtain ⟨dom, slp⟩ := s.laneReturns_unit l src u
    rw [s.wakeAll_eq l src h]
    exact (same u).trans ((State.unitsWake_dom _ u (dom.trans hu)).trans (by rw [slp]))
  have core : (s.wakeAll l src).polvin = { s.polvin with entry := none, dom := if s.polvin.dom = .retention then .on else s.polvin.dom } := by
    obtain ⟨-, woken, -⟩ := (s.laneReturns l src).unitsWake.lanesWake_rest l
    obtain ⟨-, same⟩ := (s.laneReturns l src).unitsWake_rest
    rw [s.wakeAll_eq l src h, State.polvinWakes, woken, same, s.laneReturns_polvin]
  refine ⟨lane, (congrArg (fun k : LState × DomState × Loader × Canvas × Aon => k.1) lane :),
    (congrArg (fun k : LState × DomState × Loader × Canvas × Aon => k.2.1) lane :),
    (congrArg (fun k : LState × DomState × Loader × Canvas × Aon => k.2.2.1.retained) lane :),
    (congrArg (fun k : LState × DomState × Loader × Canvas × Aon => k.2.2.2.1) lane :), fun u hu slot => ?runs, fun u hu => ⟨fun slot => ?sleeps, fun slot => ?off⟩,
    fun k hd ho hs => ?lanes, core⟩
  case runs =>
    rw [units u hu]
    obtain slot | slot := slot <;> rw [slot] <;> rfl
  case sleeps => rw [units u hu, slot]; rfl
  case off => rw [units u hu, slot]; rfl
  case lanes =>
    by_cases hk : k = l
    · subst hk; exact (congrArg (fun k : LState × DomState × Loader × Canvas × Aon => k.2.1) lane :)
    · rw [s.wakeAll_eq l src h]
      refine State.lanesWake_dom _ hk ?_
      obtain ⟨f, other⟩ := s.laneReturns_other l src hk
      obtain ⟨same, -⟩ := (s.laneReturns l src).unitsWake_rest
      rw [Lane.sleeper_of_wakeKey (same k).wakeKey, other, Lane.sleeper_of_wakeKey (Lane.noted_wakeKey _ _)]
      simp [Lane.sleeper, hd, ho, hs]

end Sys2Proof.Machine

namespace Sys2Proof.Machine
open Sys2Proof

/-! ## What a wake and a request for a domain do (R386, R393, R397, R398, R400) -/

theorem wake_lane (s : State) (l : LaneId) (src : WakeSource) (hon : (s.lanes.get l).aon.on = true) (hmay : (s.lanes.get l).mayWake l src = true) :
    s.wake l src = (if ((s.lanes.get l).aon.pwr.slept = true ∧ s.entering = true) ∨ (s.lanes.get l).aon.pwr.sleepAt.isSome = true then
        s.setLane l ((s.lanes.get l).onPwr fun p => { p with replay := setBit p.replay (wakeBit src), slot := some .on })
      else if (s.lanes.get l).aon.pwr.slept = true then s.wakeAll l (wakeBit src)
      else s.setLane l ((s.lanes.get l).onPwr fun p => { p with
        src := setBit p.src (wakeBit src), srcNow := setBit p.srcNow (wakeBit src) })) := by
  rw [State.wake, if_pos ⟨hon, hmay⟩]

/-- A lane whose waiting wake is replayed (R397). -/
def Lane.replayed (n : Lane) : Lane :=
  n.onPwr fun p => { p with src := p.src ||| p.replay, replay := 0, slot := none, replayed := true }

/-- A wake as its lane replays it, which changes nothing else before the wake acts. -/
theorem allAwake_replayed {l : LaneId} {s t : State} (h : allAwake l (s.setLane l (s.lanes.get l).replayed) t) (ht : (t.lanes.get l).dom = .on) :
    allAwake l s t := by
  obtain ⟨state, dom, retained, canvas, units, slots, lanes, core⟩ := h
  rw [State.setLane_lanes, Tri.get_set_same] at canvas
  refine ⟨state, dom, retained, canvas, units, slots, fun k hd ho hs => ?_, core⟩
  by_cases hk : k = l
  · subst hk; exact ht
  · have other := lanes k
    rw [State.setLane_lanes, Tri.get_set_other _ _ _ _ hk] at other
    exact other hd ho hs

/-- A lane as it goes to sleep, the ends of its links reset (R67, R385). -/
def Lane.sleeping (n : Lane) (slept : Bool) : Lane :=
  { n.onPwr (fun p => { p with
      pll := false, sleepAt := none, cancelling := false, timerLeft := 1000 * p.timer, slept := slept, firstMs := none, pslot := none }) with
    state := .off, dom := .retention }

theorem State.laneSleeps_lane (s : State) (l : LaneId) (slept : Bool) : ∃ n p, SameBut ((s.lanes.get l).planeless.told p) n ∧
    (s.laneSleeps l slept).lanes.get l = n.sleeping slept := by
  obtain ⟨p, own⟩ := State.planeDown_own (s.linksDown l) l
  rw [State.linksDown_lanes] at own
  refine ⟨allUnits.foldl (fun n u => n.onUnit u UnitView.linkReset) (((s.linksDown l).planeDown l).lanes.get l), p, ?_, ?_⟩
  · rw [own]
    exact List.foldlRecOn (motive := fun n => SameBut _ n) _ _ (SameBut.refl _) fun n hn u _ => hn.onUnit u _
  · simp only [State.laneSleeps, State.syncInhibit_lanes, State.setLane_lanes, Tri.get_set_same]
    rfl

/-- The main domain of a lane that goes to sleep keeps its registers. -/
theorem State.laneSleeps_own (s : State) (l : LaneId) (slept : Bool) : ((s.laneSleeps l slept).lanes.get l).dom = .retention ∧
    ((s.laneSleeps l slept).lanes.get l).state = .off ∧
    ((s.laneSleeps l slept).lanes.get l).main.canvas = (s.lanes.get l).main.canvas := by
  obtain ⟨n, p, views, own⟩ := s.laneSleeps_lane l slept
  rw [own]
  exact ⟨rfl, rfl, (congrArg (fun k : LState × DomState × Loader × Canvas × Aon => k.2.2.2.1) views.wakeKey :)⟩

theorem laneDownIn_laneDown (s : State) (l : LaneId) (st : LState) (dom : DomState) : laneDownIn l st dom s (s.laneDown l st dom) := by
  refine ⟨by rw [State.laneDown_own]; rfl, by rw [State.laneDown_own]; rfl, by rw [State.laneDown_own]; rfl, s.laneDown_links l st dom,
    fun k hk => ?_, s.laneDown_polvin l st dom⟩
  obtain ⟨p, other⟩ := s.laneDown_other l st dom hk
  rw [other]; exact ⟨rfl, rfl⟩

/-- The lanes' ends of a unit's links as it stops (R67). -/
theorem linkEnds_reset (n : Lane) (u : UnitId) : n.onUnit u UnitView.linkReset = { n with main := (n.onUnit u UnitView.linkReset).main } ∧
    linkEnds (· = u) n.main (n.onUnit u UnitView.linkReset).main :=
  ⟨rfl, rfl, fun v => ⟨fun h => by rw [Lane.onUnit_view, if_pos h], fun h => by rw [Lane.onUnit_view, if_neg h]⟩⟩

/-- Settles O57: a wake starts what slept, and a request acts on its domain or waits in its slot. -/
theorem wakingAndRequests : Obligations.WakingAndRequests := by
  unfold Obligations.WakingAndRequests
  intro s
  refine ⟨fun l src hon hmay => ⟨fun hd hs ha he => ?wakes, fun hw => ?waits, fun hs ha => ?latched⟩, fun l h => ?still, fun l hd hs hslot he => ?replays,
    fun l target hc => ?slot, fun l hc => ⟨fun hd ho hs => ?laneOn, fun hs => ?laneOut, fun hm => ?laneStays, fun ha hm => ?laneSleeps, fun hd => ?laneOff⟩,
    fun u h target => ?unitSlot, fun u => ⟨fun hs hr => ⟨fun hd => ?unitOn, fun hd => ?unitSleeps, ?unitOff⟩, fun hd => ?unitWakes, fun hd hs => ?unitDeaf,
      fun hd hs => ?unitWaits⟩,
    fun l target h => ?planeSlot, fun l ha hc => ⟨fun h => ?planeOn, fun hcomp hn => ?planeIdle, ?planeStays, ?planeOff⟩,
    fun l => ⟨rfl, fun hd => ?link, fun hd => ?deaf⟩, rfl, fun target h => ?coreSlot, fun hentry => ⟨fun hd => ?coreOn, fun hd hb => ?coreSleeps, ?coreOff⟩⟩
  case wakes =>
    obtain ⟨lane, awake⟩ := s.wakeAll_awake l (wakeBit src) hd
    refine ⟨_, congrArg Host.Outcome.next ((wake_lane s l src hon hmay).trans ?_), awake,
      (congrArg (fun k : LState × DomState × Loader × Canvas × Aon => k.2.2.2.2.pwr.src) lane :)⟩
    rw [if_neg (by simp [he, ha]), if_pos hs]
  case waits =>
    exact congrArg Host.Outcome.next ((wake_lane s l src hon hmay).trans (if_pos hw))
  case latched =>
    refine congrArg Host.Outcome.next ((wake_lane s l src hon hmay).trans ?_)
    rw [if_neg (by simp [hs, ha]), if_neg (by simp [hs])]; rfl
  case still =>
    refine congrArg Host.Outcome.next (if_neg fun ⟨hs, hslot, he⟩ => ?_)
    simp [hs, hslot, he] at h
  case replays =>
    have own : (s.setLane l (s.lanes.get l).replayed).lanes.get l = (s.lanes.get l).replayed := by simp
    generalize hb : ((List.range 5).find? (fun i => (s.lanes.get l).aon.pwr.replay.testBit i)).getD 3 = b
    obtain ⟨lane, awake⟩ := (s.setLane l (s.lanes.get l).replayed).wakeAll_awake l b ((congrArg Lane.dom own).trans hd)
    rw [own] at lane
    have pwr := (congrArg (fun k : LState × DomState × Loader × Canvas × Aon => k.2.2.2.2.pwr) lane :)
    refine ⟨(s.setLane l (s.lanes.get l).replayed).wakeAll l b, congrArg Host.Outcome.next ((if_pos ⟨hs, hslot, by simp [he]⟩).trans ?_),
      allAwake_replayed awake awake.2.1, (congrArg PwrRegs.slot pwr :), (congrArg PwrRegs.replay pwr :), (congrArg PwrRegs.replayed pwr :), fun i hi => ?_⟩
    · rw [← hb]; rfl
    · refine (congrArg (fun p : PwrRegs => p.src.testBit i) pwr :).trans ?_
      simp [Lane.wakeKey, Lane.returned, Lane.replayed, Lane.onPwr, Lane.onAon, setBit, Nat.testBit_or, hi]
  case slot => exact congrArg Host.Outcome.next (if_pos hc)
  case laneOn =>
    refine ⟨_, congrArg Host.Outcome.next ((if_neg (by simp [hc])).trans (if_pos ⟨hd, hs, ho⟩)), ?_⟩
    rw [s.laneReturns_own l 3]; exact ⟨rfl, rfl⟩
  case laneOut => exact congrArg Host.Outcome.next ((if_neg (by simp [hc])).trans (if_neg fun h => by simp [hs] at h))
  case laneStays => exact congrArg Host.Outcome.next ((if_neg (by simp [hc])).trans (if_neg fun h => by simp [hm] at h))
  case laneSleeps => exact ⟨_, congrArg Host.Outcome.next ((if_neg (by simp [hc])).trans (if_pos ⟨ha, hm⟩)), s.laneSleeps_own l true⟩
  case laneOff => exact ⟨_, congrArg Host.Outcome.next ((if_neg (by simp [hc])).trans (if_neg hd)), laneDownIn_laneDown s l .off .off⟩
  case unitSlot => exact congrArg Host.Outcome.next (if_pos h)
  case unitOn =>
    exact congrArg Host.Outcome.next ((if_neg (by simp [hs, hr])).trans ((if_pos hd).trans (unitOn_eq s u)))
  case unitSleeps =>
    obtain ⟨units, lanes, -⟩ := s.unitSleeps_rest u
    refine ⟨s.unitSleeps u, congrArg Host.Outcome.next ((if_neg (by simp [hs, hr])).trans (if_pos hd)), ?_, fun l => ⟨?_, ?_⟩⟩
    · rw [units, Ten.get_set_same]; rfl
    · rw [units, Ten.get_set_same]; exact eachLink_get (s.ucom.get u) (fun _ k => resetLink k) l
    · rw [lanes]; exact linkEnds_reset _ u
  case unitOff =>
    obtain ⟨units, lanes, -⟩ := s.unitRequest_off u
    refine ⟨s.unitRequest u .off, congrArg Host.Outcome.next (if_neg (by simp [hs, hr])), by rw [units, Ten.get_set_same], fun l => ?_⟩
    rw [lanes]; exact linkEnds_reset _ u
  case unitWakes =>
    have dom := s.unitReturns_dom u
    refine ⟨s.unitReturns u, congrArg Host.Outcome.next (if_pos hd), ⟨fun slot => ?_, fun slot => ?_⟩, fun slot => unitReturns_free slot⟩
    · rw [dom, slot]; rfl
    · rw [dom, slot]; rfl
  case unitDeaf => exact congrArg Host.Outcome.next ((if_neg hd).trans (if_neg (by simp [hs])))
  case unitWaits => exact congrArg Host.Outcome.next ((if_neg hd).trans (if_pos hs))
  case planeSlot => exact congrArg Host.Outcome.next (if_pos h)
  case planeOn => exact congrArg Host.Outcome.next ((if_neg (by simp [ha, hc])).trans (if_pos h))
  case planeIdle =>
    refine congrArg Host.Outcome.next ((if_neg (by simp [ha, hc])).trans (if_neg ?_))
    rintro (h | ⟨rfl, h⟩)
    · simp [hcomp] at h
    · simp [h] at hn
  case planeStays => exact congrArg Host.Outcome.next (if_neg (by simp [ha, hc]))
  case planeOff =>
    obtain ⟨p, own⟩ := s.planeDown_own l
    exact ⟨s.planeDown l, congrArg Host.Outcome.next (if_neg (by simp [ha, hc])), by rw [own]; rfl, s.planeDown_ucom l⟩
  case link => exact congrArg Host.Outcome.next (if_neg hd)
  case deaf => exact congrArg Host.Outcome.next (if_pos hd)
  case coreSlot => exact congrArg Host.Outcome.next (if_pos h)
  case coreOn => exact congrArg Host.Outcome.next ((if_neg (by simp [hentry])).trans (if_pos hd))
  case coreSleeps =>
    exact congrArg Host.Outcome.next ((if_neg (by simp [hentry])).trans (if_pos ⟨hd, by simp [State.polvinCause, hb]⟩))
  case coreOff => exact congrArg Host.Outcome.next (if_neg (by simp [hentry]))

end Sys2Proof.Machine

namespace Sys2Proof.Machine
open Sys2Proof

/-! ## The round boundary of a unit (R26, R27, R52, R93) -/

/-- A unit after a change of its links, its event block and its record of admissions: what a round boundary does to it besides ROUND. -/
def AdmissionOnly (c d : UnitCommon) : Prop :=
  d = { c with links := d.links, evt := d.evt, cfg := { c.cfg with admitted := d.cfg.admitted } } ∧ ∀ l, (d.links.get l).writes = (c.links.get l).writes

theorem AdmissionOnly.trans {c d e : UnitCommon} (h : AdmissionOnly c d) (g : AdmissionOnly d e) : AdmissionOnly c e := by
  obtain ⟨h, hw⟩ := h
  obtain ⟨g, gw⟩ := g
  exact ⟨by rw [g, h], fun l => (gw l).trans (hw l)⟩
theorem AdmissionOnly.eachLink {f : LaneId → LinkState → LinkState} (c : UnitCommon) (hf : ∀ l k, (f l k).writes = k.writes) :
    AdmissionOnly c (c.eachLink f) := ⟨rfl, fun l => by rw [eachLink_get, hf]⟩

theorem withdrawMissing_only (c : UnitCommon) : AdmissionOnly c (withdrawMissing c) :=
  .eachLink c fun _ k => by split <;> rfl

/-- The withdrawal of one lane whose disagreement source has become SEVERE (R26). -/
def withdrawSevere (c : UnitCommon) (l : LaneId) : UnitCommon :=
  if evtSevere c.evt (1 + l.idx) then { c.setLink l (withdrawLink (c.links.get l)) with evt := evtClearSevere c.evt (1 + l.idx) } else c

theorem withdrawSevere_only (c : UnitCommon) (l : LaneId) : AdmissionOnly c (withdrawSevere c l) := by
  unfold withdrawSevere
  split
  · refine ⟨rfl, fun k => ?_⟩
    by_cases hk : k = l
    · subst hk; simp [UnitCommon.setLink, withdrawLink]
    · simp [UnitCommon.setLink, Tri.get_set_other _ _ _ _ hk]
  · exact ⟨rfl, fun _ => rfl⟩

theorem withdrawDisag_only (c : UnitCommon) : AdmissionOnly c (withdrawDisag c) :=
  List.foldlRecOn (motive := AdmissionOnly c) allLanes withdrawSevere ⟨rfl, fun _ => rfl⟩ fun d hd l _ => hd.trans (withdrawSevere_only d l)

theorem withdrawSevere_other (c : UnitCommon) {l k : LaneId} (hk : k ≠ l) : (withdrawSevere c k).links.get l = c.links.get l ∧
    evtSevere (withdrawSevere c k).evt (1 + l.idx) = evtSevere c.evt (1 + l.idx) := by
  have other : l.idx ≠ k.idx := by cases l <;> cases k <;> simp_all [LaneId.idx]
  unfold withdrawSevere
  split
  · exact ⟨by simp [UnitCommon.setLink, Tri.get_set_other _ _ _ _ (Ne.symm hk)], by simp [evtSevere, evtClearSevere, testBit_clearBit, other]⟩
  · exact ⟨rfl, rfl⟩

/-- A lane whose disagreement source is SEVERE is withdrawn, and no other. -/
theorem withdrawDisag_link (c : UnitCommon) (l : LaneId) : (withdrawDisag c).links.get l =
    if c.evt.severe.testBit (1 + l.idx) then withdrawLink (c.links.get l) else c.links.get l := by
  have all : l ∈ allLanes := by cases l <;> decide
  obtain ⟨d, same, ended⟩ := foldl_visits (f := withdrawSevere) (fun d : UnitCommon => (d.links.get l, evtSevere d.evt (1 + l.idx))) all (by decide)
    (fun d k hk => Prod.ext (withdrawSevere_other d hk).1 (withdrawSevere_other d hk).2) c
  obtain ⟨link, severe⟩ := Prod.ext_iff.mp same
  have step : (withdrawSevere d l).links.get l = if evtSevere d.evt (1 + l.idx) then withdrawLink (d.links.get l) else d.links.get l := by
    unfold withdrawSevere
    split <;> simp [UnitCommon.setLink]
  dsimp only at link severe
  exact (congrArg Prod.fst ended).trans (step.trans (by rw [link, severe]; rfl))

theorem admitLanes_only (c : UnitCommon) : AdmissionOnly c (admitLanes c) := by
  refine ⟨rfl, fun l => ?_⟩
  simp only [admitLanes, eachLink_get]
  split <;> rfl

/-- A unit's round as it begins: ROUND advances and the windows that have run out close (R52, R368). -/
def roundBegun (u : UnitId) (c : UnitCommon) : UnitCommon :=
  { c with round := (c.round + 1) % 16777216, roundDue := false, evt := evtCloseWindows (unitKind u) c.evt ((c.round + 1) % 16777216) }

theorem unitRound_eq (u : UnitId) (c : UnitCommon) : unitRound u c = admitLanes (withdrawDisag (withdrawMissing (roundBegun u c))) := rfl

theorem unitRound_only (u : UnitId) (c : UnitCommon) : AdmissionOnly (roundBegun u c) (unitRound u c) :=
  (withdrawMissing_only _).trans ((withdrawDisag_only _).trans (admitLanes_only _))

/-- A lane's admission after the withdrawals and admissions of a round boundary (R26, R27, R93). -/
theorem unitRound_adm (u : UnitId) (c : UnitCommon) (l : LaneId) : ((unitRound u c).links.get l).adm =
    if c.evt.severe.testBit (1 + l.idx) = true then false
    else if (c.links.get l).adm = true then !(c.links.get l).gone
    else decide (64 ≤ (c.links.get l).synctk) && (c.links.get l).agree && c.cfg.loaded := by
  have only := (withdrawMissing_only (roundBegun u c)).trans (withdrawDisag_only _)
  have loaded : (withdrawDisag (withdrawMissing (roundBegun u c))).cfg.loaded = c.cfg.loaded := by rw [only.1]; rfl
  have missing : (withdrawMissing (roundBegun u c)).links.get l =
      if (c.links.get l).adm ∧ (c.links.get l).gone then withdrawLink (c.links.get l) else c.links.get l := eachLink_get _ _ l
  have severe : (withdrawMissing (roundBegun u c)).evt.severe = c.evt.severe := rfl
  simp only [unitRound_eq, admitLanes, eachLink_get, loaded, withdrawDisag_link, missing, severe, withdrawLink]
  by_cases hs : c.evt.severe.testBit (1 + l.idx) = true
  · simp [hs]
  by_cases hadm : (c.links.get l).adm = true
  · by_cases hgone : (c.links.get l).gone = true
    · simp [hs, hadm, hgone]
    · simp [hs, hadm, hgone]
  · have admits : (decide (64 ≤ (c.links.get l).synctk) && (c.links.get l).agree && c.cfg.loaded) =
        decide (64 ≤ (c.links.get l).synctk ∧ (c.links.get l).agree = true ∧ c.cfg.loaded = true) := by simp [Bool.and_assoc]
    rw [admits]
    by_cases ok : 64 ≤ (c.links.get l).synctk ∧ (c.links.get l).agree = true ∧ c.cfg.loaded = true
    · simp [hs, hadm, ok]
    · simp [hs, hadm, ok]

/-! ## The writes of a unit at its boundary (R70, R103, R404) -/

/-- `t` is `s` with other records of group writes in the lanes, and another common part of unit `u`. -/
def BoundaryOnly (u : UnitId) (s t : State) : Prop :=
  (∀ k, t.lanes.get k = { s.lanes.get k with main := { (s.lanes.get k).main with groupSent := (t.lanes.get k).main.groupSent } }) ∧
    t = { s with lanes := t.lanes, ucom := s.ucom.set u (t.ucom.get u) }

theorem BoundaryOnly.refl (u : UnitId) (s : State) : BoundaryOnly u s s := ⟨fun _ => rfl, by simp⟩
theorem BoundaryOnly.setUnit {u : UnitId} {s t : State} (h : BoundaryOnly u s t) (c : UnitCommon) : BoundaryOnly u s (t.setUnit u c) := by
  obtain ⟨lanes, rest⟩ := h
  refine ⟨lanes, ?_⟩
  rw [rest]
  simp [State.setUnit]

theorem BoundaryOnly.trans {u : UnitId} {s t r : State} (h : BoundaryOnly u s t) (g : BoundaryOnly u t r) : BoundaryOnly u s r := by
  obtain ⟨lanes, rest⟩ := h
  obtain ⟨lanes', rest'⟩ := g
  refine ⟨fun k => ?_, ?_⟩
  · rw [lanes' k, lanes k]
  · rw [rest', rest]; simp

theorem BoundaryOnly.groupSent {u : UnitId} {s t : State} (h : BoundaryOnly u s t) (l : LaneId) (f : List ShadowWrite → List ShadowWrite) :
    BoundaryOnly u s (t.setLane l ((t.lanes.get l).onMain fun m => { m with groupSent := f m.groupSent })) := by
  obtain ⟨lanes, rest⟩ := h
  refine ⟨fun k => ?_, ?_⟩
  · by_cases hk : k = l
    · subst hk
      rw [State.setLane_lanes, Tri.get_set_same, lanes k]; rfl
    · rw [State.setLane_lanes, Tri.get_set_other _ _ _ _ hk]; exact lanes k
  · exact (congrArg (fun r : State => r.setLane l ((t.lanes.get l).onMain fun m => { m with groupSent := f m.groupSent })) rest :)

/-- No write agreed on where no link holds one. -/
theorem agreedWrites_none {c : UnitCommon} (h : ∀ l, (c.links.get l).writes = []) : agreedWrites c = [] := by
  simp only [agreedWrites, h]
  match c.admitted with
  | [] => rfl
  | [_] => rfl
  | [_, _] => rfl
  | _ :: _ :: _ :: _ => rfl

theorem eachLink_same {c : UnitCommon} {f : LaneId → LinkState → LinkState} (h : ∀ l, f l (c.links.get l) = c.links.get l) : c.eachLink f = c := by
  have a : f .a c.links.a = c.links.a := h .a
  have b : f .b c.links.b = c.links.b := h .b
  have c' : f .c c.links.c = c.links.c := h .c
  rw [UnitCommon.eachLink, a, b, c']

/-- A link that holds no write keeps none. -/
theorem filterWrites_none {k : LinkState} (h : k.writes = []) (f : RegAcc → Bool) : { k with writes := k.writes.filter f } = k := by
  cases k; simp_all

/-- A boundary at which no group write takes effect: what the lanes have sent of the group is put right, and the unit is as it was. -/
theorem State.groupRound_only {s : State} {u : UnitId} (hw : ∀ l, ((s.ucom.get u).links.get l).writes = [])
    (hd : (s.ucom.get u).shadow.due = []) : BoundaryOnly u s (s.groupRound u) ∧ (s.groupRound u).ucom.get u = s.ucom.get u := by
  have shown : (s.ucom.get u).shown = (s.ucom.get u).shadow := by rw [UnitCommon.shown, agreedWrites_none hw]; rfl
  have taken : (s.ucom.get u).takenIn = s.ucom.get u := by
    rw [UnitCommon.takenIn, shown]
    have links := eachLink_same (c := s.ucom.get u) (f := fun _ k => { k with writes := k.writes.filter fun a => !(agreedWrites (s.ucom.get u)).contains a })
      fun l => filterWrites_none (hw l) _
    exact (congrArg (fun c : UnitCommon => { c with shadow := (s.ucom.get u).shadow }) links :)
  have due : ∀ f : ShadowWrite → Bool, { (s.ucom.get u).shadow with due := (s.ucom.get u).shadow.due.filter f } = (s.ucom.get u).shadow := by
    intro f
    rw [hd, List.filter_nil, ← hd]
  have gone : ∀ f : ShadowWrite → Bool, (s.ucom.get u).shadow.due.filter f = [] := fun f => by rw [hd]; rfl
  have same : s.setUnit u { s.ucom.get u with shadow := (s.ucom.get u).shadow } = s := s.setUnit_self u
  simp only [State.groupRound, taken]
  rw [due, same]
  refine List.foldlRecOn (motive := fun t : State => BoundaryOnly u s t ∧ t.ucom.get u = s.ucom.get u) _ _
    ⟨.refl u s, rfl⟩ fun t ⟨only, unit⟩ l _ => ⟨?_, unit⟩
  rw [gone]
  exact only.groupSent l _

/-- A unit to which no write is due hands its shadow over, and nothing of it takes effect. -/
theorem unitWrites_none {s : State} {u : UnitId} (hw : ∀ l, ((s.ucom.get u).links.get l).writes = [])
    (hd : (s.ucom.get u).shadow.due = []) : unitWrites s u = s.setUnit u (s.ucom.get u).handOver := by
  have shown : (s.ucom.get u).shown = (s.ucom.get u).shadow := by rw [UnitCommon.shown, agreedWrites_none hw]; rfl
  simp only [unitWrites, shown, hd, List.filter_nil, List.foldl_nil]

/-- What is handed over is the shadow and what waits on the links. -/
theorem UnitCommon.handOver_rest (c : UnitCommon) : c.handOver = { c with links := c.handOver.links, shadow := c.handOver.shadow } ∧
    ∀ l, (c.handOver.links.get l).adm = (c.links.get l).adm :=
  ⟨rfl, fun l => by cases l <;> rfl⟩

/-- The round boundary of a unit to which no register write is due and that does not enter sleep. -/
theorem State.unitRoundAll_quiet {s : State} {u : UnitId} (hw : ∀ l, ((s.ucom.get u).links.get l).writes = [])
    (hd : (s.ucom.get u).shadow.due = []) (hs : (s.ucom.get u).slp.since = none) :
    ∃ t, BoundaryOnly u s t ∧ t.ucom.get u = (unitRound u (s.ucom.get u)).handOver ∧ s.unitRoundAll u = t.takeSnap u := by
  have lapsed : s.dropLapsed u = s := by
    rw [State.dropLapsed, eachLink_same fun l => filterWrites_none (hw l) _, s.setUnit_self]
  obtain ⟨only, writes⟩ := unitRound_only u (s.ucom.get u)
  have begun : (s.setUnit u (unitRound u (s.ucom.get u))).ucom.get u = unitRound u (s.ucom.get u) := Ten.get_set_same _ _ _
  have hw' : ∀ l, ((unitRound u (s.ucom.get u)).links.get l).writes = [] := fun l => (writes l).trans (hw l)
  have hd' : (unitRound u (s.ucom.get u)).shadow.due = [] := by rw [only]; exact hd
  obtain ⟨group, unit⟩ := State.groupRound_only (s := s.setUnit u (unitRound u (s.ucom.get u))) (u := u) (by rw [begun]; exact hw') (by rw [begun]; exact hd')
  rw [begun] at unit
  refine ⟨((s.setUnit u (unitRound u (s.ucom.get u))).groupRound u).setUnit u (unitRound u (s.ucom.get u)).handOver, ?_, ?_, ?_⟩
  · exact ((BoundaryOnly.refl u s).setUnit _ |>.trans group).setUnit _
  · exact Ten.get_set_same _ _ _
  · rw [State.unitRoundAll, lapsed, unitWrites_none (by rw [unit]; exact hw') (by rw [unit]; exact hd'), unit]
    have awake : ((unitRound u (s.ucom.get u)).handOver).slp.since = none := by rw [(UnitCommon.handOver_rest _).1, only]; exact hs
    simp only [State.unitSleepRound, State.takeSnap, State.setUnit_ucom, Ten.get_set_same, awake]

end Sys2Proof.Machine

namespace Sys2Proof.Machine
open Sys2Proof

/-! ## What the steps of a lane's round boundary leave alone -/

/-- The time of a lane, its signatures, its state and domain, and the request that waits for it. -/
def Lane.bound (n : Lane) : LaneTime × List (Nat × (Nat × Nat)) × LState × DomState × Option DomState :=
  (n.main.time, n.main.sigs, n.state, n.dom, n.aon.pwr.slot)

/-- `m` is as bound by its round as `n`, and keeps SIG_MISMATCH where it stands. -/
def Keeps (n m : Lane) : Prop := m.bound = n.bound ∧ (n.main.evt.status.testBit 129 = true → m.main.evt.status.testBit 129 = true)

theorem Keeps.refl (n : Lane) : Keeps n n := ⟨rfl, id⟩
theorem Keeps.trans {n m o : Lane} (h : Keeps n m) (g : Keeps m o) : Keeps n o := ⟨g.1.trans h.1, g.2 ∘ h.2⟩
/-- A step that touches neither the lane's event block nor what binds it. -/
theorem Keeps.of_eq {n m : Lane} (h : m.bound = n.bound) (he : m.main.evt = n.main.evt) : Keeps n m := ⟨h, fun hs => by rw [he]; exact hs⟩
theorem Keeps.foldl {α : Type} (f : Lane → α → Lane) (h : ∀ n x, Keeps n (f n x)) (xs : List α) (n : Lane) : Keeps n (xs.foldl f n) :=
  List.foldlRecOn (motive := Keeps n) xs f (.refl n) fun m hm x _ => hm.trans (h m x)

section steps
variable (n : Lane) (l : LaneId)

theorem Keeps.onOffice (f : Office → Office) : Keeps n (n.onOffice f) := .of_eq rfl rfl
theorem Keeps.onNet (f : Net → Net) : Keeps n (n.onNet f) := .of_eq rfl rfl
theorem Keeps.onMode (f : ModeState → ModeState) : Keeps n (n.onMode f) := .of_eq rfl rfl
theorem Keeps.onDma (f : Mover → Mover) : Keeps n (n.onDma f) := .of_eq rfl rfl
theorem Keeps.makeView : Keeps n n.makeView := .onOffice n _
theorem Keeps.event (k : Nat) : Keeps n (n.event l k) := ⟨rfl, n.event_status_kept l k⟩
theorem Keeps.requestRing (line r : Nat) : Keeps n (n.requestRing l line r) := by
  simp only [Lane.requestRing]
  split
  · split
    · exact .refl n
    · exact Keeps.trans (m := n.onRing r fun g => { g with ovrqn := g.ovrqn.add 1 }) (.of_eq rfl rfl) (.event _ l 133)
  · exact .refl n
theorem Keeps.raiseLine (line : Nat) : Keeps n (n.raiseLine l line) := by
  unfold Lane.raiseLine
  split
  · exact .foldl _ (fun m r => .requestRing m l line r) _ n
  · exact .refl n
theorem Keeps.noteSeqs : Keeps n n.noteSeqs := by
  refine .foldl _ (fun m d => ?_) _ n
  split
  · dsimp only; split
    · exact .of_eq rfl rfl
    · exact .refl m
  · exact .refl m
theorem Keeps.handOver : Keeps n (n.handOver l) := by
  have bank := Keeps.trans (m := n.onNet fun m => { m with bank := m.rx, rx := [] }) (.of_eq rfl rfl) ((Keeps.noteSeqs _).trans (.raiseLine _ l 11))
  dsimp only [Lane.handOver]
  split
  · exact bank.trans (.raiseLine _ l 12)
  · exact bank

theorem Keeps.setHolder (h : Option Nat) (cause : Nat) : Keeps n (n.setHolder l h cause) := by
  simp only [Lane.setHolder]
  split
  · exact Keeps.trans (.of_eq rfl rfl) (.event _ l 14)
  · exact .of_eq rfl rfl
theorem Keeps.releases : Keeps n (n.releases l) := by
  unfold Lane.releases
  split
  · dsimp only
    split
    · exact .setHolder n l none 4
    · split
      · split
        · exact .setHolder n l _ 1
        · exact .setHolder n l none 2
      · exact .refl n
  · exact .refl n
theorem Keeps.elect : Keeps n (n.elect l) := by
  unfold Lane.elect
  split
  · split
    · exact .setHolder n l _ _
    · exact .refl n
  · exact .refl n
theorem Keeps.officeRound (peer : Option Nat) : Keeps n (n.officeRound l peer) := by
  unfold Lane.officeRound
  extract_lets cs h judged released refused held
  have before : Keeps n released := (Keeps.onOffice n _).trans (Keeps.releases judged l)
  have elected : Keeps released held := by
    unfold held
    split
    · exact .onOffice released _
    · exact .elect released l
  exact (before.trans elected).trans ((Keeps.onOffice held _).trans (.makeView _))

theorem Keeps.modeRound : Keeps n (n.modeRound l) := by
  unfold Lane.modeRound
  split
  case h_4 => split <;> exact .of_eq rfl rfl
  all_goals exact .of_eq rfl rfl

theorem Keeps.partnerRound : Keeps n n.partnerRound := by
  unfold Lane.partnerRound
  refine Keeps.foldl _ (fun m p => Keeps.foldl _ (fun o k => ?_) _ m) _ n
  exact Keeps.of_eq rfl rfl
theorem Keeps.netRound : Keeps n n.netRound := by
  have before := Keeps.partnerRound n
  unfold Lane.netRound
  generalize n.partnerRound = m at *
  exact before.trans (Keeps.of_eq rfl rfl)

theorem Keeps.of_unchecked {m : Lane} (h : m.unchecked = n.unchecked)
    (hs : n.main.evt.status.testBit 129 = true → m.main.evt.status.testBit 129 = true) : Keeps n m :=
  ⟨(congrArg Lane.bound h :), hs⟩
theorem Keeps.retryEvent (k : Nat) : Keeps n (n.retryEvent l k) :=
  .of_unchecked n (n.retryEvent_unchecked l k) fun h => by rw [Lane.retryEvent_evt]; exact n.event_status_kept l k h
theorem Keeps.failEvent (k : Nat) : Keeps n (n.failEvent l k) :=
  .of_unchecked n (n.failEvent_unchecked l k) fun h => by rw [Lane.failEvent_evt]; exact n.event_status_kept l k h
theorem Keeps.bareArrival : Keeps n (n.bareArrival l) := by
  dsimp only [Lane.bareArrival]
  split
  · exact .onNet n _
  · exact .refl n
theorem Keeps.countsBegin : Keeps n n.countsBegin := by
  refine Keeps.trans (m := (n.onOffice fun o => { o with changes := o.changes.begun, refused := o.refused.begun }).onMem fun g => { g with sign := g.sign.begun })
    (.of_eq rfl rfl) (.onDma _ _)

end steps

/-- The time of a voting lane as its round begins (R52, R61, R63). -/
def RoundBegun (t t' : LaneTime) : Prop :=
  t'.round = (t.round + 1) % 16777216 ∧ t'.tick = t.tick ∧ t'.roundDue = false ∧ t'.trim.natAbs ≤ 20000

/-- The trim of the coming round is at most 80 ns (R61). -/
theorem LaneTime.trimmed_begun (t : LaneTime) (mofs : Int) (r : RcCount) : RoundBegun t { t.trimmed mofs with roundDue := false, rmax := r } := by
  refine ⟨rfl, rfl, rfl, ?_⟩
  simp only [LaneTime.trimmed, clampI]
  omega

theorem Lane.timeRound_voting (n : Lane) (l : LaneId) (h : n.state = .voting) : ∃ t, RoundBegun n.main.time t ∧
    Keeps (n.onMain fun m => { m with time := t }) (n.timeRound l) := by
  unfold Lane.timeRound
  extract_lets m beacon set trimmed
  rw [if_pos h]
  let t := n.main.time.trimmed ((beacon.map (fun b => b.1)).getD 0)
  refine ⟨{ t with roundDue := false, rmax := t.rmax.begun.raise (Config.workTime 1 l.idx t.tick % 65536) }, n.main.time.trimmed_begun _ _, ?_⟩
  split
  · exact Keeps.retryEvent _ l 1
  · exact Keeps.refl _

/-- SIG_MISMATCH is a source of lanes A and B (R315, R365). -/
theorem evtDefault_sigMismatch {l : LaneId} (h : l ≠ .c) : (evtDefault (laneKind l) 129).isSome = true := by
  cases l with
  | a => rfl
  | b => rfl
  | c => exact absurd rfl h

section signatures
variable (n : Lane) (l : LaneId)

theorem Keeps.sigMismatch (core task : Nat) : Keeps n (n.sigMismatch l core task) :=
  Keeps.trans (m := n.onMem fun g => { g with lastmm := lastMm 3 0 task core, sign := g.sign.add 1 }) (.of_eq rfl rfl) (.failEvent _ l 129)

theorem Lane.sigMismatch_raised (core task : Nat) (hl : l ≠ .c) : (n.sigMismatch l core task).main.evt.status.testBit 129 = true := by
  rw [Lane.sigMismatch, Lane.failEvent_evt]
  exact Lane.event_status_set _ l 129 (evtDefault_sigMismatch hl)

/-- A lane that has compared its signatures, before they are reset (R314, R315). -/
def Lane.sigsCompared : Lane :=
  if n.computing && procLane l then (n.main.sigs.filter fun e => e.2.1 ≠ e.2.2).foldl (fun n e => n.sigMismatch l (e.1 / 65536) (e.1 % 65536)) n else n

theorem Lane.compareSigs_eq : n.compareSigs l = (n.sigsCompared l).onMain fun m => { m with sigs := [] } := rfl

theorem Keeps.sigsCompared : Keeps n (n.sigsCompared l) := by
  unfold Lane.sigsCompared
  split
  · exact .foldl _ (fun m e => .sigMismatch m l _ _) _ n
  · exact .refl n

/-- A pair that differs is a mismatch (R315). -/
theorem Lane.sigsCompared_raised (hl : l ≠ .c) (hc : n.computing = true) (he : ∃ e ∈ n.main.sigs, e.2.1 ≠ e.2.2) :
    (n.sigsCompared l).main.evt.status.testBit 129 = true := by
  obtain ⟨e, hmem, differs⟩ := he
  have cores : (n.computing && procLane l) = true := by simp [hc, procLane, hl]
  have among : e ∈ n.main.sigs.filter fun e => e.2.1 ≠ e.2.2 := List.mem_filter.mpr ⟨hmem, by simpa using differs⟩
  unfold Lane.sigsCompared
  rw [if_pos cores]
  refine foldl_reaches (P := fun m : Lane => m.main.evt.status.testBit 129 = true) among (fun m => ?_) (fun m y hm => ?_) n
  · exact m.sigMismatch_raised l _ _ hl
  · exact (Keeps.sigMismatch m l _ _).2 hm

end signatures

/-! ## The network and the windows at a lane's round boundary (R46, R268, R270, R350, R368) -/

section network
variable (s : State) (l k : LaneId)

theorem State.windowsRound_keeps : Keeps (s.lanes.get l) ((s.windowsRound l).lanes.get l) := by
  dsimp only [State.windowsRound]
  split
  · rw [State.setLane_lanes, Tri.get_set_same]; exact ⟨rfl, id⟩
  · rw [State.setLane_lanes, Tri.get_set_same]; exact ⟨rfl, id⟩

theorem State.serviceCheck_keeps : Keeps (s.lanes.get l) ((s.serviceCheck l).lanes.get l) := by
  unfold State.serviceCheck
  split
  · obtain ⟨p, h⟩ := State.serviceOut_own s l none Lane.halt
    rw [h]; exact .of_eq rfl rfl
  · exact .refl _

theorem State.seeDomains_keeps : Keeps (s.lanes.get l) ((s.seeDomains l).lanes.get l) := by
  dsimp only [State.seeDomains]
  rw [State.setLane_lanes, Tri.get_set_same]
  split <;> exact .of_eq rfl rfl

theorem State.giveGroup_keeps (plane : Nat) (key : BitVec 128) : Keeps (s.lanes.get k) ((s.giveGroup plane key).lanes.get k) := by
  have own : (s.giveGroup plane key).lanes.get k = if (s.lanes.get k).awake then
      (s.lanes.get k).onNet (fun m => { m with gk := assocPut m.gk plane key }) else s.lanes.get k := Tri.get_map _ _ k
  rw [own]
  split
  · exact .onNet _ _
  · exact .refl _

theorem State.groupKey_keeps : Keeps (s.lanes.get k) ((s.groupKey l).lanes.get k) := by
  unfold State.groupKey
  split
  · split
    · exact s.giveGroup_keeps k _ _
    · exact s.draw.2.giveGroup_keeps k _ _
  · exact .refl _

@[simp] theorem State.noteEpoch_lanes (e : Nat) (used : Bool) : (s.noteEpoch e used).lanes = s.lanes := by
  unfold State.noteEpoch; split <;> rfl

theorem State.beaconStart_keeps : Keeps (s.lanes.get l) ((s.beaconStart l).lanes.get l) := by
  unfold State.beaconStart
  extract_lets m p e s₀ s' n
  split
  · have start : Keeps (s.lanes.get l) (s'.lanes.get l) := by
      refine Keeps.trans ?_ (State.groupKey_keeps s₀ l l)
      unfold s₀
      split
      · exact .refl _
      · rw [State.setLane_lanes, Tri.get_set_same]; exact .onNet _ _
    rw [State.noteEpoch_lanes, State.setLane_lanes, Tri.get_set_same]
    exact start.trans (.onNet _ _)
  · exact .refl _

theorem State.joinStart_keeps : Keeps (s.lanes.get l) ((s.joinStart l).lanes.get l) := by
  unfold State.joinStart
  extract_lets n m p soon d e msg
  split
  · rw [State.setLane_lanes, Tri.get_set_same]
    exact Keeps.onNet n _
  · exact .refl _

end network

end Sys2Proof.Machine

namespace Sys2Proof.Machine
open Sys2Proof

/-! ## Sleep entry at a lane's round boundary (R395, R396, R398) -/

/-- What a lane that enters sleep keeps: its time, signatures and events. -/
def Lane.borne (n : Lane) : LaneTime × List (Nat × (Nat × Nat)) × EvtBlock := (n.main.time, n.main.sigs, n.main.evt)

/-- That, with its domain and the request that waits: what the sleep of others leaves of it. -/
def Lane.steady (n : Lane) : (LaneTime × List (Nat × (Nat × Nat)) × EvtBlock) × DomState × Option DomState := (n.borne, n.dom, n.aon.pwr.slot)

theorem SameBut.steady {n m : Lane} (h : SameBut n m) : m.steady = n.steady := by
  unfold SameBut at h
  rw [h]; rfl
theorem SameBut.borne {n m : Lane} (h : SameBut n m) : m.borne = n.borne := congrArg Prod.fst h.steady

section sleep
variable (s : State) {l k : LaneId}

theorem State.laneSleeps_borne (l : LaneId) (slept : Bool) : ((s.laneSleeps l slept).lanes.get l).borne = (s.lanes.get l).borne := by
  obtain ⟨n, p, views, own⟩ := s.laneSleeps_lane l slept
  rw [own]
  exact (views.borne :)

theorem State.laneSleeps_other (hk : k ≠ l) (slept : Bool) : ((s.laneSleeps l slept).lanes.get k).steady = (s.lanes.get k).steady := by
  obtain ⟨p, other⟩ := State.planeDown_other (s.linksDown l) hk
  rw [State.linksDown_lanes] at other
  simp only [State.laneSleeps, State.syncInhibit_lanes, State.setLane_lanes, Tri.get_set_other _ _ _ _ hk, other]
  rfl

theorem State.planeRequest_steady (l k : LaneId) (target : DomState) : ((s.planeRequest l target).lanes.get k).steady = (s.lanes.get k).steady := by
  cases target with
  | on =>
    dsimp only [State.planeRequest]
    split
    · by_cases hk : k = l
      · subst hk; rw [State.setLane_lanes, Tri.get_set_same]; rfl
      · rw [State.setLane_lanes, Tri.get_set_other _ _ _ _ hk]
    · rfl
  | retention => rfl
  | off =>
    by_cases hk : k = l
    · subst hk
      obtain ⟨p, own⟩ := s.planeDown_own k
      exact (congrArg Lane.steady own).trans rfl
    · obtain ⟨p, other⟩ := s.planeDown_other hk
      exact (congrArg Lane.steady other).trans rfl

theorem State.laneRequest_other (hk : k ≠ l) (target : DomState) : ((s.laneRequest l target).lanes.get k).steady = (s.lanes.get k).steady := by
  cases target with
  | on =>
    dsimp only [State.laneRequest]
    split
    · obtain ⟨f, other⟩ := s.laneReturns_other l 3 hk
      rw [other]; rfl
    · rfl
  | retention =>
    dsimp only [State.laneRequest]
    split
    · exact s.laneSleeps_other hk true
    · rfl
  | off =>
    dsimp only [State.laneRequest]
    split
    · rfl
    · obtain ⟨p, other⟩ := s.laneDown_other l .off .off hk
      rw [other]; rfl

/-- A request that does not take an awake lane OFF keeps its main domain. -/
theorem State.laneRequest_borne {target : DomState} (ht : target ≠ .off) (hd : (s.lanes.get l).dom = .on) :
    ((s.laneRequest l target).lanes.get l).borne = (s.lanes.get l).borne := by
  cases target with
  | on => rw [State.laneRequest, if_neg fun h => by simp [hd] at h]
  | retention =>
    dsimp only [State.laneRequest]
    split
    · exact s.laneSleeps_borne l true
    · rfl
  | off => exact absurd rfl ht

/-- A lane whose waiting requests are taken up (R397, R398). -/
def Lane.unslotted (n : Lane) (woken : Bool) : Lane :=
  n.onPwr fun p => { p with slot := none, pslot := none, replay := 0, src := p.src ||| p.replay, replayed := p.replayed || woken }

theorem State.laneSlot_other (hk : k ≠ l) : ((s.laneSlot l).lanes.get k).steady = (s.lanes.get k).steady := by
  unfold State.laneSlot
  extract_lets p woken s₀ s₁
  have plane : (s₁.lanes.get k).steady = (s.lanes.get k).steady := by
    have start : s₀.lanes.get k = s.lanes.get k := Tri.get_set_other _ _ _ _ hk
    unfold s₁
    split
    · rw [State.planeRequest_steady, start]
    · rw [start]
  split
  · rw [State.laneRequest_other _ hk, plane]
  · exact plane

theorem State.laneSlot_borne (hs : (s.lanes.get l).aon.pwr.slot ≠ some .off) (hd : (s.lanes.get l).dom = .on) :
    ((s.laneSlot l).lanes.get l).borne = (s.lanes.get l).borne := by
  unfold State.laneSlot
  extract_lets p woken s₀ s₁
  have start : s₀.lanes.get l = (s.lanes.get l).unslotted woken := Tri.get_set_same _ _ _
  have plane : (s₁.lanes.get l).steady = ((s.lanes.get l).unslotted woken).steady := by
    unfold s₁
    split
    · rw [State.planeRequest_steady, start]
    · rw [start]
  obtain ⟨borne, rest⟩ := Prod.ext_iff.mp plane
  split
  case h_1 target slot =>
    have on : (s₁.lanes.get l).dom = .on := (congrArg Prod.fst rest).trans hd
    exact (s₁.laneRequest_borne (fun h => hs (by rw [← h]; exact slot)) on).trans borne
  case h_2 => exact borne

theorem State.laneStays_other (hk : k ≠ l) : ((s.laneStays l).lanes.get k).steady = (s.lanes.get k).steady := by
  rw [State.laneStays, State.laneSlot_other _ hk, State.setLane_lanes, Tri.get_set_other _ _ _ _ hk]

theorem State.laneStays_borne (hs : (s.lanes.get l).aon.pwr.slot ≠ some .off) (hd : (s.lanes.get l).dom = .on) :
    ((s.laneStays l).lanes.get l).borne = (s.lanes.get l).borne := by
  unfold State.laneStays
  refine (State.laneSlot_borne _ ?_ ?_).trans ?_
  · rw [State.setLane_lanes, Tri.get_set_same]; exact hs
  · rw [State.setLane_lanes, Tri.get_set_same]; exact hd
  · rw [State.setLane_lanes, Tri.get_set_same]; rfl

theorem State.laneStops_borne (hs : (s.lanes.get l).aon.pwr.slot ≠ some .off) :
    ((s.laneStops l).lanes.get l).borne = (s.lanes.get l).borne := by
  unfold State.laneStops
  extract_lets w s'
  have own : (s'.lanes.get l).borne = (s.lanes.get l).borne := s.laneSleeps_borne l true
  have waits : w ≠ some .off := hs
  clear_value w s'
  rw [if_neg waits]
  split
  · rw [State.setLane_lanes, Tri.get_set_same]; exact own
  · exact own

/-- The requests that waited for the units act as the entry is cancelled. -/
def State.unitsStay : State :=
  allUnits.foldl (fun s u => if (s.ucom.get u).dom = .on then (s.setUnit u { s.ucom.get u with slp := {} }).unitSlot u (s.ucom.get u).slp.slot else s) s

theorem State.unitsStay_lane (k : LaneId) : SameBut (s.lanes.get k) (s.unitsStay.lanes.get k) := by
  refine List.foldlRecOn (motive := fun t : State => SameBut (s.lanes.get k) (t.lanes.get k)) _ _ (.refl _) fun t ht u _ => ?_
  dsimp only
  split
  · refine ht.trans ?_
    unfold State.unitSlot
    split
    · exact (State.unitRequest_only _ u _).1 k
    · exact .refl _
  · exact ht

theorem State.cancelSleep_borne (hs : (s.lanes.get l).aon.pwr.slot ≠ some .off) (hd : (s.lanes.get l).dom = .on) :
    ((s.cancelSleep).lanes.get l).borne = (s.lanes.get l).borne := by
  have all : l ∈ allLanes := by cases l <;> decide
  obtain ⟨t, same, ended⟩ := foldl_visits (fun t : State => (t.lanes.get l).steady)
    (f := fun (t : State) x => if (t.lanes.get x).aon.pwr.sleepAt.isSome then t.laneStays x else t) all (by decide : allLanes.Nodup) (fun t x hx => by
      split
      · exact t.laneStays_other (Ne.symm hx)
      · rfl) s.unitsStay
  have units := same.trans (s.unitsStay_lane l).steady
  obtain ⟨borne, rest⟩ := Prod.ext_iff.mp units
  obtain ⟨dom, slot⟩ := Prod.ext_iff.mp rest
  refine (congrArg Prod.fst ended).trans (Eq.trans ?_ borne)
  split
  · exact t.laneStays_borne (fun h => hs (slot.symm.trans h)) (dom.trans hd)
  · rfl

theorem State.sendSleep_lanes (l : LaneId) : (s.sendSleep l).lanes = s.lanes := by
  unfold State.sendSleep
  split
  · rfl
  · refine List.foldlRecOn (motive := fun t : State => t.lanes = s.lanes) _ _ rfl fun t ht u _ => ?_
    dsimp only
    split
    · exact ht
    · exact ht

theorem State.sleepRound_borne (hs : (s.lanes.get l).aon.pwr.slot ≠ some .off) (hd : (s.lanes.get l).dom = .on) :
    ((s.sleepRound l).lanes.get l).borne = (s.lanes.get l).borne := by
  unfold State.sleepRound
  extract_lets n p
  split
  case h_1 =>
    split
    · split
      · exact s.laneStays_borne hs hd
      · rfl
    · split
      · rw [State.setLane_lanes, Tri.get_set_same]; rfl
      · split
        · rw [State.sendSleep_lanes, State.setLane_lanes, Tri.get_set_same]; rfl
        · rfl
  case h_2 j _ =>
    extract_lets s'
    have own : (s'.lanes.get l) = n.onPwr (fun p => { p with sleepAt := some (j + 1) }) := Tri.get_set_same _ _ _
    have hs' : (s'.lanes.get l).aon.pwr.slot ≠ some .off := by rw [own]; exact hs
    have hd' : (s'.lanes.get l).dom = .on := by rw [own]; exact hd
    have same : (s'.lanes.get l).borne = (s.lanes.get l).borne := by rw [own]; rfl
    rw [← same]
    split
    · exact s'.cancelSleep_borne hs' hd'
    · split
      · exact s'.laneStops_borne hs'
      · rfl

end sleep

end Sys2Proof.Machine

namespace Sys2Proof.Machine
open Sys2Proof

/-! ## The round boundary (R26, R27, R52, R61, R314, R315) -/

/-- The round boundary of a unit that runs, with no write due and no sleep entry. -/
theorem roundBoundary_unit {s : State} {u : UnitId} {turned : List (Nat × Nat)} (hr : s.runs u = true) (hround : (s.ucom.get u).roundDue = true)
    (hd : (s.ucom.get u).shadow.due = []) (hw : ∀ l, ((s.ucom.get u).links.get l).writes = []) (hs : (s.ucom.get u).slp.since = none) :
    ∃ t, BoundaryOnly u s t ∧ t.ucom.get u = (unitRound u (s.ucom.get u)).handOver ∧ exec (.roundBoundary (.unit u) turned) s = .next (t.takeSnap u) := by
  obtain ⟨t, only, unit, ended⟩ := State.unitRoundAll_quiet hw hd hs
  exact ⟨t, only, unit, congrArg Host.Outcome.next ((if_pos hr).trans ((if_pos hround).trans ended))⟩

/-- A unit's status snapshot is of its registers as they then stand (R408). -/
theorem BoundaryOnly.takeSnap {u : UnitId} {s t : State} (h : BoundaryOnly u s t) : t.takeSnap u =
    { s with lanes := t.lanes, ucom := s.ucom.set u (t.ucom.get u), snaps := s.snaps.set u (some (t.snapUnit u)) } :=
  (congrArg (fun r : State => { r with snaps := r.snaps.set u (some (t.snapUnit u)) }) h.2 :)

theorem Keeps.state {n m : Lane} (h : Keeps n m) : m.state = n.state :=
  (congrArg (fun b : LaneTime × List (Nat × (Nat × Nat)) × LState × DomState × Option DomState => b.2.2.1) h.1 :)
theorem Keeps.dom {n m : Lane} (h : Keeps n m) : m.dom = n.dom :=
  (congrArg (fun b : LaneTime × List (Nat × (Nat × Nat)) × LState × DomState × Option DomState => b.2.2.2.1) h.1 :)
theorem Keeps.slot {n m : Lane} (h : Keeps n m) : m.aon.pwr.slot = n.aon.pwr.slot :=
  (congrArg (fun b : LaneTime × List (Nat × (Nat × Nat)) × LState × DomState × Option DomState => b.2.2.2.2) h.1 :)
theorem Keeps.sigs {n m : Lane} (h : Keeps n m) : m.main.sigs = n.main.sigs :=
  (congrArg (fun b : LaneTime × List (Nat × (Nat × Nat)) × LState × DomState × Option DomState => b.2.1) h.1 :)
theorem Keeps.time {n m : Lane} (h : Keeps n m) : m.main.time = n.main.time := (congrArg Prod.fst h.1 :)

theorem Keeps.atTime {n m : Lane} (h : Keeps n m) (t : LaneTime) : Keeps (n.onMain fun x => { x with time := t }) (m.onMain fun x => { x with time := t }) :=
  ⟨(congrArg (fun b : LaneTime × List (Nat × (Nat × Nat)) × LState × DomState × Option DomState => (t, b.2)) h.1 :), h.2⟩

/-- A voting lane as its cells, its office and its network leave the boundary, before its signatures are compared. -/
def Lane.rounded (n : Lane) (l : LaneId) (peer : Option Nat) : Lane :=
  (((n.countsBegin.handOver l).officeRound l peer).lostRound.modeRound l).netRound

theorem Lane.computing_of_voting {n : Lane} (hv : n.state = .voting) (hd : n.dom = .on) : n.computing = true := by simp [Lane.computing, hv, hd]

theorem Keeps.handed (n : Lane) (l : LaneId) : Keeps n (n.countsBegin.handOver l) := (Keeps.countsBegin n).trans (Keeps.handOver n.countsBegin l)
theorem Keeps.officed (n : Lane) (l : LaneId) (peer : Option Nat) : Keeps n ((n.countsBegin.handOver l).officeRound l peer) :=
  (Keeps.handed n l).trans (.officeRound _ l peer)
theorem Keeps.rounded (n : Lane) (l : LaneId) (peer : Option Nat) : Keeps n (n.rounded l peer) :=
  (Keeps.officed n l peer).trans ((Keeps.onMode _ _).trans ((Keeps.modeRound _ l).trans (.netRound _)))

/-- The time and the windows of a lane at its boundary, before its lines are raised (R46, R52, R368). -/
def State.roundTimed (s : State) (l : LaneId) : State :=
  ((s.setLane l (((s.lanes.get l).bareArrival l).timeRound l)).windowsRound l).serviceCheck l

theorem State.roundTimed_voting {s : State} {l : LaneId} (hv : (s.lanes.get l).state = .voting) : ∃ t, RoundBegun (s.lanes.get l).main.time t ∧
    Keeps ((s.lanes.get l).onMain fun m => { m with time := t }) ((s.roundTimed l).lanes.get l) := by
  have bare := Keeps.bareArrival (s.lanes.get l) l
  obtain ⟨t, begun, keeps⟩ := ((s.lanes.get l).bareArrival l).timeRound_voting l (bare.state.trans hv)
  rw [bare.time] at begun
  refine ⟨t, begun, Keeps.trans (m := ((s.lanes.get l).bareArrival l).onMain fun m => { m with time := t }) ?_ (keeps.trans ?_)⟩
  · exact bare.atTime t
  · have windows := State.windowsRound_keeps (s.setLane l (((s.lanes.get l).bareArrival l).timeRound l)) l
    rw [State.setLane_lanes, Tri.get_set_same] at windows
    exact windows.trans (State.serviceCheck_keeps _ l)

/-- A voting lane has compared its signatures as its sleep is judged. -/
theorem State.laneRound_compared {s : State} {l : LaneId} (hv : ((s.roundTimed l).lanes.get l).state = .voting)
    (hd : ((s.roundTimed l).lanes.get l).dom = .on) : ∃ (peer : Option Nat) (t : State), s.laneRound l = (t.sleepRound l).polvinSleeps ∧
    Keeps ((((s.roundTimed l).lanes.get l).rounded l peer).compareSigs l) (t.lanes.get l) := by
  unfold State.laneRound
  extract_lets s₁ s₂ n₁ n₂ n₃ n₄ n₅ n₆ n₇ n₈ n₉ s₃
  have timed : s.roundTimed l = s₂ := rfl
  rw [timed] at hv hd ⊢
  clear_value s₂
  have handed : Keeps (s₂.lanes.get l) n₁ := Keeps.handed (s₂.lanes.get l) l
  have computes : n₁.computing = true := Lane.computing_of_voting (handed.state.trans hv) (handed.dom.trans hd)
  have lines : n₁ = (s₂.lanes.get l).countsBegin.handOver l := rfl
  clear_value n₁
  have office : n₂ = n₁.officeRound l (if s₂.port.up then s₂.port.peer else none) := if_pos computes
  clear_value n₂
  have officed : Keeps (s₂.lanes.get l) n₂ := by rw [office]; exact handed.trans (.officeRound _ l _)
  have voting : n₂.state = .voting := officed.state.trans hv
  have started : n₃ = n₂ := if_neg (by simp [voting])
  clear_value n₃
  have promoted : n₄ = n₂ := by
    unfold n₄
    rw [started, Lane.promote, if_neg (by simp [voting])]
  clear_value n₄
  have moded : n₆ = (n₂.lostRound).modeRound l := by
    unfold n₆ n₅
    rw [promoted]
    exact if_pos voting
  clear_value n₆
  have rounded : n₇ = (s₂.lanes.get l).rounded l (if s₂.port.up then s₂.port.peer else none) := by
    unfold n₇
    rw [moded, office, lines, Lane.rounded]
  clear_value n₇
  refine ⟨if s₂.port.up then s₂.port.peer else none, (s₃.beaconStart l).joinStart l, rfl, ?_⟩
  have compared : Keeps n₈ n₉ := .of_eq rfl rfl
  have seen : Keeps n₉ (s₃.lanes.get l) := by
    have domains := State.seeDomains_keeps ((s₂.setLane l n₉).syncInhibit) l
    rw [State.syncInhibit_lanes, State.setLane_lanes, Tri.get_set_same] at domains
    exact domains
  rw [← rounded]
  exact compared.trans (seen.trans ((State.beaconStart_keeps s₃ l).trans (State.joinStart_keeps _ l)))

/-- The round boundary of a voting lane: its time as the round begins, its signatures compared and reset (R52, R61, R314, R315). -/
theorem State.laneRound_begins {s : State} {l : LaneId} (hv : (s.lanes.get l).state = .voting) (hd : (s.lanes.get l).dom = .on)
    (hs : (s.lanes.get l).aon.pwr.slot ≠ some .off) : RoundBegun (s.lanes.get l).main.time ((s.laneRound l).lanes.get l).main.time ∧
    ((s.laneRound l).lanes.get l).main.sigs = [] ∧
    (l ≠ .c → (∃ e ∈ (s.lanes.get l).main.sigs, e.2.1 ≠ e.2.2) → ((s.laneRound l).lanes.get l).main.evt.status.testBit 129 = true) := by
  obtain ⟨time, begun, timed⟩ := State.roundTimed_voting hv
  have voting : ((s.roundTimed l).lanes.get l).state = .voting := timed.state.trans hv
  have on : ((s.roundTimed l).lanes.get l).dom = .on := timed.dom.trans hd
  obtain ⟨peer, t, ended, keeps⟩ := State.laneRound_compared voting on
  have before := timed.trans (Keeps.rounded _ l peer)
  generalize ((s.roundTimed l).lanes.get l).rounded l peer = n at *
  have compared : Keeps n (n.sigsCompared l) := .sigsCompared n l
  rw [Lane.compareSigs_eq] at keeps
  have asleep : ((s.laneRound l).lanes.get l).borne = (t.lanes.get l).borne := by
    have sleeps := t.sleepRound_borne (l := l)
      (by rw [keeps.slot]; exact fun h => hs (before.slot.symm.trans (compared.slot.symm.trans h))) (keeps.dom.trans (compared.dom.trans (before.dom.trans hd)))
    rw [ended, State.polvinSleeps]
    split
    · exact sleeps
    · exact sleeps
  obtain ⟨sameTime, rest⟩ := Prod.ext_iff.mp asleep
  obtain ⟨sameSigs, sameEvt⟩ := Prod.ext_iff.mp rest
  refine ⟨?_, (sameSigs.trans keeps.sigs :), fun hl he => ?_⟩
  · have last : ((s.laneRound l).lanes.get l).main.time = time := sameTime.trans (keeps.time.trans (compared.time.trans before.time))
    rw [last]; exact begun
  · have differs : ∃ e ∈ n.main.sigs, e.2.1 ≠ e.2.2 := by rw [before.sigs]; exact he
    have computes : n.computing = true := Lane.computing_of_voting (before.state.trans hv) (before.dom.trans hd)
    have raised := keeps.2 (n.sigsCompared_raised l hl computes differs)
    exact (congrArg (fun e : EvtBlock => e.status.testBit 129) sameEvt).trans raised

/-- Settles O29: the unit's boundary is `unitRound` where no write is due; each step of the lane's keeps what binds it, up to the signatures it resets. -/
theorem roundBoundaries : Obligations.RoundBoundaries := by
  unfold Obligations.RoundBoundaries
  refine ⟨fun s u turned hr hround hd hw hs => ?unit, fun s l turned ha hv hround hslot => ?lane⟩
  case unit =>
    obtain ⟨t, only, unit, ended⟩ := roundBoundary_unit (turned := turned) hr hround hd hw hs
    have rounded := (unitRound_only u (s.ucom.get u)).1
    obtain ⟨handed, adm⟩ := (unitRound u (s.ucom.get u)).handOver_rest
    have own : (t.takeSnap u).ucom.get u = (unitRound u (s.ucom.get u)).handOver := unit
    refine ⟨t.takeSnap u, ended, only.1, only.takeSnap, ?_, ?_, ?_, ?_, fun l => ?_⟩
    · rw [own, handed, rounded]; rfl
    · rw [own, handed, rounded]; rfl
    · rw [own, handed, rounded]; rfl
    · rw [own, handed, rounded]; rfl
    · rw [own, adm]; exact unitRound_adm u _ l
  case lane =>
    have on : (s.lanes.get l).dom = .on := by
      simp only [Lane.awake, Bool.and_eq_true, decide_eq_true_eq] at ha
      exact ha.1.1
    have own : (s.setLane l ((s.lanes.get l).turnSigs turned)).lanes.get l = (s.lanes.get l).turnSigs turned := Tri.get_set_same _ _ _
    have begins := State.laneRound_begins (s := s.setLane l ((s.lanes.get l).turnSigs turned)) (l := l) (by rw [own]; exact hv) (by rw [own]; exact on)
      (by rw [own]; exact hslot)
    rw [own] at begins
    obtain ⟨⟨round, tick, due, trim⟩, sigs, raised⟩ := begins
    exact ⟨_, congrArg Host.Outcome.next (if_pos ⟨ha, hround⟩), round, tick, due, trim, sigs, raised⟩

end Sys2Proof.Machine

namespace Sys2Proof.Machine
open Sys2Proof

/-! ## A tick mark at a unit (R58, R59, R62, R72) -/

/-- Where one lane alone gives a value, the values of lanes among which it stands are that one. -/
theorem filterMap_only {β : Type} {f : LaneId → Option β} {b : β} {l : LaneId} {ls : List LaneId} (hl : l ∈ ls) (hn : ls.Nodup)
    (hb : f l = some b) (ho : ∀ k, k ≠ l → f k = none) : ls.filterMap f = [b] := by
  obtain ⟨before, after, rfl⟩ := List.append_of_mem hl
  obtain ⟨hbefore, hafter⟩ : l ∉ before ∧ l ∉ after := by
    obtain ⟨-, hn', hd⟩ := List.nodup_append.mp hn
    exact ⟨fun h => hd l h l (by simp) rfl, (List.nodup_cons.mp hn').1⟩
  have gone : ∀ ks : List LaneId, l ∉ ks → ks.filterMap f = [] :=
    fun ks hk => List.filterMap_eq_nil_iff.mpr fun k hmem => ho k fun h => hk (h ▸ hmem)
  rw [List.filterMap_append, List.filterMap_cons_some hb, gone before hbefore, gone after hafter]
  rfl

theorem nodup_allLanes : allLanes.Nodup := by decide
theorem mem_allLanes (l : LaneId) : l ∈ allLanes := by cases l <;> decide

/-- The lanes admitted are read from the links' admissions alone. -/
theorem admitted_sameAdm {c d : UnitCommon} (h : ∀ l, (d.links.get l).adm = (c.links.get l).adm) : d.admitted = c.admitted := by
  simp only [UnitCommon.admitted, h]

/-- The TICK of one mark is its own (R62). -/
theorem tickOf_one {tick : Nat} (h : tick < 4294967296) : tickOf [tick] = some tick := by
  have apart : tickAfter tick tick = 0 := by
    rw [tickAfter, Nat.mod_eq_of_lt h, show tick + 4294967296 - tick = 4294967296 by omega]; decide
  simp only [tickOf, List.map_cons, List.map_nil, apart, sortInts, List.foldr_cons, List.foldr_nil, insertSorted, ofSigned]
  simp only [Option.some.injEq]
  omega

section onlyMark
variable {c : UnitCommon} {l : LaneId} {tick : Nat} {a : Int}

/-- Where one link alone holds a mark, M of R59 is its arrival. -/
theorem midAll_only (hm : (c.links.get l).mark = some (tick, a)) (ho : ∀ k, k ≠ l → (c.links.get k).mark = none) : midAll c = some a := by
  have alone : arrivals c allLanes = [a] :=
    filterMap_only (mem_allLanes l) nodup_allLanes (by rw [hm]; rfl) fun k hk => by rw [ho k hk]; rfl
  rw [midAll, alone]; rfl

/-- And its TICK is the one the unit takes, where it is of a lane admitted or none is (R62). -/
theorem markTick_only (hm : (c.links.get l).mark = some (tick, a)) (ho : ∀ k, k ≠ l → (c.links.get k).mark = none)
    (ha : c.admitted = [] ∨ (c.links.get l).adm = true) (ht : tick < 4294967296) : markTick c = some tick := by
  have alone : ∀ ls : List LaneId, l ∈ ls → ls.Nodup → ls.filterMap (fun l => (c.links.get l).mark.map (fun m => m.1)) = [tick] :=
    fun ls hl hn => filterMap_only hl hn (by rw [hm]; rfl) fun k hk => by rw [ho k hk]; rfl
  have asked : l ∈ (if c.admitted = [] then allLanes else c.admitted) ∧ (if c.admitted = [] then allLanes else c.admitted).Nodup := by
    split
    · exact ⟨mem_allLanes l, nodup_allLanes⟩
    · next h => exact ⟨List.mem_filter.mpr ⟨mem_allLanes l, ha.resolve_left h⟩, nodup_allLanes.filter _⟩
  rw [markTick]
  simp only [alone _ asked.1 asked.2, tickOf_one ht]

/-- Judging the marks changes ARR and INWIN alone (R59, R74). -/
theorem judgeMarks_rest (c : UnitCommon) : judgeMarks c = { c with links := (judgeMarks c).links } ∧
    ∀ k, ((judgeMarks c).links.get k).mark = (c.links.get k).mark ∧ ((judgeMarks c).links.get k).adm = (c.links.get k).adm := by
  unfold judgeMarks
  split
  · exact ⟨rfl, fun _ => ⟨rfl, rfl⟩⟩
  · refine ⟨rfl, fun k => ?_⟩
    rw [eachLink_get]
    split <;> exact ⟨rfl, rfl⟩

/-- A mark at M lies in the window. -/
theorem judgeMarks_inwin (hm : (c.links.get l).mark = some (tick, a)) (hmid : midAll c = some a) : ((judgeMarks c).links.get l).inwin = true := by
  simp [judgeMarks, hmid, hm]

/-- A unit with a mark kept on a link. -/
def UnitCommon.marked (c : UnitCommon) (l : LaneId) (m : Nat × Int) : UnitCommon := c.setLink l { c.links.get l with mark := some m }

/-- A mark on a trained link is kept less the link's delay, and the unit takes the TICK the marks then give (R58, R62, R72). -/
theorem unitMark_trained {v : Nat} (hu : (c.links.get l).up = true)
    (hv : markTick (judgeMarks (c.marked l (tick % 4294967296, a - ((c.links.get l).delay : Int)))) = some v) :
    unitMark c l tick a = let d := judgeMarks (c.marked l (tick % 4294967296, a - ((c.links.get l).delay : Int)))
      if v = d.tick then d else { d with tick := v, round := v / 8 % 16777216, roundDue := false } := by
  refine (if_pos hu).trans ?_
  split
  · next h => exact absurd (h.symm.trans hv) (by simp)
  · next w h =>
    obtain rfl := Option.some.inj (h.symm.trans hv)
    rfl

/-- A mark that arrives on a trained link as the only one of its tick, of a lane admitted or where none is (R59, R62). -/
theorem unitMark_only (hu : (c.links.get l).up = true) (ht : tick < 4294967296) (ho : ∀ k, k ≠ l → (c.links.get k).mark = none)
    (ha : c.admitted = [] ∨ (c.links.get l).adm = true) : ∃ d : UnitCommon,
      unitMark c l tick a = (if tick = c.tick then d else { d with tick := tick, round := tick / 8 % 16777216, roundDue := false }) ∧
      (d.links.get l).mark = some (tick, a - ((c.links.get l).delay : Int)) ∧ (d.links.get l).inwin = true ∧
      (d.links.get l).adm = (c.links.get l).adm ∧ d.tick = c.tick ∧ d.vote = c.vote := by
  have takes := unitMark_trained (v := tick) (a := a) (tick := tick) hu
  rw [Nat.mod_eq_of_lt ht] at takes
  generalize hk : c.marked l (tick, a - ((c.links.get l).delay : Int)) = k at takes
  have other : ∀ j, j ≠ l → k.links.get j = c.links.get j := fun j hj => hk ▸ Tri.get_set_other _ _ _ _ hj
  have adm : ∀ j, (k.links.get j).adm = (c.links.get j).adm := fun j => by
    by_cases hj : j = l
    · subst hj; simp [← hk, UnitCommon.marked, UnitCommon.setLink]
    · rw [other j hj]
  have mark : (k.links.get l).mark = some (tick, a - ((c.links.get l).delay : Int)) := by simp [← hk, UnitCommon.marked, UnitCommon.setLink]
  have alone : ∀ j, j ≠ l → (k.links.get j).mark = none := fun j hj => by rw [other j hj, ho j hj]
  obtain ⟨rest, links⟩ := judgeMarks_rest k
  have same : (judgeMarks k).tick = c.tick ∧ (judgeMarks k).vote = c.vote := by rw [rest, ← hk]; exact ⟨rfl, rfl⟩
  have given : markTick (judgeMarks k) = some tick :=
    markTick_only ((links l).1.trans mark) (fun j hj => (links j).1.trans (alone j hj))
      (ha.imp (fun h => (admitted_sameAdm fun j => (links j).2.trans (adm j)).trans h) (fun h => (links l).2.trans ((adm l).trans h))) ht
  refine ⟨judgeMarks k, ?_, (links l).1.trans mark, judgeMarks_inwin mark (midAll_only mark alone), (links l).2.trans (adm l), same⟩
  simp only [takes given, same.1]

end onlyMark

/-- Settles O20: the only mark of a tick stands at the midpoint and gives its own TICK; the mark of a lane's boundary is given to the same row. -/
theorem tickMarkArrives : Obligations.TickMarkArrives := by
  unfold Obligations.TickMarkArrives
  intro s u l a hr hu
  refine ⟨fun tick ht ho ha => ?given, fun tick hm => ?sent⟩
  case given =>
    obtain ⟨d, taken, mark, inwin, adm, same, vote⟩ := unitMark_only (a := a) hu ht ho ha
    refine ⟨s.setUnit u (unitMark (s.ucom.get u) l tick a), congrArg Host.Outcome.next (if_pos hr), by simp [onlyUnit], ?_⟩
    rw [State.setUnit_ucom, Ten.get_set_same, taken]
    split
    · next h => exact ⟨mark, inwin, same.trans h.symm, fun hne => absurd h hne, adm, vote⟩
    · exact ⟨mark, inwin, rfl, fun _ => rfl, adm, vote⟩
  case sent =>
    refine ⟨s.setUnit u (unitMark (s.ucom.get u) l tick a), congrArg Host.Outcome.next (if_pos hr), ?_⟩
    show execTickMarkArrival u l none a s = _
    rw [execTickMarkArrival, hm]
    exact congrArg (fun t : State => Host.Outcome.next (t.setLane l _)) (if_pos hr)

end Sys2Proof.Machine

namespace Sys2Proof.Machine
open Sys2Proof

/-! ## Event and register symbols (R66, R70, R373, R404, R408) -/

/-- A number is read as its lowest 32 bits. -/
theorem u32At_leBytes_mod (v : Nat) (rest : Bytes) : u32At (leBytes 4 v ++ rest) 0 = v % 4294967296 := by
  simp [u32At, u16At, byteAt, leBytes]
  omega

/-- The nine bytes of a unit's event symbol (R373). -/
theorem eventWords_fields (c : UnitCommon) : (eventWords c).length = 9 ∧ byteAt (eventWords c) 0 = c.tick % 256 ∧
    u32At (eventWords c) 1 = evtPend c.evt % 4294967296 ∧ u32At (eventWords c) 5 = c.evt.severe % 4294967296 := by
  refine ⟨by simp [eventWords], rfl, ?pend, ?severe⟩
  case pend =>
    rw [eventWords, List.append_assoc]
    exact (u32At_append (leBytes 1 c.tick) _ 0).trans (u32At_leBytes_mod _ _)
  case severe =>
    have last := (u32At_append (leBytes 1 c.tick ++ leBytes 4 (evtPend c.evt)) (leBytes 4 c.evt.severe ++ []) 0).trans (u32At_leBytes_mod _ _)
    rwa [List.append_nil] at last

/-- The state after lane l has taken event symbol `b` of unit u: its words, and the crossing acknowledged (R66, R373). -/
def State.symbolTaken (s : State) (l : LaneId) (u : UnitId) (b : Bytes) : State :=
  (s.setLane l ((s.lanes.get l).onUnit u (fun v => v.symbol b))).setUnit u
    ((s.ucom.get u).setLink l { (s.ucom.get u).links.get l with evPend := 0 })

/-- What a lane asks of a symbol (R373). -/
theorem Lane.takesSymbol_iff (n : Lane) (b : Bytes) (crc : Nat) : n.takesSymbol b crc = true ↔
    b.length = 9 ∧ crc16 0xFFFF b = crc ∧ byteAt b 0 = n.main.time.tick % 256 := by
  simp only [Lane.takesSymbol, Bool.and_eq_true, decide_eq_true_eq, and_assoc]

section eventSymbol
variable {s : State} {l : LaneId} {u : UnitId} {b : Bytes}

/-- The symbol as given, or the unit's own, is taken where its CRC holds and it names the lane's tick (R373). -/
theorem execEventSymbol_takes {rx : Option Bytes} {crc : Option Nat} (ha : (s.lanes.get l).awake = true)
    (hu : ((s.ucom.get u).links.get l).up = true) (hr : s.runs u = true) (hrx : rx.getD (eventWords (s.ucom.get u)) = b)
    (hcrc : crc.getD (crc16 0xFFFF (eventWords (s.ucom.get u))) = crc16 0xFFFF b) (hlen : b.length = 9)
    (ht : byteAt b 0 = (s.lanes.get l).main.time.tick % 256) : exec (.eventSymbol l u rx crc) s = .next (s.symbolTaken l u b) := by
  subst hrx
  exact congrArg Host.Outcome.next (if_pos ⟨ha, hu, hr, (Lane.takesSymbol_iff _ _ _).mpr ⟨hlen, hcrc.symm, ht⟩⟩)

/-- One that the lane does not take is discarded. -/
theorem execEventSymbol_discards {crc : Nat} (ht : (s.lanes.get l).takesSymbol b crc ≠ true) :
    exec (.eventSymbol l u (some b) (some crc)) s = .next s :=
  congrArg Host.Outcome.next (if_neg fun ⟨_, _, _, h⟩ => ht h)

end eventSymbol

/-- Writes ask no answer of a unit (R404). -/
theorem unitAnswers_writes (s : State) (u : UnitId) (l : LaneId) (accs : List RegAcc) (hw : ∀ a ∈ accs, a.isWrite = true) :
    unitAnswers s u l accs = (s, []) := by
  induction accs with
  | nil => rfl
  | cons a as ih =>
    obtain ⟨ha, has⟩ := List.forall_mem_cons.mp hw
    rw [unitAnswers, if_pos ha, ih has]

/-- One read is answered by `unitServe` (R408). -/
theorem unitAnswers_read (s : State) (u : UnitId) (l : LaneId) (a : RegAcc) (hw : a.isWrite = false) :
    unitAnswers s u l [a] = ((unitServe s u l a.addr).1, [(a.addr, (unitServe s u l a.addr).2)]) := by
  rw [unitAnswers, if_neg (by simp [hw])]; rfl

section tick
variable (s was : State) (u : UnitId) (l : LaneId)

/-- A read of TICK clears nothing (R9). -/
theorem unitReadClear_tick : unitReadClear s was u 0x100000 = s := by
  cases u with
  | isl i =>
    show s.putIsl i (s.ucom.get (.isl i), islReadClear (s.isl.get i) (was.isl.get i) 1 0) = s
    simp [State.putIsl, islReadClear]
  | fb f => rfl
  | sio x => rfl

/-- What it returns. -/
theorem unitRead_tick : unitRead s u 0x100000 = some (s.ucom.get u).tick := rfl

/-- A read of TICK of a unit that has had no round boundary returns it as it stands (R408). -/
theorem unitServe_tick_fresh (h : s.snaps.get u = none) : unitServe s u l 0x100000 = (s, (s.ucom.get u).tick) := by
  rw [unitServe, h]
  simp only [unitReadClear_tick, unitRead_tick, Option.getD_some]

/-- The common part of a unit in the state with a snapshot of it. -/
theorem State.withSnap_common (p : UnitSnap) : (s.withSnap u p).ucom.get u = p.com := by
  have put : (s.withSnap u p).ucom = s.ucom.set u p.com := by
    unfold State.withSnap
    cases u <;> dsimp only <;> split <;> rfl
  rw [put, Ten.get_set_same]

/-- After one it returns TICK as of that boundary, and the read is noted (R408). -/
theorem unitServe_tick_shown {p : UnitSnap} (h : s.snaps.get u = some p) : unitServe s u l 0x100000 =
    ({ s with snaps := s.snaps.set u (some { p with taken := p.taken ++ [(l, 0x100000)] }) }, p.com.tick) := by
  rw [unitServe, h]
  simp only [unitReadClear_tick, ite_self, unitRead_tick, Option.getD_some, State.withSnap_common]

end tick

/-- A register symbol on a trained link: its writes join those the lane has forwarded, in the hand-over cycle those of the next boundary (R70, R404). -/
theorem unitSymbol_trained {s : State} {u : UnitId} {l : LaneId} {accs : List RegAcc} (hlen : accs.length ≤ 8)
    (hu : (((unitAnswers s u l accs).1.ucom.get u).links.get l).up = true) : unitSymbol s u l accs =
    let r := unitAnswers s u l accs
    let c := r.1.ucom.get u
    let k := c.links.get l
    let ws := accs.filter (fun a => a.isWrite)
    r.1.setUnit u (c.setLink l (if c.roundDue then { k with answers := r.2, next := k.next ++ ws }
      else { k with answers := r.2, writes := k.writes ++ ws })) := by
  simp only [unitSymbol, List.take_of_length_le hlen]
  exact if_pos hu

/-- Settles O27: a symbol is taken where `takesSymbol` holds of it; writes ask no answer, and a read of TICK clears nothing. -/
theorem symbolsCross : Obligations.SymbolsCross := by
  unfold Obligations.SymbolsCross
  intro s l u hr hu
  refine ⟨fun ha b hlen hb => ?taken, fun b crc hbad => ?discarded, fun ha hb => ?own, fun accs hlen hw => ?writes,
    fun a hw haddr => ⟨fun hp => ?fresh, fun p hp => ?shown⟩⟩
  case taken =>
    refine ⟨s.symbolTaken l u b, execEventSymbol_takes ha hu hr (Option.getD_some) (Option.getD_some) hlen hb, ?_⟩
    refine ⟨by simp [State.symbolTaken, onlyLane, State.setLane, State.setUnit], Ten.get_set_same _ _ _, ?_⟩
    simp [State.symbolTaken, Lane.onUnit, UnitView.symbol]
  case discarded =>
    refine execEventSymbol_discards fun h => ?_
    obtain ⟨length, crc, tick⟩ := (Lane.takesSymbol_iff _ _ _).mp h
    rcases hbad with hbad | hbad | hbad
    · exact hbad length
    · exact hbad crc
    · exact hbad tick
  case own =>
    obtain ⟨hlen, htick, hpend, hsev⟩ := eventWords_fields (s.ucom.get u)
    refine ⟨s.symbolTaken l u (eventWords (s.ucom.get u)), execEventSymbol_takes ha hu hr Option.getD_none Option.getD_none hlen (htick.trans hb), ?_⟩
    rw [← hpend, ← hsev]
    simp [State.symbolTaken, Lane.onUnit, UnitView.symbol, UnitCommon.setLink]
  case writes =>
    have answers := unitAnswers_writes s u l accs hw
    refine congrArg Host.Outcome.next ((if_pos hr).trans ((unitSymbol_trained hlen (by rw [answers]; exact hu)).trans ?_))
    rw [answers, List.filter_eq_self.mpr hw]
  case fresh =>
    have answers := (unitAnswers_read s u l a hw).trans (by rw [haddr, unitServe_tick_fresh s u l hp])
    refine congrArg Host.Outcome.next ((if_pos hr).trans ((unitSymbol_trained (by simp) (by rw [answers]; exact hu)).trans ?_))
    simp [answers, hw, haddr]
  case shown =>
    have answers := (unitAnswers_read s u l a hw).trans (by rw [haddr, unitServe_tick_shown s u l hp])
    refine ⟨_, congrArg Host.Outcome.next ((if_pos hr).trans (unitSymbol_trained (by simp) (by rw [answers]; exact hu))), ?_⟩
    rw [answers, haddr]
    refine ⟨rfl, ?_, fun v hv => ⟨Ten.get_set_other _ _ _ _ hv, Ten.get_set_other _ _ _ _ hv⟩, Ten.get_set_same _ _ _⟩
    simp [hw]

end Sys2Proof.Machine

namespace Sys2Proof.Machine
open Sys2Proof

/-! ## The tick boundary of a unit (R52, R53, R57) -/

/-- Two common parts alike in what the tick boundary begins anew; a configuration loaded stays. -/
def TickSame (c d : UnitCommon) : Prop :=
  d.tick = c.tick ∧ d.roundDue = c.roundDue ∧ d.round = c.round ∧ d.vote.done = c.vote.done ∧ d.vote.out = c.vote.out ∧
    (c.cfg.loaded = true → d.cfg.loaded = true) ∧
    ∀ l, (d.links.get l).mark = (c.links.get l).mark ∧ (d.links.get l).rx = (c.links.get l).rx ∧ (d.links.get l).adm = (c.links.get l).adm

theorem TickSame.refl (c : UnitCommon) : TickSame c c := ⟨rfl, rfl, rfl, rfl, rfl, id, fun _ => ⟨rfl, rfl, rfl⟩⟩

theorem TickSame.trans {c d e : UnitCommon} (h : TickSame c d) (g : TickSame d e) : TickSame c e := by
  obtain ⟨tick, due, round, done, out, loaded, links⟩ := h
  obtain ⟨tick', due', round', done', out', loaded', links'⟩ := g
  refine ⟨tick'.trans tick, due'.trans due, round'.trans round, done'.trans done, out'.trans out, loaded' ∘ loaded, fun l => ?_⟩
  obtain ⟨mark, rx, adm⟩ := links l
  obtain ⟨mark', rx', adm'⟩ := links' l
  exact ⟨mark'.trans mark, rx'.trans rx, adm'.trans adm⟩

/-- Events change nothing of it. -/
theorem TickSame.of_quiet {c d : UnitCommon} (h : d.quiet = c.quiet) : TickSame c d := by
  have tick : d.quiet.tick = c.quiet.tick := by rw [h]
  have due : d.quiet.roundDue = c.quiet.roundDue := by rw [h]
  have round : d.quiet.round = c.quiet.round := by rw [h]
  have cfg : d.quiet.cfg = c.quiet.cfg := by rw [h]
  have vote := UnitCommon.vote_of_quiet h
  refine ⟨tick, due, round, by rw [vote], by rw [vote], fun hl => (congrArg UnitCfg.loaded cfg).trans hl, fun l => ?_⟩
  rw [UnitCommon.link_of_quiet h l]
  exact ⟨rfl, rfl, rfl⟩

/-- Nor do the words that take effect and the measurement bytes. -/
theorem TickSame.act (c : UnitCommon) (act : List Int) (meas : Bytes) : TickSame c { c with vote := { c.vote with act := act }, meas := meas } :=
  ⟨rfl, rfl, rfl, rfl, rfl, id, fun _ => ⟨rfl, rfl, rfl⟩⟩

/-- The boundary itself (R52, R57). -/
theorem tickBegun_unitTick {c d : UnitCommon} (h : TickSame (unitTick c) d) : tickBegun c d := by
  obtain ⟨tick, due, round, done, out, loaded, links⟩ := h
  refine ⟨tick, due, round, done, out, loaded, fun l => ?_⟩
  obtain ⟨mark, rx, adm⟩ := links l
  simp only [unitTick, eachLink_get] at mark rx adm
  exact ⟨mark, rx, adm⟩

/-- A configuration load that may be due (R93). -/
theorem State.loadUnit_tickSame (s : State) (u : UnitId) : TickSame (s.ucom.get u) ((s.loadUnit u).ucom.get u) := by
  unfold State.loadUnit
  split
  · exact .refl _
  · next recs _ =>
    extract_lets st
    have quiet := (State.reconfigure_rest (s.setUnit u (unitLoad (s.ucom.get u) recs st)) st.backLim u).1
    rw [State.setUnit_ucom, Ten.get_set_same] at quiet
    have loads : TickSame (s.ucom.get u) (unitLoad (s.ucom.get u) recs st) :=
      ⟨rfl, rfl, rfl, rfl, rfl, fun _ => rfl, fun l => by simp [unitLoad]⟩
    exact loads.trans (.of_quiet quiet)

/-! What is put in place of a unit and then loaded changes the unit alone. -/

@[simp] theorem Two.setF_setF_same {α : Type} (t : Two α) (f : FbId) (v w : α) : (t.setF f v).setF f w = t.setF f w := by cases f <;> rfl
@[simp] theorem Two.setS_setS_same {α : Type} (t : Two α) (x : SioId) (v w : α) : (t.setS x v).setS x w = t.setS x w := by cases x <;> rfl

theorem onlyIsland_load (s : State) (i : IslandId) (p : IslPair) : onlyIsland i s ((s.putIsl i p).loadUnit (.isl i)) := by
  unfold State.loadUnit
  split
  · exact onlyIsland_putIsl s i p
  · simp [onlyIsland, State.reconfigure, State.putIsl, State.setUnit, State.islPair]

theorem onlyFeedback_load (s : State) (f : FbId) (p : UnitCommon × Feedback) : onlyFeedback f s ((s.putFb f p).loadUnit (.fb f)) := by
  unfold State.loadUnit
  split
  · simp [onlyFeedback]
  · simp [onlyFeedback, State.reconfigure, State.putFb, State.setUnit]

theorem onlySafety_load (s : State) (x : SioId) (p : UnitCommon × SafetyIO) : onlySafety x s ((s.putSio x p).loadUnit (.sio x)) := by
  unfold State.loadUnit
  split
  · simp [onlySafety]
  · simp [onlySafety, State.reconfigure, State.putSio, State.setUnit]

/-! What each kind of unit does at the boundary beside it. -/

/-- The words that take effect and the causes of RUN and VOTER_FAULT (R32, R57). -/
theorem islandLoad_tickSame (i : IslandId) (p : IslPair) : TickSame p.1 (islandLoad i p).1 := by
  have acted : ∀ q : IslPair, q.1 = p.1 → TickSame p.1 { q.1 with vote := { p.1.vote with act := p.1.vote.out } } := by
    intro q hq; rw [hq]; exact .act p.1 _ _
  unfold islandLoad
  extract_lets v q
  have kept : q.1 = p.1 := by simp only [q]; split <;> rfl
  split
  · split
    · exact .refl _
    · exact .of_quiet (raiseCause_quiet _ _ _)
  · split
    · split
      · split <;> exact acted q kept
      · exact (acted q kept).trans (.of_quiet (raiseCause_quiet _ _ _))
    · rw [kept]; exact .refl _

theorem islandLeave_common (p : IslPair) : (islandLeave p).1 = p.1 := by
  simp only [islandLeave]
  repeat' split
  all_goals rfl

@[simp] theorem islEvt_quiet (i : IslandId) (p : IslPair) (n : Nat) (b : Bool) : (islEvt i p n b).1.quiet = p.1.quiet := unitEvt_quiet _ _ _ _

/-- A bootstrap report raises events and a cause at most (R192). -/
theorem bootstrap_quiet (i : IslandId) (p : IslPair) (uv lo : Nat) : (bootstrap i p uv lo).1.quiet = p.1.quiet := by
  unfold bootstrap
  extract_lets g drive island reported warned locked ended
  have hwarned : warned.1.quiet = p.1.quiet := by simp only [warned]; split <;> [rfl; exact islEvt_quiet _ _ _ _]
  have hlocked : locked.1.quiet = warned.1.quiet := by simp only [locked]; split <;> [rfl; exact islEvt_quiet _ _ _ _]
  have hended : ended.1.quiet = locked.1.quiet := by simp only [ended]; split <;> rfl
  have quiet : ended.1.quiet = p.1.quiet := hended.trans (hlocked.trans hwarned)
  split
  · exact (raiseCause_quiet _ _ _).trans quiet
  · exact quiet

theorem islandTick_tickSame (i : IslandId) (p : IslPair) (smp : IslandSample) : TickSame p.1 (islandTick i p smp).1 := by
  have quiet := bootstrap_quiet i (endCause (islandSample (islandLeave (islandLoad i p)) smp) 4) (smp.bsuv % 2 ^ i.legs) (smp.bslo % 2 ^ i.legs)
  have left := islandLeave_common (islandLoad i p)
  exact ((islandLoad_tickSame i p).trans (left ▸ .of_quiet quiet)).trans (.act _ _ _)

theorem feedbackTick_tickSame (c : UnitCommon) (f : Feedback) (feed : Nat) : TickSame c (feedbackTick c f feed).1 := by
  simp only [feedbackTick]
  split <;> exact .act c _ _

theorem safetyTick_tickSame (x : SioId) (c : UnitCommon) (y : SafetyIO) (far : Bool) (smp : SioSample) :
    TickSame c (safetyTick x c y far smp).1 := by
  unfold safetyTick
  extract_lets tinr go vote d w fed loaded pulsed supplied sampled judgements evented r
  have acted : TickSame c d := by simp only [d]; split <;> exact .act c _ _
  have judged : TickSame d r.1 := by
    simp only [r]
    split
    · exact .of_quiet (unitEvts_quiet _ _ _)
    · exact .refl _
  exact (acted.trans judged).trans (.act _ _ _)

/-- So the boundary of a unit is that of its common part, its own part and a load that is due beside it. -/
theorem tickBegun_load {s t : State} {u : UnitId} (h : TickSame (unitTick (s.ucom.get u)) (t.ucom.get u)) :
    tickBegun (s.ucom.get u) ((t.loadUnit u).ucom.get u) := tickBegun_unitTick (h.trans (t.loadUnit_tickSame u))

/-! ## The tick boundary of a lane (R52, R57, R58, R272) -/

/-- A lane but for its network state and its event block: what a tick of the exchanges that wait may change. -/
def Lane.unjoined (n : Lane) : Lane := { n with main := { n.main with net := {}, evt := {} }, aon := { n.aon with first := {} } }

/-- What it keeps. -/
theorem Lane.kept_of_unjoined {m n : Lane} (h : m.unjoined = n.unjoined) : m.awake = n.awake ∧ m.state = n.state ∧
    m.main.time = n.main.time ∧ m.main.units = n.main.units ∧ m.main.mem = n.main.mem :=
  ⟨(congrArg Lane.awake h :), (congrArg Lane.state h :), (congrArg (fun n : Lane => n.main.time) h :),
    (congrArg (fun n : Lane => n.main.units) h :), (congrArg (fun n : Lane => n.main.mem) h :)⟩

/-- From `s` to `t` the lanes' exchanges go on, and none where none waits; the Polvin core and the session besides (R272). -/
def JoinsOnly (s t : State) : Prop :=
  t = { s with lanes := t.lanes, free := t.free, polvin := t.polvin, port := t.port } ∧
    (∀ k, (t.lanes.get k).unjoined = (s.lanes.get k).unjoined) ∧ (s.waitingJoins = [] → t.lanes = s.lanes)

section joins
variable {s t r : State} {l : LaneId}

theorem JoinsOnly.core (s : State) (p : Polvin) (port : Session) : JoinsOnly s { s with polvin := p, port := port } :=
  ⟨rfl, fun _ => rfl, fun _ => rfl⟩

theorem JoinsOnly.refl (s : State) : JoinsOnly s s := .core s s.polvin s.port

theorem JoinsOnly.trans (h : JoinsOnly s t) (g : JoinsOnly t r) : JoinsOnly s r := by
  obtain ⟨rest, lanes, idle⟩ := h
  obtain ⟨rest', lanes', idle'⟩ := g
  refine ⟨?_, fun k => (lanes' k).trans (lanes k), fun hw => ?_⟩
  · rw [rest', rest]
  · have same := idle hw
    exact (idle' (by rw [State.waitingJoins, same]; exact hw)).trans same

theorem JoinsOnly.setLane {n : Lane} (hn : n.unjoined = (s.lanes.get l).unjoined) (hw : s.waitingJoins = [] → n = s.lanes.get l) :
    JoinsOnly s (s.setLane l n) := by
  refine ⟨rfl, fun k => ?_, fun h => by rw [hw h, State.setLane_self]⟩
  by_cases hk : k = l
  · subst hk; simpa using hn
  · simp [Tri.get_set_other _ _ _ _ hk]

theorem State.polvinTime_joins : JoinsOnly s (s.polvinTime l) := by
  unfold State.polvinTime
  split
  · exact .core s _ s.port
  · exact .refl s

theorem State.polvinRequest_joins (target : DomState) : JoinsOnly s (s.polvinRequest target) := by
  cases target with
  | on => simp only [State.polvinRequest]; split <;> exact .core s _ s.port
  | retention => simp only [State.polvinRequest]; split <;> exact .core s _ s.port
  | off => exact .core s _ s.port

theorem State.polvinSlot_joins : JoinsOnly s s.polvinSlot := by
  unfold State.polvinSlot
  split
  · exact .refl s
  · exact (JoinsOnly.core s _ s.port).trans (State.polvinRequest_joins _)

theorem State.polvinEntry_joins : JoinsOnly s (s.polvinEntry l) := by
  unfold State.polvinEntry
  split
  · exact .refl s
  · split
    · exact .refl s
    · split
      · exact (JoinsOnly.core s _ s.port).trans State.polvinSlot_joins
      · split
        · exact (JoinsOnly.core s _ s.port).trans State.polvinSlot_joins
        · exact .core s _ s.port

theorem State.serveJoin_joins : JoinsOnly s s.serveJoin := by
  unfold State.serveJoin
  split
  · next k peer hnext =>
    split
    · dsimp only
      split
      · have waits : s.waitingJoins ≠ [] := fun h => by simp [State.nextJoin, h] at hnext
        refine ⟨rfl, fun j => ?_, fun h => absurd h waits⟩
        by_cases hj : j = k
        · rw [hj]; exact (congrArg Lane.unjoined (Tri.get_set_same _ _ _)).trans rfl
        · simp [Tri.get_set_other _ _ _ _ hj]
      · exact .refl s
    · exact .refl s
  · exact .refl s

theorem State.joinTick_joins : JoinsOnly s (s.joinTick l) := by
  unfold State.joinTick
  split
  · refine .setLane ?_ fun h => by simp [h]
    exact List.foldlRecOn (motive := fun n : Lane => n.unjoined = (s.lanes.get l).unjoined) _ _ rfl fun n hn p _ => hn
  · split
    · exact (JoinsOnly.core s _ s.port).trans State.serveJoin_joins
    · exact .refl s

/-- The tick of the always-on domain leaves the main domain, awake or not. -/
theorem Lane.aonTick_main (n : Lane) (vl : Nat) (pin : Bool) : (n.aonTick vl pin).main = n.main := rfl
theorem Lane.aonTick_awake (n : Lane) (vl : Nat) (pin : Bool) : (n.aonTick vl pin).awake = n.awake := rfl

/-- The tick boundary of a supplied lane that is awake: the core and the exchanges first, then its own domains. -/
theorem State.laneTick_steps (vl : Nat) (pin : Bool) (hon : (s.lanes.get l).aon.on = true) (ha : (s.lanes.get l).awake = true) :
    ∃ r, JoinsOnly s r ∧ s.laneTick l vl pin = r.setLane l (((r.lanes.get l).aonTick vl pin).mainTick l) := by
  have before := (State.polvinTime_joins (s := s) (l := l)).trans ((State.polvinEntry_joins (l := l)).trans (State.joinTick_joins (l := l)))
  have awake : ∀ r, JoinsOnly s r → ((r.lanes.get l).aonTick vl pin).awake = true :=
    fun r ⟨_, lanes, _⟩ => by rw [Lane.aonTick_awake, (Lane.kept_of_unjoined (lanes l)).1, ha]
  simp only [State.laneTick, hon, if_true]
  split
  · exact ⟨_, before.trans (.core _ _ _), congrArg _ (if_pos (awake _ (before.trans (.core _ _ _))))⟩
  · exact ⟨_, before, congrArg _ (if_pos (awake _ before))⟩

end joins

/-- What a lane holds of a unit at its tick boundary, its TICK then `tick` (R57, R58). -/
def UnitView.ticked (v : UnitView) (tick : Nat) : UnitView :=
  { v with was := v.fresh, fresh := false, posted := none, mark := some tick, fwd := v.fwd ++ v.later, later := [] }

/-- The fold over the units visits each once. -/
theorem Lane.mainTick_unit (n : Lane) (l : LaneId) (u : UnitId) :
    (n.mainTick l).main.units.get u = (n.main.units.get u).ticked ((n.main.time.tick + 1) % 4294967296) := by
  obtain ⟨x, before, after⟩ := foldl_visits (fun x : Ten UnitView => x.get u) (mem_allUnits u) (by decide : allUnits.Nodup)
    (f := fun (x : Ten UnitView) v => x.set v ((x.get v).ticked ((n.main.time.tick + 1) % 4294967296)))
    (fun x v hv => Ten.get_set_other _ _ _ _ hv.symm) n.main.units
  refine (after :).trans ?_
  simp only [Ten.get_set_same, before]

/-- Settles O28: each kind of unit adds to `unitTick` what leaves TICK alone; a lane's own tick follows that of the core and the exchanges. -/
theorem tickBoundaries : Obligations.TickBoundaries := by
  unfold Obligations.TickBoundaries
  refine ⟨⟨fun s i smp hr => ?island, fun s f fd hr => ?feedback, fun s x smp hr => ?safety⟩, fun s l vl pin hon ha => ?lane⟩
  case island =>
    exact ⟨_, congrArg Host.Outcome.next (if_pos hr), onlyIsland_load s i _, tickBegun_load (by simpa using islandTick_tickSame i _ smp)⟩
  case feedback =>
    exact ⟨_, congrArg Host.Outcome.next (if_pos hr), onlyFeedback_load s f _, tickBegun_load (by simpa using feedbackTick_tickSame _ _ fd)⟩
  case safety =>
    exact ⟨_, congrArg Host.Outcome.next (if_pos hr), onlySafety_load s x _, tickBegun_load (by simpa using safetyTick_tickSame x _ _ _ smp)⟩
  case lane =>
    obtain ⟨r, ⟨rest, lanes, idle⟩, steps⟩ := State.laneTick_steps vl pin hon ha
    obtain ⟨-, state, time, units, mem⟩ := Lane.kept_of_unjoined (lanes l)
    have own : (s.laneTick l vl pin).lanes.get l = ((r.lanes.get l).aonTick vl pin).mainTick l := by rw [steps]; simp
    have outside : (s.laneTick l vl pin).ucom = s.ucom ∧ (s.laneTick l vl pin).isl = s.isl ∧ (s.laneTick l vl pin).fbk = s.fbk ∧
        (s.laneTick l vl pin).sio = s.sio := by rw [steps, rest]; exact ⟨rfl, rfl, rfl, rfl⟩
    obtain ⟨ucom, isl, fbk, sio⟩ := outside
    refine ⟨s.laneTick l vl pin, rfl, ucom, isl, fbk, sio, fun hw => ⟨fun k hk => ?_, ?_⟩, ?_⟩
    · rw [steps, State.setLane_lanes, Tri.get_set_other _ _ _ _ hk, idle hw]
    · rw [own, ← idle hw]; rfl
    rw [own]
    refine ⟨state, rfl, rfl, congrArg (fun t : LaneTime => (t.tick + 1) % 4294967296) time,
      congrArg (fun t : LaneTime => decide ((t.tick + 1) % 4294967296 % 8 = 0)) time, (congrArg LaneTime.round time :), rfl, ?_, fun u => ?_⟩
    · rw [Lane.mainTick_mem, Lane.aonTick_mem, mem]
    · rw [Lane.mainTick_unit, Lane.aonTick_main, time, units]; rfl

end Sys2Proof.Machine

namespace Sys2Proof.Machine
open Sys2Proof

/-! ## GO and ABORT (R70-R72) -/

/-- A shadow on which GO or ABORT has acted: in the hand-over cycle the write straddles it (R70). -/
def Shadow.landed (late : Bool) (h : Shadow) : Shadow := if late then h.straddled else h

section commitBits
variable {h : Shadow} (effect : Nat) (late : Bool)

/-- GO moves what is staged into the shadow (R71). -/
theorem Shadow.go_staged (hs : h.staged ≠ []) : h.commitBits false effect late =
    Shadow.landed late { h with due := h.due ++ h.staged.map (fun w => { w with effect := effect }), staged := [], pend := true } := by
  simp [Shadow.commitBits, shadowGo, hs, Shadow.landed]

/-- With nothing staged it moves nothing (R72). -/
theorem Shadow.go_empty (hs : h.staged = []) : h.commitBits false effect late = Shadow.landed late h := by
  simp [Shadow.commitBits, shadowGo, hs, Shadow.landed]

/-- ABORT discards what is staged (R71). -/
theorem Shadow.abort_staged (hp : h.pend = false) : h.commitBits true effect late = Shadow.landed late { h with staged := [] } := by
  simp [Shadow.commitBits, shadowAbort, hp, Shadow.landed]

/-- While PEND is 1 it is turned away (R71). -/
theorem Shadow.abort_pending (hp : h.pend = true) : h.commitBits true effect late = h := if_pos ⟨rfl, hp⟩

end commitBits

/-- A lane with another shadow. -/
def Lane.withShadow (n : Lane) (h : Shadow) : Lane := n.onMain (fun m => { m with shadow := h })

/-- Settles O40: a lane's shadow and a unit's, with the agreed writes taken in, each change by `Shadow.commitBits`. -/
theorem goAndAbort : Obligations.GoAndAbort := by
  unfold Obligations.GoAndAbort
  intro mark s
  refine ⟨fun l hc => ?lane, fun u hr => ?unit⟩
  case lane =>
    exact ⟨fun hs => exec_acts rfl hc (congrArg (s.lanes.get l).withShadow (Shadow.go_staged _ _ hs)),
      fun hs => exec_acts rfl hc (congrArg (s.lanes.get l).withShadow (Shadow.go_empty _ _ hs)),
      fun hp => exec_acts rfl hc (congrArg (s.lanes.get l).withShadow (Shadow.abort_staged _ _ hp)),
      fun hp => (exec_acts rfl hc (congrArg (s.lanes.get l).withShadow (Shadow.abort_pending _ _ hp))).trans (congrArg _ (s.setLane_self l))⟩
  case unit =>
    intro c put gone
    have acts : ∀ {i : Instr} {abort : Bool} {h : Shadow}, exec i s = .next (s.ifRuns u (fun s => s.setUnit u ((s.ucom.get u).commitBits abort))) →
        c.shadow.commitBits abort (if c.roundDue then 1 else 0) c.roundDue = h → exec i s = .next (put h) :=
      fun hi hh => hi.trans (congrArg Host.Outcome.next ((if_pos hr).trans (congrArg put hh)))
    exact ⟨fun hs => acts rfl (Shadow.go_staged _ _ hs), fun hs => acts rfl (Shadow.go_empty _ _ hs),
      fun hp => acts rfl (Shadow.abort_staged _ _ hp), fun hp => acts rfl (Shadow.abort_pending _ _ hp)⟩

end Sys2Proof.Machine

namespace Sys2Proof.Machine
open Sys2Proof

/-! ## Bytes put into a byte string (R17, R106) -/

/-- Zeros behind a byte string change no byte that is read of it. -/
theorem byteAt_append_zeros (bs : Bytes) (n i : Nat) : byteAt (bs ++ zeros n) i = byteAt bs i := by
  simp only [byteAt, zeros, List.getD_eq_getElem?_getD, List.getElem?_append, List.getElem?_replicate]
  split
  · rfl
  · next h =>
    rw [List.getElem?_eq_none (Nat.not_lt.mp h)]
    split <;> rfl

/-- The string grown to hold what is put into it. -/
def grown (bs : Bytes) (off len : Nat) : Bytes := bs ++ zeros (off + len - bs.length)

theorem grown_length (bs : Bytes) (off len : Nat) : off + len ≤ (grown bs off len).length := by
  simp only [grown, zeros, List.length_append, List.length_replicate]
  omega

theorem putBytes_eq (bs : Bytes) (off : Nat) (v : Bytes) :
    putBytes bs off v = (grown bs off v.length).take off ++ (v ++ (grown bs off v.length).drop (off + v.length)) :=
  List.append_assoc _ _ _

theorem grown_take_length (bs : Bytes) (off len : Nat) : ((grown bs off len).take off).length = off := by
  have room := grown_length bs off len
  rw [List.length_take]
  omega

/-- A word put into a byte string is read there. -/
theorem u32At_putBytes (bs : Bytes) (off v : Nat) (h : v < 4294967296) : u32At (putBytes bs off (leBytes 4 v)) off = v := by
  have there := u32At_append ((grown bs off 4).take off) (leBytes 4 v ++ (grown bs off 4).drop (off + 4)) 0
  rw [grown_take_length, u32At_leBytes v _ h] at there
  rwa [putBytes_eq, leBytes_length]

/-- Every other byte is as it was, 0 beyond the end (log entry 114). -/
theorem byteAt_putBytes_other (bs : Bytes) (off : Nat) (v : Bytes) (a : Nat) (h : a < off ∨ off + v.length ≤ a) :
    byteAt (putBytes bs off v) a = byteAt bs a := by
  have before := grown_take_length bs off v.length
  rw [← byteAt_append_zeros bs (off + v.length - bs.length) a, ← grown, putBytes_eq]
  obtain h | h := h
  · simp only [byteAt, List.getD_eq_getElem?_getD]
    rw [List.getElem?_append_left (before.symm ▸ h), List.getElem?_take_of_lt h]
  · obtain ⟨k, rfl⟩ := Nat.exists_eq_add_of_le h
    have behind := byteAt_append ((grown bs off v.length).take off ++ v) ((grown bs off v.length).drop (off + v.length)) k
    rw [List.length_append, before, List.append_assoc] at behind
    rw [behind]
    simp only [byteAt, List.getD_eq_getElem?_getD, List.getElem?_drop]

/-! ## The pending image (R98, R106, R346) -/

@[simp] theorem Loader.setPending_pending (d : Loader) (b : Bytes) : (d.setPending b).pending = b := by
  unfold Loader.setPending Loader.pending
  split <;> rfl
@[simp] theorem Loader.setPending_active (d : Loader) (b : Bytes) : (d.setPending b).active = d.active := by
  unfold Loader.setPending Loader.active
  split <;> rfl

/-- A computing lane takes writes to its CNV_ block. -/
theorem Lane.takesCanvas_of_computing {n : Lane} (h : n.computing = true) : n.takesCanvas = true := by
  have awake := Lane.awake_of_computing h
  simp only [Lane.computing, Bool.and_eq_true, decide_eq_true_eq] at h
  obtain ⟨-, h | h⟩ := h <;> simp [Lane.takesCanvas, awake, h]

/-- Canvas writes are open in SERVICE and SKETCH of an owned device, under varnish with UNLOCK (R98, R346). -/
theorem State.cnvGate_open {s : State} {l : LaneId} (hp : s.polvin.ipub.isSome = true)
    (hm : (s.lanes.get l).main.mode.mode = .service ∨ (s.lanes.get l).main.mode.mode = .sketch)
    (hv : s.polvin.varnish = false ∨ s.polvin.unlocked = true) : s.cnvGate l = 0 := by
  have owned : ¬ s.polvin.ipub.isNone = true := by simpa [Option.isSome_iff_ne_none] using hp
  have inMode : ¬ ((s.lanes.get l).main.mode.mode ≠ .service ∧ (s.lanes.get l).main.mode.mode ≠ .sketch) :=
    fun ⟨service, sketch⟩ => hm.elim service sketch
  have notVarnished : ¬ (s.polvin.varnish = true ∧ ¬ s.polvin.unlocked = true) := by
    rintro ⟨varnish, locked⟩
    exact hv.elim (by simp [varnish]) locked
  simp only [State.cnvGate, if_neg owned, if_neg inMode, if_neg notVarnished]

/-- A row that changes the pending image where the gate is open: that lane changes. -/
theorem exec_cnvDo_open {s : State} {l : LaneId} {c : Instr} {f : Lane → Lane} (hc : exec c s = .next (s.cnvDo l f))
    (ht : (s.lanes.get l).takesCanvas = true) (hg : s.cnvGate l = 0) :
    exec c s = .next (s.setLane l (f (s.lanes.get l))) := by
  rw [hc]
  simp only [State.cnvDo, ht, hg, if_true]

/-- Settles O37: each row changes its lane's loader alone, by the operation of R98 or R106 it stands for. -/
theorem pendingImage : Obligations.PendingImage := by
  unfold Obligations.PendingImage
  intro s l hc hp hm hv
  have takes := Lane.takesCanvas_of_computing hc
  have gate := State.cnvGate_open hp hm hv
  refine ⟨fun hs => ⟨?start, ?abort, fun he => ?check⟩, fun he => ?erased, fun off v hs hlt hal => ?window⟩
  case start =>
    refine ⟨_, exec_cnvDo_open rfl takes gate, onlyLane_setLane _ _ _, ?_⟩
    simp [Loader.begin, hs]
  case abort =>
    refine ⟨_, exec_cnvDo_open rfl takes gate, onlyLane_setLane _ _ _, ?_⟩
    rw [State.setLane_lanes, Tri.get_set_same, Lane.onLoader, Loader.abort, if_neg hs]
    exact ⟨rfl, Loader.setPending_pending (s.lanes.get l).loader [], Loader.setPending_active (s.lanes.get l).loader [], rfl⟩
  case check =>
    refine ⟨_, exec_cnvDo_open rfl takes gate, onlyLane_setLane _ _ _, ?_⟩
    simp [Loader.startCheck, hs, he]
  case erased =>
    refine ⟨_, exec_acts rfl (Lane.awake_of_computing hc) rfl, onlyLane_setLane _ _ _, ?_⟩
    rw [State.setLane_lanes, Tri.get_set_same, Lane.onLoader, Loader.erased, if_pos he]
    exact ⟨rfl, rfl, Loader.setPending_pending (s.lanes.get l).loader [], Loader.setPending_active (s.lanes.get l).loader []⟩
  case window =>
    have row : exec (.cnvWinWrite l off v) s = .next (s.cnvDo l fun n => n.onLoader fun d => d.window off v.toNat) :=
      congrArg Host.Outcome.next (if_pos ⟨hlt, hal⟩)
    refine ⟨_, exec_cnvDo_open row takes gate, onlyLane_setLane _ _ _, ?_⟩
    rw [State.setLane_lanes, Tri.get_set_same, Lane.onLoader, Loader.window, if_pos hs, Loader.setPending_pending,
      Loader.setPending_active]
    exact ⟨u32At_putBytes _ _ _ v.isLt, fun a ha => byteAt_putBytes_other _ _ _ a (by simpa using ha), rfl⟩

end Sys2Proof.Machine

namespace Sys2Proof.Machine
open Sys2Proof

/-! ## What the log and the records of a commit leave of the Polvin core (R95, R346, R355) -/

/-- The Polvin core but for its log and its events. -/
def Polvin.unlogged (p : Polvin) : Polvin := { p with log := [], logSeq := 0, cpSeq := 0, cpHash := [], evt := {} }

/-- The Polvin core but for these, what it records at a commit, and the entry into sleep it has under way. -/
def Polvin.lasting (p : Polvin) : Polvin := { p.unlogged with erec := 0, erecHash := [], vhash := [], entry := none }

theorem Polvin.lasting_of_unlogged {p q : Polvin} (h : q.unlogged = p.unlogged) : q.lasting = p.lasting := by
  rw [Polvin.lasting, Polvin.lasting, h]

theorem Polvin.ipub_of_unlogged {p q : Polvin} (h : q.unlogged = p.unlogged) : q.ipub = p.ipub :=
  show q.unlogged.ipub = p.unlogged.ipub by rw [h]

/-- Folding the oldest entries changes the log alone. -/
theorem Polvin.fold_unlogged (p : Polvin) : p.fold.unlogged = p.unlogged ∧ p.fold.logSeq = p.logSeq := by
  unfold Polvin.fold
  split <;> exact ⟨rfl, rfl⟩

section log
variable (s : State) (w : Option Writer) (action code arg : Nat) (chash : Bytes)

theorem State.logAs_unlogged : (s.logAs w action code arg chash).polvin.unlogged = s.polvin.unlogged := by
  simp only [State.logAs]
  split
  · rfl
  · split
    · rfl
    · exact s.polvin.fold_unlogged.1

@[simp] theorem State.logAs_ipub : (s.logAs w action code arg chash).polvin.ipub = s.polvin.ipub :=
  Polvin.ipub_of_unlogged (s.logAs_unlogged w action code arg chash)

/-- An entry that the log takes is counted (R355). -/
theorem State.logAs_seq (hd : s.polvin.dom = .on) (hb : s.polvin.logBad = false) :
    (s.logAs w action code arg chash).polvin.logSeq = s.polvin.logSeq + 1 := by
  simp [State.logAs, hd, hb, Polvin.append, s.polvin.fold_unlogged.2]

end log

section core
variable (s : State) (l : LaneId) (w : Option Writer)

theorem State.serviceIn_unlogged : (s.serviceIn l w).polvin.unlogged = s.polvin.unlogged := by
  simp only [State.serviceIn]
  split
  · rw [State.logAs_unlogged, State.serviceOthers_polvin]; simp
  · simp

theorem State.serviceOut_ipub (f : Lane → Lane) : (s.serviceOut l w f).polvin.ipub = s.polvin.ipub := by
  simp only [State.serviceOut]
  split
  · simp [State.serviceLeft]
  · simp

/-- What a commit records. -/
theorem State.commitRecord_lasting (h : Bytes) (epoch : Nat) (signed : Bool) :
    (s.commitRecord h epoch signed).lanes = s.lanes ∧ (s.commitRecord h epoch signed).polvin.lasting = s.polvin.lasting := by
  unfold State.commitRecord
  split
  · exact ⟨rfl, rfl⟩
  · extract_lets p t
    have recorded : t.lanes = s.lanes ∧ t.polvin.lasting = s.polvin.lasting := by
      simp only [t]
      split <;> exact ⟨rfl, rfl⟩
    obtain ⟨lanes, lasting⟩ := recorded
    split
    · refine ⟨?_, (Polvin.lasting_of_unlogged (State.logAs_unlogged _ _ _ _ _ _)).trans lasting⟩
      rw [State.logEvent, State.logAs_lanes, lanes]
    · exact ⟨lanes, lasting⟩

end core

/-! ## The retirement record (R37, R339, R378) -/

/-- A lane that has found no retirement: its record is read, and it goes on where nothing else holds it. -/
def Lane.recordRead (n : Lane) : Lane := (n.onLoader (fun d => { d with recRead := true })).leaveBoot

/-- A lane whose retirement stands in the core's record. -/
def State.recordRetires (s : State) (l : LaneId) : State :=
  let s := s.laneDown l .retired .off
  s.setLane l ((s.lanes.get l).onAon (fun a => { a with retired := true }))

/-- A lane whose record names no retirement; SERVICE where the core holds no key. -/
def State.recordClear (s : State) (l : LaneId) : State :=
  let t := s.setLane l (s.lanes.get l).recordRead
  if s.polvin.ipub.isNone ∧ (s.lanes.get l).main.mode.mode = .none then t.serviceIn l none else t

/-- A lane that has its record still to read from a core that is not OFF. -/
def State.recordDue (s : State) (l : LaneId) : Prop :=
  (s.lanes.get l).state = .boot ∧ (s.lanes.get l).loader.recRead = false ∧ s.polvin.dom ≠ .off

section record
variable {s : State} {l : LaneId}

theorem State.polvinWakes_on_iff (s : State) : s.polvinWakes.polvin.dom = .on ↔ s.polvin.dom ≠ .off := by
  rw [State.polvinWakes_dom]
  split <;> simp [*]

/-- Elsewhere the core wakes, and nothing else. -/
theorem State.readRecord_idle (h : ¬ s.recordDue l) : s.readRecord l = s.polvinWakes := by
  refine if_pos ?_
  rw [ne_eq _ DomState.on, State.polvinWakes_on_iff]
  show (s.lanes.get l).state ≠ .boot ∨ (s.lanes.get l).loader.recRead = true ∨ ¬ s.polvin.dom ≠ .off
  by_contra hn
  push Not at hn
  obtain ⟨boot, unread, dom⟩ := hn
  exact h ⟨boot, by simpa using unread, dom⟩

theorem State.readRecord_due (h : s.recordDue l) : s.readRecord l =
    if s.polvin.retired.testBit l.idx then s.polvinWakes.recordRetires l else s.polvinWakes.recordClear l := by
  obtain ⟨boot, unread, dom⟩ := h
  have running : s.polvinWakes.polvin.dom = .on := s.polvinWakes_on_iff.mpr dom
  refine if_neg ?_
  rintro (h | h | h)
  · exact h boot
  · exact absurd (h.symm.trans unread) (by simp)
  · exact h running

theorem Lane.leaveBoot_state (n : Lane) : n.leaveBoot.state = n.state ∨ n.leaveBoot.state = .translate := by
  unfold Lane.leaveBoot
  split
  · exact Or.inr rfl
  · exact Or.inl rfl

/-- Entering SERVICE leaves the state of a lane alone. -/
theorem Lane.enterService_state (n : Lane) : (n.enterService.portPhy l).state = n.state := by
  unfold Lane.portPhy
  split <;> rfl

/-- A lane at BOOT, once it has read its record: RETIRED where a core that is not OFF holds its retirement (R37, R378). -/
theorem State.readRecord_boots (hb : (s.lanes.get l).state = .boot) (hr : (s.lanes.get l).loader.recRead = false) :
    (s.polvin.dom ≠ .off → s.polvin.retired.testBit l.idx = true → ((s.readRecord l).lanes.get l).state = .retired) ∧
    (s.polvin.dom = .off ∨ s.polvin.retired.testBit l.idx = false →
      ((s.readRecord l).lanes.get l).state = .boot ∨ ((s.readRecord l).lanes.get l).state = .translate) := by
  refine ⟨fun hd ht => ?_, fun h => ?_⟩
  · rw [State.readRecord_due ⟨hb, hr, hd⟩, if_pos ht]
    simp [State.recordRetires, Lane.down]
  · by_cases hd : s.polvin.dom = .off
    · rw [State.readRecord_idle fun due => due.2.2 hd]
      exact Or.inl hb
    · have clear : ¬ s.polvin.retired.testBit l.idx = true := by simpa using h.resolve_left hd
      have read := (s.lanes.get l).onLoader (fun d => { d with recRead := true }) |>.leaveBoot_state
      rw [Lane.onLoader_state, hb] at read
      rw [State.readRecord_due ⟨hb, hr, hd⟩, if_neg clear, State.recordClear]
      split
      · rw [State.serviceIn_own, Lane.enterService_state, State.setLane_lanes, Tri.get_set_same]
        exact read
      · rw [State.setLane_lanes, Tri.get_set_same]
        exact read

end record

end Sys2Proof.Machine

namespace Sys2Proof.Machine
open Sys2Proof

/-! ## What the boot of a lane leaves of it and of the others (R37, R84, R99) -/

/-- The images a lane holds and the always-on record of the active one. -/
def Lane.image (n : Lane) : (Bytes × Bytes) × Nat × Option (Bytes × Nat) × Bytes × Nat :=
  (n.loader.slots, n.loader.aslot, n.loader.commit, n.aon.hash, n.aon.epoch)

/-- What a session's end and an entry into SERVICE elsewhere leave of a lane. -/
def Lane.standing (n : Lane) : LState × DomState × Loader := (n.state, n.dom, n.loader)

/-- A view of a lane in which neither the end of a session nor SERVICE entered in another lane shows. -/
def Unheard {γ : Type} (f : Lane → γ) : Prop := (∀ n p, f (n.told p) = f n) ∧ ∀ n, f n.clearLatched = f n

theorem unheard_standing : Unheard Lane.standing := ⟨fun _ _ => rfl, fun _ => rfl⟩

/-- `t` is `s` after a step of the boot of lane `l`: its images stand, and the view `f` of each other lane. -/
structure BootFrame {γ : Type} (f : Lane → γ) (l : LaneId) (s t : State) : Prop where
  image : (t.lanes.get l).image = (s.lanes.get l).image
  others : ∀ k, k ≠ l → f (t.lanes.get k) = f (s.lanes.get k)
  ipub : t.polvin.ipub = s.polvin.ipub

section frame
variable {γ : Type} {f : Lane → γ} {l : LaneId} {s t u : State}

theorem BootFrame.trans (h : BootFrame f l s t) (h' : BootFrame f l t u) : BootFrame f l s u :=
  ⟨h'.image.trans h.image, fun k hk => (h'.others k hk).trans (h.others k hk), h'.ipub.trans h.ipub⟩

/-- A step that changes no lane, nor the core's key. -/
theorem bootFrame_of_lanes (hl : t.lanes = s.lanes) (hp : t.polvin.ipub = s.polvin.ipub) : BootFrame f l s t :=
  ⟨by rw [hl], fun k _ => by rw [hl], hp⟩

theorem BootFrame.refl (f : Lane → γ) (l : LaneId) (s : State) : BootFrame f l s s := bootFrame_of_lanes rfl rfl

theorem bootFrame_setLane {n : Lane} (hn : n.image = (s.lanes.get l).image) : BootFrame f l s (s.setLane l n) :=
  ⟨by simpa using hn, fun k hk => by rw [State.setLane_lanes, Tri.get_set_other _ _ _ _ hk], rfl⟩

theorem bootFrame_syncInhibit (s : State) : BootFrame f l s s.syncInhibit := bootFrame_of_lanes (by simp) (by simp)

theorem bootFrame_logEvent (s : State) (action code arg : Nat) (chash : Bytes) : BootFrame f l s (s.logEvent action code arg chash) :=
  bootFrame_of_lanes (by simp [State.logEvent]) (by simp [State.logEvent])

theorem bootFrame_refuseImage (s : State) (r : Refuse) : BootFrame f l s (s.refuseImage l r) := by
  unfold State.refuseImage State.logLoad
  exact (bootFrame_setLane (by rfl)).trans (bootFrame_logEvent _ _ _ _ _)

theorem Lane.enterService_image (n : Lane) : (n.enterService.portPhy l).image = n.image := by
  unfold Lane.portPhy
  split <;> rfl

/-- SERVICE entered clears the latched flags of the other lanes at most. -/
theorem bootFrame_serviceIn (hf : Unheard f) (s : State) (w : Option Writer) : BootFrame f l s (s.serviceIn l w) := by
  refine ⟨by rw [State.serviceIn_own, Lane.enterService_image], fun k hk => ?_, Polvin.ipub_of_unlogged (s.serviceIn_unlogged l w)⟩
  rw [State.serviceIn_other s l w hk]
  split
  · exact hf.2 _
  · rfl

/-- SERVICE left tells the other lanes of the end of the session at most. -/
theorem State.serviceOut_other (s : State) (w : Option Writer) (g : Lane → Lane) {k : LaneId} (hk : k ≠ l) :
    ∃ p, (s.serviceOut l w g).lanes.get k = (s.lanes.get k).told p := by
  simp only [State.serviceOut]
  split
  · obtain ⟨p, told⟩ := State.sessionDown_lane ((s.setLane l (g (s.lanes.get l)).streamless).syncInhibit.serviceLeft) k
    exact ⟨p, by rw [State.logAs_lanes]; exact told.trans (by simp [State.serviceLeft, Tri.get_set_other _ _ _ _ hk])⟩
  · exact ⟨(s.lanes.get k).main.office.endedPeer, by simp [Tri.get_set_other _ _ _ _ hk]; rfl⟩

theorem bootFrame_serviceOut (hf : Unheard f) (s : State) (w : Option Writer) {g : Lane → Lane} (hg : ∀ n, (g n).image = n.image) :
    BootFrame f l s (s.serviceOut l w g) := by
  obtain ⟨p, own⟩ := s.serviceOut_own l w g
  refine ⟨by rw [own]; exact hg _, fun k hk => ?_, s.serviceOut_ipub l w g⟩
  obtain ⟨q, other⟩ := s.serviceOut_other w g hk
  rw [other, hf.1]

/-- The mode a lane boots in is heard elsewhere only where SERVICE is entered or left for it: where the device is not owned, or the lane is
in SERVICE. -/
theorem bootFrame_bootMode (s : State) (hf : Unheard f ∨ (s.polvin.ipub.isSome = true ∧ (s.lanes.get l).main.mode.mode ≠ .service))
    (unsigned : Bool) : BootFrame f l s (s.bootMode l unsigned) := by
  have inMode : ∀ g : Lane → Lane, (∀ n, (g n).image = n.image) → BootFrame f l s (s.setLane l (g (s.lanes.get l))).syncInhibit :=
    fun g hg => (bootFrame_setLane (hg _)).trans (bootFrame_syncInhibit _)
  have heard : ∀ {p : Prop}, (p → s.polvin.ipub.isNone = true ∨ (s.lanes.get l).main.mode.mode = .service) → p → Unheard f := by
    intro p hp h
    refine hf.resolve_right fun ⟨owned, mode⟩ => ?_
    rcases hp h with none | service
    · simp [Option.isNone_iff_eq_none.mp none] at owned
    · exact mode service
  simp only [State.bootMode]
  split
  case isTrue unowned =>
    split
    · exact .refl f l s
    · exact bootFrame_serviceIn (heard (fun h => Or.inl h.1) unowned) s none
  case isFalse =>
    split
    case isTrue service =>
      split
      · exact bootFrame_serviceOut (heard Or.inr service) s none fun _ => rfl
      · exact .refl f l s
    case isFalse =>
      split
      · exact inMode Lane.halt fun _ => rfl
      · split
        · exact inMode Lane.enterSketch fun _ => rfl
        · exact .refl f l s

/-- The executive patch a lane takes at BOOT leaves its mode alone. -/
theorem bootFrame_bootPatch (s : State) : BootFrame f l s (s.bootPatch l) ∧ ((s.bootPatch l).lanes.get l).main = (s.lanes.get l).main := by
  simp only [State.bootPatch]
  split
  · exact ⟨(bootFrame_setLane (by rfl)).trans (bootFrame_logEvent _ _ _ _ _), by simp [State.logEvent]⟩
  · exact ⟨.refl f l s, rfl⟩

theorem Lane.leaveBoot_image (n : Lane) : n.leaveBoot.image = n.image := by rw [Lane.leaveBoot_rest]; rfl

/-- Steps 1 and 2 of R84 at boot. -/
theorem bootFrame_bootImage (s : State) (hf : Unheard f ∨ (s.polvin.ipub.isSome = true ∧ (s.lanes.get l).main.mode.mode ≠ .service)) :
    BootFrame f l s (s.bootImage l) := by
  obtain ⟨patched, main⟩ := bootFrame_bootPatch (f := f) (l := l) s
  rw [← patched.ipub, ← main] at hf
  unfold State.bootImage
  extract_lets p n im
  split
  · exact (patched.trans (bootFrame_bootMode p hf _)).trans (bootFrame_refuseImage _ _)
  · rename_i m q o _ _
    have inMode : BootFrame f l s q :=
      (patched.trans (bootFrame_setLane (n := m) rfl)).trans (bootFrame_bootMode _ (by simpa [m] using hf) _)
    refine inMode.trans ?_
    split
    · exact bootFrame_setLane rfl
    · split
      · exact bootFrame_refuseImage _ _
      · refine (bootFrame_setLane ?_).trans (bootFrame_logEvent _ _ _ _ _)
        exact Lane.leaveBoot_image (o.onLoader _)

/-- The retirement record read is heard elsewhere only where a retirement stands or the device is not owned. -/
theorem bootFrame_readRecord (s : State)
    (hf : Unheard f ∨ (s.polvin.ipub.isSome = true ∧ s.polvin.retired.testBit l.idx = false)) : BootFrame f l s (s.readRecord l) := by
  have wakes : BootFrame f l s s.polvinWakes := bootFrame_of_lanes rfl rfl
  by_cases due : s.recordDue l
  · rw [State.readRecord_due due]
    refine wakes.trans ?_
    split
    case isTrue retired =>
      have unheard := hf.resolve_right fun ⟨_, clear⟩ => by simp [clear] at retired
      refine ⟨by simp [State.recordRetires]; rfl, fun k hk => ?_, by simp [State.recordRetires]⟩
      obtain ⟨p, other⟩ := s.polvinWakes.laneDown_other l .retired .off hk
      rw [State.recordRetires, State.setLane_lanes, Tri.get_set_other _ _ _ _ hk, other, unheard.1]
    case isFalse =>
      have read : BootFrame f l s.polvinWakes (s.polvinWakes.setLane l (s.lanes.get l).recordRead) :=
        bootFrame_setLane (Lane.leaveBoot_image _)
      unfold State.recordClear
      split
      case isTrue unowned =>
        have none : s.polvin.ipub.isNone = true := unowned.1
        have unheard := hf.resolve_right fun ⟨owned, _⟩ => by simp [Option.isNone_iff_eq_none.mp none] at owned
        exact read.trans (bootFrame_serviceIn unheard _ _)
      case isFalse => exact read
  · rw [State.readRecord_idle due]
    exact wakes

end frame

end Sys2Proof.Machine

namespace Sys2Proof.Machine
open Sys2Proof

/-! ## A commit and the check of a pending image (R84, R98, R99) -/

/-- A READY image that the writer names is not refused (R99). -/
theorem Loader.commitCode_ready {d : Loader} {hash : Nat} (hs : d.state = .ready) (hh : u16At d.phash 0 = hash % 65536) :
    d.commitCode hash = 0 := by simp [Loader.commitCode, hs, hh]
theorem Loader.commitCode_notReady {d : Loader} {hash : Nat} (hs : d.state ≠ .ready) : d.commitCode hash = 0x30 := if_pos hs
theorem Loader.commitCode_other {d : Loader} {hash : Nat} (hs : d.state = .ready) (hh : u16At d.phash 0 ≠ hash % 65536) :
    d.commitCode hash = 0x31 := by simp [Loader.commitCode, hs, hh]

section commit
variable {s : State} {l : LaneId} {w : Option Writer} {hash delay : Nat}

/-- A commit refused leaves its code, and nothing else (R99). -/
theorem State.commit_refused {logOk : Bool} {c : Nat} (h : (s.lanes.get l).loader.commitCode hash = c) (hc : c ≠ 0) :
    s.commit l w hash delay logOk = s.setLane l { s.lanes.get l with loader := { (s.lanes.get l).loader with code := c } } := by
  subst h
  exact if_pos hc

/-- A lane's loader with a commit recorded for a round (R99). -/
def Loader.committed (d : Loader) (target : Nat) : Loader :=
  { d with state := .committed, code := 0, target := target, commit := some (d.phash, target) }

/-- A commit accepted is recorded in the lane and in the log (R99, R355). -/
theorem State.commit_accepted (h : (s.lanes.get l).loader.commitCode hash = 0) (hlo : 16 ≤ delay) (hhi : delay ≤ 255) (hd : s.polvin.dom = .on) :
    (s.commit l w hash delay true).lanes = s.lanes.set l { s.lanes.get l with
        loader := (s.lanes.get l).loader.committed (((s.lanes.get l).main.time.round + delay) % 16777216) } ∧
      (s.commit l w hash delay true).polvin.logSeq = s.polvin.logSeq + 1 := by
  have inTime : ¬ (delay < 16 ∨ 255 < delay) := by omega
  have logs : ¬ (¬ true = true ∨ s.polvin.dom ≠ .on) := by simp [hd]
  have recorded : s.commit l w hash delay true = _ := (if_neg (not_not.mpr h)).trans ((if_neg inTime).trans (if_neg logs))
  rw [recorded]
  exact ⟨State.logAs_lanes _ _ _ _ _ _, State.logAs_seq _ _ _ _ _ _ hd rfl⟩

end commit

/-- What a check of the pending image leaves of a lane: its state, and its slots. -/
def Lane.held (n : Lane) : LState × (Bytes × Bytes) × Nat := (n.state, n.loader.slots, n.loader.aslot)

/-- The pending image is one of the slots. -/
theorem Lane.pending_of_held {n m : Lane} (h : m.held = n.held) : m.loader.pending = n.loader.pending := by
  obtain ⟨-, slots, aslot⟩ : _ ∧ _ ∧ _ := by simpa only [Lane.held, Prod.mk.injEq] using h
  rw [Loader.pending, Loader.pending, slots, aslot]

/-- Translation leaves them as they are. -/
theorem Lane.translate_held (n : Lane) (l : LaneId) (im : Bytes) (read : Option Bytes) : (n.translate l im read).held = n.held := by
  have cached : ∀ h code, (n.loader.cached l h code).slots = n.loader.slots ∧ (n.loader.cached l h code).aslot = n.loader.aslot := by
    intro h code; rw [Loader.cached_rest]; exact ⟨rfl, rfl⟩
  obtain ⟨slots, aslot⟩ := cached (hashBytes (imgHash im)) (Config.translation l.idx im)
  simp only [Lane.translate]
  (repeat' split) <;> simp [Lane.held, slots, aslot]

/-- A refused check is that lane's, and its pending image is REFUSED (R90, R98). -/
theorem State.refuseCheck_lanes (s : State) (l : LaneId) (r : Refuse) : (s.refuseCheck l r).lanes =
    s.lanes.set l ((s.lanes.get l).onLoader (fun d => { d.report r with state := .refused })) := by
  simp [State.refuseCheck, State.logLoad, State.logEvent]

/-- `t` is `s`, as far as lanes go, after a check step in lane `l` that leaves its pending image in state `st`. -/
def CheckedTo (l : LaneId) (st : CnvState) (s t : State) : Prop :=
  ∃ n, t.lanes = s.lanes.set l n ∧ n.held = (s.lanes.get l).held ∧ n.loader.state = st

section check
variable {s t u : State} {l : LaneId} {st st' : CnvState}

theorem CheckedTo.trans (h : CheckedTo l st s t) (h' : CheckedTo l st' t u) : CheckedTo l st' s u := by
  obtain ⟨n, lanes, held, -⟩ := h
  obtain ⟨m, lanes', held', state⟩ := h'
  rw [lanes, Tri.get_set_same] at held'
  exact ⟨m, by rw [lanes', lanes, Tri.set_set_same], held'.trans held, state⟩

theorem checkedTo_setLane {n : Lane} (hn : n.held = (s.lanes.get l).held) : CheckedTo l n.loader.state s (s.setLane l n) :=
  ⟨n, rfl, hn, rfl⟩

theorem checkedTo_refuseCheck (s : State) (l : LaneId) (r : Refuse) : CheckedTo l .refused s (s.refuseCheck l r) :=
  ⟨_, s.refuseCheck_lanes l r, rfl, rfl⟩

/-- Steps 1 to 4 of R84 pass on the pending image of a lane. -/
def State.passesEarly (s : State) (l : LaneId) : Prop :=
  formatRefuse l (s.lanes.get l).loader (s.lanes.get l).loader.pslot = none ∧ s.polvin.dom = .on ∧
    verdictRefuse s.polvin (s.lanes.get l).loader.pending = none ∧ laneCheck l (s.lanes.get l).loader.pending = none

/-- All steps of R84 do. -/
def State.passesCheck (s : State) (l : LaneId) : Prop :=
  formatRefuse l (s.lanes.get l).loader (s.lanes.get l).loader.pslot = none ∧ s.polvin.dom = .on ∧
    verdictRefuse s.polvin (s.lanes.get l).loader.pending = none ∧ stepsRefuse l (s.lanes.get l).loader.pending = none

/-- Steps 1 to 4 of R84 on the pending image: TRANSLATING where all of them pass, else REFUSED. -/
theorem State.checkSteps_to (s : State) (l : LaneId) (read : Option Bytes) :
    (s.passesEarly l → CheckedTo l .translating s (s.checkSteps l read)) ∧
    (¬ s.passesEarly l → CheckedTo l .refused s (s.checkSteps l read)) := by
  simp only [State.checkSteps, State.passesEarly]
  cases hf : formatRefuse l (s.lanes.get l).loader (s.lanes.get l).loader.pslot with
  | some r => exact ⟨fun h => absurd h.1 (by simp), fun _ => checkedTo_refuseCheck s l r⟩
  | none =>
    generalize hn : (s.lanes.get l).onLoader (fun d => { d with phash := hashBytes (imgHash (s.lanes.get l).loader.pending) }) = n
    have hashed : CheckedTo l n.loader.state s (s.setLane l n) := checkedTo_setLane (by rw [← hn]; rfl)
    by_cases hd : s.polvin.dom = .on
    · rw [if_neg (by simpa using hd)]
      simp only [State.setLane_polvin, State.setLane_lanes, Tri.get_set_same]
      cases hr : (verdictRefuse s.polvin (s.lanes.get l).loader.pending).or (laneCheck l (s.lanes.get l).loader.pending) with
      | some r =>
        refine ⟨fun ⟨_, _, hv, hc⟩ => ?_, fun _ => hashed.trans (checkedTo_refuseCheck _ l r)⟩
        simp [hv, hc] at hr
      | none =>
        obtain ⟨hv, hc⟩ := Option.or_eq_none_iff.mp hr
        refine ⟨fun _ => hashed.trans (checkedTo_setLane ?_), fun h => absurd ⟨trivial, hd, hv, hc⟩ h⟩
        rw [State.setLane_lanes, Tri.get_set_same, ← n.translate_held l (s.lanes.get l).loader.pending read]
        rfl
    · rw [if_pos (by simpa using hd)]
      refine ⟨fun h => absurd h.2.1 hd, fun _ => hashed.trans ?_⟩
      exact (checkedTo_setLane (by rfl)).trans (checkedTo_refuseCheck _ l _)

/-- Step 5 of R84 on an image that has come so far (R87). -/
theorem State.checkVectors_to (h : (s.lanes.get l).loader.state = .translating) :
    (vectorsPass l (parseCanvas (s.lanes.get l).loader.pending) = true →
      CheckedTo l .ready s (s.checkVectors l) ∧ ((s.checkVectors l).lanes.get l).loader.code = 0) ∧
    (vectorsPass l (parseCanvas (s.lanes.get l).loader.pending) = false → CheckedTo l .refused s (s.checkVectors l)) := by
  simp only [State.checkVectors, if_pos h]
  refine ⟨fun hv => ?_, fun hv => ?_⟩
  · rw [if_pos hv]
    refine ⟨⟨(s.lanes.get l).onLoader fun d => { d with state := .ready, code := 0 }, ?_, rfl, rfl⟩, ?_⟩ <;>
      simp [State.logLoad, State.logEvent]
  · rw [if_neg (by simp [hv])]
    exact checkedTo_refuseCheck s l _

/-- An image that an earlier step refused stays so. -/
theorem State.checkVectors_idle (h : (s.lanes.get l).loader.state ≠ .translating) : s.checkVectors l = s := if_neg h

theorem CheckedTo.own (h : CheckedTo l st s t) : (t.lanes.get l).held = (s.lanes.get l).held ∧ (t.lanes.get l).loader.state = st := by
  obtain ⟨n, lanes, held, state⟩ := h
  rw [lanes, Tri.get_set_same]
  exact ⟨held, state⟩

theorem CheckedTo.frame (h : CheckedTo l st s t) : (t.lanes.get l).loader.slots = (s.lanes.get l).loader.slots ∧
    (t.lanes.get l).loader.aslot = (s.lanes.get l).loader.aslot ∧ (t.lanes.get l).state = (s.lanes.get l).state ∧
    ∀ k, k ≠ l → t.lanes.get k = s.lanes.get k := by
  obtain ⟨state, slots, aslot⟩ : _ ∧ _ ∧ _ := by simpa only [Lane.held, Prod.mk.injEq] using h.own.1
  obtain ⟨n, lanes, -⟩ := h
  exact ⟨slots, aslot, state, fun k hk => by rw [lanes, Tri.get_set_other _ _ _ _ hk]⟩

theorem stepsRefuse_none_iff {im : Bytes} : stepsRefuse l im = none ↔ laneCheck l im = none ∧ vectorsPass l (parseCanvas im) = true := by
  simp only [stepsRefuse, Option.or_eq_none_iff, need]
  split <;> simp [*]

/-- A check ends READY with code 0 where every step of R84 passes, else REFUSED (R98). -/
theorem State.check_ends (s : State) (l : LaneId) (read : Option Bytes) :
    (s.passesCheck l →
      CheckedTo l .ready s ((s.checkSteps l read).checkVectors l) ∧ (((s.checkSteps l read).checkVectors l).lanes.get l).loader.code = 0) ∧
    (¬ s.passesCheck l → CheckedTo l .refused s ((s.checkSteps l read).checkVectors l)) := by
  obtain ⟨passed, refused⟩ := s.checkSteps_to l read
  by_cases early : s.passesEarly l
  · obtain ⟨held, state⟩ := (passed early).own
    obtain ⟨ready, fails⟩ := State.checkVectors_to state
    rw [Lane.pending_of_held held] at ready fails
    obtain ⟨hf, hd, hv, hc⟩ := early
    refine ⟨fun h => ?_, fun h => (passed ⟨hf, hd, hv, hc⟩).trans (fails ?_)⟩
    · obtain ⟨ended, code⟩ := ready (stepsRefuse_none_iff.mp h.2.2.2).2
      exact ⟨(passed ⟨hf, hd, hv, hc⟩).trans ended, code⟩
    · by_contra vectors
      exact h ⟨hf, hd, hv, stepsRefuse_none_iff.mpr ⟨hc, by simpa using vectors⟩⟩
  · rw [State.checkVectors_idle (by simp [(refused early).own.2])]
    exact ⟨fun ⟨hf, hd, hv, h⟩ => absurd ⟨hf, hd, hv, (stepsRefuse_none_iff.mp h).1⟩ early, fun _ => refused early⟩

end check

/-! ## The target round of a commit (R99, R101, R378) -/

/-- The pending slot of a recorded commit is the active one once the lane has restarted (R99). -/
theorem Loader.activate_restart {d : Loader} {c : Bytes × Nat} (h : d.commit = some c) :
    d.restart.activate.slots = d.slots ∧ d.restart.activate.aslot = 1 - d.aslot ∧ d.restart.activate.commit = none ∧
      d.restart.activate.recRead = false := by
  have kept : d.restart.commit = some c := h
  unfold Loader.activate
  rw [kept]
  exact ⟨rfl, rfl, rfl, rfl⟩

/-- A commit taken is recorded by the core and in the always-on domain of its lane. -/
theorem State.takeCommit_lanes (s : State) (l : LaneId) (h : Bytes) : (s.takeCommit l h).polvin.ipub = s.polvin.ipub ∧
    (s.takeCommit l h).lanes = s.lanes.set l ((s.lanes.get l).onAon (fun a => { a with
      hash := h, epoch := imgEpoch (s.lanes.get l).loader.pending
      sketch := a.sketch && !imgSigned (s.lanes.get l).loader.pending })) := by
  obtain ⟨lanes, lasting⟩ := s.polvinWakes.commitRecord_lasting h (imgEpoch (s.lanes.get l).loader.pending)
    (imgSigned (s.lanes.get l).loader.pending)
  refine ⟨?_, ?_⟩
  · exact (congrArg Polvin.ipub lasting :)
  · simp only [State.takeCommit, State.setLane_lanes, lanes]
    rfl

/-- A lane boots as far as its verdict, and reads its retirement record (R37, R84, R378). -/
def State.boots (s : State) (l : LaneId) : State := (s.bootImage l).readRecord l

section boots
variable {s : State} {l : LaneId}

theorem bootFrame_boots (s : State) (l : LaneId) : BootFrame Lane.standing l s (s.boots l) :=
  (bootFrame_bootImage s (Or.inl unheard_standing)).trans (bootFrame_readRecord _ (Or.inl unheard_standing))

/-- Of an owned device, in a lane that neither is in SERVICE nor retires, it is heard nowhere else. -/
theorem bootFrame_boots_unheard (hr : (s.lanes.get l).loader.recRead = false) (owned : s.polvin.ipub.isSome = true)
    (clear : s.polvin.retired.testBit l.idx = false) (mode : (s.lanes.get l).main.mode.mode ≠ .service) : BootFrame id l s (s.boots l) := by
  have booted : BootFrame id l s (s.bootImage l) := bootFrame_bootImage s (Or.inr ⟨owned, mode⟩)
  obtain ⟨-, -, retired⟩ := BootSame.bootImage (s := s) (l := l) hr
  exact booted.trans (bootFrame_readRecord _ (Or.inr ⟨by rw [booted.ipub]; exact owned, by rw [retired]; exact clear⟩))

theorem State.boots_state (hb : (s.lanes.get l).state = .boot) (hr : (s.lanes.get l).loader.recRead = false) :
    (s.polvin.dom ≠ .off → s.polvin.retired.testBit l.idx = true → ((s.boots l).lanes.get l).state = .retired) ∧
    (s.polvin.dom = .off ∨ s.polvin.retired.testBit l.idx = false →
      ((s.boots l).lanes.get l).state = .boot ∨ ((s.boots l).lanes.get l).state = .translate) := by
  obtain ⟨key, dom, retired⟩ := BootSame.bootImage (s := s) (l := l) hr
  obtain ⟨state, read, -⟩ : _ ∧ _ ∧ _ := by simpa only [Lane.bootKey, Prod.mk.injEq, hb, hr] using key
  rw [← dom, ← retired]
  exact State.readRecord_boots state read

end boots

/-- A lane that makes its committed slot the active one and restarts through BOOT; SERVICE is kept (R99, R101). -/
def Lane.rebooting (n : Lane) (l : LaneId) : Lane :=
  { n with
    state := .boot
    main := { mode := if n.main.mode.mode = .service then { mode := .service, park := true, startMs := n.aon.ms } else { startMs := n.aon.ms }
              time := n.main.time, units := keepPosted (n.withdrawAll l).main.units }
    loader := n.loader.restart.activate }

theorem Lane.rebooting_mode {n : Lane} (h : n.main.mode.mode ≠ .service) (l : LaneId) : (n.rebooting l).main.mode.mode ≠ .service := by
  simp [Lane.rebooting, h]

theorem execCommitTarget_due {s : State} {l : LaneId} {h : Bytes} {r : Nat} (hc : (s.lanes.get l).loader.commit = some (h, r))
    (hr : reached r (s.lanes.get l).main.time.round = true) (ha : (s.lanes.get l).awake = true) (hs : (s.lanes.get l).loader.state = .committed) :
    exec (.commitTarget l) s = .next
      (((s.takeCommit l h).setLane l (((s.takeCommit l h).lanes.get l).rebooting l)).syncInhibit.boots l) := by
  simp only [exec, execCommitTarget, hc]
  exact congrArg Host.Outcome.next (if_pos ⟨ha, hs, hr⟩)

/-- Settles O38: a commit is refused by its code or recorded and logged, a check ends by its steps, and the lane boots from what it committed. -/
theorem commitAndCheckImages : Obligations.CommitAndCheckImages := by
  unfold Obligations.CommitAndCheckImages
  refine ⟨fun s l hc => ⟨fun hp hm hv hash delay => ?commit, fun hs code => ?check⟩, fun s l h r hcommit hr ha hs => ?target⟩
  case commit =>
    have row : ∀ ok, exec (.cnvCmt l hash delay ok) s = .next (s.commit l ((s.lanes.get l).main.office.holder.map (s.pathOf l)) hash delay ok) :=
      fun ok => congrArg Host.Outcome.next (if_pos ⟨Lane.takesCanvas_of_computing hc, State.cnvGate_open hp hm hv⟩)
    refine ⟨fun hs hh hlo hhi hd => ?_, fun ok hs => ?_, fun ok hs hh => ?_⟩
    · obtain ⟨lanes, seq⟩ := State.commit_accepted (w := (s.lanes.get l).main.office.holder.map (s.pathOf l))
        (Loader.commitCode_ready hs hh) hlo hhi hd
      refine ⟨_, row true, ?_, seq, ?_, fun k hk => ?_⟩
      · rw [lanes, Tri.get_set_same]; rfl
      · rw [lanes, Tri.get_set_same]
      · rw [lanes, Tri.get_set_other _ _ _ _ hk]
    · rw [row, State.commit_refused (Loader.commitCode_notReady hs) (by decide)]
    · rw [row, State.commit_refused (Loader.commitCode_other hs hh) (by decide)]
  case check =>
    have row : exec (.checkDone l code) s = .next ((s.checkSteps l code).checkVectors l) := by
      simp only [exec, execCheckDone, Lane.awake_of_computing hc, hs, if_true]
    obtain ⟨ready, refused⟩ := s.check_ends l code
    refine ⟨_, row, ?_⟩
    by_cases passes : s.passesCheck l
    · obtain ⟨ended, zero⟩ := ready passes
      obtain ⟨slots, aslot, state, others⟩ := ended.frame
      exact ⟨slots, aslot, state, others, fun _ => ⟨ended.own.2, zero⟩, fun h => absurd passes h⟩
    · obtain ⟨slots, aslot, state, others⟩ := (refused passes).frame
      exact ⟨slots, aslot, state, others, fun h => absurd h passes, fun _ => (refused passes).own.2⟩
  case target =>
    obtain ⟨ipub, lanes⟩ := s.takeCommit_lanes l h
    obtain ⟨dom, retired⟩ := s.takeCommit_polvin l h
    obtain ⟨slots, aslot, taken, unread⟩ := Loader.activate_restart hcommit
    refine ⟨_, execCommitTarget_due hcommit hr ha hs, ?_⟩
    rw [lanes, Tri.get_set_same]
    generalize hn : Lane.rebooting _ l = n
    generalize hu : ((s.takeCommit l h).setLane l n).syncInhibit = u
    have core : u.polvin = (s.takeCommit l h).polvin := by rw [← hu]; simp
    have same : u.lanes = s.lanes.set l n := by rw [← hu, State.syncInhibit_lanes, State.setLane_lanes, lanes, Tri.set_set_same]
    have own : u.lanes.get l = n := by rw [same, Tri.get_set_same]
    have other : ∀ k, k ≠ l → u.lanes.get k = s.lanes.get k := fun k hk => by rw [same, Tri.get_set_other _ _ _ _ hk]
    have boot : (u.lanes.get l).state = .boot := by rw [own, ← hn]; rfl
    have due : (u.lanes.get l).loader.recRead = false := by rw [own, ← hn]; exact unread
    obtain ⟨stays, goes⟩ := State.boots_state boot due
    rw [core, retired, dom] at goes
    rw [core, retired, ne_eq, dom, ← ne_eq] at stays
    have frame := bootFrame_boots u l
    have image := frame.image
    rw [own, ← hn] at image
    obtain ⟨slots', aslot', commit, hash, epoch⟩ : _ ∧ _ ∧ _ ∧ _ ∧ _ := by simpa only [Lane.image, Prod.mk.injEq] using image
    refine ⟨aslot'.trans aslot, slots'.trans slots, commit.trans taken, hash, epoch, goes, stays, fun k hk => ?_⟩
    have standing := frame.others k hk
    rw [other k hk] at standing
    refine ⟨(congrArg (·.1) standing :), (congrArg (·.2.2) standing :), fun owned clear mode => ?_⟩
    have quiet := bootFrame_boots_unheard due (by rw [core, ipub]; exact owned) (by rw [core, retired]; exact clear)
      (by rw [own, ← hn]; exact Lane.rebooting_mode mode l)
    exact congrArg Lane.main ((quiet.others k hk).trans (other k hk))

end Sys2Proof.Machine

namespace Sys2Proof.Machine
open Sys2Proof

/-! ## The words of a nonce and the report (R357) -/

theorem byteAt_lt (bs : Bytes) (i : Nat) : byteAt bs i < 256 := (bs.getD i 0).isLt

theorem u32At_lt (bs : Bytes) (i : Nat) : u32At bs i < 4294967296 := by
  have b0 := byteAt_lt bs i
  have b1 := byteAt_lt bs (i + 1)
  have b2 := byteAt_lt bs (i + 2)
  have b3 := byteAt_lt bs (i + 2 + 1)
  simp only [u32At, u16At]
  omega

/-- A word written under a full mask is the value written. -/
theorem maskedWord_full {x v : Nat} (hx : x < 4294967296) (hv : v < 4294967296) :
    clearMask x 0xFFFFFFFF ||| (v &&& 0xFFFFFFFF) = v := by
  have whole : ∀ y, y < 4294967296 → y &&& 0xFFFFFFFF = y := fun y hy => by
    rw [show (0xFFFFFFFF : Nat) = 2 ^ 32 - 1 from rfl, Nat.and_two_pow_sub_one_eq_mod, Nat.mod_eq_of_lt hy]
  rw [clearMask, whole x hx, whole v hv, Nat.xor_self, Nat.zero_or]

/-- A nonce with a word put into it. -/
def nonceWith (b : Bytes) (i v : Nat) : Bytes := (b.take (4 * i) ++ leBytes 4 v ++ b.drop (4 * i + 4)).take 16

/-- The core with a nonce. -/
def State.withNonce (s : State) (n : Bytes) : State := { s with polvin := { s.polvin with att := { s.polvin.att with nonce := n } } }

/-- The row: the word is kept, and the fourth submits the nonce, at once or behind the report that is signed. -/
theorem execAttestationRequest_runs {s : State} (hd : s.polvin.dom = .on) {i : Nat} (hi : i < 4) (v : Word) :
    exec (.attestationRequest i v) s = .next (
      let n := nonceWith s.polvin.att.nonce i v.toNat
      let t := s.withNonce n
      if i ≠ 3 then t else if s.polvin.att.signing = none then t.attestTake n
      else { t with polvin := { t.polvin with att := { t.polvin.att with waiting := some n } } }) := by
  refine congrArg Host.Outcome.next ((if_pos hi).trans ((if_neg (by simp [hd])).trans ?_))
  simp only [maskedWord_full (u32At_lt _ _) v.isLt]
  rfl

/-- Behind the sixteen bytes of its head a report names its nonce. -/
theorem State.report_nonce (s : State) (n : Bytes) (d : BitVec 512) (h : n.length = 16) : slice (s.report n d) 16 16 = n := by
  simp [State.report, slice, List.drop_append, List.take_append, leBytes, h]

/-- A public key is two coordinates of 32 bytes (R340). -/
theorem publicOf_length (k : BitVec 512) : (publicOf k).length = 64 := by
  unfold publicOf
  split <;> simp [beBytes, zeros]

/-! ## The lanes that waited for the core (R95, R378) -/

/-- A fold that visits an element once: what no other element's step ends leads to what its own reaches, which no other ends. -/
theorem foldl_visit_reaches {α β : Type} {f : β → α → β} {I P : β → Prop} {x : α} {xs : List α} (hx : x ∈ xs) (hn : xs.Nodup) {b : β}
    (hb : I b) (hI : ∀ b y, y ≠ x → I b → I (f b y)) (hf : ∀ b, I b → P (f b x)) (hk : ∀ b y, y ≠ x → P b → P (f b y)) :
    P (xs.foldl f b) := by
  obtain ⟨before, after, rfl⟩ := List.append_of_mem hx
  obtain ⟨-, hn', hd⟩ := List.nodup_append.mp hn
  rw [List.foldl_append, List.foldl_cons]
  refine after.foldlRecOn (motive := P) f (hf _ ?_) fun b hb y hy => hk b y (fun h => (List.nodup_cons.mp hn').1 (h ▸ hy)) hb
  exact before.foldlRecOn (motive := I) f hb fun b hb y hy => hI b y (fun h => hd y hy x (by simp) h) hb

/-- A field of the core that lasts. -/
theorem Polvin.of_lasting {α : Type} {p q : Polvin} (h : q.lasting = p.lasting) (f : Polvin → α) (hf : ∀ p, f p.lasting = f p) : f q = f p :=
  (hf q).symm.trans ((congrArg f h).trans (hf p))

/-- `t` is `s` after the core served lanes: what lasts of it stands, its record of the highest epoch only rises, and a log that takes no
entry takes none of these (R355). -/
structure CoreServes (s t : State) : Prop where
  lasting : t.polvin.lasting = s.polvin.lasting
  erec : s.polvin.erec ≤ t.polvin.erec
  stuck : s.polvin.logBad = true → t.polvin.logSeq = s.polvin.logSeq ∧
    (s.polvin.evt.status.testBit 3 = true → t.polvin.evt.status.testBit 3 = true)

section core
variable {s t u : State} {l : LaneId}

theorem CoreServes.trans (h : CoreServes s t) (h' : CoreServes t u) : CoreServes s u := by
  refine ⟨h'.lasting.trans h.lasting, h.erec.trans h'.erec, fun bad => ?_⟩
  obtain ⟨seq, status⟩ := h.stuck bad
  obtain ⟨seq', status'⟩ := h'.stuck ((Polvin.of_lasting h.lasting Polvin.logBad fun _ => rfl).trans bad)
  exact ⟨seq'.trans seq, status' ∘ status⟩

theorem coreServes_of_polvin (h : t.polvin = s.polvin) : CoreServes s t :=
  ⟨by rw [h], by rw [h], fun _ => by rw [h]; exact ⟨rfl, id⟩⟩

/-- Only the log and an event of it are touched by an entry. -/
theorem coreServes_logAs (s : State) (w : Option Writer) (action code arg : Nat) (chash : Bytes) :
    CoreServes s (s.logAs w action code arg chash) := by
  have unlogged := s.logAs_unlogged w action code arg chash
  refine ⟨Polvin.lasting_of_unlogged unlogged, (show (s.logAs w action code arg chash).polvin.unlogged.erec = s.polvin.unlogged.erec by
    rw [unlogged]).ge, fun bad => ?_⟩
  simp only [State.logAs, bad, if_true]
  split
  · exact ⟨rfl, id⟩
  · refine ⟨rfl, fun _ => ?_⟩
    simp [State.polvinEvent, evtOccur_status .polvin s.polvin.evt 3 _ _ rfl]

/-- The EPOCH of a signed image is recorded, where none stands that is higher (R95). -/
theorem commitRecord_serves (s : State) (h : Bytes) (epoch : Nat) (signed : Bool) : CoreServes s (s.commitRecord h epoch signed) ∧
    (s.polvin.dom = .on → signed = true → epoch ≤ (s.commitRecord h epoch signed).polvin.erec) := by
  unfold State.commitRecord
  split
  case isTrue idle =>
    refine ⟨coreServes_of_polvin rfl, fun on sig => absurd idle (by simp [on, sig])⟩
  case isFalse =>
    extract_lets p r
    have recorded : CoreServes s r ∧ epoch ≤ r.polvin.erec := by
      simp only [r]
      split
      case isTrue higher => exact ⟨⟨rfl, higher, fun _ => ⟨rfl, id⟩⟩, le_refl _⟩
      case isFalse lower => exact ⟨coreServes_of_polvin rfl, (Nat.lt_of_not_le lower).le⟩
    obtain ⟨serves, rises⟩ := recorded
    split
    · have named : CoreServes r { r with polvin := { r.polvin with vhash := h } } := ⟨rfl, le_refl _, fun _ => ⟨rfl, id⟩⟩
      have logged := named.trans (coreServes_logAs _ none 7 0 1 h)
      exact ⟨serves.trans logged, fun _ _ => rises.trans logged.erec⟩
    · exact ⟨serves, fun _ _ => rises⟩

theorem serviceIn_serves (s : State) (l : LaneId) (w : Option Writer) : CoreServes s (s.serviceIn l w) := by
  unfold State.serviceIn
  extract_lets first r
  have entered : CoreServes s r := coreServes_of_polvin (by simp [r])
  split
  · exact entered.trans ((coreServes_of_polvin (State.serviceOthers_polvin r l)).trans (coreServes_logAs _ w _ _ _ _))
  · exact entered

/-- A core that runs stays as it is where a lane reads its record, but for an entry into sleep and for what is logged. -/
theorem readRecord_serves (s : State) (l : LaneId) (hd : s.polvin.dom = .on) : CoreServes s (s.readRecord l) := by
  have wakes : CoreServes s s.polvinWakes := ⟨by simp [State.polvinWakes, Polvin.lasting, Polvin.unlogged, hd], le_refl _, fun _ => ⟨rfl, id⟩⟩
  by_cases due : s.recordDue l
  · rw [State.readRecord_due due]
    refine wakes.trans ?_
    split
    · exact coreServes_of_polvin (by simp [State.recordRetires])
    · unfold State.recordClear
      split
      · exact (coreServes_of_polvin (by simp)).trans (serviceIn_serves _ l none)
      · exact coreServes_of_polvin (by simp)
  · rw [State.readRecord_idle due]
    exact wakes

/-- The commit a lane has taken is recorded before it reads its record: its lane is as it was (R95). -/
theorem State.polvinServes_eq (s : State) (l : LaneId) (hd : s.polvin.dom = .on) : ∃ r, s.polvinServes l = r.readRecord l ∧
    r.lanes = s.lanes ∧ CoreServes s r ∧ ((s.lanes.get l).awake = true → (s.lanes.get l).loader.ahead = true →
      (s.lanes.get l).loader.asigned = true → (s.lanes.get l).loader.aepoch ≤ r.polvin.erec) := by
  refine ⟨_, rfl, ?_⟩
  split
  · obtain ⟨lanes, -⟩ := s.commitRecord_lasting (s.lanes.get l).loader.ahash (s.lanes.get l).loader.aepoch (s.lanes.get l).loader.asigned
    obtain ⟨serves, recorded⟩ := commitRecord_serves s (s.lanes.get l).loader.ahash (s.lanes.get l).loader.aepoch (s.lanes.get l).loader.asigned
    exact ⟨lanes, serves, fun _ _ signed => recorded hd signed⟩
  case isFalse idle => exact ⟨rfl, coreServes_of_polvin rfl, fun awake ahead _ => absurd ⟨awake, ahead⟩ idle⟩

/-- `t` is `s` with lane `l` served: its commit is recorded, and at BOOT it has read its retirement record. -/
structure LaneServed (l : LaneId) (s t : State) : Prop where
  core : CoreServes s t
  epoch : (s.lanes.get l).awake = true → (s.lanes.get l).loader.ahead = true → (s.lanes.get l).loader.asigned = true →
    (s.lanes.get l).loader.aepoch ≤ t.polvin.erec
  boots : (s.lanes.get l).state = .boot → (s.lanes.get l).loader.recRead = false →
    (s.polvin.retired.testBit l.idx = true → (t.lanes.get l).state = .retired) ∧
    (s.polvin.retired.testBit l.idx = false → (t.lanes.get l).state = .boot ∨ (t.lanes.get l).state = .translate)

theorem CoreServes.dom (h : CoreServes s t) : t.polvin.dom = s.polvin.dom := Polvin.of_lasting h.lasting Polvin.dom fun _ => rfl

theorem polvinServes_core (hd : s.polvin.dom = .on) (l : LaneId) : CoreServes s (s.polvinServes l) := by
  obtain ⟨r, eq, -, serves, -⟩ := s.polvinServes_eq l hd
  rw [eq]
  exact serves.trans (readRecord_serves r l (serves.dom.trans hd))

theorem polvinServes_standing (hd : s.polvin.dom = .on) {k : LaneId} (hk : k ≠ l) :
    ((s.polvinServes l).lanes.get k).standing = (s.lanes.get k).standing := by
  obtain ⟨r, eq, lanes, -⟩ := s.polvinServes_eq l hd
  rw [eq, (bootFrame_readRecord r (Or.inl unheard_standing)).others k hk, lanes]

theorem polvinServes_served (hd : s.polvin.dom = .on) (l : LaneId) : LaneServed l s (s.polvinServes l) := by
  obtain ⟨r, eq, lanes, serves, epoch⟩ := s.polvinServes_eq l hd
  have on := serves.dom.trans hd
  have reads := readRecord_serves r l on
  have retired : r.polvin.retired = s.polvin.retired := Polvin.of_lasting serves.lasting Polvin.retired fun _ => rfl
  rw [eq]
  refine ⟨serves.trans reads, fun awake ahead signed => (epoch awake ahead signed).trans reads.erec, fun boot unread => ?_⟩
  obtain ⟨stays, goes⟩ := State.readRecord_boots (s := r) (l := l) (by rw [lanes]; exact boot) (by rw [lanes]; exact unread)
  rw [retired] at stays goes
  exact ⟨stays (by simp [on]), fun clear => goes (Or.inr clear)⟩

/-- The core has served no more than other lanes: lane `l` still waits. -/
def LaneWaits (l : LaneId) (s t : State) : Prop := CoreServes s t ∧ (t.lanes.get l).standing = (s.lanes.get l).standing

theorem laneServed_of_waits (hw : LaneWaits l s t) (h : LaneServed l t u) : LaneServed l s u := by
  obtain ⟨core, standing⟩ := hw
  obtain ⟨state, dom, loader⟩ : _ ∧ _ ∧ _ := by simpa only [Lane.standing, Prod.mk.injEq] using standing
  obtain ⟨serves, epoch, boots⟩ := h
  have awake : (t.lanes.get l).awake = (s.lanes.get l).awake := by rw [Lane.awake, Lane.awake, state, dom]
  rw [loader, awake] at epoch
  rw [state, loader, Polvin.of_lasting core.lasting Polvin.retired fun _ => rfl] at boots
  exact ⟨core.trans serves, epoch, boots⟩

theorem LaneServed.polvinServes (h : LaneServed l s t) (hd : s.polvin.dom = .on) {k : LaneId} (hk : k ≠ l) :
    LaneServed l s (t.polvinServes k) := by
  have on := h.core.dom.trans hd
  have serves := polvinServes_core on k
  have state : ((t.polvinServes k).lanes.get l).state = (t.lanes.get l).state :=
    (congrArg (·.1) (polvinServes_standing on hk.symm) :)
  refine ⟨h.core.trans serves, fun awake ahead signed => (h.epoch awake ahead signed).trans serves.erec, ?_⟩
  rw [state]
  exact h.boots

/-- Every lane is served (R95, R378). -/
theorem polvinServes_all (hd : s.polvin.dom = .on) (l : LaneId) : LaneServed l s (allLanes.foldl State.polvinServes s) := by
  refine foldl_visit_reaches (x := l) (I := LaneWaits l s) (P := LaneServed l s) (by cases l <;> decide) (by decide)
    ⟨coreServes_of_polvin rfl, rfl⟩ (fun t k hk hw => ?_) (fun t hw => ?_) fun t k hk h => h.polvinServes hd hk
  · have on := hw.1.dom.trans hd
    exact ⟨hw.1.trans (polvinServes_core on k), (polvinServes_standing on hk.symm).trans hw.2⟩
  · exact laneServed_of_waits hw (polvinServes_served (hw.1.dom.trans hd) l)

/-- No lane waits for the core. -/
def State.unawaited (s : State) : Prop :=
  ∀ l, ((s.lanes.get l).awake = true → (s.lanes.get l).loader.ahead = false) ∧
    ((s.lanes.get l).state = .boot → (s.lanes.get l).loader.recRead = true)

/-- Then the core is awake, and all else as it was. -/
theorem polvinServes_none (hd : s.polvin.dom = .on) (h : s.unawaited) :
    ∃ e, allLanes.foldl State.polvinServes s = { s with polvin := { s.polvin with entry := e } } := by
  refine List.foldlRecOn (motive := fun t : State => ∃ e, t = { s with polvin := { s.polvin with entry := e } }) _ _ ⟨s.polvin.entry, rfl⟩ ?_
  rintro t ⟨e, rfl⟩ l -
  obtain ⟨notAhead, read⟩ := h l
  refine ⟨none, ?_⟩
  rw [State.polvinServes, if_neg fun ⟨awake, ahead⟩ => by simp [notAhead awake] at ahead,
    State.readRecord_idle fun ⟨boot, unread, _⟩ => by simp [read boot] at unread]
  simp [State.polvinWakes, hd]

end core

/-! ## The power-up of the core (R342, R354, R362) -/

/-- The core as it powers up, with its events: what lies in NVM stays, its registers are at their reset values. -/
def Polvin.restarted (p : Polvin) (e : EvtBlock) : Polvin :=
  { p with
    dom := .on, unlocked := false, chal := none, nsalt := zeros 16, busy := false, result := 0, cmd := none, clrWait := none,
    win := zeros 256, logSel := 0, seen := [], entry := none, slot := none, att := {}, evt := e, keyEpoch := 0,
    joinGap := 0, pkeys := [], pgk := [], pkEpoch := 0, given := (0, 0), cmdWin := zeros 256, leftSvc := false }

/-- The row: the core restarted, POWER_UP logged, and the lanes served. -/
theorem execPolvinPowerUp_runs (s : State) : ∃ e supplies hash, exec .polvinPowerUp s =
    .next (allLanes.foldl State.polvinServes (({ s with polvin := s.polvin.restarted e } : State).logEvent 1 0 supplies hash)) := by
  have canvas : ∀ t : State, ∃ e, t.polvinCanvas = { t with polvin := { t.polvin with evt := e } } := by
    intro t
    unfold State.polvinCanvas
    split
    · exact ⟨_, rfl⟩
    · exact ⟨t.polvin.evt, rfl⟩
  obtain ⟨e, he⟩ := canvas { s with polvin := s.polvin.restarted {} }
  have row : exec .polvinPowerUp s = .next (
      let t := ({ s with polvin := s.polvin.restarted {} } : State).polvinCanvas
      let t := if 0xF000 ≤ t.polvin.keyRec then t.polvinEvent 2 else t
      allLanes.foldl State.polvinServes (t.logEvent 1 0 t.suppliesGood t.devHash)) := rfl
  rw [row, he]
  dsimp only
  split
  · exact ⟨_, _, _, rfl⟩
  · exact ⟨_, _, _, rfl⟩

/-- Settles O44: the nonce, the report and the key pair by their rows; the power-up is the core restarted, its entry, and the lanes served. -/
theorem polvinCore : Obligations.PolvinCore := by
  unfold Obligations.PolvinCore
  intro s
  refine ⟨fun hd => ⟨fun i v hi => ?nonce, fun n hn => ?report, fun hk => ?key, fun hk => ?keyStands⟩, ?powerUp⟩
  case nonce =>
    have row := execAttestationRequest_runs hd hi v
    dsimp only at row
    by_cases h3 : i = 3
    · rw [if_neg (not_not.mpr h3)] at row
      by_cases hs : s.polvin.att.signing = none
      · rw [if_pos hs] at row
        exact ⟨_, row, rfl, rfl, fun h => absurd h3 h.ne, fun _ _ => ⟨rfl, rfl⟩, fun n _ h => absurd (hs.symm.trans h) (by simp)⟩
      · rw [if_neg hs] at row
        exact ⟨_, row, rfl, rfl, fun h => absurd h3 h.ne, fun _ h => absurd h hs, fun n _ h => ⟨h, rfl⟩⟩
    · rw [if_pos h3] at row
      exact ⟨_, row, rfl, rfl, fun _ => ⟨rfl, rfl, rfl⟩, fun h => absurd h h3, fun n h => absurd h h3⟩
  case report =>
    have nonce := s.report_nonce n s.draw.1
    have running : ¬ s.polvin.dom ≠ .on := by simp [hd]
    simp only [exec, execReportReady, hn, if_neg running]
    refine ⟨_, rfl, ?_⟩
    cases hw : s.polvin.att.waiting with
    | none => exact ⟨rfl, rfl, rfl, rfl, rfl, nonce⟩
    | some m => exact ⟨rfl, rfl, rfl, rfl, rfl, nonce⟩
  case key =>
    exact ⟨_, congrArg Host.Outcome.next (if_pos ⟨hk, hd⟩), rfl, rfl, publicOf_length _, rfl⟩
  case keyStands => exact congrArg Host.Outcome.next (if_neg fun h => hk h.1)
  case powerUp =>
    obtain ⟨e, supplies, hash, row⟩ := execPolvinPowerUp_runs s
    let b : State := { s with polvin := s.polvin.restarted e }
    have logged : CoreServes b (b.logEvent 1 0 supplies hash) := coreServes_logAs b none 1 0 supplies hash
    obtain ⟨taken, stuck⟩ := b.logEvent_written 1 0 supplies hash rfl
    obtain ⟨p, entry, -⟩ := b.logAs_polvin none 1 0 supplies hash
    have lanes : (b.logEvent 1 0 supplies hash).lanes = s.lanes := State.logAs_lanes _ _ _ _ _ _
    have unlogged := b.logAs_unlogged none 1 0 supplies hash
    change exec .polvinPowerUp s = .next (allLanes.foldl State.polvinServes (b.logEvent 1 0 supplies hash)) at row
    rw [← State.logEvent] at entry unlogged
    generalize b.logEvent 1 0 supplies hash = r at *
    have served := polvinServes_all (s := r) logged.dom
    have unserved := polvinServes_none (s := r) logged.dom
    generalize allLanes.foldl State.polvinServes r = t at *
    have core := logged.trans (served .a).core
    have nvm : ∀ {α : Type} (f : Polvin → α), (∀ p, f p.lasting = f p) → f t.polvin = f (s.polvin.restarted e) :=
      fun f => Polvin.of_lasting core.lasting f
    refine ⟨t, row, nvm Polvin.dom fun _ => rfl, nvm Polvin.unlocked fun _ => rfl, nvm Polvin.chal fun _ => rfl, nvm Polvin.busy fun _ => rfl,
      nvm Polvin.cmd fun _ => rfl, nvm Polvin.result fun _ => rfl, nvm Polvin.ipub fun _ => rfl, nvm Polvin.verifier fun _ => rfl,
      nvm Polvin.varnish fun _ => rfl, nvm Polvin.bk fun _ => rfl, nvm Polvin.keyRec fun _ => rfl, nvm Polvin.retired fun _ => rfl,
      nvm Polvin.devKey fun _ => rfl, core.erec, fun l awake ahead signed => ?epoch, fun l boot unread => ?boots,
      fun idle => ?idle, fun bad => ?bad⟩
    case epoch =>
      have epoch := (served l).epoch
      rw [lanes] at epoch
      exact epoch awake ahead signed
    case boots =>
      have boots := (served l).boots
      rw [lanes, Polvin.of_lasting logged.lasting Polvin.retired fun _ => rfl] at boots
      exact boots boot unread
    case idle =>
      obtain ⟨x, rfl⟩ := unserved (by rw [State.unawaited, lanes]; exact idle)
      exact ⟨by rw [entry]; rfl, (congrArg Polvin.vhash unlogged :), (congrArg Polvin.erec unlogged :), taken⟩
    case bad =>
      obtain ⟨seq, status⟩ := stuck bad
      obtain ⟨seq', status'⟩ := (served .a).core.stuck ((Polvin.of_lasting logged.lasting Polvin.logBad fun _ => rfl).trans bad)
      exact ⟨seq'.trans seq, status' status⟩

end Sys2Proof.Machine

namespace Sys2Proof.Machine
open Sys2Proof

/-! ## The region of a scheduled cell (R116, R118, R131) -/

/-- Region j holds the scheduling value v: v lies from B(j) up to B(j+1), the ends being without bound (R131). -/
def PidCovers (q : Bool) (d : CellDef) (v : Rat) (j : Nat) : Prop :=
  j < pcount (d.p 7) ∧ (j = 0 ∨ pidBound q d j ≤ v) ∧ (j + 1 = pcount (d.p 7) ∨ v < pidBound q d (j + 1))

/-- The boundaries of a cell rise. -/
def PidRises (q : Bool) (d : CellDef) : Prop :=
  ∀ i k, 1 ≤ i → i < k → k < pcount (d.p 7) → pidBound q d i < pidBound q d k

/-- An end of the hysteresis band as a run holds it: exact in lane C, rounded once in lanes A and B (R116, R118, log entry 14). -/
def bandEnd (a : Run) (x : Rat) : Rat := if a.q then x else (rnd a.base x false).v

/-- The scheduling value v lies in the band that keeps region j in force (R131). -/
def PidKeeps (a : Run) (d : CellDef) (v : Rat) (j : Nat) : Prop :=
  (j = 0 ∨ bandEnd a (pidBound a.q d j - pval a.q (d.p 8)) ≤ v) ∧
    (j + 1 = pcount (d.p 7) ∨ v < bandEnd a (pidBound a.q d (j + 1) + pval a.q (d.p 8)))

section Region
variable {q : Bool} {d : CellDef} {v : Rat} {j : Nat}

/-- Boundaries that rise are ordered as their numbers are. -/
theorem PidRises.le (rises : PidRises q d) {i k : Nat} (hi : 1 ≤ i) (hik : i ≤ k) (hk : k < pcount (d.p 7)) :
    pidBound q d i ≤ pidBound q d k := by
  obtain rfl | lt := hik.eq_or_lt
  · exact le_rfl
  · exact (rises i k hi lt hk).le

/-- In a region that holds the value, the boundaries at or below the value are those up to the region's number. -/
theorem PidCovers.bound_le_iff (covers : PidCovers q d v j) (rises : PidRises q d) {i : Nat} (hi : i < pcount (d.p 7) - 1) :
    pidBound q d (i + 1) ≤ v ↔ i < j := by
  obtain ⟨hj, low, high⟩ := covers
  constructor
  · intro reached
    by_contra above
    obtain last | below := high
    · omega
    · exact absurd (below.trans_le (rises.le (by omega) (by omega : j + 1 ≤ i + 1) (by omega))) reached.not_gt
  · intro lt
    obtain rfl | reached := low
    · omega
    · exact (rises.le (by omega) lt hj).trans reached

/-- The region that holds the value is the one the model counts. -/
theorem PidCovers.eq_pidRegion (covers : PidCovers q d v j) (rises : PidRises q d) : j = pidRegion q d v := by
  have hj : j ≤ pcount (d.p 7) - 1 := Nat.le_sub_one_of_lt covers.1
  have counted : (List.range (pcount (d.p 7) - 1)).filter (fun i => pidBound q d (i + 1) ≤ v) = List.Ico 0 j := by
    rw [List.filter_congr fun i hi => decide_eq_decide.mpr (covers.bound_le_iff rises (List.mem_range.mp hi)),
      ← List.Ico.zero_bot, List.Ico.filter_lt, min_eq_right hj]
  rw [pidRegion, counted, List.Ico.length, Nat.sub_zero]

/-- Some region holds the value: the last whose lower boundary the value has reached, or region 0. -/
theorem exists_pidCovers (q : Bool) (d : CellDef) (v : Rat) (regions : 0 < pcount (d.p 7)) : ∃ j, PidCovers q d v j := by
  obtain ⟨hj, reached, beyond⟩ := Nat.findGreatest_eq_iff.mp
    (rfl : Nat.findGreatest (fun j => pidBound q d j ≤ v) (pcount (d.p 7) - 1) = _)
  refine ⟨_, by omega, or_iff_not_imp_left.mpr reached, or_iff_not_imp_left.mpr fun inner => ?_⟩
  exact not_le.mp (beyond (Nat.lt_succ_self _) (by omega))

/-- The region the model counts holds the value. -/
theorem pidRegion_covers (rises : PidRises q d) (regions : 0 < pcount (d.p 7)) : PidCovers q d v (pidRegion q d v) := by
  obtain ⟨j, covers⟩ := exists_pidCovers q d v regions
  exact covers.eq_pidRegion rises ▸ covers

end Region

section Stay
variable {a : Run} {d : CellDef} {v : Rat} {j : Nat}

/-- The rounding of an intermediate result gives the end of the band: in lane C it does nothing (R116). -/
theorem rnd_base_v (a : Run) (x : Rat) : (rnd a.base x false).v = bandEnd a x := by
  unfold bandEnd
  split
  next exact => simp [rnd, Run.base, exact]
  next => rfl

/-- One step of the hysteresis: within its band a region stays in force, outside it the region that holds the value takes over (R131). -/
theorem pidStay_eq (hj : j < pcount (d.p 7)) [Decidable (PidKeeps a d v j)] :
    pidStay a d j v = if PidKeeps a d v j then j else pidRegion a.q d v := by
  have last : pcount (d.p 7) ≤ j + 1 ↔ j + 1 = pcount (d.p 7) := by omega
  simp only [pidStay, rnd_base_v, last]
  exact if_congr Iff.rfl rfl rfl

end Stay

/-- Settles O59: the region that holds the value is unique since the boundaries rise, and the model's count of the boundaries reached is its
number. -/
theorem regionsWithHysteresis : Obligations.RegionsWithHysteresis := by
  classical
  intro a d v many rises
  have covers : PidCovers a.q d v (pidRegion a.q d v) := pidRegion_covers rises (by omega)
  refine ⟨covers, fun j held => PidCovers.eq_pidRegion held rises, fun j hj => ⟨fun stays => ?_, fun leaves => ?_⟩⟩
  · exact (pidStay_eq hj).trans (if_pos stays)
  · have moved : pidStay a d j v = pidRegion a.q d v := (pidStay_eq hj).trans (if_neg leaves)
    exact moved ▸ covers

end Sys2Proof.Machine

namespace Sys2Proof.Machine
open Sys2Proof

/-! ## A part that does not run (R186, R385) -/

/-- A row whose effect is that on a unit that runs changes nothing where the unit does not (log entry 2). -/
theorem exec_stopped {c : Instr} {s : State} {u : UnitId} {f : State → State} (hc : exec c s = .next (s.ifRuns u f)) (h : s.runs u = false) :
    exec c s = .next s := by rw [hc, State.ifRuns, h]; rfl

/-- A row taken only where `p` holds changes nothing where its unit does not run. -/
theorem exec_stopped_of {c : Instr} {s : State} {u : UnitId} {p : Prop} [Decidable p] {f : State → State}
    (hc : exec c s = .next (if p then s.ifRuns u f else s)) (h : s.runs u = false) : exec c s = .next s := by
  rw [hc, State.ifRuns, h]
  exact congrArg _ (ite_self s)

/-- Settles O7: every row named is an effect on one unit where that runs; the clears of SERVICE and COMPARE_ARM ask a condition of their own
first. -/
theorem stoppedUnitsDoNothing : Obligations.StoppedUnitsDoNothing := by
  unfold Obligations.StoppedUnitsDoNothing
  refine fun s => ⟨fun u h => ?unit, fun i h => ?island, fun f c h => ?feedback, fun x n h => ?safety⟩
  case unit => and_intros <;> intros <;> exact exec_stopped rfl h
  case island =>
    and_intros <;> intros <;> and_intros
    any_goals exact exec_stopped rfl h
    all_goals exact exec_stopped_of rfl h
  case feedback =>
    and_intros <;> intros <;> and_intros
    any_goals exact exec_stopped rfl h
    all_goals exact exec_stopped_of rfl h
  case safety => and_intros <;> exact exec_stopped rfl h

/-! ## Trips of a comparator (R193, R194) -/

/-- DESAT and SLP are a trip of an island, told apart by the flag they set. -/
theorem exec_trip (i : IslandId) (leg : Nat) (high slope : Bool) (s : State) :
    exec (if slope then .slp i leg high else .desat i leg high) s = .next (s.onIsland i (fun p => trip i p leg high slope)) := by
  cases slope <;> rfl

section trip
variable {id : IslandId} {p : IslPair} {leg : Nat} {high slope : Bool}

/-- The comparator of a switch that is not driven on does nothing (R193). -/
theorem trip_unarmed (unarmed : armed id p.1 p.2 leg high = false) : trip id p leg high slope = p := by simp [trip, unarmed]

variable (isArmed : armed id p.1 p.2 leg high = true) (clock : p.2.clockLost = false)
include isArmed clock

/-- A trip with no turn-off running and no re-arm after a trip in the last 60 s is a single one (R194). -/
theorem trip_single (fresh : recentTrip p.1 p.2 = false) (late : ∀ a, p.2.tripRearm = some a → a + ticks60s ≤ p.1.age) :
    trip id p leg high slope = singleTrip id (islEvt id (legTrips id p leg slope) 6) := by
  unfold trip
  cases re : p.2.tripRearm with
  | none => simp [isArmed, clock, fresh]
  | some a => simp [isArmed, clock, fresh, Nat.not_lt.mpr (late a re)]

/-- A second leg in a turn-off that runs, or a trip within 60 s of the re-arm after one, is a BRIDGE_FAULT (R194). -/
theorem trip_double (noFault : p.2.causes.testBit 5 = false)
    (second : recentTrip p.1 p.2 = true ∧ p.2.gdv.off.testBit leg = false ∨
      recentTrip p.1 p.2 = false ∧ ∃ a, p.2.tripRearm = some a ∧ p.1.age < a + ticks60s) :
    trip id p leg high slope = bridgeFault id (legTrips id p leg slope) := by
  have kept : (legTrips id p leg slope).2.causes = p.2.causes := rfl
  unfold trip
  rcases second with ⟨recent, other⟩ | ⟨fresh, a, re, soon⟩
  · simp [isArmed, clock, recent, other, kept, noFault]
  · simp [isArmed, clock, fresh, re, soon, kept, noFault]

/-- A further trip of the leg turning off, or any while a BRIDGE_FAULT is in force, is recorded and nothing else (R194). -/
theorem trip_recorded (recent : recentTrip p.1 p.2 = true) (known : p.2.gdv.off.testBit leg = true ∨ p.2.causes.testBit 5 = true) :
    trip id p leg high slope = legTrips id p leg slope := by
  have kept : (legTrips id p leg slope).2.causes = p.2.causes := rfl
  unfold trip
  by_cases same : p.2.gdv.off.testBit leg = true
  · simp [isArmed, clock, recent, same]
  · simp [isArmed, clock, recent, same, kept, known.resolve_left same]

end trip

/-- While a turn-off runs a trip is noted, and what the first one found stands (R194). -/
theorem legTrips_recent {id : IslandId} {p : IslPair} {leg : Nat} {slope : Bool} (recent : recentTrip p.1 p.2 = true) :
    legTrips id p leg slope = (p.1, { p.2 with gdv := { p.2.gdv with
      desat := if slope then p.2.gdv.desat else setBit p.2.gdv.desat leg
      slp := if slope then setBit p.2.gdv.slp leg else p.2.gdv.slp
      off := setBit p.2.gdv.off leg, perTrip := true } }) := by simp [legTrips, recent]

/-- An island that has its clock is OPEN with a cause that opens newly in force (R35). -/
theorem settleSw_raised_open (id : IslandId) {q : IslPair} {n : Nat} (hc : q.2.clockLost = false)
    (ho : islandForcedOpen (raised q n) = true) : (settleSw id (raised q n)).sw = 1 := raiseCause_island id q n ▸ raiseCause_open q n id hc ho

/-- A trip's cause brought into force opens whatever else is in force (R35, R194). -/
theorem islandForcedOpen_raised_trip (q : IslPair) {n : Nat} (h : n = 4 ∨ n = 5) : islandForcedOpen (raised q n) = true := by
  rcases h with rfl | rfl <;> simp [islandForcedOpen, islandOpensFirst, raised_causes]

/-- Settles O10: a trip is single, double, recorded or none, and the first two raise a cause that opens. -/
theorem desaturationTrips : Obligations.DesaturationTrips := by
  unfold Obligations.DesaturationTrips
  refine ⟨fun s i leg high slope h isArmed fresh late => ?single, fun s i leg high slope h isArmed noFault second => ?double,
    fun s i leg high slope h isArmed recent known => ?recorded, fun s i leg high slope unarmed => ?none⟩
  case single =>
    obtain ⟨t, ht, only, after⟩ := exec_raises (exec_trip i leg high slope s) h (trip_single isArmed (runs_clock h) fresh late)
    refine ⟨t, ht, only, ?_⟩
    rw [after]
    refine ⟨settleSw_raised_open i (runs_clock h) (islandForcedOpen_raised_trip _ (.inl rfl)), by simp [raised_causes], ?_⟩
    simp [legTrips, State.islPair, fresh]
  case double =>
    obtain ⟨t, ht, only, after⟩ := exec_raises (exec_trip i leg high slope s) h (trip_double isArmed (runs_clock h) noFault second)
    refine ⟨t, ht, only, ?_⟩
    rw [after]
    refine ⟨settleSw_raised_open i (runs_clock h) (islandForcedOpen_raised_trip _ (.inr rfl)), by simp [raised_causes], ?_⟩
    simp [countDouble, legTrips, State.islPair]
  case recorded =>
    have noted := (trip_recorded (p := s.islPair i) (slope := slope) isArmed (runs_clock h) recent known).trans (legTrips_recent recent)
    exact exec_withIsland (exec_trip i leg high slope s) h noted
  case none =>
    by_cases h : s.runs (.isl i) = true
    · exact exec_same (exec_trip i leg high slope s) h (trip_unarmed (p := s.islPair i) unarmed)
    · exact exec_stopped (exec_trip i leg high slope s) (Bool.eq_false_iff.mpr h)

/-! ## The comparator self-test (R195-R197) -/

/-- The gate drive that reports the test asked for, passed or not. -/
def testReported (g : GateDrive) (leg cmp : Nat) (pass : Bool) : GateDrive :=
  { g with testDue := none, tdone := true, tpass := pass, testCmp := cmp, testLeg := leg, testPass := pass, testDone := true
           testCount := satAdd 16 g.testCount 1 }

/-- The gate drive that reports a failed test: the leg of a leg's comparator is marked, a low-side DESAT or SLP comparator noted (R197). -/
def testFailed (g : GateDrive) (leg cmp : Nat) : GateDrive :=
  { testReported g leg cmp false with
    cfail := if cmp < 6 then setBit g.cfail leg else g.cfail, lowFail := g.lowFail || cmp = 1 || cmp = 3 }

section comparatorTest
variable {id : IslandId} {p : IslPair} {leg cmp : Nat} (due : p.2.gdv.testDue = some (leg, cmp))
include due

/-- A request that names no comparator of the island reports a test that did not pass. -/
theorem comparatorTest_unnamed (r : Bool) (unnamed : 8 < cmp ∨ (cmp < 6 ∧ id.legs ≤ leg)) :
    comparatorTest id p r = (p.1, { p.2 with gdv := { p.2.gdv with testDue := none, tdone := true, tpass := false } }) := by
  simp [comparatorTest, due, unnamed]

/-- A comparator that responds passes. -/
theorem comparatorTest_passes (named : ¬ (8 < cmp ∨ (cmp < 6 ∧ id.legs ≤ leg))) :
    comparatorTest id p true = (p.1, { p.2 with gdv := testReported p.2.gdv leg cmp true }) := by
  simp only [comparatorTest, due, if_neg named]; rfl

/-- One that does not brings cause 0x9 into force. -/
theorem comparatorTest_fails (named : ¬ (8 < cmp ∨ (cmp < 6 ∧ id.legs ≤ leg))) :
    comparatorTest id p false = raiseCause id (islEvt id (p.1, { p.2 with gdv := testFailed p.2.gdv leg cmp }) 8) 9 := by
  simp only [comparatorTest, due, if_neg named]; rfl

end comparatorTest

/-- A failed low-side DESAT or SLP comparator opens whatever else is in force (R35, R195). -/
theorem islandForcedOpen_raised_lowFail {q : IslPair} (h : q.2.gdv.lowFail = true) : islandForcedOpen (raised q 9) = true := by
  simp [islandForcedOpen, islandOpensFirst, raised_causes, h]

/-- Settles O11: the test passes, fails with its cause, or names no comparator. -/
theorem comparatorTestResult : Obligations.ComparatorTestResult := by
  unfold Obligations.ComparatorTestResult
  refine fun s i leg cmp h due => ⟨fun hcmp hleg => ?named, fun unnamed r => exec_withIsland rfl h (comparatorTest_unnamed due r unnamed)⟩
  have named : ¬ (8 < cmp ∨ (cmp < 6 ∧ i.legs ≤ leg)) := by omega
  refine ⟨exec_withIsland rfl h (comparatorTest_passes due named), ?_⟩
  obtain ⟨t, ht, only, after⟩ := exec_raises (c := .comparatorTest i false) rfl h (comparatorTest_fails due named)
  refine ⟨t, ht, only, ?_⟩
  rw [after]
  refine ⟨by simp [raised_causes], settleSw_raised_safe i 9 (runs_clock h), ?_⟩
  simp only [settleSw_gdv, raised_gdv, islEvt_snd]
  refine ⟨rfl, rfl, rfl, fun hc => by simp [testFailed, hc], fun low => settleSw_raised_open i (runs_clock h) (islandForcedOpen_raised_lowFail ?_)⟩
  rcases low with rfl | rfl <;> simp [testFailed]

/-! ## Choppers (R199, R200, R209) -/

/-- The bus part of an island changed by `f`, and its common part by `g`, where `p` holds of it. -/
def State.onBusPart (p : State → IslandId → Bool) (g : IslandId → UnitCommon → UnitCommon) (f : IslandBus → IslandBus) (s : State)
    (i : IslandId) : State :=
  if p s i then s.putIsl i (withBus (g i (s.ucom.get (.isl i)), s.isl.get i) f) else s

/-- An island runs. -/
def State.islandRuns (s : State) (i : IslandId) : Bool := s.runs (.isl i)

theorem onlyIslands_trans {s t u : State} (h : onlyIslands s t) (h' : onlyIslands t u) : onlyIslands s u := by
  unfold onlyIslands at *
  rw [h] at h'
  exact h'

theorem busIslands_nodup (b : BusId) : (busIslands b).Nodup := by cases b <;> decide

section onBusPart
variable {p : State → IslandId → Bool} {g : IslandId → UnitCommon → UnitCommon} {f : IslandBus → IslandBus}

theorem State.onBusPart_isl (s : State) (i k : IslandId) : (s.onBusPart p g f i).isl.get k =
    if k = i ∧ p s k = true then { s.isl.get k with bus := f (s.isl.get k).bus } else s.isl.get k := by
  unfold State.onBusPart
  by_cases hk : k = i
  · subst hk
    by_cases hp : p s k = true <;> simp [hp, withBus]
  · split <;> simp [hk, Six.get_set_other _ _ _ _ hk]

theorem State.onBusPart_only (s : State) (i : IslandId) : onlyIslands s (s.onBusPart p g f i) := by
  unfold State.onBusPart
  split <;> rfl

/-- One island after another changed, each once: those of the list that meet the condition have changed by themselves. -/
theorem State.foldl_onBusPart_isl (hp : ∀ s i k, p (s.onBusPart p g f i) k = p s k) (is : List IslandId) (hn : is.Nodup) (s : State)
    (k : IslandId) : ((is.foldl (State.onBusPart p g f) s).isl.get k) =
      if k ∈ is ∧ p s k = true then { s.isl.get k with bus := f (s.isl.get k).bus } else s.isl.get k := by
  induction is generalizing s with
  | nil => simp
  | cons i is ih =>
    obtain ⟨hnot, hn⟩ := List.nodup_cons.mp hn
    rw [List.foldl_cons, ih hn, hp, State.onBusPart_isl]
    by_cases hk : k = i
    · subst hk; simp [hnot]
    · simp [hk]

theorem State.foldl_onBusPart_only (is : List IslandId) (s : State) : onlyIslands s (is.foldl (State.onBusPart p g f) s) :=
  is.foldlRecOn (motive := onlyIslands s) _ rfl fun t ht i _ => onlyIslands_trans ht (t.onBusPart_only i)

/-- Without a change of the common part the units' common parts stay. -/
theorem State.foldl_onBusPart_ucom (hg : ∀ i c, g i c = c) (is : List IslandId) (s : State) :
    (is.foldl (State.onBusPart p g f) s).ucom = s.ucom := by
  refine is.foldlRecOn (motive := fun t : State => t.ucom = s.ucom) _ rfl fun t ht i _ => ?_
  rw [← ht]
  unfold State.onBusPart
  split
  · simp [withBus, hg]
  · rfl

/-- A change that leaves the domain leaves which islands run. -/
theorem State.onBusPart_runs (hg : ∀ i c, (g i c).dom = c.dom) (s : State) (i k : IslandId) :
    (s.onBusPart p g f i).islandRuns k = s.islandRuns k := by
  have clock : ((s.onBusPart p g f i).isl.get k).clockLost = (s.isl.get k).clockLost := by
    rw [State.onBusPart_isl]; split <;> rfl
  have dom : ((s.onBusPart p g f i).ucom.get (.isl k)).dom = (s.ucom.get (.isl k)).dom := by
    unfold State.onBusPart
    split
    · by_cases hk : k = i
      · subst hk; simp [withBus, hg]
      · have other : UnitId.isl k ≠ .isl i := fun h => hk (UnitId.isl.inj h)
        simp [Ten.get_set_other _ _ _ _ other]
    · rfl
  simp only [State.islandRuns, State.runs, clock, dom]

/-- The running islands of a bus are changed, and no other. -/
theorem State.foldl_running_isl (hg : ∀ i c, (g i c).dom = c.dom) (s : State) (b : BusId) (k : IslandId) :
    ((busIslands b).foldl (State.onBusPart State.islandRuns g f) s).isl.get k =
      if k.bus = b ∧ s.runs (.isl k) = true then { s.isl.get k with bus := f (s.isl.get k).bus } else s.isl.get k := by
  rw [State.foldl_onBusPart_isl (State.onBusPart_runs hg) _ (busIslands_nodup b)]
  exact if_congr (and_congr_left' (mem_busIslands b k)) rfl rfl

end onBusPart

/-- A fault line pulled latches the fault in each running island of the bus, with its event (R199). -/
theorem State.chopperFault_eq (s : State) (b : BusId) : s.chopperFault b = (busIslands b).foldl
    (State.onBusPart State.islandRuns (fun i c => unitEvt (.isl i) c 9) (fun x => { x with cf := true })) s := rfl

theorem State.chopperFault_latches (s : State) (b : BusId) : onlyIslands s (s.chopperFault b) ∧
    ∀ k, (s.chopperFault b).isl.get k = if k.bus = b ∧ s.runs (.isl k) = true then
      { s.isl.get k with bus := { (s.isl.get k).bus with cf := true } } else s.isl.get k := by
  rw [State.chopperFault_eq]
  exact ⟨State.foldl_onBusPart_only _ _, State.foldl_running_isl (fun _ _ => UnitCommon.dom_of_quiet (unitEvt_quiet _ _ _ _)) s b⟩

/-- The driver's limit is signalled to the three islands of its bus, running or not (R199, R200). -/
theorem execChopperLimit_eq (b : BusId) (on : Bool) (s : State) : exec (.chopperLimit b on) s = .next ((busIslands b).foldl
    (State.onBusPart (fun _ _ => true) (fun _ c => c) (fun x => { x with limit := on })) s) := rfl

/-- The islands of the bus, before the lanes learn of it: CLRCF clears the latched fault in those that run (R199, R209). -/
def State.cfCleared (s : State) (b : BusId) : State :=
  (busIslands b).foldl (State.onBusPart State.islandRuns (fun _ c => c) (fun x => { x with cf := false })) s

theorem State.clearChopper_eq (s : State) (b : BusId) :
    s.clearChopper b = { s.cfCleared b with lanes := (s.cfCleared b).lanes.map (fun n => n.chopperCleared b) } := rfl

theorem State.cfCleared_only (s : State) (b : BusId) : onlyIslands s (s.cfCleared b) := State.foldl_onBusPart_only _ _

@[simp] theorem State.cfCleared_lanes (s : State) (b : BusId) : (s.cfCleared b).lanes = s.lanes := by rw [s.cfCleared_only b]

@[simp] theorem State.cfCleared_ucom (s : State) (b : BusId) : (s.cfCleared b).ucom = s.ucom :=
  State.foldl_onBusPart_ucom (fun _ _ => rfl) _ _

/-- Views with no chopper fault counted for the islands of a list: the other units' views stay. -/
theorem foldl_chop_get (is : List IslandId) (t : Ten UnitView) (u : UnitId) :
    (is.foldl (fun t i => t.set (.isl i) { t.get (.isl i) with chop := false }) t).get u =
      if u ∈ is.map UnitId.isl then { t.get u with chop := false } else t.get u := by
  induction is generalizing t with
  | nil => simp
  | cons i is ih =>
    rw [List.foldl_cons, ih]
    by_cases hu : u = .isl i
    · subst hu; simp
    · simp [hu, Ten.get_set_other _ _ _ _ hu]

/-- A running lane counts no chopper fault for the islands of the bus; nothing else of a lane changes (log entry 24). -/
theorem Lane.chopperCleared_views (n : Lane) (b : BusId) :
    n.chopperCleared b = { n with main := { n.main with units := (n.chopperCleared b).main.units } } ∧
      ∀ u, (n.chopperCleared b).main.units.get u =
        if n.awake = true ∧ u ∈ (busIslands b).map UnitId.isl then { n.main.units.get u with chop := false } else n.main.units.get u := by
  unfold Lane.chopperCleared
  by_cases awake : n.awake = true
  · simp only [awake, if_true, true_and]
    exact ⟨rfl, foldl_chop_get _ _⟩
  · simp [awake]

/-- Settles O12: a fault latches in the running islands of the bus, CLRCF clears it there and in the lanes' views, and the limit reaches all three. -/
theorem chopperFaults : Obligations.ChopperFaults := by
  unfold Obligations.ChopperFaults
  refine ⟨fun s i h noLimit => ⟨fun ov1 => ?request, fun current low tick round vbus => ?pulse⟩,
    fun s => ⟨fun outside i => ?refused, fun service i => ?cleared, fun b on => ?limit⟩⟩
  case request => exact ⟨_, congrArg Host.Outcome.next ((if_pos h).trans (if_pos ⟨ov1, by simp [noLimit]⟩)), s.chopperFault_latches i.bus⟩
  case pulse =>
    exact ⟨_, congrArg Host.Outcome.next ((if_pos h).trans (if_pos ⟨tick, round, vbus, low, by simp [noLimit]⟩)), s.chopperFault_latches i.bus⟩
  case refused => exact congrArg Host.Outcome.next (if_neg outside)
  case cleared =>
    refine ⟨_, congrArg Host.Outcome.next (if_pos service), ?_⟩
    rw [State.clearChopper_eq]
    refine ⟨?_, s.cfCleared_ucom i.bus, State.foldl_running_isl (fun _ _ => rfl) s i.bus, fun l => ?_⟩
    · exact congrArg (fun t : State => { t with lanes := (s.cfCleared i.bus).lanes.map (fun n => n.chopperCleared i.bus) }) (s.cfCleared_only i.bus)
    · simpa using (s.lanes.get l).chopperCleared_views i.bus
  case limit =>
    refine ⟨_, execChopperLimit_eq b on s, State.foldl_onBusPart_only _ _, State.foldl_onBusPart_ucom (fun _ _ => rfl) _ _, fun k => ?_⟩
    rw [State.foldl_onBusPart_isl (fun _ _ _ => rfl) _ (busIslands_nodup b)]
    simp [mem_busIslands]

end Sys2Proof.Machine

namespace Sys2Proof.Machine
open Sys2Proof

/-! ## One channel of a feedback unit changed (R212, R224) -/

/-- Changing the entry at a place is the library's `modify`. -/
theorem updAt_eq_modify {α : Type} (xs : List α) (n : Nat) (f : α → α) : updAt xs n f = xs.modify n f := by
  induction xs generalizing n with
  | nil => simp [updAt]
  | cons x xs ih =>
    cases n with
    | zero => rfl
    | succ n => simp [updAt, ih]

/-- The entry changed. -/
theorem updAt_getD_same {α : Type} {xs : List α} {n : Nat} (h : n < xs.length) (f : α → α) (d : α) :
    (updAt xs n f).getD n d = f (xs.getD n d) := by
  simp [updAt_eq_modify, List.getD_eq_getElem?_getD, h]

/-- The others stay. -/
theorem updAt_getD_other {α : Type} (xs : List α) {n k : Nat} (h : k ≠ n) (f : α → α) (d : α) :
    (updAt xs n f).getD k d = xs.getD k d := by
  simp [updAt_eq_modify, List.getD_eq_getElem?_getD, h.symm]

/-- CMP_HIT raised `k` times. -/
def cmpHits (f : FbId) (k : Nat) (c : UnitCommon) : UnitCommon := (fun c => unitEvt (.fb f) c 4)^[k] c

theorem cmpHits_quiet (f : FbId) (k : Nat) (c : UnitCommon) : (cmpHits f k c).quiet = c.quiet := by
  induction k generalizing c with
  | zero => rfl
  | succ k ih => exact (ih _).trans (unitEvt_quiet _ c 4 false)

/-- A channel put in its place, with its events. -/
theorem putChan_eq (f : FbId) (c : UnitCommon) (k : Feedback) (n : Nat) (r : FbChan × Nat) :
    putChan f c k n r = (cmpHits f r.2 c, { k with ch := k.ch.set n r.1 }) := by
  simp [putChan, cmpHits, updAt_const, List.foldl_const]

section onChan
variable {s : State} {f : FbId} {c : Nat} {g : FbChan → Nat → FbChan × Nat} (runs : s.runs (.fb f) = true)
include runs

/-- The channel of a unit that runs, and the unit's events. -/
theorem State.onChan_runs : s.onChan f c g =
    let r := g (channelOf s f c) (s.ucom.get (.fb f)).age
    s.putFb f (cmpHits f r.2 (s.ucom.get (.fb f)), { s.fbk.getF f with ch := (s.fbk.getF f).ch.set c r.1 }) := by
  rw [State.onChan, State.ifRuns, if_pos runs]
  simp only [putChan_eq, channelOf]

/-- A row on one channel of a unit that runs changes that channel and no other. -/
theorem exec_onChan {i : Instr} (hi : exec i s = .next (s.onChan f c g)) (hc : c < (s.fbk.getF f).ch.length) :
    ∃ t, exec i s = .next t ∧ onlyFeedback f s t ∧ otherChannels f c s t ∧
      channelOf t f c = (g (channelOf s f c) (s.ucom.get (.fb f)).age).1 := by
  refine ⟨_, hi, ?_⟩
  rw [State.onChan_runs runs]
  refine ⟨by simp [onlyFeedback], fun k hk => ?_, ?_⟩
  · simp [channelOf, List.getD_eq_getElem?_getD, hk.symm]
  · simp [channelOf, List.getD_eq_getElem?_getD, hc]

end onChan

/-! ## Moves of POS and the compare entries they fire (R218, R224, R225) -/

section movePos
variable (h : FbChan) (target : Int) (now : Nat)

@[simp] theorem movePos_cfg : (movePos h target now).1.cfg = h.cfg := rfl
@[simp] theorem movePos_pos : (movePos h target now).1.pos = clampI h.cfg.slo h.cfg.shi target := rfl
@[simp] theorem movePos_ang : (movePos h target now).1.ang = h.ang := rfl
@[simp] theorem movePos_quad : (movePos h target now).1.quad = h.quad := rfl
@[simp] theorem movePos_spd : (movePos h target now).1.spd = h.spd := rfl
@[simp] theorem movePos_trk : (movePos h target now).1.trk = h.trk := rfl
@[simp] theorem movePos_sent : (movePos h target now).1.sent = h.sent := rfl
@[simp] theorem movePos_eva : (movePos h target now).1.eva = h.eva := rfl

end movePos

/-- Entries changed one after another, each once: those of the list have changed by themselves. -/
theorem foldl_updAt_getD {α : Type} (f : α → α) (d : α) (ns : List Nat) (once : ns.Nodup) (xs : List α) {e : Nat} (he : e < xs.length) :
    (ns.foldl (fun ys n => updAt ys n f) xs).getD e d = if e ∈ ns then f (xs.getD e d) else xs.getD e d := by
  induction ns generalizing xs with
  | nil => simp
  | cons n ns ih =>
    obtain ⟨hnot, once⟩ := List.nodup_cons.mp once
    rw [List.foldl_cons, ih once _ (by simpa [updAt_eq_modify] using he)]
    by_cases hn : e = n
    · subst hn; rw [if_neg hnot, updAt_getD_same he, if_pos List.mem_cons_self]
    · simp only [updAt_getD_other _ hn, List.mem_cons, hn, false_or]

/-- A move crosses the position of an armed entry from the near side of its direction to the far side (R224). -/
theorem crosses_iff (x : CmpEntry) (old new : Int) : crosses x old new = true ↔
    x.arm = true ∧ ((x.dir % 2 = 1 ∧ old < x.p ∧ x.p ≤ new) ∨ (2 ≤ x.dir ∧ x.p ≤ old ∧ new < x.p)) := by
  simp [crosses]

/-- The entries a move fires are those it crosses. -/
theorem movePos_entry (h : FbChan) (target : Int) (now : Nat) {e : Nat} (he : e < 16) (all : h.cmp.length = 16) :
    (movePos h target now).1.cmp.getD e {} =
      if crosses (h.cmp.getD e {}) h.pos (movePos h target now).1.pos = true then fireEntry (h.cmp.getD e {}) else h.cmp.getD e {} := by
  have fires : e ∈ firing h.cmp h.pos (clampI h.cfg.slo h.cfg.shi target) ↔
      crosses (h.cmp.getD e {}) h.pos (clampI h.cfg.slo h.cfg.shi target) = true := by simp [firing, he]
  refine (foldl_updAt_getD fireEntry {} _ (List.nodup_range.filter _) h.cmp (all ▸ he)).trans ?_
  exact if_congr fires rfl rfl

/-! ## Quadrature edges (R215, R218, R219) -/

/-- The filter times of R215, in 6.25 ns. -/
theorem filterTime_eq (k : FbCfg) : filterTime k = [0, 2, 4, 8, 16].getD k.filt 16 := by
  unfold filterTime
  rcases k.filt with _ | _ | _ | _ | _ | n <;> rfl

/-- An edge is filtered where the other input changed less than the filter time before it (log entry 132). -/
theorem edgeFiltered_iff (k : FbCfg) (q : QuadIn) (up : Bool) (t : Nat) : edgeFiltered k q up t = true ↔
    ∃ o, (if edgeOfA q up then q.tb else q.ta) = some o ∧ t - o < [0, 2, 4, 8, 16].getD k.filt 16 := by
  rw [← filterTime_eq]
  unfold edgeFiltered
  cases (if edgeOfA q up then q.tb else q.ta) <;> simp

/-- A channel whose input has changed at time `t`, its speed edge counted. -/
def FbChan.edged (h : FbChan) (up : Bool) (t : Nat) : FbChan :=
  { h with spd := speedEdge h.spd (if up then 1 else -1) t, quad := h.quad.edge up t }

section quadEdge
variable {h : FbChan} {up : Bool} {age off : Nat} (mode : h.cfg.mode = 1)
include mode

/-- A filtered edge is recorded, and nothing else (R218). -/
theorem quadEdge_filtered (filtered : edgeFiltered h.cfg h.quad up (age * 8000 + off) = true) :
    quadEdge h up age off = ({ h with quad := h.quad.edge up (age * 8000 + off) }, 0) := by
  simp [quadEdge, mode, filtered]

/-- Any other is a move by one count and a speed edge. -/
theorem quadEdge_moves (clear : edgeFiltered h.cfg h.quad up (age * 8000 + off) = false) :
    quadEdge h up age off =
      movePos (h.edged up (age * 8000 + off)) (h.pos + if up then 1 else -1) (age * 50 + off / 160) := by
  simp [quadEdge, mode, clear, FbChan.edged]

end quadEdge

/-- Settles O15: an edge is recorded or a move by one count, and a move fires the entries it crosses. -/
theorem quadratureAndCompare : Obligations.QuadratureAndCompare := by
  unfold Obligations.QuadratureAndCompare
  refine ⟨fun s f c off up runs hc mode => ⟨?within, fun filtered => ?recorded, fun clear => ?moves⟩,
    fun s f c e off up runs hc mode he all clear => ?fires⟩
  case within => exact Bool.eq_iff_iff.mpr ((edgeFiltered_iff _ _ _ _).trans decide_eq_true_iff.symm)
  case recorded =>
    obtain ⟨t, ht, only, other, after⟩ := exec_onChan (i := .quadEdge f c up off) runs rfl hc
    rw [quadEdge_filtered mode filtered] at after
    exact ⟨t, ht, only, other, after⟩
  case moves =>
    obtain ⟨t, ht, only, other, after⟩ := exec_onChan (i := .quadEdge f c up off) runs rfl hc
    rw [quadEdge_moves mode clear] at after
    refine ⟨t, ht, only, other, ?_⟩
    rw [after]
    exact ⟨movePos_quad _ _ _, movePos_pos _ _ _, congrArg SpeedState.n (movePos_spd _ _ _), movePos_cfg _ _ _⟩
  case fires =>
    obtain ⟨t, ht, -, -, after⟩ := exec_onChan (i := .quadEdge f c up off) runs rfl hc
    rw [quadEdge_moves mode clear] at after
    refine ⟨t, ht, ?_⟩
    rw [after]
    exact (movePos_entry ((channelOf s f c).edged up _) _ _ he all).trans (if_congr (crosses_iff _ _ _) rfl rfl)

end Sys2Proof.Machine

namespace Sys2Proof.Machine
open Sys2Proof

/-! ## Index pulses and the zero-speed timeout (R215, R217, R219) -/

/-- An index pulse latches the counter, which the first one sets to 0 where the record says so; no compare entry changes (log entry 99). -/
theorem indexPulse_latches {h : FbChan} (mode : h.cfg.mode = 1) (idxm : h.cfg.idxm = 1 ∨ h.cfg.idxm = 2) :
    (indexPulse h).idxv = true ∧
      (indexPulse h).pos = (if h.cfg.idxm = 2 ∧ h.idxv = false then clampI h.cfg.slo h.cfg.shi 0 else h.pos) ∧
      (indexPulse h).idxPos = (indexPulse h).pos ∧ (indexPulse h).angPos = h.spd.n ∧
      (indexPulse h).eva = satAdd 16 h.eva 1 ∧ (indexPulse h).cmp = h.cmp := by
  have used : h.cfg.idxm ≠ 0 := by omega
  by_cases first : h.cfg.idxm = 2 ∧ h.idxv = false <;> simp [indexPulse, mode, used, first]

/-- A channel that tracks and whose last edge lies ZTO back stands still. -/
theorem zeroSpeed_timeout {h : FbChan} {age t : Nat} {n : Int} (tracks : h.cfg.mode = 1 ∨ (h.cfg.mode = 2 ∧ h.trk.lost = false))
    (last : h.spd.last = some (t, n)) (out : h.cfg.zto * 160000 ≤ age * 8000 - t) :
    zeroSpeed h age = { h with spd := { h.spd with spd := 0, zero := true } } := by
  have tracks : h.cfg.mode = 1 ∨ (h.cfg.mode = 2 ∧ ¬ h.trk.lost) := by simpa using tracks
  simp only [zeroSpeed, last]
  exact if_pos ⟨tracks, out⟩

/-! ## Writes of a compare entry (R225, R228) -/

/-- BEHIND as R225 evaluates it at a position, by direction; for EITHER by the last movement. -/
def behindAt (x : CmpEntry) (pos moved : Int) : Prop :=
  (x.dir = 1 → x.behind = (x.arm && decide (x.p ≤ pos))) ∧
  (x.dir = 2 → x.behind = (x.arm && decide (pos < x.p))) ∧
  (x.dir = 3 → x.behind = (x.arm && (if 0 < moved then decide (x.p ≤ pos) else if moved < 0 then decide (pos < x.p) else false)))

theorem evaluateBehind_behindAt (y : CmpEntry) (pos moved : Int) : behindAt (evaluateBehind y pos moved) pos moved := by
  refine ⟨fun up => ?_, fun down => ?_, fun either => ?_⟩
  · have dir : y.dir = 1 := up
    simp [evaluateBehind, farSide, dir]
  · have dir : y.dir = 2 := down
    simp [evaluateBehind, farSide, dir]
  · have dir : y.dir = 3 := either
    simp [evaluateBehind, farSide, dir]

/-- A row that writes an entry of a channel changes that entry and evaluates it at the present position. -/
theorem exec_writeEntry {s : State} {f : FbId} {c e : Nat} {i : Instr} {g : CmpEntry → CmpEntry}
    (hi : exec i s = .next (s.onChan f c (fun h _ => (writeEntry h e true g, 0)))) (runs : s.runs (.fb f) = true)
    (hc : c < (s.fbk.getF f).ch.length) (he : e < (channelOf s f c).cmp.length) :
    ∃ t, exec i s = .next t ∧ onlyFeedback f s t ∧ otherChannels f c s t ∧
      (∀ k, k ≠ e → (channelOf t f c).cmp.getD k {} = (channelOf s f c).cmp.getD k {}) ∧ (channelOf t f c).pos = (channelOf s f c).pos ∧
      (channelOf t f c).cmp.getD e {} =
        evaluateBehind (g ((channelOf s f c).cmp.getD e {})) (channelOf s f c).pos (channelOf s f c).moved := by
  obtain ⟨t, ht, only, other, after⟩ := exec_onChan runs hi hc
  refine ⟨t, ht, only, other, ?_⟩
  rw [after]
  refine ⟨fun k hk => updAt_getD_other _ hk _ _, rfl, (updAt_getD_same he _ _).trans ?_⟩
  simp

theorem bitsOf_dir (v : Nat) : bitsOf v 2 1 = v / 2 % 4 := congrArg (· % 4) (Nat.shiftRight_eq_div_pow v 1)

theorem bitsOf_pw (v : Nat) : bitsOf v 15 8 = v / 256 % 256 := congrArg (· % 256) (Nat.shiftRight_eq_div_pow v 8)

/-- A control word is taken where it names a direction and no pulse of 0 µs. -/
theorem ctlOk_iff (w : Word) : ctlOk w.toNat = true ↔
    w.toNat / 2 % 4 ≠ 0 ∧ (w.getLsbD 4 = true → w.toNat / 256 % 256 ≠ 0) := by
  simp only [ctlOk, bitsOf_dir, bitsOf_pw, BitVec.testBit_toNat]
  cases w.getLsbD 4 <;> simp

/-- A word written to the control register replaces the control bits of the entry. -/
theorem writeCtl_word (w : Word) (x : CmpEntry) : writeCtl w.toNat 0xFFFFFFFF x = entryOf x.p w.toNat x := by
  rw [writeCtl, maskedWord_full ((Nat.mod_lt _ (by decide)).trans (by decide : 65536 < 4294967296)) w.isLt]

/-- A word written to the position register is the entry's position, as a signed number. -/
theorem writeP_word (w : Word) (x : CmpEntry) : writeP w.toNat 0xFFFFFFFF x = { x with p := w.toInt } := by
  have small : ofSigned 32 x.p < 4294967296 := by simp only [ofSigned]; omega
  have signed : toSigned 32 w.toNat = w.toInt := by
    have := w.isLt
    rw [BitVec.toInt_eq_toNat_cond, toSigned]
    split <;> split <;> omega
  rw [writeP, maskedWord_full small w.isLt, signed]

/-- Settles O16: each row writes the channel fields named, and a write of an entry ends in its evaluation at the present position. -/
theorem channelEventsAndCompareWrites : Obligations.ChannelEventsAndCompareWrites := by
  unfold Obligations.ChannelEventsAndCompareWrites
  refine ⟨fun s f c runs hc => ⟨?pulseEnd, fun mode idxm => ?index, fun at' n tracks last out => ?zero⟩,
    fun s f c e w runs hc he => ⟨fun dir pulse => ?armed, fun bad => ?refused, ?placed⟩⟩
  case pulseEnd => exact exec_onChan (i := .comparePulseEnd f c) runs rfl hc
  case index =>
    obtain ⟨t, ht, only, other, after⟩ := exec_onChan (i := .indexPulse f c) runs rfl hc
    refine ⟨t, ht, only, other, ?_⟩
    rw [after]
    exact indexPulse_latches mode idxm
  case zero =>
    obtain ⟨t, ht, only, other, after⟩ := exec_onChan (i := .zero f c) runs rfl hc
    exact ⟨t, ht, only, other, after.trans (zeroSpeed_timeout tracks last out)⟩
  case armed =>
    obtain ⟨t, ht, only, other, rest, pos, entry⟩ := exec_writeEntry (i := .compareArm f c e w)
      (congrArg Host.Outcome.next (if_pos ((ctlOk_iff w).mpr ⟨dir, pulse⟩))) runs hc he
    refine ⟨t, ht, only, other, rest, pos, ?_⟩
    rw [entry, writeCtl_word]
    exact ⟨rfl, BitVec.testBit_toNat w, bitsOf_dir _, BitVec.testBit_toNat w, BitVec.testBit_toNat w, BitVec.testBit_toNat w, bitsOf_pw _,
      evaluateBehind_behindAt _ _ _⟩
  case refused =>
    have refuses : ¬ ctlOk w.toNat = true := by rw [ctlOk_iff]; tauto
    exact congrArg Host.Outcome.next (if_neg refuses)
  case placed =>
    obtain ⟨t, ht, only, other, rest, pos, entry⟩ := exec_writeEntry (i := .comparePositionWrite f c e w) rfl runs hc he
    refine ⟨t, ht, only, other, rest, pos, ?_⟩
    rw [entry, writeP_word]
    exact ⟨rfl, rfl, rfl, rfl, evaluateBehind_behindAt _ _ _⟩

end Sys2Proof.Machine

namespace Sys2Proof.Machine
open Sys2Proof

/-! ## One update of the converter (R218, R220, R222) -/

/-- A channel whose speed edges in one update are counted, before anything else of the update (R219). -/
def FbChan.updateEdges (h : FbChan) (u : ConvUpdate) (age time : Nat) : FbChan :=
  convEdges h h.trk.conv (trackNext h u).conv age time

section updateEdges
variable (h : FbChan) (u : ConvUpdate) (age time : Nat)

/-! The edges change the channel's speed and nothing else. -/

theorem FbChan.updateEdges_cfg : (h.updateEdges u age time).cfg = h.cfg := by simp only [updateEdges, convEdges]; split <;> rfl
theorem FbChan.updateEdges_ang : (h.updateEdges u age time).ang = h.ang := by simp only [updateEdges, convEdges]; split <;> rfl
theorem FbChan.updateEdges_pos : (h.updateEdges u age time).pos = h.pos := by simp only [updateEdges, convEdges]; split <;> rfl

end updateEdges

/-! The tracking state after an update is the converter's step, with the angle its register shows. -/

theorem trackNext_vel (h : FbChan) (u : ConvUpdate) : (trackNext h u).vel = (convStep h.cfg h.trk (demodulate h u).2).vel := rfl

theorem trackNext_lost (h : FbChan) (u : ConvUpdate) : (trackNext h u).lost = h.trk.lost := rfl

theorem trackNext_conv (h : FbChan) (u : ConvUpdate) : (trackNext h u).conv =
    ((convStep h.cfg h.trk (demodulate h u).2).phi.floor.toNat + 65536 - h.cfg.zofs % 65536) % 65536 := rfl

theorem convRpm_trackNext (h : FbChan) (u : ConvUpdate) :
    convRpm (trackNext h u) = convRpm (convStep h.cfg h.trk (demodulate h u).2) := by rw [convRpm, convRpm, trackNext_vel]

/-- Track is lost where the error, the amplitude or the speed is out of tolerance (R222). -/
theorem trackBad_iff (k : FbCfg) (e amp rpm : Rat) :
    trackBad k e amp rpm = true ↔ (k.tlth : Rat) < |e| ∨ 4 * amp < k.ampn ∨ 32000 < |rpm| := by
  simp [trackBad, or_assoc]

theorem trackBad_eq_false_iff (k : FbCfg) (e amp rpm : Rat) :
    trackBad k e amp rpm = false ↔ |e| ≤ k.tlth ∧ (k.ampn : Rat) ≤ 4 * amp ∧ |rpm| ≤ 32000 := by
  rw [Bool.eq_false_iff, ne_eq, trackBad_iff]
  simp only [not_or, not_lt]

/-- A channel that loses track with the tracking state `t` (R222). -/
def FbChan.lostWith (h : FbChan) (t : TrackState) : FbChan :=
  { h with trk := { t with lost := true, lostTick := true, okUpd := 0 }, eva := if t.lost then h.eva else satAdd 16 h.eva 1 }

/-- A channel off track whose good updates are counted (R222). -/
def FbChan.waitsWith (h : FbChan) (t : TrackState) (good : Bool) : FbChan :=
  { h with trk := { t with lostTick := true, okUpd := if good then t.okUpd + 1 else 0 } }

/-- A channel on track with the tracking state `t`. -/
def FbChan.tracksWith (h : FbChan) (t : TrackState) : FbChan := { h with trk := t }

/-! None of them changes the record of the channel, and only a turn moves it. -/

theorem FbChan.lostWith_rest (h : FbChan) (t : TrackState) :
    (h.lostWith t).trk.lost = true ∧ (h.lostWith t).ang = h.ang ∧ (h.lostWith t).pos = h.pos ∧ (h.lostWith t).trk.okUpd = 0 :=
  ⟨rfl, rfl, rfl, rfl⟩

theorem FbChan.lostWith_cfg (h : FbChan) (t : TrackState) : (h.lostWith t).cfg = h.cfg := rfl
theorem FbChan.waitsWith_cfg (h : FbChan) (t : TrackState) (good : Bool) : (h.waitsWith t good).cfg = h.cfg := rfl

theorem FbChan.turnTo_cfg (h : FbChan) (t : TrackState) (a age off : Nat) : (turnTo (h.tracksWith t) a age off).1.cfg = h.cfg :=
  movePos_cfg _ _ _

/-- A turn in track moves POS by the short-way difference within the soft limits (R218). -/
theorem turnTo_tracksWith (h : FbChan) (t : TrackState) (a age off : Nat) :
    (turnTo (h.tracksWith t) a age off).1.ang = a ∧
      (turnTo (h.tracksWith t) a age off).1.pos = clampI h.cfg.slo h.cfg.shi (h.pos + shortWay h.ang a) ∧
      (turnTo (h.tracksWith t) a age off).1.trk = t := ⟨movePos_ang _ _ _, movePos_pos _ _ _, movePos_trk _ _ _⟩

/-- What one update does: lose track, wait off track, or turn. -/
theorem converterOnce_eq (h : FbChan) (u : ConvUpdate) (age time : Nat) : converterOnce h u age time =
    if trackBad (h.updateEdges u age time).cfg (convError h.trk (demodulate h u).2) (demodulate h u).1 (convRpm (trackNext h u)) then
      ((h.updateEdges u age time).lostWith (trackNext h u), 0)
    else if (trackNext h u).lost then
      ((h.updateEdges u age time).waitsWith (trackNext h u)
        (trackGood (h.updateEdges u age time).cfg (convError h.trk (demodulate h u).2) (demodulate h u).1), 0)
    else turnTo ((h.updateEdges u age time).tracksWith (trackNext h u)) (trackNext h u).conv age time := rfl

section converterOnce
variable {h : FbChan} {u : ConvUpdate} {age time : Nat}

/-- An update out of tolerance loses track and moves nothing. -/
theorem converterOnce_lost
    (bad : trackBad h.cfg (convError h.trk (demodulate h u).2) (demodulate h u).1 (convRpm (trackNext h u)) = true) :
    (converterOnce h u age time).1.trk.lost = true ∧ (converterOnce h u age time).1.ang = h.ang ∧
      (converterOnce h u age time).1.pos = h.pos ∧ (converterOnce h u age time).1.trk.okUpd = 0 := by
  obtain ⟨lost, ang, pos, count⟩ := (h.updateEdges u age time).lostWith_rest (trackNext h u)
  rw [converterOnce_eq, h.updateEdges_cfg, if_pos bad]
  exact ⟨lost, ang.trans (h.updateEdges_ang u age time), pos.trans (h.updateEdges_pos u age time), count⟩

/-- An update in tolerance of a channel on track turns it to the converter angle. -/
theorem converterOnce_turns
    (good : trackBad h.cfg (convError h.trk (demodulate h u).2) (demodulate h u).1 (convRpm (trackNext h u)) = false)
    (kept : (trackNext h u).lost = false) :
    (converterOnce h u age time).1.ang = (trackNext h u).conv ∧
      (converterOnce h u age time).1.pos = clampI h.cfg.slo h.cfg.shi (h.pos + shortWay h.ang (trackNext h u).conv) ∧
      (converterOnce h u age time).1.trk.lost = false := by
  obtain ⟨ang, pos, trk⟩ := turnTo_tracksWith (h.updateEdges u age time) (trackNext h u) (trackNext h u).conv age time
  rw [h.updateEdges_cfg, h.updateEdges_pos, h.updateEdges_ang] at pos
  rw [converterOnce_eq, h.updateEdges_cfg, if_neg (Bool.eq_false_iff.mp good), if_neg (Bool.eq_false_iff.mp kept)]
  exact ⟨ang, pos, trk ▸ kept⟩

/-- No update changes the channel's record. -/
theorem converterOnce_cfg (h : FbChan) (u : ConvUpdate) (age time : Nat) : (converterOnce h u age time).1.cfg = h.cfg := by
  refine Eq.trans ?_ (h.updateEdges_cfg u age time)
  rw [converterOnce_eq]
  split
  · exact FbChan.lostWith_cfg _ _
  · split
    · exact FbChan.waitsWith_cfg _ _ _
    · exact FbChan.turnTo_cfg _ _ _ _ _

end converterOnce

/-- Without an error the converter turns on at its speed (R220). -/
theorem convStep_steady {k : FbCfg} {t : TrackState} {angle : Nat} (steady : convError t angle = 0) :
    (convStep k t angle).vel = t.vel ∧
      (convStep k t angle).phi = t.phi + t.vel - 65536 * (((t.phi + t.vel) / 65536).floor : Rat) := by
  simp [convStep, steady]

/-- REACQ after 8192 good updates takes the converter angle (R222). -/
theorem reacquire_takes {h : FbChan} {age off : Nat} (mode : h.cfg.mode = 2) (lost : h.trk.lost = true) (ready : 8192 ≤ h.trk.okUpd) :
    (reacquire h age off).1.trk.lost = false ∧ (reacquire h age off).1.ang = h.trk.conv ∧ (reacquire h age off).1.trk.seen = true := by
  unfold reacquire
  rw [if_pos ⟨mode, lost, ready⟩]
  extract_lets t d
  split
  next before => exact ⟨rfl, rfl, before⟩
  next first => exact ⟨rfl, rfl, rfl⟩

/-! ## Several updates in one command (R220) -/

/-- As many updates by `F` as a command says, 200 ns apart, their events added up. -/
def updatesBy (F : FbChan → ConvUpdate → Nat → Nat → FbChan × Nat) (h : FbChan) (u : ConvUpdate) (age : Nat) : FbChan × Nat :=
  (List.range u.reps).foldl (fun (r : FbChan × Nat) k =>
    let x := F r.1 u age (u.time + 32 * k)
    (x.1, r.2 + x.2)) (h, 0)

section updatesBy
variable {F : FbChan → ConvUpdate → Nat → Nat → FbChan × Nat}

theorem updatesBy_one {h : FbChan} {u : ConvUpdate} (age : Nat) (one : u.reps = 1) : updatesBy F h u age = F h u age u.time := by
  simp [updatesBy, one]

theorem updatesBy_cfg (keeps : ∀ h u age time, (F h u age time).1.cfg = h.cfg) (h : FbChan) (u : ConvUpdate) (age : Nat) :
    (updatesBy F h u age).1.cfg = h.cfg :=
  List.foldlRecOn _ _ (motive := fun r : FbChan × Nat => r.1.cfg = h.cfg) rfl fun _ hr _ _ => (keeps _ _ _ _).trans hr

/-- The last update follows those before it. -/
theorem updatesBy_succ {u : ConvUpdate}
    (blind : ∀ h age time reps time', F h { u with time := time', reps := reps } age time = F h u age time)
    (h : FbChan) (age n : Nat) :
    updatesBy F h { u with reps := n + 1 } age =
      ((F (updatesBy F h { u with reps := n } age).1 u age (u.time + 32 * n)).1,
       (updatesBy F h { u with reps := n } age).2 + (F (updatesBy F h { u with reps := n } age).1 u age (u.time + 32 * n)).2) := by
  simp only [updatesBy, List.range_succ, List.foldl_append, List.foldl_cons, List.foldl_nil, blind]

end updatesBy

theorem converterUpdate_updates {h : FbChan} (u : ConvUpdate) (age : Nat) (mode : h.cfg.mode = 2) :
    converterUpdate h u age = updatesBy converterOnce h u age := if_pos mode

/-- A command with one update is that update. -/
theorem converterUpdate_one {h : FbChan} {u : ConvUpdate} (age : Nat) (mode : h.cfg.mode = 2) (one : u.reps = 1) :
    converterUpdate h u age = converterOnce h u age u.time :=
  (converterUpdate_updates u age mode).trans (updatesBy_one age one)

/-- One update depends neither on the time the command starts at nor on how many it holds. -/
theorem converterOnce_blind (h : FbChan) (u : ConvUpdate) (age time reps time' : Nat) :
    converterOnce h { u with time := time', reps := reps } age time = converterOnce h u age time := rfl

/-- Two changes of a channel one after the other. -/
def chanThen (g g' : FbChan → Nat → FbChan × Nat) (h : FbChan) (age : Nat) : FbChan × Nat :=
  ((g' (g h age).1 age).1, (g h age).2 + (g' (g h age).1 age).2)

/-- The last of several updates comes 200 ns behind the one before it. -/
theorem converterUpdate_succ (u : ConvUpdate) (n : Nat) :
    (fun h age => converterUpdate h { u with reps := n + 1 } age) =
      chanThen (fun h age => converterUpdate h { u with reps := n } age)
        (fun h age => converterUpdate h { u with reps := 1, time := u.time + 32 * n } age) := by
  funext h age
  by_cases mode : h.cfg.mode = 2
  · have before := converterUpdate_updates { u with reps := n } age mode
    have stays : (converterUpdate h { u with reps := n } age).1.cfg.mode = 2 := by
      rw [before, updatesBy_cfg converterOnce_cfg, mode]
    have last : converterUpdate (converterUpdate h { u with reps := n } age).1 { u with reps := 1, time := u.time + 32 * n } age =
        converterOnce (converterUpdate h { u with reps := n } age).1 u age (u.time + 32 * n) :=
      (converterUpdate_one age stays rfl).trans (converterOnce_blind _ _ _ _ _ _)
    rw [chanThen, last, before, converterUpdate_updates _ age mode, updatesBy_succ (converterOnce_blind · u)]
  · simp [chanThen, converterUpdate, mode]

/-- An event does not change the unit's own time. -/
theorem UnitCommon.age_of_quiet {c d : UnitCommon} (h : d.quiet = c.quiet) : d.age = c.age := show d.quiet.age = c.quiet.age by rw [h]

/-- CMP_HIT raised `m` times, then `k` times. -/
theorem cmpHits_cmpHits (f : FbId) (k m : Nat) (c : UnitCommon) : cmpHits f k (cmpHits f m c) = cmpHits f (m + k) c := by
  rw [Nat.add_comm]
  exact (Function.iterate_add_apply _ k m c).symm

/-- Two changes of one channel of a unit are one, where the first leaves a channel that is not there as it reads. -/
theorem State.onChan_onChan {g : FbChan → Nat → FbChan × Nat} (absent : ∀ age, (g {} age).1 = {}) (g' : FbChan → Nat → FbChan × Nat)
    (s : State) (f : FbId) (c : Nat) : (s.onChan f c g).onChan f c g' = s.onChan f c (chanThen g g') := by
  by_cases runs : s.runs (.fb f) = true
  · have first := State.onChan_runs (c := c) (g := g) runs
    have quiet : ((s.onChan f c g).ucom.get (.fb f)).quiet = (s.ucom.get (.fb f)).quiet := by
      rw [first]; simpa using cmpHits_quiet _ _ _
    have age : ((s.onChan f c g).ucom.get (.fb f)).age = (s.ucom.get (.fb f)).age := UnitCommon.age_of_quiet quiet
    have stillRuns : (s.onChan f c g).runs (.fb f) = true := by
      simpa only [State.runs, UnitCommon.dom_of_quiet quiet] using runs
    have channel : channelOf (s.onChan f c g) f c = (g (channelOf s f c) (s.ucom.get (.fb f)).age).1 := by
      rw [first]
      by_cases there : c < (s.fbk.getF f).ch.length
      · simp [channelOf, List.getD_eq_getElem?_getD, there]
      · have reads : channelOf s f c = {} := List.getD_eq_default _ _ (not_lt.mp there)
        rw [reads, absent]
        simp only [channelOf, State.putFb_fbk, Two.getF_setF_same]
        exact List.getD_eq_default _ _ (by simpa using there)
    rw [State.onChan_runs stillRuns, age, channel, State.onChan_runs runs, State.onChan_runs runs]
    simp [State.putFb, cmpHits_cmpHits, chanThen]
  · simp [State.onChan, State.ifRuns, runs]

/-! ## SENT frames (R218, R223) -/

/-- A valid frame has eight nibbles. -/
theorem sentValid_length {prev : Option Nat} {rx : SentRx} {ns : List Nat} (valid : sentValid prev rx = some ns) : ns.length = 8 := by
  unfold sentValid at valid
  extract_lets calOk at valid
  split at valid
  · obtain ⟨⟨-, eight, -, -⟩, rfl⟩ := Option.ite_some_none_eq_some.mp valid
    exact eight
  · cases valid

/-- The two numbers of a frame of eight nibbles, status first and CRC last. -/
theorem nibNat_channels (ns : List Nat) (eight : ns.length = 8) :
    nibNat (((ns.drop 1).take 6).take 3) = 256 * ns.getD 1 0 + 16 * ns.getD 2 0 + ns.getD 3 0 ∧
      nibNat (((ns.drop 1).take 6).drop 3) = 256 * ns.getD 4 0 + 16 * ns.getD 5 0 + ns.getD 6 0 :=
  match ns, eight with
  | [_, _, _, _, _, _, _, _], _ => by simp only [nibNat]; constructor <;> simp <;> omega

section sentFrame
variable {h : FbChan} {rx : SentRx} {age : Nat} (mode : h.cfg.mode = 3)
include mode

/-- A valid frame moves POS to its value, counts as good and is the next reference. -/
theorem sentFrame_valid {ns : List Nat} (valid : sentValid h.sent.cal rx = some ns) (fcw : h.cfg.fcw = 0) :
    (sentFrame h rx age).1.pos = clampI h.cfg.slo h.cfg.shi
        ((256 * ns.getD 1 0 + 16 * ns.getD 2 0 + ns.getD 3 0 : Nat) - (h.cfg.zofs : Int)) ∧
      (sentFrame h rx age).1.sent.fc2 = 256 * ns.getD 4 0 + 16 * ns.getD 5 0 + ns.getD 6 0 ∧
      (sentFrame h rx age).1.eva = satAdd 16 h.eva 1 ∧ (sentFrame h rx age).1.sent.cal = some rx.cal := by
  obtain ⟨high, low⟩ := nibNat_channels ns (sentValid_length valid)
  simp only [sentFrame, if_pos mode, valid, if_pos fcw, movePos_pos, movePos_sent, movePos_eva, high, low, and_self]

/-- An invalid one counts as bad and moves nothing; it is the next reference all the same (log entry 102). -/
theorem sentFrame_invalid (invalid : sentValid h.sent.cal rx = none) :
    (sentFrame h rx age).1 = { h with sent := { h.sent with cal := some rx.cal }, evb := satAdd 16 h.evb 1 } := by
  simp only [sentFrame, if_pos mode, invalid]

end sentFrame

/-- Settles O17: an update turns the channel or loses its track, several are a fold of single ones, and a SENT frame moves or counts as bad. -/
theorem resolverAndSent : Obligations.ResolverAndSent := by
  unfold Obligations.ResolverAndSent
  refine ⟨fun s f c u runs hc mode => ⟨fun one err amp rpm kept => ?turns, fun one bad => ?lost, fun steady => convStep_steady steady,
    fun off lost ready => ?reacq⟩, fun s f c n u => ⟨_, rfl, ?several⟩,
    fun s f c rx runs hc mode => ⟨fun ns valid fcw => ?valid, fun invalid => ?invalid⟩⟩
  case turns =>
    obtain ⟨t, ht, only, other, after⟩ := exec_onChan (i := .converterUpdate f c u) runs rfl hc
    rw [← convRpm_trackNext] at rpm
    have good := (trackBad_eq_false_iff _ _ _ _).mpr ⟨err, amp, rpm⟩
    obtain ⟨ang, pos, onTrack⟩ := converterOnce_turns (age := (s.ucom.get (.fb f)).age) (time := u.time) good
      ((trackNext_lost _ _).trans kept)
    refine ⟨t, ht, only, other, ?_⟩
    rw [after, converterUpdate_one _ mode one, ang]
    exact ⟨trackNext_conv _ _, pos, onTrack⟩
  case lost =>
    obtain ⟨t, ht, only, other, after⟩ := exec_onChan (i := .converterUpdate f c u) runs rfl hc
    refine ⟨t, ht, only, other, ?_⟩
    rw [after, converterUpdate_one _ mode one]
    rw [← convRpm_trackNext] at bad
    exact converterOnce_lost ((trackBad_iff _ _ _ _).mpr bad)
  case reacq =>
    obtain ⟨t, ht, only, other, after⟩ := exec_onChan (i := .reacq f c off) runs rfl hc
    refine ⟨t, ht, only, other, ?_⟩
    rw [after]
    exact reacquire_takes mode lost ready
  case several =>
    have absent : ∀ age, (converterUpdate {} { u with reps := n } age).1 = {} := fun _ => rfl
    refine congrArg Host.Outcome.next ((congrArg (s.onChan f c) (converterUpdate_succ u n)).trans ?_)
    exact (State.onChan_onChan absent _ s f c).symm
  case valid =>
    obtain ⟨t, ht, only, other, after⟩ := exec_onChan (i := .sentFrame f c rx) runs rfl hc
    refine ⟨t, ht, only, other, ?_⟩
    rw [after]
    exact sentFrame_valid mode valid fcw
  case invalid =>
    obtain ⟨t, ht, only, other, after⟩ := exec_onChan (i := .sentFrame f c rx) runs rfl hc
    exact ⟨t, ht, only, other, after.trans (sentFrame_invalid mode invalid)⟩

end Sys2Proof.Machine

namespace Sys2Proof.Machine
open Sys2Proof

/-! ## One safety-I/O unit changed (R229-R244) -/

section onSio
variable {s : State} {x : SioId} {i : Instr} {f : UnitCommon → SafetyIO → UnitCommon × SafetyIO}
  (runs : s.runs (.sio x) = true) (hi : exec i s = .next (s.onSio x f))
include runs hi

/-- A row on a safety-I/O unit that runs changes that unit and its common part. -/
theorem exec_onSio : ∃ t, exec i s = .next t ∧ onlySafety x s t ∧ t.sio.getS x = (f (s.ucom.get (.sio x)) (s.sio.getS x)).2 := by
  refine ⟨_, hi, ?_⟩
  rw [State.onSio, State.ifRuns, if_pos runs]
  exact ⟨by simp [onlySafety], by simp⟩

end onSio

section onSioOwn
variable {s : State} {x : SioId} {i : Instr} {g : UnitCommon → SafetyIO → SafetyIO}
  (runs : s.runs (.sio x) = true) (hi : exec i s = .next (s.onSio x fun c y => (c, g c y)))
include runs hi

/-- A row that leaves the common part alone changes the unit's own part only. -/
theorem exec_onSio_own {z : SafetyIO} (hg : g (s.ucom.get (.sio x)) (s.sio.getS x) = z) :
    exec i s = .next { s with sio := s.sio.setS x z } := by
  rw [hi, State.onSio, State.ifRuns, if_pos runs, hg, State.putSio, Ten.set_get_self]

/-- One that finds nothing to do changes nothing. -/
theorem exec_onSio_idle (hg : g (s.ucom.get (.sio x)) (s.sio.getS x) = s.sio.getS x) : exec i s = .next s := by
  rw [exec_onSio_own runs hi hg, Two.setS_getS_self]

end onSioOwn

/-! ## The supplies (R231, R238, R239) -/

section supply
variable {x : SioId} {c : UnitCommon} {y : SafetyIO} {n : Nat}

/-- The off edge of a supply that pulses in its round, at TINR 2 (R239). -/
theorem pulseOff_due (tinr : c.tick % 8 = 2) (own : roundSupply x c = some n) (may : pulsing c y n = true) :
    pulseOff x c y n = { y with sup := updAt y.sup n (fun z => { z with testOff := z.on }), ran := (y.sup.getD n {}).on } :=
  if_pos ⟨tinr, own, may⟩

/-- No off edge in another tick or round, nor of a supply that does not pulse. -/
theorem pulseOff_idle (h : c.tick % 8 ≠ 2 ∨ roundSupply x c ≠ some n ∨ pulsing c y n = false) : pulseOff x c y n = y := by
  refine if_neg fun ⟨tinr, own, may⟩ => ?_
  obtain h | h | h := h
  · exact h tinr
  · exact h own
  · rw [h] at may; cases may

/-- The on edge, at TINR 4 of the supply's round (R239). -/
theorem pulseOn_due (tinr : c.tick % 8 = 4) (own : roundSupply x c = some n) :
    pulseOn x c y n = { y with sup := updAt y.sup n (fun z => { z with testOff := false }) } := if_pos ⟨tinr, own⟩

/-- No on edge in another tick or round. -/
theorem pulseOn_idle (h : c.tick % 8 ≠ 4 ∨ roundSupply x c ≠ some n) : pulseOn x c y n = y :=
  if_neg fun ⟨tinr, own⟩ => h.elim (· tinr) (· own)

/-- A supply at the end of its limit time is cut off, with PSUP_OC (R238). -/
theorem overcurrent_due (hn : n < 8) (on : (y.sup.getD n {}).on = true) (limit : 96 ≤ (y.sup.getD n {}).limTicks) :
    overcurrent x c y n = (unitEvt (.sio x) c 6, cutSupply y n) := if_pos ⟨on, limit, hn⟩

/-- The feed that was low returns (R231). -/
theorem feedReturn_low (low : y.feedLow = true) : feedReturn c y = { y with
    feedLow := false, sup := y.sup.map (fun z => { z with on := z.supon && !z.poc && decide (z.vsel ≠ 0) && c.cfg.loaded }) } := if_pos low

/-- Under the low feed every supply is off and reports PGOOD = 0 (R231). -/
theorem feedFall_off : ∀ z ∈ (feedFall y).sup, z.on = false ∧ z.pgood = false := by
  intro z hz
  obtain ⟨w, -, rfl⟩ := List.mem_map.mp hz
  exact ⟨rfl, rfl⟩

end supply

/-- Settles O18: each row is an effect on one running unit, of whose supplies it changes the one named. -/
theorem supplyCommands : Obligations.SupplyCommands := by
  unfold Obligations.SupplyCommands
  intro s x n runs inside
  have off : exec (.testPulseOff x n) s = .next (s.onSio x fun c y => (c, pulseOff x c y n)) := rfl
  have on : exec (.testPulseOn x n) s = .next (s.onSio x fun c y => (c, pulseOn x c y n)) := rfl
  have good : exec (.pgood x n) s = .next (s.onSio x fun c y => (c, putSup y n fun z => { z with pgood := z.on })) := rfl
  refine ⟨fun tinr own may => exec_onSio_own runs off (pulseOff_due tinr own may), fun h => exec_onSio_idle runs off (pulseOff_idle h),
    fun tinr own => exec_onSio_own runs on (pulseOn_due tinr own), fun h => exec_onSio_idle runs on (pulseOn_idle h),
    exec_onSio_own runs good rfl, fun hn isOn limit => ?overcurrent⟩
  case overcurrent =>
    obtain ⟨t, ht, only, after⟩ := exec_onSio (i := .psupOc x n) runs rfl
    rw [overcurrent_due hn isOn limit] at after
    refine ⟨t, ht, only, ?_⟩
    rw [after]
    exact ⟨rfl, fun k hk => updAt_getD_other _ hk _ _, updAt_getD_same inside _ _⟩

/-! ## RESTART in the lanes (R238) -/

/-- The lane with supply `p` of unit `x` noted for a restart, where it runs. -/
def Lane.notesRestart (n : Lane) (x : SioId) (p : Nat) : Lane :=
  if n.dom = .on ∧ n.state ≠ .off then { n with main := { n.main with restartSup := n.main.restartSup ++ [(x.idx, p)] } } else n

/-- A restart is noted lane by lane. -/
theorem State.restartSupply_eq (s : State) (x : SioId) (p : Nat) :
    s.restartSupply x p = allLanes.foldl (fun s l => s.setLane l ((s.lanes.get l).notesRestart x p)) s := by
  unfold State.restartSupply
  congr 1
  funext t l
  unfold Lane.notesRestart
  dsimp only
  split
  · rfl
  · simp [State.setLane]

/-- Nothing but lanes changes. -/
theorem State.restartSupply_onlyLanes (s : State) (x : SioId) (p : Nat) :
    s.restartSupply x p = { s with lanes := (s.restartSupply x p).lanes } := by
  rw [State.restartSupply_eq]
  refine List.foldlRecOn (motive := fun t : State => t = { s with lanes := t.lanes }) _ _ rfl fun t ht l _ => ?_
  rw [State.setLane, ht]

/-- Every lane that runs notes it. -/
theorem State.restartSupply_lane (s : State) (x : SioId) (p : Nat) (l : LaneId) :
    (s.restartSupply x p).lanes.get l = (s.lanes.get l).notesRestart x p := by
  obtain ⟨t, same, ended⟩ := foldl_visits (fun t : State => t.lanes.get l)
    (f := fun t k => t.setLane k ((t.lanes.get k).notesRestart x p)) (mem_allLanes l) nodup_allLanes
    (fun t k hk => by simp [Tri.get_set_other _ _ _ _ hk.symm]) s
  rw [State.restartSupply_eq, ended, ← same, State.setLane_lanes, Tri.get_set_same]

/-- Settles O19: the feed and XS are effects on one running unit, RESTART one on each lane. -/
theorem feedCrossShortAndRestart : Obligations.FeedCrossShortAndRestart := by
  unfold Obligations.FeedCrossShortAndRestart
  refine ⟨fun s x runs => ⟨?low, fun low => ?returns, fun n short quiet inside => ?xs⟩, fun s x n => ?restart⟩
  case low =>
    obtain ⟨t, ht, only, after⟩ := exec_onSio (i := .oredFeedLow x) runs rfl
    refine ⟨t, ht, only, ?_⟩
    rw [after]
    exact ⟨rfl, feedFall_off, rfl⟩
  case returns =>
    obtain ⟨t, ht, only, after⟩ := exec_onSio (i := .oredFeedReturn x) runs rfl
    rw [feedReturn_low low] at after
    refine ⟨t, ht, only, ?_⟩
    rw [after]
    exact ⟨rfl, rfl, rfl⟩
  case xs =>
    obtain ⟨t, ht, only, after⟩ := exec_onSio (i := .xsClear x n) runs rfl
    refine ⟨t, ht, only, ?_⟩
    rw [after]
    exact ⟨rfl, (updAt_getD_same inside _ _).trans (if_pos ⟨short, quiet⟩), fun k hk => updAt_getD_other _ hk _ _⟩
  case restart => exact ⟨_, rfl, s.restartSupply_onlyLanes x n, fun l => s.restartSupply_lane x n l⟩

end Sys2Proof.Machine

namespace Sys2Proof.Machine
open Sys2Proof

/-! ## A raised request line writes the rings and DMA_OVRQ only (R291, R292) -/

/-- A lane but for what a raised request line writes: its rings, and its event block with FIRST. -/
def Lane.unraised (n : Lane) : Lane :=
  { n with main := { n.main with evt := {}, dma := { n.main.dma with rings := [] } }, aon := { n.aon with first := {} } }

@[simp] theorem Lane.requestRing_unraised (l : LaneId) (line : Nat) (n : Lane) (r : Nat) : (n.requestRing l line r).unraised = n.unraised := by
  simp only [Lane.requestRing]
  (repeat' split) <;> rfl

@[simp] theorem Lane.raiseLine_unraised (n : Lane) (l : LaneId) (line : Nat) : (n.raiseLine l line).unraised = n.unraised := by
  unfold Lane.raiseLine
  split
  · exact List.foldlRecOn (motive := fun m : Lane => m.unraised = n.unraised) _ _ rfl fun m hm r _ => (Lane.requestRing_unraised l line m r).trans hm
  · rfl

/-- What the lane keeps through it. -/
theorem Lane.kept_of_unraised {m n : Lane} (h : m.unraised = n.unraised) : m.main.can = n.main.can ∧ m.main.dma.canRx = n.main.dma.canRx ∧
    m.main.net = n.main.net ∧ m.main.mem = n.main.mem ∧ m.state = n.state :=
  ⟨(congrArg (fun n : Lane => n.main.can) h :), (congrArg (fun n : Lane => n.main.dma.canRx) h :), (congrArg (fun n : Lane => n.main.net) h :),
    (congrArg (fun n : Lane => n.main.mem) h :), (congrArg Lane.state h :)⟩

/-! ## Frames on the CAN port (R276-R278, R283, R286) -/

/-- A row that takes a frame without an error on the port of a lane where a condition holds: its data stand in the receive FIFO behind those
before. -/
theorem exec_canFrame {i : Instr} {s : State} {l : LaneId} {p : Lane → Bool} {data : Bytes} {f : CanPort → Bytes → CanPort} {x : CanPort}
    (hi : exec i s = .next (s.onLane l p (fun n => n.canFrame l (some data) f))) (h : p (s.lanes.get l) = true)
    (hx : f ((s.lanes.get l).main.can.received false) data = x) :
    ∃ t, exec i s = .next t ∧ (onlyLane l s t ∧ (t.lanes.get l).main.dma.canRx = (s.lanes.get l).main.dma.canRx ++ data ∧
      (t.lanes.get l).main.net = (s.lanes.get l).main.net ∧ (t.lanes.get l).main.mem = (s.lanes.get l).main.mem ∧
      (t.lanes.get l).state = (s.lanes.get l).state) ∧ (t.lanes.get l).main.can = x := by
  obtain ⟨can, canRx, kept⟩ := Lane.kept_of_unraised (((((s.lanes.get l).onCan fun c => f (c.received false) data).onDma
    fun d => { d with canRx := d.canRx ++ data }).raiseLine_unraised l 64))
  refine ⟨_, exec_acts hi h rfl, ⟨onlyLane_setLane _ _ _, ?_⟩, ?_⟩ <;> rw [State.setLane_lanes, Tri.get_set_same]
  · exact ⟨canRx, kept⟩
  · exact can.trans hx

/-- A port that runs in one mode runs in no other (R276). -/
theorem Lane.canRuns_mode {n : Lane} {l : LaneId} {m : Nat} (h : n.canRuns l m = true) : n.canMode l = m := by
  simp only [Lane.canRuns, Bool.and_eq_true, decide_eq_true_eq] at h
  exact h.1.2

theorem Lane.canRuns_other {n : Lane} {l : LaneId} {m k : Nat} (h : n.canRuns l m = true) (hk : m ≠ k) : n.canRuns l k = false := by
  simp [Lane.canRuns, Lane.canRuns_mode h, hk]

/-- Lane C has no CAN port (R276). -/
theorem Lane.canMode_c (n : Lane) : n.canMode .c = 0 := by simp [Lane.canMode, Lane.canSet]

/-! ## Bus-off (R276, R365) -/

theorem evtDefault_busOff {l : LaneId} (h : l ≠ .c) : (evtDefault (laneKind l) 136).isSome = true := by
  cases l with
  | a => rfl
  | b => rfl
  | c => exact absurd rfl h

/-- A row that takes the port of a lane A or B into bus-off. -/
theorem exec_busOff {i : Instr} {s : State} {l : LaneId} (hl : l ≠ .c)
    (hi : exec i s = .next (s.setLane l ((s.lanes.get l).busOff l))) :
    ∃ t, exec i s = .next t ∧ onlyLane l s t ∧ (t.lanes.get l).main.can = { (s.lanes.get l).main.can with
        busoff := true, offTicks := 0, tec := 255, errpass := true, busoffn := satAdd 16 (s.lanes.get l).main.can.busoffn 1 } ∧
      (t.lanes.get l).main.evt.status.testBit 136 = true ∧ (t.lanes.get l).main.net = (s.lanes.get l).main.net := by
  refine ⟨_, hi, onlyLane_setLane _ _ _, ?_⟩
  rw [State.setLane_lanes, Tri.get_set_same]
  exact ⟨rfl, Lane.event_status_set _ _ _ (evtDefault_busOff hl), rfl⟩

/-! ## A lost address (R277) -/

/-- The addresses a port may take anew. -/
theorem mem_freeAddresses {taken : List Nat} {a : Nat} :
    a ∈ ((List.range 120).map (fun k => 128 + k)).filter (fun a => !taken.contains a) ↔ 128 ≤ a ∧ a ≤ 247 ∧ a ∉ taken := by
  simp only [List.mem_filter, List.mem_map, List.mem_range, List.contains_eq_mem, Bool.not_eq_eq_eq_not, Bool.not_true, decide_eq_false_iff_not]
  constructor
  · rintro ⟨⟨k, hk, rfl⟩, h⟩; exact ⟨by omega, by omega, h⟩
  · rintro ⟨h1, h2, h⟩; exact ⟨⟨a - 128, by omega, by omega⟩, h⟩

theorem freeAddress_found {taken : List Nat} (draw : Nat) (h : ∃ a, 128 ≤ a ∧ a ≤ 247 ∧ a ∉ taken) :
    ∃ a, freeAddress taken draw = some a ∧ 128 ≤ a ∧ a ≤ 247 ∧ a ∉ taken := by
  obtain ⟨b, hb⟩ := h
  have some_free := List.length_pos_of_mem (mem_freeAddresses.mpr hb)
  exact ⟨_, List.getElem?_eq_getElem (Nat.mod_lt draw some_free), mem_freeAddresses.mp (List.getElem_mem _)⟩

theorem freeAddress_none {taken : List Nat} (draw : Nat) (h : ∀ a, 128 ≤ a → a ≤ 247 → a ∈ taken) : freeAddress taken draw = none := by
  have nothing : ((List.range 120).map (fun k => 128 + k)).filter (fun a => !taken.contains a) = [] :=
    List.eq_nil_iff_forall_not_mem.mpr fun a ha => by
      obtain ⟨h1, h2, h3⟩ := mem_freeAddresses.mp ha
      exact h3 (h a h1 h2)
  simp only [freeAddress, nothing, List.getElem?_nil]

/-- The port of a lane once it has answered the claim that takes its address. -/
def CanPort.claimLost (c : CanPort) : CanPort :=
  { (c.received false).transmitted false with addr := 0xFE, claimed := false, sent := 2, taken := c.addr :: c.taken }

/-- The port of a lane whose NAME is arbitrary-address capable, by the address found free. -/
def CanPort.redrawn (c : CanPort) : Option Nat → CanPort
  | some a => { c.claimLost with addr := a, claimed := true, sent := 1 }
  | none => c.claimLost

section claimLost
variable {s : State} {l : LaneId} (runs : (s.lanes.get l).canRuns l 1 = true) (claimed : (s.lanes.get l).main.can.claimed = true)
include runs claimed

/-- A NAME that is not arbitrary-address capable loses its address for good. -/
theorem execAddressClaimLost_fixed (fixed : ((s.lanes.get l).canName l).testBit 63 = false) :
    exec (.addressClaimLost l) s = .next (s.setLane l ((s.lanes.get l).onCan CanPort.claimLost)) := by
  simp only [exec, execAddressClaimLost, runs, claimed, fixed, and_self, if_true, Bool.false_eq_true, if_false]
  rfl

/-- Any other draws for a free address. -/
theorem execAddressClaimLost_draws (arbitrary : ((s.lanes.get l).canName l).testBit 63 = true) :
    exec (.addressClaimLost l) s = .next (s.draw.2.setLane l ((s.lanes.get l).onCan fun _ => (s.lanes.get l).main.can.redrawn
      (freeAddress ((s.lanes.get l).main.can.addr :: (s.lanes.get l).main.can.taken) s.draw.1.toNat))) := by
  simp only [exec, execAddressClaimLost, runs, claimed, arbitrary, and_self, if_true]
  split <;> rename_i drawn <;> exact congrArg (fun o => Host.Outcome.next (s.draw.2.setLane l ((s.lanes.get l).onCan fun _ =>
    (s.lanes.get l).main.can.redrawn o))) (Eq.symm drawn)

end claimLost

/-- Settles O53: each row of the CAN port in the mode in which it acts; the addresses a lost claim may draw are those no node holds. -/
theorem canPortEvents : Obligations.CanPortEvents := by
  unfold Obligations.CanPortEvents
  intro s l
  refine ⟨fun runs => ⟨fun sa data => ⟨exec_canFrame rfl runs rfl, exec_acts rfl runs rfl⟩, exec_acts rfl runs rfl, fun h => exec_acts rfl runs ?error,
    fun h => exec_busOff ?proc (exec_acts rfl runs ?full), fun h => exec_acts rfl runs ?silent, fun h => exec_acts rfl runs ?answers,
    exec_acts rfl runs rfl, execAddressClaimLost_fixed runs, fun claimed arbitrary free => ?redrawn, fun claimed arbitrary none => ?gone,
    fun ident data multi => ?counted, fun ident data single => exec_idle rfl ?other⟩,
    fun runs => ⟨fun ident data => ?fd, fun sa data => exec_idle rfl (Lane.canRuns_other runs (by decide))⟩,
    fun proc awake mode => exec_busOff proc (exec_acts rfl ?port rfl)⟩
  case error => exact (if_neg (not_not_intro rfl)).trans (if_neg (Nat.not_lt.mpr h))
  case proc => rintro rfl; simpa [Lane.canMode_c] using Lane.canRuns_mode runs
  case full => exact (if_neg (not_not_intro rfl)).trans (if_pos h)
  case silent => exact (congrArg (fun c : CanPort => (s.lanes.get l).onCan fun _ => c) (if_pos h) :)
  case answers => exact (congrArg (fun c : CanPort => (s.lanes.get l).onCan fun _ => c) (if_neg h) :)
  case redrawn =>
    obtain ⟨a, drawn, low, high, fresh⟩ := freeAddress_found (taken := (s.lanes.get l).main.can.addr :: (s.lanes.get l).main.can.taken)
      s.draw.1.toNat (by simpa using free)
    rw [List.mem_cons, not_or] at fresh
    refine ⟨_, a, execAddressClaimLost_draws runs claimed arbitrary, low, high, fresh.1, fresh.2, ?_⟩
    rw [drawn]
    rfl
  case gone =>
    have nothing := freeAddress_none (taken := (s.lanes.get l).main.can.addr :: (s.lanes.get l).main.can.taken) s.draw.1.toNat
      (by simpa using none)
    rw [execAddressClaimLost_draws runs claimed arbitrary, nothing]
    rfl
  case counted =>
    have counts : ((s.lanes.get l).canRuns l 2 || (s.lanes.get l).canRuns l 1 && multiPacket ident) = true := by simp [runs, multi]
    exact ⟨exec_canFrame rfl counts rfl, exec_acts rfl counts rfl⟩
  case other => simp [Lane.canRuns_other runs, single]
  case fd =>
    have counts : ((s.lanes.get l).canRuns l 2 || (s.lanes.get l).canRuns l 1 && multiPacket ident) = true := by simp [runs]
    exact ⟨exec_canFrame rfl counts rfl, exec_acts rfl counts rfl⟩
  case port => simp [awake, mode, procLane, proc]

end Sys2Proof.Machine

namespace Sys2Proof.Machine
open Sys2Proof

/-! ## What a lane puts on its plane (R249-R251, R258) -/

/-- What the frames of a lane are formed with: its canvas, its round and its key epoch. -/
def Lane.onAir (n : Lane) : Canvas × Nat × Nat := (n.main.canvas, n.main.time.round, n.main.net.epoch)

theorem frameSent_of_onAir {m n : Lane} (h : m.onAir = n.onAir) (l : LaneId) (e : SlotDef) (flags dest : Nat) (pay : Bytes)
    (key : Option (BitVec 128)) : frameSent m l e flags dest pay key = frameSent n l e flags dest pay key := by
  simp only [Lane.onAir, Prod.mk.injEq] at h
  obtain ⟨canvas, round, epoch⟩ := h
  simp only [frameSent, canvas, round, epoch]

/-- From `n` to `m` lane `l` has sent nothing, or last a frame of its own; what it forms frames with stands. -/
def Lane.Sends (l : LaneId) (n m : Lane) : Prop :=
  m.onAir = n.onAir ∧ (m.main.net.sent = n.main.net.sent ∨ ∃ e flags dest pay key, m.main.net.sent = frameSent n l e flags dest pay key)

section sends
variable {l : LaneId} {n m o : Lane}

theorem Lane.Sends.silent (air : m.onAir = n.onAir) (same : m.main.net.sent = n.main.net.sent) : Sends l n m := ⟨air, .inl same⟩

theorem Lane.Sends.refl (n : Lane) : Sends l n n := .silent rfl rfl

theorem Lane.Sends.trans (h : Sends l n m) (g : Sends l m o) : Sends l n o := by
  refine ⟨g.1.trans h.1, ?_⟩
  rcases g.2 with same | ⟨e, flags, dest, pay, key, frame⟩
  · rw [same]; exact h.2
  · exact .inr ⟨e, flags, dest, pay, key, frame.trans (frameSent_of_onAir h.1 ..)⟩

theorem Lane.depart_sends (n : Lane) (flags dest : Nat) (e : SlotDef) (pay : Bytes) (key : Option (BitVec 128)) :
    Sends l n (n.depart l flags e.slot dest pay key) := ⟨rfl, .inr ⟨e, flags, dest, pay, key, rfl⟩⟩

/-- A change of the network state that sends nothing. -/
theorem Lane.onNet_sends {f : Net → Net} (epoch : (f n.main.net).epoch = n.main.net.epoch) (sent : (f n.main.net).sent = n.main.net.sent) :
    Sends l n (n.onNet f) := .silent (by simp [onAir, epoch]) sent

/-- A failed check sends nothing. -/
theorem Lane.sends_of_unchecked (h : m.unchecked = n.unchecked) : Sends l n m := by
  have main := Lane.main_of_unchecked h
  exact .silent (by rw [onAir, onAir, main]) (by rw [main])

theorem Lane.sendNull_sends (n : Lane) (e : SlotDef) (key : BitVec 128) : Sends l n (n.sendNull l e key) :=
  (n.depart_sends 1 e.peer e [] (some key)).trans (onNet_sends rfl rfl)

theorem Lane.lateMirror_sends (n : Lane) (e : SlotDef) : Sends l n (n.lateMirror l e) := by
  unfold lateMirror
  split
  · exact (sends_of_unchecked (mismatch_unchecked _ _ _ _ _ _)).trans (onNet_sends rfl rfl)
  · exact .refl n

theorem Lane.sendData_sends (n : Lane) (e : SlotDef) : Sends l n (n.sendData l e) := by
  unfold sendData
  dsimp only
  have late := n.lateMirror_sends (l := l) e
  split
  · exact late
  · split
    · exact late.trans (sendNull_sends _ e _)
    · next k _ _ d _ =>
      have sent := late.trans (depart_sends _ 0 e.peer e d (some k))
      split
      · exact sent.trans (onNet_sends rfl rfl)
      · exact sent

theorem Lane.sendBeacon_sends (n : Lane) (e : SlotDef) : Sends l n (n.sendBeacon l e) := by
  unfold sendBeacon
  dsimp only
  split
  · exact .refl n
  · split
    · exact n.depart_sends 2 4095 e _ _
    · split
      · exact n.depart_sends 2 4095 e _ _
      · exact .refl n

/-- The payload folded into the executive's signature (R310). -/
theorem Lane.foldPayload_sends (n : Lane) (b : Bytes) : Sends l n (n.foldPayload l b) := by
  unfold foldPayload
  split
  · exact .silent rfl rfl
  · exact .refl n

theorem Lane.echoSent_sends (n : Lane) (p : Nat) : Sends l n (echoSent l n p) := by
  simp only [echoSent]
  split
  · exact onNet_sends rfl rfl
  · exact .refl n

/-- A STATUS frame, and the partners of its medium that it lists. -/
theorem Lane.statusSent_sends (n : Lane) (e : SlotDef) (b : Bytes) (key : Option (BitVec 128)) (ps : List Nat) :
    Sends l n (ps.foldl (echoSent l) ((n.foldPayload l b).depart l 0 e.slot e.peer b key)) :=
  List.foldlRecOn (motive := Sends l n) ps _ ((n.foldPayload_sends b).trans (depart_sends _ 0 e.peer e b key))
    fun m hm p _ => hm.trans (m.echoSent_sends p)

theorem Lane.sendStatus_sends (n : Lane) (e : SlotDef) : Sends l n (n.sendStatus l e) := by
  unfold sendStatus
  dsimp only
  split
  · exact .refl n
  · split
    · exact (n.statusSent_sends e _ _ _).trans (onNet_sends rfl rfl)
    · exact n.statusSent_sends e _ _ _

theorem Lane.sendReply_sends (n : Lane) (e : SlotDef) : Sends l n (n.sendReply l e) := by
  unfold sendReply
  split
  · exact .refl n
  · split
    · exact n.sendNull_sends e _
    · exact (n.depart_sends 8 e.peer e _ _).trans (.silent rfl rfl)

/-- A JOIN frame, and what becomes of its exchange. -/
theorem Lane.joinSent_sends (n : Lane) (e : SlotDef) (pay : Bytes) (j : Option Join) :
    Sends l n ((n.depart l 4 e.slot e.peer pay none).putJoin e.peer j) := (n.depart_sends 4 e.peer e pay none).trans (onNet_sends rfl rfl)

end sends

/-- The key of a partner handed to a lane sends nothing (R350). -/
theorem State.handKey_sends (s : State) (l : LaneId) (plane peer : Nat) (k : BitVec 128) (epoch joinAt : Nat) :
    Lane.Sends l (s.lanes.get l) ((s.handKey plane peer k epoch joinAt).lanes.get l) := by
  simp only [State.handKey, Tri.get_map]
  split
  · exact Lane.onNet_sends rfl rfl
  · exact .refl _

/-- A JOIN frame is one of the lane's own (R347). -/
theorem State.sendJoin_sends (s : State) (l : LaneId) (e : SlotDef) (j : Join) (msg next : Nat) :
    Lane.Sends l (s.lanes.get l) ((s.sendJoin l e j msg next).lanes.get l) := by
  have joined : ∀ pay x, Lane.Sends l (s.lanes.get l)
      ((s.setLane l (((s.lanes.get l).depart l 4 e.slot e.peer pay none).putJoin e.peer x)).lanes.get l) := fun pay x => by
    simpa using (s.lanes.get l).joinSent_sends e pay x
  unfold State.sendJoin
  dsimp only
  split
  · exact .refl _
  · split
    · exact .refl _
    · split
      · exact joined _ _
      · split
        · split
          · exact (joined _ none).trans (State.handKey_sends ..)
          · exact joined _ none
        · exact joined _ _

/-- Every slot of a lane sends frames of its own. -/
theorem State.transmit_sends (s : State) (l : LaneId) (e : SlotDef) : Lane.Sends l (s.lanes.get l) ((s.transmit l e).lanes.get l) := by
  unfold State.transmit
  dsimp only
  split
  · split
    · exact s.sendJoin_sends l e _ _ _
    · split
      · simpa using (s.lanes.get l).sendReply_sends e
      · simpa using (s.lanes.get l).sendData_sends e
  · rw [State.setLane_lanes, Tri.get_set_same]
    split
    · exact Lane.sendBeacon_sends _ e
    · split
      · exact Lane.sendStatus_sends _ e
      · split
        · exact Lane.sendReply_sends _ e
        · exact Lane.sendData_sends _ e

/-- A lane whose last frame is not kept any more: as a slot begins. -/
def Lane.unsent (n : Lane) : Lane := n.onNet (fun m => { m with sent := none })

/-- SLOT_TRANSMIT of a lane that may transmit (R258): the frame that stands as sent is one of the lane's own. -/
theorem execSlotTransmit_forms {s t : State} {l : LaneId} {slot : Nat} {depart : Int} {fr : Nat × Nat × Bytes}
    (opened : (s.lanes.get l).transmits = true)
    (entry : ∃ e ∈ (s.lanes.get l).main.canvas.slots, e.tx = true ∧ e.plane = l.idx ∧ e.slot = slot)
    (ran : exec (.slotTransmit l slot depart) s = .next t) (sent : (t.lanes.get l).main.net.sent = some fr) :
    ∃ e flags dest pay key, some fr = frameSent (s.lanes.get l) l e flags dest pay key := by
  obtain ⟨e, found⟩ : ∃ e, (s.lanes.get l).main.canvas.slots.find? (fun e => e.tx && e.plane = l.idx && e.slot = slot) = some e := by
    obtain ⟨e, mem, tx, plane, number⟩ := entry
    exact Option.isSome_iff_exists.mp (List.find?_isSome.mpr ⟨e, mem, by simp [tx, plane, number]⟩)
  have sends := (s.setLane l (s.lanes.get l).unsent).transmit_sends l e
  rw [State.setLane_lanes, Tri.get_set_same] at sends
  simp only [exec, execSlotTransmit, found, opened, if_true, Host.Outcome.next.injEq] at ran
  have kept : ((s.setLane l (s.lanes.get l).unsent).transmit l e).lanes.get l = t.lanes.get l := by
    revert ran
    split
    · next cut =>
      split
      · rintro rfl; simp [Lane.guardCut, Lane.onNet, Lane.onMain, Lane.event] at sent
      · rintro rfl; rfl
    · rintro rfl; rfl
  rcases kept ▸ sends.2 with none_sent | ⟨e, flags, dest, pay, key, frame⟩
  · cases sent.symm.trans none_sent
  · exact ⟨e, flags, dest, pay, key, sent.symm.trans frame⟩

/-! ## Addresses (R249) -/

theorem leNat_leBytes (n v : Nat) : leNat (leBytes n v) = v % 256 ^ n := by
  induction n generalizing v with
  | zero => simp [leBytes, leNat, Nat.mod_one]
  | succ n ih =>
    have split : v % 256 ^ (n + 1) = v % 256 + 256 * (v / 256 % 256 ^ n) := by rw [Nat.pow_succ', Nat.mod_mul]
    rw [leBytes, leNat, ih, split, BitVec.toNat_ofNat]

/-- Most significant byte first, a number reads back in its width. -/
theorem beNat_beBytes (n v : Nat) : beNat (beBytes n v) = v % 256 ^ n := by
  have folded : ∀ bs : Bytes, beNat bs.reverse = leNat bs := fun bs => by
    induction bs with
    | nil => rfl
    | cons b bs ih => rw [leNat, ← ih]; simp [beNat, Nat.add_comm]
  rw [beBytes, folded, leNat_leBytes]

/-- The source of a frame is the sender's address of its plane. -/
theorem frameOf_source (etype dest : Nat) (header payload : Bytes) (key : Option (BitVec 128)) (l : LaneId) {sender : Nat} (h : sender < 4096) :
    beNat (slice (frameOf etype l.idx sender dest header payload key) 6 6) = macOf l.idx sender := by
  have fits : macOf l.idx sender < 256 ^ 6 := by
    cases l <;> simp only [macOf, LaneId.idx] <;> omega
  have six : ∀ v, (beBytes 6 v).length = 6 := fun v => by rw [beBytes, List.length_reverse, leBytes_length]
  simp only [slice, frameOf, List.append_assoc]
  rw [List.drop_left' (six _), List.take_left' (six _), beNat_beBytes, Nat.mod_eq_of_lt fits]

/-- A frame addressed to neither the lane nor the group of the plane of arrival is not sound (R249, R254). -/
theorem Lane.frameSound_elsewhere {n : Lane} {f : RxFrame} (own : frDest f.bytes ≠ macOf f.plane.idx n.main.canvas.net.self)
    (group : frDest f.bytes ≠ groupMac f.plane.idx) : n.frameSound f = false := by simp [Lane.frameSound, own, group]

/-- An unsound frame, whatever its FLAGS, is counted BAD and nothing else (step 2 of R254). -/
theorem State.frameIn_unsound {s : State} {l : LaneId} {f : RxFrame} (h : (s.lanes.get l).frameSound f = false) :
    s.frameIn l f = s.setLane l (s.lanes.get l).countBad := by
  unfold State.frameIn State.beacon State.joinFrame
  simp only [h, Bool.false_eq_true, not_false_eq_true, true_or, if_true, ite_self]

/-- Settles O60: every frame that stands as sent is formed with the lane's own address as its source, and one addressed elsewhere is not sound. -/
theorem nodeAddresses : Obligations.NodeAddresses := by
  unfold Obligations.NodeAddresses
  refine ⟨fun _ _ => ⟨rfl, rfl⟩, fun s t l slot depart k fl b opened entry self ran sent => ?source,
    fun s l f medium receives own group => ?plane, fun s l f medium awake live own group => ?port⟩
  case source =>
    obtain ⟨e, flags, dest, pay, key, frame⟩ := execSlotTransmit_forms opened entry ran sent
    simp only [frameSent, Option.some.injEq, Prod.mk.injEq] at frame
    obtain ⟨-, -, rfl⟩ := frame
    exact frameOf_source _ _ _ _ _ l self
  case plane =>
    simp only [exec, execFrameReceive, medium, if_false, receives, if_true]
    exact congrArg _ (State.frameIn_unsound (Lane.frameSound_elsewhere own group))
  case port =>
    simp only [exec, execFrameReceive, medium, awake, live, and_self, if_true]
    unfold State.portFrame
    simp only [own, group, or_self, decide_false, Bool.and_false, Bool.false_and, Bool.false_eq_true, not_false_eq_true, if_true]
    rfl

end Sys2Proof.Machine

namespace Sys2Proof.Machine
open Sys2Proof

/-! ## A slot departs and the guardian's gate (R258, R259, R281) -/

/-- What a slot of a lane sends by its kind, where no exchange has a frame to send in it (R258). -/
def Lane.sendSlot (n : Lane) (l : LaneId) (e : SlotDef) : Lane :=
  if e.kind = 3 then n.sendBeacon l e else if e.kind = 4 then n.sendStatus l e else if e.kind = 6 then n.sendReply l e else n.sendData l e

theorem Lane.sendSlot_beacon {e : SlotDef} (k3 : e.kind = 3) (n : Lane) (l : LaneId) : n.sendSlot l e = n.sendBeacon l e := if_pos k3
theorem Lane.sendSlot_status {e : SlotDef} (k4 : e.kind = 4) (n : Lane) (l : LaneId) : n.sendSlot l e = n.sendStatus l e := by
  simp [sendSlot, k4]
theorem Lane.sendSlot_reply {e : SlotDef} (k6 : e.kind = 6) (n : Lane) (l : LaneId) : n.sendSlot l e = n.sendReply l e := by
  simp [sendSlot, k6]
theorem Lane.sendSlot_data {e : SlotDef} (k3 : e.kind ≠ 3) (k4 : e.kind ≠ 4) (k6 : e.kind ≠ 6) (n : Lane) (l : LaneId) :
    n.sendSlot l e = n.sendData l e := by simp [sendSlot, k3, k4, k6]

theorem State.transmit_alone {s : State} {l : LaneId} {e : SlotDef} (alone : (s.lanes.get l).join e.peer = none) :
    s.transmit l e = s.setLane l ((s.lanes.get l).sendSlot l e) := by
  simp only [State.transmit, alone, Option.bind_none, Lane.sendSlot]

/-- The guardian judges by its own copy of the transmit table. -/
theorem Net.cutAt_of_gate {m k : Net} (h : m.gate = k.gate) : m.cutAt = k.cutAt := by
  funext plane medium len t
  unfold Net.cutAt Net.gates
  rw [h]

/-- A lane closed to its plane sends nothing (R246, R258, R259). -/
theorem execSlotTransmit_closed {s : State} {l : LaneId} {slot : Nat} {x : Int} (closed : (s.lanes.get l).transmits = false) :
    exec (.slotTransmit l slot x) s = .next s := by
  simp only [exec, execSlotTransmit, closed, Bool.false_eq_true, if_false]
  split <;> rfl

section slot
variable {s : State} {l : LaneId} {slot flags dest : Nat} {e : SlotDef} {pay : Bytes} {key : Option (BitVec 128)} {m : Lane} {x : Int}
  (found : (s.lanes.get l).main.canvas.slots.find? (fun e => e.tx && e.plane = l.idx && e.slot = slot) = some e)
  (opened : (s.lanes.get l).transmits = true) (alone : (s.lanes.get l).join e.peer = none)
  (sends : (s.lanes.get l).unsent.sendSlot l e = m) (sent : m.main.net.sent = frameSent (s.lanes.get l) l e flags dest pay key)
  (gate : m.main.net.gate = (s.lanes.get l).main.net.gate)
include found opened alone sends sent gate

theorem execSlotTransmit_gated : exec (.slotTransmit l slot x) s = .next (s.setLane l
    (if gateOpen (s.lanes.get l) l e (frameSent (s.lanes.get l) l e flags dest pay key) x = false ∧
        ¬ (flags = 1 ∧ (s.lanes.get l).latePayload l e = true) then m.guardCut l else m)) := by
  have departed : (s.setLane l (s.lanes.get l).unsent).transmit l e = s.setLane l m := by
    have own : (s.setLane l (s.lanes.get l).unsent).lanes.get l = (s.lanes.get l).unsent := Tri.get_set_same _ _ _
    rw [State.transmit_alone (by rw [own]; exact alone), own, sends, State.setLane_setLane]
  rw [frameSent] at sent ⊢
  simp only [exec, execSlotTransmit, found, opened, if_true]
  rw [show s.setLane l ((s.lanes.get l).onNet fun m => { m with sent := none }) = s.setLane l (s.lanes.get l).unsent from rfl, departed]
  simp only [State.setLane_lanes, Tri.get_set_same, sent, Net.cutAt_of_gate gate, gateOpen, Bool.not_eq_false', State.setLane_setLane]
  split <;> rfl

/-- A frame whose gate is open, or that the guardian lets be as the null frame of a late payload. -/
theorem execSlotTransmit_passes (passes : gateOpen (s.lanes.get l) l e (frameSent (s.lanes.get l) l e flags dest pay key) x = true ∨
    flags = 1 ∧ (s.lanes.get l).latePayload l e = true) : exec (.slotTransmit l slot x) s = .next (s.setLane l m) := by
  rw [execSlotTransmit_gated found opened alone sends sent gate, if_neg]
  rintro ⟨shut, whole⟩
  exact passes.elim (fun h => by simp [shut] at h) whole

/-- Any other that meets a closed gate is cut. -/
theorem execSlotTransmit_cut (plain : flags ≠ 1)
    (shut : ¬ gateOpen (s.lanes.get l) l e (frameSent (s.lanes.get l) l e flags dest pay key) x = true) :
    exec (.slotTransmit l slot x) s = .next (s.setLane l (m.guardCut l)) := by
  rw [execSlotTransmit_gated found opened alone sends sent gate, if_pos ⟨by simpa using shut, fun h => plain h.1⟩]

end slot

/-! ## What each kind of slot sends (R258, R262, R296, R312, R313, R389, R408) -/

/-- The mirror copy of an actuation slot's payload is late or differs (R312, R313). -/
def Lane.mirrorLate (n : Lane) (l : LaneId) (e : SlotDef) : Prop :=
  l ≠ .c ∧ e.kind = 2 ∧ (e.slot ∈ n.main.check.lateSlots ∨ n.slotMatches l [] e.slot = false)

section data
variable {n : Lane} {l : LaneId} {e : SlotDef} {k : BitVec 128} {d : Bytes}

/-- Where nothing is released, or the mirror copy stands, nothing is withheld. -/
theorem Lane.lateMirror_idle (h : n.nullSlot e = true ∨ n.released l e = none ∨ ¬ n.mirrorLate l e) : n.lateMirror l e = n := by
  refine if_neg ?_
  rintro ⟨proc, kind, late, open', payload⟩
  rcases h with h | h | h
  · exact open' h
  · simp [h] at payload
  · refine h ⟨by simpa [procLane] using proc, kind, ?_⟩
    simpa using late

theorem Lane.sendNull_gate (n : Lane) (l : LaneId) (e : SlotDef) (k : BitVec 128) : (n.sendNull l e k).main.net.gate = n.main.net.gate := rfl

/-- A null frame goes out, and is counted, where the slot may carry none or nothing is released (R258). -/
theorem Lane.sendData_null (key : n.txKey l e = some k) (h : n.nullSlot e = true ∨ n.released l e = none) :
    n.sendData l e = n.sendNull l e k := by
  have nothing : (if n.nullSlot e = true then none else n.released l e) = none := by
    rcases h with h | h <;> simp [h]
  unfold Lane.sendData
  rw [Lane.lateMirror_idle (h.imp_right .inl)]
  simp only [key, nothing]

/-- The payload released goes out; an actuation payload is kept for step 4 of R389. -/
theorem Lane.sendData_payload (key : n.txKey l e = some k) (free : n.nullSlot e = false) (payload : n.released l e = some d)
    (timely : ¬ n.mirrorLate l e) : (n.sendData l e).main = { n.main with net := { n.main.net with
      sent := frameSent n l e 0 e.peer d (some k), lastAct := (n.sendData l e).main.net.lastAct } } := by
  unfold Lane.sendData
  rw [Lane.lateMirror_idle (.inr (.inr timely))]
  simp only [key, free, payload, Bool.false_eq_true, if_false]
  split <;> rfl

/-- A lane that withholds the payload of a slot which the mirror did not confirm, with MIRROR_MISMATCH (R296, R313). -/
def Lane.withholds (n : Lane) (l : LaneId) (e : SlotDef) : Lane :=
  (n.mismatch l 2 l.idx e.slot (n.main.canvas.outputCore l (4096 + e.slot))).onNet (fun m => { m with
    tx := assocPut m.tx e.slot { (assocGet n.main.net.tx e.slot).getD ⟨[], [], false⟩ with withheld := true } })

theorem Lane.lateMirror_late (free : n.nullSlot e = false) (payload : n.released l e = some d) (late : n.mirrorLate l e) :
    n.lateMirror l e = n.withholds l e := by
  obtain ⟨proc, kind, late⟩ := late
  exact if_pos ⟨by simp [procLane, proc], kind, by simpa using late, by simp [free], by simp [payload]⟩

/-- What it sends with is as it was, and nothing is released. -/
theorem Lane.withholds_sends (n : Lane) (l : LaneId) (e : SlotDef) : (n.withholds l e).onAir = n.onAir ∧
    (n.withholds l e).main.net.gate = n.main.net.gate ∧ (n.withholds l e).txKey l e = n.txKey l e ∧ (n.withholds l e).released l e = none := by
  obtain ⟨air, -⟩ := Lane.sends_of_unchecked (l := l) (n.mismatch_unchecked l 2 l.idx e.slot (n.main.canvas.outputCore l (4096 + e.slot)))
  have net : (n.mismatch l 2 l.idx e.slot (n.main.canvas.outputCore l (4096 + e.slot))).main.net = n.main.net := by
    rw [Lane.main_of_unchecked (n.mismatch_unchecked l 2 l.idx e.slot (n.main.canvas.outputCore l (4096 + e.slot)))]
  refine ⟨air, ?_, ?_, ?_⟩
  · simp [withholds, net]
  · simp [withholds, txKey, net]
  · simp [withholds, released]

/-- The mismatch stands recorded, and the lane withdraws (R313). -/
theorem Lane.withholds_fails (n : Lane) {l : LaneId} (e : SlotDef) (proc : l ≠ .c) :
    (n.withholds l e).main.check.withdraw = true ∧ (n.withholds l e).main.evt.status.testBit 128 = true := by
  simp only [withholds, Lane.onNet_main, Lane.mismatch, Lane.failEvent_check, Lane.failEvent_evt, true_and]
  exact Lane.event_status_set _ _ _ (evtDefault_mirror proc)

/-- So a null frame goes out in its place. -/
theorem Lane.sendData_late (key : n.txKey l e = some k) (free : n.nullSlot e = false) (payload : n.released l e = some d)
    (late : n.mirrorLate l e) : n.sendData l e = (n.withholds l e).sendNull l e k := by
  obtain ⟨-, -, same, withheld⟩ := n.withholds_sends l e
  unfold Lane.sendData
  rw [Lane.lateMirror_late free payload late]
  simp only [same, key, withheld, ite_self]

/-- An SREP slot with no reply to send, or under step 1 of R389, sends a null frame. -/
theorem Lane.sendReply_null (key : n.txKey l e = some k) (h : n.main.service.replies = [] ∨ n.aon.pwr.step1 = true) :
    n.sendReply l e = n.sendNull l e k := by
  unfold Lane.sendReply
  rcases h with h | h <;> simp [key, h]

/-- Else the oldest reply for its partner (R408). -/
theorem Lane.sendReply_oldest {r : Reply} (key : n.txKey l e = some k) (full : n.aon.pwr.step1 = false)
    (oldest : n.main.service.replies.find? (fun r => r.sender = e.peer && decide (r.via ≠ .port)) = some r) :
    n.sendReply l e = (n.depart l 8 e.slot e.peer (replyBytes l r e.len) (some k)).dropReply r (replyBytes l r e.len) := by
  unfold Lane.sendReply
  simp only [key, full, oldest, Bool.false_eq_true, if_false]

/-- The echoes of a STATUS frame change neither the frame nor the count of null frames nor the guardian (R266). -/
theorem Lane.echoesSent_frame (l : LaneId) (ps : List Nat) (n : Lane) : (ps.foldl (echoSent l) n).main.net.sent = n.main.net.sent ∧
    (ps.foldl (echoSent l) n).main.net.nulls = n.main.net.nulls ∧ (ps.foldl (echoSent l) n).main.net.gate = n.main.net.gate := by
  refine List.foldlRecOn (motive := fun m : Lane => m.main.net.sent = n.main.net.sent ∧ m.main.net.nulls = n.main.net.nulls ∧
    m.main.net.gate = n.main.net.gate) ps _ ⟨rfl, rfl, rfl⟩ fun m hm p _ => ?_
  simp only [echoSent]
  split <;> exact hm

/-- A STATUS frame with these bytes, and the echoes in it sent. -/
theorem Lane.statusSent_frame (n : Lane) (l : LaneId) (e : SlotDef) (b : Bytes) (key : Option (BitVec 128)) (ps : List Nat) :
    (ps.foldl (echoSent l) ((n.foldPayload l b).depart l 0 e.slot e.peer b key)).main.net.sent = frameSent n l e 0 e.peer b key ∧
      (ps.foldl (echoSent l) ((n.foldPayload l b).depart l 0 e.slot e.peer b key)).main.net.nulls = n.main.net.nulls ∧
      (ps.foldl (echoSent l) ((n.foldPayload l b).depart l 0 e.slot e.peer b key)).main.net.gate = n.main.net.gate := by
  have kept : (n.foldPayload l b).main.net = n.main.net := by unfold foldPayload; split <;> rfl
  obtain ⟨sent, nulls, gate⟩ := echoesSent_frame l ps ((n.foldPayload l b).depart l 0 e.slot e.peer b key)
  rw [sent, nulls, gate]
  exact ⟨frameSent_of_onAir (n.foldPayload_sends (l := l) b).1 l e 0 e.peer b key, (congrArg Net.nulls kept :), (congrArg Net.gate kept :)⟩

/-- A STATUS slot sends the lane's STATUS (R261). -/
theorem Lane.sendStatus_frame (key : n.txKey l e = some k) :
    (n.sendStatus l e).main.net.sent = frameSent n l e 0 e.peer (n.statusPayload l (n.echoList l e)) (some k) ∧
      (n.sendStatus l e).main.net.nulls = n.main.net.nulls ∧ (n.sendStatus l e).main.net.gate = n.main.net.gate := by
  unfold sendStatus
  simp only [key]
  split
  · rw [Lane.onNet_main]; exact n.statusSent_frame l e _ (some k) _
  · exact n.statusSent_frame l e _ (some k) _

/-- A master's BEACON slot sends its beacon (R262, R273). -/
theorem Lane.sendBeacon_master {bk : Bytes} (held : n.main.net.bk = some bk) (master : n.main.net.role = 1) :
    n.sendBeacon l e = n.depart l 2 e.slot 4095 n.beaconPayload (some (beaconKey bk n.main.net.epoch)) := by
  unfold Lane.sendBeacon
  simp only [held, master, if_true]

end data

/-! ## A gate alone on its medium (R259) -/

/-- Every frame takes time on its medium (R250). -/
theorem wireNs_pos (plane medium len : Nat) : 0 < wireNs plane medium len := by
  have frame : 0 < wirePs plane medium len := by
    unfold wirePs
    refine Nat.mul_pos (by omega) ?_
    repeat' split
    all_goals decide
  unfold wireNs
  omega

/-- Between its edges the transmitter stays open to the later one; outside them it is closed. -/
theorem Net.cutAt_single {m : Net} {medium : Nat} {g : SlotDef} (h : m.gate.filter (fun e => e.medium = medium) = [g]) (plane len : Nat) (x : Int) :
    m.cutAt plane medium len x = decide (x < (g.start : Int) - 500 ∨
      (g.start : Int) + (wireNs plane medium g.len : Int) + 500 < x + (wireNs plane medium len : Int)) := by
  have wire := wireNs_pos plane medium len
  simp only [Net.cutAt, Net.gates, h, List.map_cons, List.map_nil, List.length_singleton, openUntil, decide_eq_decide]
  by_cases inside : (g.start : Int) - 500 ≤ x ∧ x < (g.start : Int) + (wireNs plane medium g.len : Int) + 500
  · rw [List.find?_cons_of_pos (by simpa using inside)]
    dsimp only
    omega
  · rw [List.find?_cons_of_neg (by simpa using inside)]
    dsimp only [List.find?_nil]
    omega

/-! ## What a lane about to send reads of itself does not hang on the frame it sent before -/

section unsent
variable (n : Lane) (l : LaneId) (e : SlotDef)

@[simp] theorem Lane.unsent_state : n.unsent.state = n.state := rfl
@[simp] theorem Lane.unsent_aon : n.unsent.aon = n.aon := rfl
@[simp] theorem Lane.unsent_main : n.unsent.main = { n.main with net := { n.main.net with sent := none } } := rfl
@[simp] theorem Lane.unsent_onAir : n.unsent.onAir = n.onAir := rfl
@[simp] theorem Lane.unsent_txKey : n.unsent.txKey l e = n.txKey l e := rfl
@[simp] theorem Lane.unsent_nullSlot : n.unsent.nullSlot e = n.nullSlot e := rfl
@[simp] theorem Lane.unsent_holdsAxis (axis : Nat) : n.unsent.holdsAxis axis = n.holdsAxis axis := rfl
@[simp] theorem Lane.unsent_heardUnits : n.unsent.heardUnits = n.heardUnits := rfl

@[simp] theorem Lane.unsent_released : n.unsent.released l e = n.released l e := by
  have opened : ∀ slot, n.unsent.scatterOpen l slot = n.scatterOpen l slot := fun slot => by simp only [scatterOpen, unsent_main]
  have whole : n.unsent.complete l e = n.complete l e := by simp only [complete, unsent_main, opened]
  have held : ∀ slot snks d, n.unsent.heldAct slot snks d = n.heldAct slot snks d := fun slot snks d => by
    simp only [heldAct, unsent_main, unsent_holdsAxis]; rfl
  simp only [released, unsent_main, whole, held]

theorem Lane.unsent_mirrorLate : n.unsent.mirrorLate l e ↔ n.mirrorLate l e := by
  have alike : n.unsent.slotMatches l [] e.slot = n.slotMatches l [] e.slot := by simp only [slotMatches, unsent_main]; rfl
  simp only [mirrorLate, alike, unsent_main]

@[simp] theorem Lane.unsent_echo (p : Nat) : n.unsent.echo l p = n.echo l p := by
  simp only [Lane.echo, partner, unsent_main]
@[simp] theorem Lane.unsent_statusPayload (ps : List Nat) : n.unsent.statusPayload l ps = n.statusPayload l ps := by
  simp only [statusPayload, unsent_heardUnits, unsent_echo, unsent_main, unsent_state]; rfl
@[simp] theorem Lane.unsent_echoList : n.unsent.echoList l e = n.echoList l e := by
  simp only [echoList, unsent_echo, unsent_main]; rfl

/-- A lane whose null frame in a slot is its last. -/
def Lane.nullSent (n : Lane) (l : LaneId) (e : SlotDef) (k : BitVec 128) : Lane :=
  { n with main := { n.main with net := { n.main.net with
      sent := frameSent n l e 1 e.peer [] (some k), nulls := satAdd 16 n.main.net.nulls 1 } } }

theorem Lane.unsent_sendNull (k : BitVec 128) : n.unsent.sendNull l e k = n.nullSent l e k := by
  simp only [sendNull, depart, Lane.unsent, Lane.onNet, Lane.onMain, nullSent, frameSent]

end unsent

theorem evtDefault_guardCut (l : LaneId) : (evtDefault (laneKind l) 6).isSome = true := by cases l <;> rfl

/-- A lane open to its plane is not silenced (R259). -/
theorem Lane.heard_of_transmits {n : Lane} (opened : n.transmits = true) : n.main.net.silenced = false := by
  simp only [transmits, Bool.and_eq_true, Bool.not_eq_eq_eq_not, Bool.not_true] at opened
  exact opened.2

/-- A lane open to its plane whose guardian cuts a frame: counted, GUARD_CUT raised, silenced with the eighth in 256 cycles (R259). -/
theorem Lane.guardCut_counts (n : Lane) (l : LaneId) (opened : n.main.net.silenced = false) :
    (n.guardCut l).main.net.sent = none ∧ (n.guardCut l).main.net.guard = satAdd 16 n.main.net.guard 1 ∧
      (n.guardCut l).main.evt.status.testBit 6 = true ∧ (n.guardCut l).main.net.silenced =
        decide (7 ≤ (n.main.net.cuts.filter (fun x => roundsSince x n.main.time.round < 256)).length) := by
  refine ⟨rfl, rfl, Lane.event_status_set _ _ _ (evtDefault_guardCut l), ?_⟩
  simp [guardCut, opened]

/-- Settles O52: what each kind of slot sends, let through by the guardian or cut. -/
theorem slotSends : Obligations.SlotSends := by
  unfold Obligations.SlotSends
  refine ⟨fun s l slot e => ?slot, fun m plane medium len x g alone => Net.cutAt_single alone plane len x⟩
  intro n m found ok null late
  refine ⟨fun closed x => execSlotTransmit_closed closed, fun opened alone k key => ⟨fun k3 k4 k6 => ⟨fun x nothing gate => ?nulls,
    fun d x free payload => ⟨fun behind gate => ?withheld, fun timely gate => ?payload, fun timely shut => ?cut⟩⟩, fun k6 nothing x gate => ?noReply⟩,
    fun opened alone k x key => ⟨fun r k6 full oldest gate => ?reply, fun k4 gate => ?status⟩, fun opened alone k3 master bk x held gate => ?beacon⟩
  case nulls =>
    have sends : n.unsent.sendSlot l e = n.nullSent l e k := by
      rw [Lane.sendSlot_data k3 k4 k6, Lane.sendData_null (by simpa using key) (by simpa using nothing), Lane.unsent_sendNull]
    exact execSlotTransmit_passes found opened alone sends rfl rfl (gate.imp_right fun h => ⟨rfl, h⟩)
  case noReply =>
    have sends : n.unsent.sendSlot l e = n.nullSent l e k := by
      rw [Lane.sendSlot_reply k6, Lane.sendReply_null (by simpa using key) (by simpa using nothing), Lane.unsent_sendNull]
    exact execSlotTransmit_passes found opened alone sends rfl rfl (.inl gate)
  case withheld =>
    have behind : n.unsent.mirrorLate l e := (n.unsent_mirrorLate l e).mpr behind
    obtain ⟨air, guarded, -, -⟩ := n.unsent.withholds_sends l e
    have sends := (Lane.sendSlot_data k3 k4 k6 n.unsent l).trans
      (Lane.sendData_late (by simpa using key) (by simpa using free) (by simpa using payload) behind)
    have frame : ((n.unsent.withholds l e).sendNull l e k).main.net.sent = frameSent n l e 1 e.peer [] (some k) :=
      frameSent_of_onAir (air.trans n.unsent_onAir) l e 1 e.peer [] (some k)
    obtain ⟨withdraws, raised⟩ := n.unsent.withholds_fails e behind.1
    refine ⟨_, execSlotTransmit_passes found opened alone sends frame ((Lane.sendNull_gate ..).trans guarded) (.inl gate), onlyLane_setLane _ _ _, ?_⟩
    rw [State.setLane_lanes, Tri.get_set_same]
    exact ⟨raised, frame, withdraws⟩
  case payload =>
    have main := Lane.sendData_payload (by simpa using key) (by simpa using free) (by simpa using payload) (mt (n.unsent_mirrorLate l e).mp timely)
    have frame := frameSent_of_onAir n.unsent_onAir l e 0 e.peer d (some k)
    refine ⟨_, execSlotTransmit_passes found opened alone (Lane.sendSlot_data k3 k4 k6 _ l) (by rw [main]; exact frame) (by rw [main]; rfl)
      (.inl gate), onlyLane_setLane _ _ _, ?_⟩
    rw [State.setLane_lanes, Tri.get_set_same, main]
    exact ⟨frame, rfl, rfl, rfl⟩
  case cut =>
    have main := Lane.sendData_payload (by simpa using key) (by simpa using free) (by simpa using payload) (mt (n.unsent_mirrorLate l e).mp timely)
    have frame := frameSent_of_onAir n.unsent_onAir l e 0 e.peer d (some k)
    have counts := (n.unsent.sendData l e).guardCut_counts l (by rw [main]; exact Lane.heard_of_transmits opened)
    refine ⟨_, execSlotTransmit_cut found opened alone (Lane.sendSlot_data k3 k4 k6 _ l) (by rw [main]; exact frame) (by rw [main]; rfl)
      (by decide) shut, onlyLane_setLane _ _ _, ?_⟩
    rw [State.setLane_lanes, Tri.get_set_same]
    rw [main] at counts
    exact counts
  case reply =>
    have sends := (Lane.sendSlot_reply k6 n.unsent l).trans (Lane.sendReply_oldest (by simpa using key) (by simpa using full) oldest)
    have frame := frameSent_of_onAir n.unsent_onAir l e 8 e.peer (replyBytes l r e.len) (some k)
    refine ⟨_, execSlotTransmit_passes found opened alone sends frame rfl (.inl gate), onlyLane_setLane _ _ _, ?_⟩
    rw [State.setLane_lanes, Tri.get_set_same]
    exact ⟨frame, rfl⟩
  case status =>
    obtain ⟨frame, nulls, guarded⟩ := Lane.sendStatus_frame (n := n.unsent) (l := l) (e := e) (by simpa using key)
    rw [frameSent_of_onAir n.unsent_onAir, Lane.unsent_echoList, Lane.unsent_statusPayload] at frame
    refine ⟨_, execSlotTransmit_passes found opened alone (Lane.sendSlot_status k4 _ l) frame guarded (.inl gate), onlyLane_setLane _ _ _, ?_⟩
    rw [State.setLane_lanes, Tri.get_set_same]
    exact ⟨frame, nulls⟩
  case beacon =>
    have sends := (Lane.sendSlot_beacon k3 n.unsent l).trans (Lane.sendBeacon_master held master)
    exact execSlotTransmit_passes found opened alone sends rfl rfl (.inl gate)

end Sys2Proof.Machine

namespace Sys2Proof.Machine
open Sys2Proof

/-! ## A frame of the receive table (R254, R260, R265, R266) -/

/-- What a strike against a partner leaves alone: of the network state all but the partners and the exchanges. -/
theorem Lane.strike_net (n : Lane) (l : LaneId) (plane ident : Nat) : (n.strike l plane ident).main.net =
    { n.main.net with partners := (n.strike l plane ident).main.net.partners, joins := (n.strike l plane ident).main.net.joins } := by
  simp only [Lane.strike]
  (repeat' split) <;> rfl

/-- It keeps the status bits that stand (R371). -/
theorem Lane.strike_status (n : Lane) (l : LaneId) (plane ident : Nat) {k : Nat} (h : n.main.evt.status.testBit k = true) :
    (n.strike l plane ident).main.evt.status.testBit k = true := by
  simp only [Lane.strike]
  split
  · exact h
  · split
    · exact h
    · split
      · exact Lane.event_status_kept _ _ _ h
      · exact h

/-- A late frame is counted and raises LATE_FRAME; none is accepted (R265). -/
theorem Lane.frameLate_counts (n : Lane) (l : LaneId) (plane ident : Nat) : (n.frameLate l plane ident).main.net.rx = n.main.net.rx ∧
    (n.frameLate l plane ident).main.net.late = satAdd 16 n.main.net.late 1 ∧ (n.frameLate l plane ident).main.evt.status.testBit 7 = true := by
  unfold Lane.frameLate
  refine ⟨?_, ?_, Lane.strike_status _ _ _ _ (Lane.event_status_set _ _ _ (evtDefault_lane l 7 (by decide) (by decide)))⟩ <;>
    rw [Lane.strike_net] <;> rfl

/-- A frame accepted is in the bank of the coming cycle and counted (R254, R260). -/
theorem Lane.acceptFrame_banks (n : Lane) (l : LaneId) (f : RxFrame) (dev : Int) (edge : Bool) : (n.acceptFrame l f dev edge).main.net.rx =
      n.main.net.rx ++ [⟨f.plane.idx, frSlot f.bytes, frPayload f.bytes, decide (frFlags f.bytes = 1), dev⟩] ∧
    (n.acceptFrame l f dev edge).main.net.accept = satAdd 16 n.main.net.accept 1 := by
  unfold Lane.acceptFrame
  simp only [Lane.watchSlot_net]
  split
  · rw [Lane.strike_net]; exact ⟨rfl, rfl⟩
  · exact ⟨rfl, rfl⟩

/-- FRAME_RECEIVE of a sound frame that is neither beacon nor JOIN nor the controller's own: the steps from 4 of R254 on. -/
theorem execFrameReceive_scheduled {s : State} {l : LaneId} {f : RxFrame} (medium : f.medium ≠ 9) (receives : s.receives l f = true)
    (sound : (s.lanes.get l).frameSound f = true) (data : frFlags f.bytes = 0) (far : frSender f.bytes ≠ (s.lanes.get l).main.canvas.net.self) :
    exec (.frameReceive l f) s = .next (s.setLane l ((s.lanes.get l).scheduledFrame l f)) := by
  simp [exec, execFrameReceive, State.frameIn, medium, receives, sound, data, far]

section scheduled
variable {n : Lane} (l : LaneId) {f : RxFrame} {e : SlotDef}
  (entry : n.main.canvas.rxSlot f.plane.idx f.medium (frSlot f.bytes) = some e) (sender : e.peer = frSender f.bytes)
  (dest : frPeer f.bytes = n.main.canvas.net.self ∨ frPeer f.bytes = 4095) (heard : (n.partner f.plane.idx (frSender f.bytes)).silenced = false)
include entry sender dest heard

/-- It passes steps 4 and 5: what is left is its cycle, its window, its key and its tag. -/
theorem Lane.scheduledFrame_addressed : n.scheduledFrame l f =
    if frCycle f.bytes ≠ n.main.time.round then n.countSlot
    else if (n.main.canvas.winOf e : Int) < (f.arrive - (e.start : Int)).natAbs then n.frameLate l f.plane.idx (frSender f.bytes)
    else match n.rxKey f.plane.idx f.bytes with
      | none => n.countTag
      | some k =>
        if ¬ ((n.partner f.plane.idx (frSender f.bytes)).joined ∧ tagRight k f.bytes) then n.countTag
        else if n.main.net.rx.any (fun x => x.plane = f.plane.idx && x.slot = frSlot f.bytes) then n.countSlot
        else n.acceptFrame l f (f.arrive - (e.start : Int)) (decide ((n.main.canvas.winOf e : Int) < 2 * (f.arrive - (e.start : Int)).natAbs)) := by
  have addressed : ¬ (e.peer ≠ frSender f.bytes ∨ (frPeer f.bytes ≠ n.main.canvas.net.self ∧ frPeer f.bytes ≠ 4095) ∨
      (n.partner f.plane.idx (frSender f.bytes)).silenced = true) := by
    rintro (h | ⟨h, h'⟩ | h)
    · exact h sender
    · exact dest.elim h h'
    · simp [heard] at h
  unfold Lane.scheduledFrame
  simp only [entry]
  exact if_neg addressed

/-- Of another cycle: counted SLOT. -/
theorem Lane.scheduledFrame_otherCycle (other : frCycle f.bytes ≠ n.main.time.round) : n.scheduledFrame l f = n.countSlot := by
  rw [Lane.scheduledFrame_addressed l entry sender dest heard, if_pos other]

variable (cycle : frCycle f.bytes = n.main.time.round)
include cycle

/-- Outside its window: late. -/
theorem Lane.scheduledFrame_late (outside : n.main.canvas.winOf e < (f.arrive - (e.start : Int)).natAbs) :
    n.scheduledFrame l f = n.frameLate l f.plane.idx (frSender f.bytes) := by
  rw [Lane.scheduledFrame_addressed l entry sender dest heard, if_neg (not_not_intro cycle), if_pos (by exact_mod_cast outside)]

variable (inside : (f.arrive - (e.start : Int)).natAbs ≤ n.main.canvas.winOf e)
include inside

/-- Of a partner not joined: counted TAG. -/
theorem Lane.scheduledFrame_stranger (stranger : (n.partner f.plane.idx (frSender f.bytes)).joined = false) :
    n.scheduledFrame l f = n.countTag := by
  rw [Lane.scheduledFrame_addressed l entry sender dest heard, if_neg (not_not_intro cycle), if_neg (by exact_mod_cast Nat.not_lt.mpr inside)]
  split
  · rfl
  · exact if_pos (by simp [stranger])

/-- Of a joined partner: accepted or counted TAG, by its tag. -/
theorem Lane.scheduledFrame_joined {k : BitVec 128} (joined : (n.partner f.plane.idx (frSender f.bytes)).joined = true)
    (key : n.rxKey f.plane.idx f.bytes = some (some k)) (first : ∀ x ∈ n.main.net.rx, ¬ (x.plane = f.plane.idx ∧ x.slot = frSlot f.bytes)) :
    n.scheduledFrame l f = if tagOf k (frHeader f.bytes) (frPayload f.bytes) = frTag f.bytes then
      n.acceptFrame l f (f.arrive - (e.start : Int)) (decide ((n.main.canvas.winOf e : Int) < 2 * (f.arrive - (e.start : Int)).natAbs))
    else n.countTag := by
  have fresh : n.main.net.rx.any (fun x => x.plane = f.plane.idx && x.slot = frSlot f.bytes) = false := by simpa using first
  rw [Lane.scheduledFrame_addressed l entry sender dest heard, if_neg (not_not_intro cycle), if_neg (by exact_mod_cast Nat.not_lt.mpr inside)]
  by_cases right : tagOf k (frHeader f.bytes) (frPayload f.bytes) = frTag f.bytes <;>
    simp [key, joined, tagRight, right, fresh]

end scheduled

/-! ## A beacon (R262, R268, R274) -/

/-- BEACON_RECEIVE of a beacon, by its tag. -/
theorem execBeaconReceive_tagged {s : State} {l : LaneId} {f : RxFrame} {bk : Bytes} (receives : s.receives l f = true)
    (sound : (s.lanes.get l).frameSound f = true) (beacon : frFlags f.bytes = 2) (len : frLen f.bytes = 16)
    (held : (s.lanes.get l).main.net.bk = some bk) :
    exec (.beaconReceive l f) s = .next (
      if tagOf (beaconKey bk (frKeyep f.bytes)) (frHeader f.bytes) (frPayload f.bytes) = frTag f.bytes then
        (s.setLane l ((s.lanes.get l).beaconHeard l f)).noteEpoch (frKeyep f.bytes) (((s.lanes.get l).beaconHeard l f).main.net.epoch = frKeyep f.bytes)
      else s.setLane l (s.lanes.get l).countTag) := by
  by_cases right : tagOf (beaconKey bk (frKeyep f.bytes)) (frHeader f.bytes) (frPayload f.bytes) = frTag f.bytes <;>
    simp [exec, execBeaconReceive, State.beacon, receives, sound, beacon, len, held, tagRight, right]

/-- A listening lane that does not vote follows the sender of a beacon not its own (R268, R274). -/
theorem Lane.beaconHeard_follows {n : Lane} (l : LaneId) {f : RxFrame} (listens : n.main.net.listening = true)
    (far : u16At (frPayload f.bytes) 0 % 4096 ≠ n.main.canvas.net.self) (starts : n.state ≠ .voting) :
    (n.beaconHeard l f).main.net.role = 2 ∧ (n.beaconHeard l f).main.net.master = u16At (frPayload f.bytes) 0 % 4096 ∧
      (n.beaconHeard l f).main.net.listening = false ∧ (n.beaconHeard l f).main.net.bmiss = 0 ∧
      (n.beaconHeard l f).main.net.epoch = frKeyep f.bytes := by
  have follows : n.beaconHeard l f = n.follow l f := by simp [Lane.beaconHeard, listens, far]
  rw [follows]
  unfold Lane.follow
  simp [starts]

/-- Settles O48: a frame through the steps of R254 in their order, a beacon by its tag. -/
theorem carouselReception : Obligations.CarouselReception := by
  unfold Obligations.CarouselReception
  intro s l f e medium receives sound
  refine ⟨fun data far entry sender dest heard => ?frame, fun bk beacon len held listens far starts => ?beacon⟩
  case frame =>
    have scheduled := execFrameReceive_scheduled medium receives sound data far
    refine ⟨fun other => ?_, fun cycle inside stranger => ?_, fun cycle inside joined k key first => ?_, fun cycle outside => ?_⟩
    · rw [scheduled, Lane.scheduledFrame_otherCycle l entry sender dest heard other]
    · rw [scheduled, Lane.scheduledFrame_stranger l entry sender dest heard cycle inside stranger]
    · refine ⟨_, scheduled, onlyLane_setLane _ _ _, ?_⟩
      rw [State.setLane_lanes, Tri.get_set_same, Lane.scheduledFrame_joined l entry sender dest heard cycle inside joined key first]
      split
      · simpa [data] using Lane.acceptFrame_banks (s.lanes.get l) l f _ _
      · rfl
    · refine ⟨_, scheduled, onlyLane_setLane _ _ _, ?_⟩
      rw [State.setLane_lanes, Tri.get_set_same, Lane.scheduledFrame_late l entry sender dest heard cycle outside]
      exact Lane.frameLate_counts _ l _ _
  case beacon =>
    refine ⟨_, execBeaconReceive_tagged receives sound beacon len held, ?_⟩
    split
    · simp only [State.noteEpoch_lanes, State.setLane_lanes, Tri.get_set_same]
      exact ⟨fun k hk => Tri.get_set_other _ _ _ _ hk, Lane.beaconHeard_follows l listens far starts⟩
    · simp only [State.setLane_lanes, Tri.get_set_same]
      exact ⟨fun k hk => Tri.get_set_other _ _ _ _ hk, rfl⟩

end Sys2Proof.Machine

namespace Sys2Proof.Machine
open Sys2Proof

/-! ## The exchanges of a lane (R270, R347) -/

/-- Nothing is found under a key taken out. -/
theorem assocGet_assocDel_same {α : Type} (m : List (Nat × α)) (n : Nat) : assocGet (assocDel m n) n = none := by
  induction m with
  | nil => rfl
  | cons e r ih =>
    obtain ⟨k, v⟩ := e
    by_cases h : k = n
    · simpa [assocDel, h] using ih
    · simpa [assocDel, assocGet, h] using ih

/-- Of a list with no element of a kind, the one put under a key is the only one. -/
theorem filter_assocPut {α : Type} {p : Nat × α → Bool} {m : List (Nat × α)} (h : m.filter p = []) {k : Nat} {v : α} (hp : p (k, v) = true) :
    (assocPut m k v).filter p = [(k, v)] := by
  induction m with
  | nil => simp [assocPut, hp]
  | cons e r ih =>
    simp only [List.filter_eq_nil_iff, List.mem_cons, forall_eq_or_imp] at h ih
    obtain ⟨first, rest⟩ := h
    have nothing : r.filter p = [] := List.filter_eq_nil_iff.mpr rest
    simp only [assocPut]
    split
    · simp [hp, first, nothing]
    · split
      · simp [hp, nothing]
      · rw [List.filter_cons_of_neg first, ih rest]

section join
variable (n : Lane) (l : LaneId) (peer : Nat) (j : Join)

@[simp] theorem Lane.putJoin_some_join : (n.putJoin peer (some j)).join peer = some j := by simp [Lane.putJoin, Lane.join]
@[simp] theorem Lane.putJoin_none_join : (n.putJoin peer none).join peer = none := by simp [Lane.putJoin, Lane.join, assocGet_assocDel_same]
@[simp] theorem Lane.event_join (k p : Nat) : (n.event l k).join p = n.join p := rfl

/-- An exchange abandoned is gone. -/
@[simp] theorem Lane.abandon_join (auth : Bool) : (n.abandon l peer auth).join peer = none := by
  unfold Lane.abandon
  dsimp only
  split <;> exact n.putJoin_none_join peer

/-- Where its authentication failed, JOIN_AUTH stands and MSG1 is taken again after 16 cycles (R348). -/
theorem Lane.abandon_auth : (n.abandon l peer true).main.evt.status.testBit 13 = true ∧
    ((n.abandon l peer true).partner l.idx peer).retryAt = (n.main.time.round + 16) % 16777216 := by
  refine ⟨Lane.event_status_set _ l 13 (evtDefault_lane l 13 (by decide) (by decide)), ?_⟩
  exact congrArg Partner.retryAt (Lane.partner_of_net (n := n.putJoin peer none) (plane := l.idx) (ident := peer) rfl)

/-- An exchange put or dropped leaves every lane awake, or not. -/
theorem State.putJoin_awake (s : State) (l x : LaneId) (peer : Nat) (j : Option Join) :
    ((s.setLane l ((s.lanes.get l).putJoin peer j)).lanes.get x).awake = (s.lanes.get x).awake := by
  by_cases hx : x = l
  · subst hx; rw [State.setLane_lanes, Tri.get_set_same]; rfl
  · rw [State.setLane_lanes, Tri.get_set_other _ _ _ _ hx]

end join

/-! ## The Polvin core's turn (R272, log entry 97) -/

/-- An exchange for which MSG2 is prepared: the message, T3 and Z (R347). -/
def Join.prepared (j : Join) (x : Bytes × Bytes × BitVec 256) : Join :=
  { j with stage := 2, got := [], out := x.1, msg1 := j.got, t := x.2.1, z := x.2.2 }

section serve
variable {s : State} {l : LaneId} {peer : Nat} {j : Join}

/-- While the core prepares another MSG2 no exchange is served. -/
theorem State.serveJoin_busy (busy : s.polvin.joinGap ≠ 0) : s.serveJoin = s := by
  unfold State.serveJoin
  split
  · split
    · simp [busy]
    · rfl
  · rfl

/-- A free core prepares MSG2 of the exchange next in turn, by two values drawn (log entry 3). -/
theorem State.serveJoin_serves (next : s.nextJoin = some (l, peer)) (held : (s.lanes.get l).join peer = some j) (on : s.polvin.dom = .on)
    (free : s.polvin.joinGap = 0) : ∃ x, s.serveJoin = ({ s with free := s.free + 2, polvin := { s.polvin with joinGap := 100 } }).setLane l
      ((s.lanes.get l).putJoin peer (some (j.prepared x))) := by
  refine ⟨msg2Of s.polvin j.got s.draw.1 s.draw.2.draw.1 l.idx (s.lanes.get l).main.canvas.net.self, ?_⟩
  simp only [State.serveJoin, next, held]
  exact if_pos ⟨on, free⟩

/-- An exchange that comes to wait where none waited is next. -/
theorem State.nextJoin_only (idle : s.waitingJoins = []) (stage : j.stage = 5) :
    (s.setLane l ((s.lanes.get l).putJoin peer (some j))).nextJoin = some (l, peer) := by
  have none_waits : ∀ k, (s.lanes.get k).main.net.joins.filter (fun e => e.2.stage = 5) = [] := fun k => by
    have empty := List.flatMap_eq_nil_iff.mp idle k (by cases k <;> decide)
    simpa using empty
  have waits : ((s.lanes.get l).putJoin peer (some j)).main.net.joins.filter (fun e => e.2.stage = 5) = [(peer, j)] :=
    filter_assocPut (none_waits l) (by simpa using stage)
  have only : (s.setLane l ((s.lanes.get l).putJoin peer (some j))).waitingJoins = [(l, peer)] := by
    cases l <;> simp [State.waitingJoins, allLanes, none_waits, waits, Tri.get_set_other]
  simp [State.nextJoin, only]

end serve

/-! ## Fragments of MSG1 and MSG3 (R270, R347, R348) -/

section fragments
variable {s : State} {l : LaneId} {f : RxFrame} {e : SlotDef} {msg got : Nat}

/-- A fragment that a lane takes, but of MSG2, whose DEV gives the path delay (R271). -/
theorem State.joinFrame_taken (taken : joinTaken s l f e msg got) (other : msg ≠ 2) :
    s.joinFrame l f = s.joinFragment l e.peer (frPayload f.bytes) (f.arrive - (e.start : Int)) := by
  obtain ⟨plane, -, sound, join, entry, first, sender, near, clear, shed, ready, message, -⟩ := taken
  subst plane
  have takes : ¬ ((s.lanes.get f.plane).main.canvas.firstSlot false f.plane.idx (frSender f.bytes) ≠ some e ∨
      8000 < (f.arrive - (e.start : Int)).natAbs ∨
      (((s.lanes.get f.plane).partner f.plane.idx (frSender f.bytes)).silenced &&
        ((s.lanes.get f.plane).partner f.plane.idx (frSender f.bytes)).syncs.getLast? == some (s.lanes.get f.plane).main.time.round) = true ∨
      (decide (((s.lanes.get f.plane).join (frSender f.bytes)).isNone) &&
        decide (0 < roundsSince (s.lanes.get f.plane).main.time.round ((s.lanes.get f.plane).partner f.plane.idx (frSender f.bytes)).retryAt) &&
        decide (roundsSince (s.lanes.get f.plane).main.time.round ((s.lanes.get f.plane).partner f.plane.idx (frSender f.bytes)).retryAt ≤ 16)) = true ∨
      (s.lanes.get f.plane).shedJoin f.plane.idx (frSender f.bytes) = true) := by
    rw [sender] at first clear shed ready
    rintro (h | h | h | h | h)
    · exact h first
    · omega
    · rcases clear with clear | clear <;> simp [clear] at h
    · simp only [Bool.and_eq_true, decide_eq_true_eq] at h
      obtain ⟨⟨ended, later⟩, soon⟩ := h
      rcases ready with running | now | long
      · simp [Option.isNone_iff_eq_none.mp ended] at running
      · omega
      · omega
    · simp [shed] at h
  unfold State.joinFrame
  simp only [sound, join, entry, not_true_eq_false, if_false, ne_eq, or_self]
  rw [if_neg takes, message]
  simp only [other, and_false, if_false, sender]

/-- The first fragment of MSG1 (R270, R347). -/
theorem State.joinFragment_first {pay : Bytes} {peer : Nat} {dev : Int} (new : (s.lanes.get l).join peer = none) (msg : byteAt pay 4 = 1)
    (len : u16At pay 6 = joinLen 1) (frag : byteAt pay 5 * (pay.drop 8).length = 0) : s.joinFragment l peer pay dev =
      if (pay.drop 8).length < 196 then
        s.setLane l ((s.lanes.get l).putJoin peer (some ⟨peer, 1, pay.drop 8, [], dev, [], [], 0, none, 0⟩))
      else s.joinMsg1Whole l peer ((pay.drop 8).take 196) dev := by
  have start : 196 = joinLen 1 := rfl
  unfold State.joinFragment
  simp only [new, msg, len, frag, stageMsg, List.length_nil, List.nil_append, if_true, ne_eq, not_true_eq_false, or_self, if_false, ← start]
  by_cases short : (pay.drop 8).length < 196
  · rw [List.take_of_length_le (by omega), if_pos short]
  · rw [if_neg (by rw [List.length_take]; omega), if_neg short]

/-- The last fragment of MSG3 (R347, R348). -/
theorem State.joinFragment_msg3 {pay : Bytes} {peer : Nat} {dev : Int} {j : Join} (held : (s.lanes.get l).join peer = some j)
    (stage : j.stage = 3) (msg : byteAt pay 4 = 3) (len : u16At pay 6 = joinLen 3) (frag : byteAt pay 5 * (pay.drop 8).length = j.got.length)
    (whole : 64 ≤ j.got.length + (pay.drop 8).length) : s.joinFragment l peer pay dev =
      s.joinMsg3Whole l { j with got := (j.got ++ pay.drop 8).take 64, dev := dev } ((j.got ++ pay.drop 8).take 64) := by
  have size : 64 = joinLen 3 := rfl
  have expected : stageMsg j.stage = 3 := by rw [stage]; rfl
  have full : ((j.got ++ pay.drop 8).take 64).length = 64 := by simpa using whole
  unfold State.joinFragment
  simp only [held, expected, msg, len, frag, ne_eq, not_true_eq_false, or_self, ← size, full, Nat.lt_irrefl, if_false, if_true]
  rfl

/-- MSG1 whole where no core runs: the exchange ends with POLVIN_LOST (R350). -/
theorem State.joinMsg1Whole_lost {peer : Nat} {msg : Bytes} {dev : Int} (lost : s.polvin.dom ≠ .on) :
    s.joinMsg1Whole l peer msg dev = s.setLane l (((s.lanes.get l).abandon l peer false).event l 19) := if_pos lost

/-- An exchange whose MSG1 is whole and waits for the core. -/
def joinWaiting (peer : Nat) (msg : Bytes) (dev : Int) : Join := ⟨peer, 5, msg, [], dev, [], [], 0, none, 0⟩

/-- Else it waits: at once it is the core's turn, where that is free and no other waits. -/
theorem State.joinMsg1Whole_waits {peer : Nat} {msg : Bytes} {dev : Int} (on : s.polvin.dom = .on) : s.joinMsg1Whole l peer msg dev =
    (s.setLane l ((s.lanes.get l).putJoin peer (some (joinWaiting peer msg dev)))).serveJoin := if_neg (not_not_intro on)

theorem State.joinMsg1Whole_served {peer : Nat} {msg : Bytes} {dev : Int} (on : s.polvin.dom = .on) (free : s.polvin.joinGap = 0)
    (idle : s.waitingJoins = []) : ∃ x, s.joinMsg1Whole l peer msg dev =
      ({ s with free := s.free + 2, polvin := { s.polvin with joinGap := 100 } }).setLane l
        (((s.lanes.get l).putJoin peer (some (joinWaiting peer msg dev))).putJoin peer (some ((joinWaiting peer msg dev).prepared x))) := by
  obtain ⟨x, served⟩ := State.serveJoin_serves (State.nextJoin_only (l := l) (peer := peer) (j := joinWaiting peer msg dev) idle rfl)
    (by rw [State.setLane_lanes, Tri.get_set_same]; exact Lane.putJoin_some_join ..) on free
  refine ⟨x, (State.joinMsg1Whole_waits on).trans (served.trans ?_)⟩
  simp [State.setLane]

/-- MSG3 whole: keys and MSG4 due where the partner is who it says, else JOIN_AUTH (R348). -/
theorem State.joinMsg3Whole_on {j : Join} {msg : Bytes} (on : s.polvin.dom = .on) : s.joinMsg3Whole l j msg = s.setLane l
    (if joinAuth s.polvin true j.msg1 j.t msg j.peer = true then (s.lanes.get l).putJoin j.peer (some { j with
        stage := 4, got := [], out := [], key := some (joinKeys j.t j.z l.idx).1, kw := (joinKeys j.t j.z l.idx).2 })
      else (s.lanes.get l).abandon l j.peer true) := by
  unfold State.joinMsg3Whole
  rw [if_neg (not_not_intro on)]
  split <;> rfl

/-- The row of MSG1, and of MSG3, on a fragment it takes. -/
theorem execJoinMsg1_taken (taken : joinTaken s l f e 1 got) :
    exec (.joinMsg1 l f) s = .next (s.joinFragment l e.peer (frPayload f.bytes) (f.arrive - (e.start : Int))) := by
  rw [← State.joinFrame_taken taken (by decide)]
  obtain ⟨-, receives, -, -, -, -, -, -, -, -, -, message, -⟩ := taken
  exact congrArg _ (if_pos ⟨receives, message⟩)

theorem execJoinMsg3_taken (taken : joinTaken s l f e 3 got) :
    exec (.joinMsg3 l f) s = .next (s.joinFragment l e.peer (frPayload f.bytes) (f.arrive - (e.start : Int))) := by
  rw [← State.joinFrame_taken taken (by decide)]
  obtain ⟨-, receives, -, -, -, -, -, -, -, -, -, message, -⟩ := taken
  exact congrArg _ (if_pos ⟨receives, message⟩)

end fragments

/-! ## The core's turn on the ticks of the lead lane (R272, log entries 19 and 97) -/

/-- The core's own time leaves the lanes, and its domain, its entry into sleep and its turn, alone. -/
theorem State.polvinTime_core (s : State) (l : LaneId) : (s.polvinTime l).lanes = s.lanes ∧ (s.polvinTime l).polvin.dom = s.polvin.dom ∧
    (s.polvinTime l).polvin.entry = s.polvin.entry ∧ (s.polvinTime l).polvin.joinGap = s.polvin.joinGap := by
  unfold State.polvinTime
  split
  · dsimp only
    by_cases on : s.polvin.dom = .on <;> simp [on]
  · exact ⟨rfl, rfl, rfl, rfl⟩

/-- A core that enters no sleep goes on (R395). -/
theorem State.polvinEntry_none {s : State} (h : s.polvin.entry = none) (l : LaneId) : s.polvinEntry l = s := by
  unfold State.polvinEntry
  rw [h]

/-- A tick of a supplied lane leaves the core and the network of every lane as the tick of the exchanges left them. -/
theorem State.laneTick_net (s : State) (l : LaneId) (vl : Nat) (pin : Bool) (hon : (s.lanes.get l).aon.on = true) :
    (s.laneTick l vl pin).polvin = (((s.polvinTime l).polvinEntry l).joinTick l).polvin ∧
      ∀ k, ((s.laneTick l vl pin).lanes.get k).main.net = ((((s.polvinTime l).polvinEntry l).joinTick l).lanes.get k).main.net := by
  have own : ∀ r : State, ∀ k, ((r.setLane l (if ((r.lanes.get l).aonTick vl pin).awake then ((r.lanes.get l).aonTick vl pin).mainTick l
      else (r.lanes.get l).aonTick vl pin)).lanes.get k).main.net = (r.lanes.get k).main.net := fun r k => by
    by_cases hk : k = l
    · subst hk
      rw [State.setLane_lanes, Tri.get_set_same]
      split <;> rfl
    · rw [State.setLane_lanes, Tri.get_set_other _ _ _ _ hk]
  simp only [State.laneTick, hon, if_true]
  split
  · exact ⟨rfl, own _⟩
  · exact ⟨rfl, own _⟩

/-- Which exchange is next hangs on the lanes alone. -/
theorem State.nextJoin_of_lanes {s t : State} (h : t.lanes = s.lanes) : t.nextJoin = s.nextJoin := by
  unfold State.nextJoin State.waitingJoins State.joinPlace
  rw [h]

/-- The state with the core one tick nearer to its next turn. -/
def State.turnNearer (s : State) : State := { s with polvin := { s.polvin with joinGap := s.polvin.joinGap - 1 } }

/-- The lead lane's tick serves the exchange next in turn where the core is free with it. -/
theorem State.laneTick_serves {s : State} {l x : LaneId} {peer : Nat} {j : Join} (vl : Nat) (pin : Bool) (hon : (s.lanes.get l).aon.on = true)
    (lead : s.leadLane = some l) (on : s.polvin.dom = .on) (entry : s.polvin.entry = none) (gap : s.polvin.joinGap ≤ 1)
    (next : s.nextJoin = some (x, peer)) (held : (s.lanes.get x).join peer = some j) : (s.laneTick l vl pin).polvin.joinGap = 100 ∧
      ∃ y, ((s.laneTick l vl pin).lanes.get x).join peer = some (j.prepared y) := by
  obtain ⟨lanes, dom, awake, turn⟩ := s.polvinTime_core l
  obtain ⟨polvin, net⟩ := s.laneTick_net l vl pin hon
  rw [State.polvinEntry_none (awake.trans entry)] at polvin net
  have leads : (s.polvinTime l).leadLane = some l := by rw [State.leadLane, lanes]; exact lead
  have ticks : (s.polvinTime l).joinTick l = (s.polvinTime l).turnNearer.serveJoin := by
    unfold State.joinTick
    rw [if_neg (not_not_intro (dom.trans on)), if_pos leads]
    rfl
  have free : (s.polvinTime l).turnNearer.polvin.joinGap = 0 := (congrArg (· - 1) turn).trans (Nat.sub_eq_zero_of_le gap)
  obtain ⟨y, served⟩ := State.serveJoin_serves ((State.nextJoin_of_lanes (t := (s.polvinTime l).turnNearer) lanes).trans next)
    (show ((s.polvinTime l).lanes.get x).join peer = some j by rw [lanes]; exact held) (dom.trans on) free
  rw [ticks, served] at polvin net
  refine ⟨by rw [polvin]; rfl, y, ?_⟩
  have own := net x
  rw [State.setLane_lanes, Tri.get_set_same] at own
  rw [Lane.join, own]
  exact Lane.putJoin_some_join _ _ _

/-! ## A follower's join with its master (R348-R352) -/

/-- The group key, the partner's key and the epoch of a master handed to every running lane (R350-R352). -/
def State.followKeys (s : State) (plane peer : Nat) (given : BitVec 128 × BitVec 128 × Nat) (joinAt : Nat) : State :=
  (({ s.giveGroup plane given.1 with lanes := (s.giveGroup plane given.1).lanes.map (fun n =>
      if n.awake then n.onNet (fun m => { m with epoch := given.2.2 }) else n) } : State).handKey plane peer given.2.1 given.2.2 joinAt).noteEpoch given.2.2

section followKeys
variable (s : State) (x : LaneId) (plane peer : Nat) (given : BitVec 128 × BitVec 128 × Nat) (joinAt : Nat)

/-- They go to the lanes and the core alone. -/
theorem State.followKeys_only : s.followKeys plane peer given joinAt =
    { s with lanes := (s.followKeys plane peer given joinAt).lanes, polvin := (s.followKeys plane peer given joinAt).polvin } := by
  unfold State.followKeys State.noteEpoch
  split <;> rfl

theorem State.followKeys_awake (h : (s.lanes.get x).awake = true) :
    assocGet ((s.followKeys plane peer given joinAt).lanes.get x).main.net.gk plane = some given.1 ∧
      ((s.followKeys plane peer given joinAt).lanes.get x).main.net.epoch = given.2.2 ∧
      assocGet ((s.followKeys plane peer given joinAt).lanes.get x).main.net.keys (slotKey plane peer) = some given.2.1 ∧
      ((s.followKeys plane peer given joinAt).lanes.get x).main.net.joins = (s.lanes.get x).main.net.joins := by
  have kept : ∀ f, ((s.lanes.get x).onNet f).awake = true := fun _ => h
  have kept' : ∀ f g, (((s.lanes.get x).onNet f).onNet g).awake = true := fun _ _ => h
  simp [State.followKeys, State.giveGroup, State.handKey, h, kept, kept']

theorem State.followKeys_asleep (h : (s.lanes.get x).awake = false) : (s.followKeys plane peer given joinAt).lanes.get x = s.lanes.get x := by
  simp [State.followKeys, State.giveGroup, State.handKey, h]

end followKeys

/-- The keys and the epoch a whole MSG4 gives (R351): GK and K, each advanced where the epoch in use is one further than the one it names. -/
def followerKeys (msg4 : Bytes) (epoch : Nat) (g k : BitVec 128) : BitVec 128 × BitVec 128 × Nat :=
  if u16At msg4 0 + 1 = epoch then (nextKey g, nextKey k, epoch) else (g, k, u16At msg4 0)

/-- The device key of MSG2 is one the integrator key vouches for (R349). -/
def Polvin.vouches (p : Polvin) (msg2 : Bytes) : Bool :=
  match p.ipub with
  | some k => verifyMsg k (ascii "KT3128 DEVCERT" ++ slice msg2 64 64) (slice msg2 128 64)
  | none => false

/-- T2 of an exchange whose MSG2 is whole (R347). -/
def Join.t2 (j : Join) (l : LaneId) (peer : Nat) : Bytes := shaBytes (j.msg1 ++ j.got.take 192 ++ leBytes 1 l.idx ++ leBytes 2 peer)

/-- The exchange for which MSG3 is due, its signature drawn (R349, log entry 21). -/
def Join.proved (j : Join) (l : LaneId) (peer : Nat) (draw : BitVec 512) : Join :=
  let t3 := shaBytes (j.t2 l peer ++ slice j.got 192 64)
  let z := ecdh (BitVec.ofNat 512 (leNat j.t)) (slice j.got 0 64)
  { j with stage := 13, got := [], out := beBytes 64 draw.toNat, t := t3, z := z, key := some (joinKeys t3 z l.idx).1, kw := (joinKeys t3 z l.idx).2 }

section follower
variable {s : State} {l : LaneId} {peer : Nat} {j : Join} (computes : (s.lanes.get l).computing = true)
  (held : (s.lanes.get l).join peer = some j)
include computes held

/-- JOIN_MSG2 on a whole MSG2. -/
theorem execJoinMsg2_whole (stage : j.stage = 12) (whole : j.got.length = 256) (on : s.polvin.dom = .on) :
    exec (.joinMsg2 l peer) s = .next (
      if (verifyMsg (slice j.got 64 64) (j.t2 l peer) (slice j.got 192 64) && s.polvin.vouches j.got) = true then
        s.draw.2.setLane l ((s.lanes.get l).putJoin peer (some (j.proved l peer s.draw.1)))
      else s.setLane l ((s.lanes.get l).abandon l peer false)) := by
  simp only [exec, execJoinMsg2, held, computes, stage, whole, and_self, not_true_eq_false, if_false, on, and_true]
  by_cases right : (verifyMsg (slice j.got 64 64) (j.t2 l peer) (slice j.got 192 64) && s.polvin.vouches j.got) = true
  · rw [if_pos right]; exact if_pos right
  · rw [if_neg right]; exact if_neg right

/-- JOIN_MSG4 on a whole MSG4 that unwraps. -/
theorem execJoinMsg4_opened {g k : BitVec 128} (stage : j.stage = 14) (whole : j.got.length = 36) (key : j.key = some k)
    (opened : gcmUnwrap j.kw j.t (slice j.got 4 32) = some g) : exec (.joinMsg4 l peer) s = .next
      ((s.setLane l ((s.lanes.get l).putJoin peer none)).followKeys l.idx peer (followerKeys j.got (s.lanes.get l).main.net.epoch g k)
        (((s.lanes.get l).main.time.round + 1) % 16777216)) := by
  simp only [exec, execJoinMsg4, held, computes, stage, whole, and_self, not_true_eq_false, if_false, key, opened, followerKeys, decide_eq_true_eq]
  split <;> rfl

/-- One that does not unwrap ends the exchange. -/
theorem execJoinMsg4_torn {k : BitVec 128} (stage : j.stage = 14) (whole : j.got.length = 36) (key : j.key = some k)
    (shut : gcmUnwrap j.kw j.t (slice j.got 4 32) = none) :
    exec (.joinMsg4 l peer) s = .next (s.setLane l ((s.lanes.get l).abandon l peer false)) := by
  simp only [exec, execJoinMsg4, held, computes, stage, whole, and_self, not_true_eq_false, if_false, key, shut]

end follower

/-- Settles O49: the fragments of a partner by what is whole, the core's turn by the lead lane's tick, a follower's MSG2 and MSG4 by their signatures
and keys. -/
theorem joinExchange : Obligations.JoinExchange := by
  unfold Obligations.JoinExchange
  refine ⟨fun s l f e => ?fragments, fun s l x vl pin peer j hon lead on entry gap next held => ?turn,
    fun s l peer j computes held => ⟨fun stage whole => ?msg2, fun k stage whole key => ?msg4⟩⟩
  case fragments =>
    intro n part dev
    refine ⟨fun taken new => ?msg1, fun j held stage taken whole on => ?msg3⟩
    case msg1 =>
      have ran := execJoinMsg1_taken taken
      obtain ⟨-, -, -, -, -, -, -, -, -, -, -, msg, len, frag⟩ := taken
      rw [State.joinFragment_first new msg len frag] at ran
      refine ⟨fun short => ?_, fun whole on free idle => ?_, fun whole on busy => ?_, fun whole lost => ?_⟩
      · rw [if_pos short] at ran
        exact ⟨_, ran, onlyLane_setLane _ _ _, by rw [State.setLane_lanes, Tri.get_set_same, Lane.putJoin_some_join]⟩
      · rw [if_neg (Nat.not_lt.mpr whole)] at ran
        obtain ⟨x, served⟩ := State.joinMsg1Whole_served (l := l) (peer := e.peer) (msg := part.take 196) (dev := dev) on free idle
        refine ⟨_, (joinWaiting e.peer (part.take 196) dev).prepared x, ran.trans (congrArg _ served), ?_⟩
        rw [State.setLane_lanes, Tri.get_set_same]
        exact ⟨rfl, Lane.putJoin_some_join _ _ _, rfl, rfl, rfl, rfl, rfl⟩
      · rw [if_neg (Nat.not_lt.mpr whole), State.joinMsg1Whole_waits on, State.serveJoin_busy (by exact busy)] at ran
        exact ⟨_, ran, onlyLane_setLane _ _ _, by rw [State.setLane_lanes, Tri.get_set_same, Lane.putJoin_some_join]; rfl⟩
      · rw [if_neg (Nat.not_lt.mpr whole), State.joinMsg1Whole_lost lost] at ran
        refine ⟨_, ran, onlyLane_setLane _ _ _, ?_⟩
        rw [State.setLane_lanes, Tri.get_set_same]
        exact ⟨Lane.abandon_join _ _ _ _, Lane.event_status_set _ _ _ (evtDefault_polvinLost l)⟩
    case msg3 =>
      have ran := execJoinMsg3_taken taken
      obtain ⟨-, -, -, -, -, -, -, -, -, -, -, msg, len, frag⟩ := taken
      rw [State.joinFragment_msg3 held stage msg len frag whole, State.joinMsg3Whole_on on] at ran
      refine ⟨_, ran, onlyLane_setLane _ _ _, ?_⟩
      rw [State.setLane_lanes, Tri.get_set_same]
      split
      · exact Lane.putJoin_some_join _ _ _
      · exact ⟨Lane.abandon_join _ _ _ _, Lane.abandon_auth _ _ _⟩
  case turn =>
    obtain ⟨turn, y, prepared⟩ := State.laneTick_serves vl pin hon lead on entry gap next held
    exact ⟨s.laneTick l vl pin, j.prepared y, rfl, turn, prepared, rfl, rfl, rfl⟩
  case msg2 =>
    intro t2 vouched on
    have ran := execJoinMsg2_whole computes held stage whole on
    by_cases right : (verifyMsg (slice j.got 64 64) (j.t2 l peer) (slice j.got 192 64) && s.polvin.vouches j.got) = true
    · rw [if_pos right] at ran
      refine ⟨_, ran, (if_pos right).mpr ?_⟩
      rw [State.setLane_lanes, Tri.get_set_same]
      exact ⟨rfl, j.proved l peer s.draw.1, Lane.putJoin_some_join _ _ _, rfl, rfl, rfl⟩
    · rw [if_neg right] at ran
      refine ⟨_, ran, (if_neg right).mpr ⟨onlyLane_setLane _ _ _, ?_⟩⟩
      rw [State.setLane_lanes, Tri.get_set_same, Lane.abandon_join]
  case msg4 =>
    cases opened : gcmUnwrap j.kw j.t (slice j.got 4 32) with
    | none =>
      refine ⟨_, execJoinMsg4_torn computes held stage whole key opened, rfl, ?_, fun g h => nomatch h⟩
      rw [State.setLane_lanes, Tri.get_set_same, Lane.abandon_join]
    | some g =>
      have given := fun x h => State.followKeys_awake (s.setLane l ((s.lanes.get l).putJoin peer none)) x l.idx peer
        (followerKeys j.got (s.lanes.get l).main.net.epoch g k) (((s.lanes.get l).main.time.round + 1) % 16777216)
        ((State.putJoin_awake s l x peer none).trans h)
      refine ⟨_, execJoinMsg4_opened computes held stage whole key opened, State.followKeys_only .., ?_, fun g' h x => ⟨fun awake => ?_, fun asleep => ?_⟩⟩
      · obtain ⟨-, -, -, joins⟩ := given l (Lane.awake_of_computing computes)
        rw [Lane.join, joins, State.setLane_lanes, Tri.get_set_same]
        exact Lane.putJoin_none_join _ _
      · cases h
        obtain ⟨gk, epoch, keys, -⟩ := given x awake
        rw [gk, epoch, keys, followerKeys]
        split <;> exact ⟨rfl, rfl, rfl⟩
      · have other : x ≠ l := fun same => by simp [same, Lane.awake_of_computing computes] at asleep
        rw [State.followKeys_asleep _ _ _ _ _ _ ((State.putJoin_awake s l x peer none).trans asleep), State.setLane_lanes,
          Tri.get_set_other _ _ _ _ other]

end Sys2Proof.Machine

namespace Sys2Proof.Machine
open Sys2Proof

/-! ## Every row goes on and keeps the queue and the canonical memories (R286, R302) -/

/-- What a row answers: a next state, with the queue and the memories kept. -/
def Goes (H : Prop) (qs : List Instr) : Host.Outcome State Fault Refusal → Prop
  | .next t => Kept H qs t
  | _ => False

section rows
variable {H : Prop} {qs : List Instr} {s : State}

theorem kept_ite {p : Prop} [Decidable p] {t u : State} (ht : Kept H qs t) (hu : Kept H qs u) : Kept H qs (if p then t else u) := by
  split
  · exact ht
  · exact hu

theorem goes_ite {p : Prop} [Decidable p] {o o' : Host.Outcome State Fault Refusal} (ho : Goes H qs o) (ho' : Goes H qs o') :
    Goes H qs (if p then o else o') := by
  split
  · exact ho
  · exact ho'

/-- A lane put in place with the bus memory it had. -/
theorem kept_sameMem {l : LaneId} {n : Lane} (hk : Kept H qs s) (hn : n.main.mem = (s.lanes.get l).main.mem) : Kept H qs (s.setLane l n) :=
  kept_setLane hk fun hH => by rw [hn]; exact hk.mem hH l

/-- A lane put in place with its bus memory cleared. -/
theorem kept_noMem {l : LaneId} {n : Lane} (hk : Kept H qs s) (hn : n.main.mem = []) : Kept H qs (s.setLane l n) :=
  kept_setLane hk fun _ => by rw [hn]; rfl

/-- A row that acts on one lane and leaves its bus memory alone. -/
theorem kept_onLane_sameMem {l : LaneId} {p : Lane → Bool} {f : Lane → Lane} (hk : Kept H qs s) (hf : ∀ n, (f n).main.mem = n.main.mem) :
    Kept H qs (s.onLane l p f) :=
  kept_onLane hk fun n hn hH => by rw [hf]; exact hn hH

/-! ### CAN (R276-R278) -/

theorem Lane.canFrame_sameMem (n : Lane) (l : LaneId) (data : Option Bytes) (f : CanPort → Bytes → CanPort) :
    (n.canFrame l data f).main.mem = n.main.mem := by
  cases data with
  | none => rfl
  | some d => exact (Lane.canFill_mem _ _ _).trans (Lane.onCan_mem _ _)

theorem execAddressClaim_goes (m : LaneErr) (hk : Kept H qs s) : Goes H qs (execAddressClaim m s) :=
  kept_onLane_sameMem hk fun n => by (repeat' split) <;> simp

theorem execAddressClaimLost_goes (l : LaneId) (hk : Kept H qs s) : Goes H qs (execAddressClaimLost l s) := by
  unfold execAddressClaimLost
  dsimp only
  (repeat' split)
  · exact kept_sameMem (State.draw_kept s hk) rfl
  · exact kept_sameMem (State.draw_kept s hk) rfl
  · exact kept_sameMem hk rfl
  · exact hk

theorem execRequestForAddressClaimed_goes (m : LaneErr) (hk : Kept H qs s) : Goes H qs (execRequestForAddressClaimed m s) :=
  kept_onLane_sameMem hk fun n => by split <;> simp

/-! ### Units, their links and what crosses them (R58, R66, R67) -/

theorem execTickMarkArrival_goes (u : UnitId) (l : LaneId) (rx : Option Nat) (arrival : Int) (hk : Kept H qs s) :
    Goes H qs (execTickMarkArrival u l rx arrival s) := by
  have marked (t : Nat) : Kept H qs (s.ifRuns u fun s => s.setUnit u (unitMark (s.ucom.get u) l t arrival)) :=
    kept_ifRuns hk fun s hs => State.setUnit_kept s _ _ hs
  cases rx with
  | some t => exact marked t
  | none =>
    unfold execTickMarkArrival
    dsimp only
    split
    · exact hk
    · exact kept_setLane (marked _) fun hH => hk.mem hH l

theorem execCommandBlock_goes (u : UnitId) (l : LaneId) (rx : Option Bytes) (stale : Nat) (hk : Kept H qs s) :
    Goes H qs (execCommandBlock u l rx stale s) := by
  have received (bs : Bytes) : Kept H qs (s.ifRuns u fun s => s.receiveBlock u l bs stale) :=
    kept_ifRuns hk fun s hs => State.receiveBlock_kept s _ _ _ _ hs
  cases rx with
  | some bs => exact received bs
  | none =>
    unfold execCommandBlock
    dsimp only
    split
    · exact hk
    · exact kept_setLane (received _) fun hH => by rw [Lane.takePosted_mem]; exact hk.mem hH l

theorem execRegisterSymbol_goes (u : UnitId) (l : LaneId) (rx : Option (List RegAcc)) (hk : Kept H qs s) :
    Goes H qs (execRegisterSymbol u l rx s) := by
  cases rx with
  | some accs => exact kept_ifRuns hk fun s hs => unitSymbol_kept s _ _ _ hs
  | none =>
    unfold execRegisterSymbol
    dsimp only
    split
    · exact hk
    · exact unitSymbol_kept _ _ _ _ (kept_sameMem hk (Lane.onUnit_mem _ _ _))

theorem execCommandDeadline_goes (u : UnitId) (hk : Kept H qs s) : Goes H qs (execCommandDeadline u s) :=
  kept_ifRuns hk fun s hs => by
    cases u with
    | isl i => exact State.putIsl_kept s _ _ hs
    | fb f => exact State.setUnit_kept s _ _ hs
    | sio x => exact State.setUnit_kept s _ _ hs

theorem execUnitPowerUp_goes (u : UnitId) (hk : Kept H qs s) : Goes H qs (execUnitPowerUp u s) := by
  have up := State.viewsReset_kept _ u (State.resetPart_kept _ u (State.setUnit_kept s u {} hk))
  cases u with
  | isl i => exact State.putIsl_kept _ _ _ up
  | fb f => exact up
  | sio x => exact up

theorem execLinkTraining_goes (l : LaneId) (u : UnitId) (delay : Nat) (hk : Kept H qs s) : Goes H qs (execLinkTraining l u delay s) := by
  have trained := State.setUnit_kept s u ((s.ucom.get u).setLink l { (s.ucom.get u).links.get l with up := true, delay := delay }) hk
  unfold execLinkTraining
  dsimp only
  (repeat' split)
  · exact State.unitReturns_kept _ _ trained
  · exact trained
  · exact hk

theorem execLinkDown_goes (l : LaneId) (u : UnitId) (hk : Kept H qs s) : Goes H qs (execLinkDown l u s) := by
  have down : Kept H qs ((s.setUnit u ((s.ucom.get u).setLink l (resetLink ((s.ucom.get u).links.get l)))).setLane l
      ((s.lanes.get l).onUnit u UnitView.linkReset)) :=
    kept_sameMem (State.setUnit_kept s _ _ hk) (Lane.onUnit_mem _ _ _)
  unfold execLinkDown
  dsimp only
  (repeat' split)
  · exact State.laneEvent_kept _ _ _ down
  · exact down
  · exact hk

theorem execUnitRetentionLimit_goes (u : UnitId) (hk : Kept H qs s) : Goes H qs (execUnitRetentionLimit u s) := by
  unfold execUnitRetentionLimit
  dsimp only
  split
  · exact State.unitReturns_kept _ _ hk
  · exact hk

theorem execTickBoundary_goes (smp : TickSample) (hk : Kept H qs s) : Goes H qs (execTickBoundary smp s) := by
  cases smp with
  | lane l vl pin => exact State.laneTick_kept _ _ _ _ hk
  | island i p => exact kept_ifRuns hk fun s hs => State.loadUnit_kept _ _ (State.putIsl_kept s _ _ hs)
  | fb f feed => exact kept_ifRuns hk fun s hs => State.loadUnit_kept _ _ (State.putFb_kept s _ _ hs)
  | sio x p => exact kept_ifRuns hk fun s hs => State.loadUnit_kept _ _ (State.putSio_kept s _ _ hs)

theorem execRoundBoundary_goes (ag : Agent) (turned : List (Nat × Nat)) (hk : Kept H qs s) : Goes H qs (execRoundBoundary ag turned s) := by
  cases ag with
  | lane l => exact kept_ite (State.laneRound_kept _ _ (kept_sameMem hk (Lane.turnSigs_mem _ _))) hk
  | unit u => exact kept_ifRuns hk fun s hs => kept_ite (State.unitRoundAll_kept s _ hs) hs

theorem execMeasurementBlock_goes (l : LaneId) (u : UnitId) (rx : Option Bytes) (late stale : Bool) (hk : Kept H qs s) :
    Goes H qs (execMeasurementBlock l u rx late stale s) := by
  refine kept_ite ?_ hk
  cases rx with
  | some b => exact State.measIn_kept _ _ _ _ _ _ hk
  | none => exact kept_ite (State.takeAnswers_kept _ _ _ (State.measIn_kept _ _ _ _ _ _ hk)) hk

theorem execEventSymbol_goes (l : LaneId) (u : UnitId) (rx : Option Bytes) (crc : Option Nat) (hk : Kept H qs s) :
    Goes H qs (execEventSymbol l u rx crc s) :=
  kept_ite (State.setUnit_kept _ _ _ (kept_sameMem hk (Lane.onUnit_mem _ _ _))) hk

theorem execMissingWithdrawal_goes (u : UnitId) (hk : Kept H qs s) : Goes H qs (execMissingWithdrawal u s) :=
  kept_ifRuns hk fun s hs => kept_ite (State.setUnit_kept s _ _ hs) hs

theorem execChopperFault_goes (i : IslandId) (hk : Kept H qs s) : Goes H qs (execChopperFault i s) :=
  kept_ifRuns hk fun s hs => kept_ite (State.chopperFault_kept s _ hs) hs

theorem execChopperTestPulse_goes (i : IslandId) (current : Nat) (hk : Kept H qs s) : Goes H qs (execChopperTestPulse i current s) :=
  kept_ifRuns hk fun s hs => kept_ite (State.chopperFault_kept s _ hs) hs

theorem execChopperLimit_goes (b : BusId) (on : Bool) (hk : Kept H qs s) : Goes H qs (execChopperLimit b on s) :=
  kept_foldl _ (fun s _ hs => State.putIsl_kept s _ _ hs) _ hk

theorem execSleep_goes (u : UnitId) (hk : Kept H qs s) : Goes H qs (execSleep u s) :=
  kept_ifRuns hk fun s hs =>
    kept_ite (kept_foldl _ (fun _ _ ht => kept_ite (kept_sameMem ht (Lane.onPwr_mem _ _)) ht) _ (State.setUnit_kept s _ _ hs)) hs

/-! ### The Polvin core (R342-R362) -/

theorem execCeremonyDone_goes (logOk : Bool) (hk : Kept H qs s) : Goes H qs (execCeremonyDone logOk s) := by
  have done := State.secDone_kept s logOk hk
  exact kept_ite (State.clearWaiting_kept _ (kept_ite (State.shareBk_kept _ done) done)) hk

theorem execReportReady_goes (hk : Kept H qs s) : Goes H qs (execReportReady s) := by
  have drawn := State.draw_kept s hk
  unfold execReportReady
  split
  · exact hk
  · dsimp only
    split
    · exact hk
    · split
      · exact State.attestTake_kept _ _ ⟨drawn.queue, drawn.mem⟩
      · exact ⟨drawn.queue, drawn.mem⟩

theorem execDeviceKeyGeneration_goes (hk : Kept H qs s) : Goes H qs (execDeviceKeyGeneration s) :=
  have drawn := State.draw_kept s hk
  kept_ite ⟨drawn.queue, drawn.mem⟩ hk

theorem execPolvinPowerUp_goes (hk : Kept H qs s) : Goes H qs (execPolvinPowerUp s) := by
  refine kept_foldl _ (fun s _ hs => State.polvinServes_kept s _ hs) _ (State.logEvent_kept _ _ _ _ _ ?_)
  exact kept_ite (kept_polvinEvent (State.polvinCanvas_kept _ (kept_mk hk))) (State.polvinCanvas_kept _ (kept_mk hk))

/-! ### A lane's tick and its self-checks (R29, R305-R321) -/

theorem execTickWorkStart_goes (l : LaneId) (upsets : List Upset) (hk : Kept H qs s) : Goes H qs (execTickWorkStart l upsets s) := by
  unfold execTickWorkStart
  have raised : (if (s.lanes.get l).awake then (s.lanes.get l).raiseLine l 10 else s.lanes.get l).main.mem = (s.lanes.get l).main.mem := by
    split <;> simp
  generalize (if (s.lanes.get l).awake then (s.lanes.get l).raiseLine l 10 else s.lanes.get l) = n at raised
  have upset : (upsets.foldl (Lane.upset l) n).main.mem = (s.lanes.get l).main.mem := (foldl_mem _ (Lane.upset_mem l) _ _).trans raised
  dsimp only
  split
  · exact kept_sameMem hk ((Lane.tickWork_mem _ _ _).trans raised)
  · split
    · refine kept_sameMem hk ?_
      split
      · exact (Lane.sendRecords_mem _ _).trans upset
      · exact upset
    · exact hk

theorem execPostingDeadline_goes (l : LaneId) (miss : Nat) (hk : Kept H qs s) : Goes H qs (execPostingDeadline l miss s) :=
  kept_onLane_sameMem hk fun n => by
    dsimp only
    (repeat' split) <;> simp [foldl_mem _ (Lane.blockMismatch_mem l)]

theorem execVerdictCheck_goes (l : LaneId) (finds : CheckFinds) (hk : Kept H qs s) : Goes H qs (execVerdictCheck l finds s) :=
  kept_onLane_sameMem hk fun n => by
    split
    · rfl
    · rw [Lane.verdictDone_mem]
      split <;> simp [foldl_mem _ (Lane.upset_mem l)]

theorem execEngineTest_goes (failed : Nat) (hk : Kept H qs s) : Goes H qs (execEngineTest failed s) :=
  kept_onLane_sameMem hk fun n => by split <;> simp

theorem execReadbackCrc_goes (read : Option Bytes) (hk : Kept H qs s) : Goes H qs (execReadbackCrc read s) :=
  kept_onLane_sameMem hk fun n => by
    split
    · dsimp only
      split <;> simp
    · rfl

/-! ### Data movers (R284-R299) -/

theorem execMark_goes (l : LaneId) (m : Nat) (hk : Kept H qs s) : Goes H qs (execMark l m s) :=
  kept_onLane_sameMem hk fun n => by dsimp only; split <;> simp

theorem execBurst_goes (l : LaneId) (r : Nat) (hk : Kept H qs s) : Goes H qs (execBurst l r s) :=
  kept_onLane hk fun n hn hH => Lane.ringBurst_wf n l r (hn hH)

theorem execDmaEnd_goes (l : LaneId) (r : Nat) (hk : Kept H qs s) : Goes H qs (execDmaEnd l r s) :=
  kept_onLane hk fun n hn hH => Lane.ringEnd_wf n l r (hn hH)

theorem execBuserr_goes (l : LaneId) (r addr : Nat) (hk : Kept H qs s) : Goes H qs (execBuserr l r addr s) :=
  kept_onLane_sameMem hk fun n => by dsimp only; split <;> simp

/-! ### The Carousel (R254-R275) -/

theorem execFrameReceive_goes (l : LaneId) (f : RxFrame) (hk : Kept H qs s) : Goes H qs (execFrameReceive l f s) :=
  kept_ite (kept_ite (State.portFrame_kept _ _ _ hk) hk) (kept_ite (State.frameIn_kept _ _ _ hk) hk)

theorem execJoinMsg2_goes (l : LaneId) (peer : Nat) (hk : Kept H qs s) : Goes H qs (execJoinMsg2 l peer s) := by
  unfold execJoinMsg2
  dsimp only
  split
  · exact hk
  · exact goes_ite hk (goes_ite (kept_sameMem (State.draw_kept s hk) (Lane.putJoin_mem (s.lanes.get l) _ _))
      (kept_sameMem hk (Lane.abandon_mem _ _ _ _)))

theorem execJoinMsg4_goes (l : LaneId) (peer : Nat) (hk : Kept H qs s) : Goes H qs (execJoinMsg4 l peer s) := by
  unfold execJoinMsg4
  dsimp only
  split
  · exact hk
  · split
    · exact hk
    · split
      · refine State.noteEpoch_kept _ _ _ (State.handKey_kept _ _ _ _ _ _ (kept_map _ (fun n hn => ?_)
          (State.giveGroup_kept _ _ _ (kept_sameMem hk (Lane.putJoin_mem _ _ _)))))
        split
        · exact hn
        · exact hn
      · exact kept_sameMem hk (Lane.abandon_mem _ _ _ _)

theorem execKeyEpochAdvance_goes (hk : Kept H qs s) : Goes H qs (execKeyEpochAdvance s) := by
  have moved : Kept H qs { s with lanes := s.lanes.map fun n => if n.awake ∧ n.main.time.round = 0xFFFF00 then n.advanceKeys else n } :=
    kept_map _ (fun n hn => by split <;> simpa using hn) hk
  unfold execKeyEpochAdvance
  show Kept H qs _
  split
  · exact kept_ite (State.noteEpoch_kept _ _ _ (kept_mk moved)) moved
  · exact moved

theorem execAcceptanceWindowClose_goes (l : LaneId) (slot : Nat) (hk : Kept H qs s) : Goes H qs (execAcceptanceWindowClose l slot s) :=
  kept_onLane_sameMem hk fun n => by dsimp only; (repeat' split) <;> simp

theorem execSlotTransmit_goes (l : LaneId) (slot : Nat) (depart : Int) (hk : Kept H qs s) : Goes H qs (execSlotTransmit l slot depart s) := by
  show Kept H qs _
  dsimp only
  split
  · exact hk
  · have sent := State.transmit_kept (s.setLane l ((s.lanes.get l).onNet fun m => { m with sent := none })) l ‹SlotDef›
      (kept_sameMem hk (Lane.onNet_mem _ _))
    refine kept_ite ?_ hk
    split
    · exact kept_ite (kept_sameMem sent (Lane.guardCut_mem _ _)) sent
    · exact sent

/-! ### The loader, the canvas and the device mode (R37-R46, R84-R106) -/

theorem execCnvCmt_goes (l : LaneId) (hash delay : Nat) (logOk : Bool) (hk : Kept H qs s) : Goes H qs (execCnvCmt l hash delay logOk s) :=
  kept_ite (State.commit_kept _ _ _ _ _ _ hk) (State.cnvDo_kept _ _ _ hk fun _ hn => hn)

theorem execGo_goes (ag : Agent) (hk : Kept H qs s) : Goes H qs (execGo ag s) := by
  cases ag with
  | lane l => exact kept_onLane_sameMem hk fun n => rfl
  | unit u => exact kept_ifRuns hk fun s hs => State.setUnit_kept s _ _ hs

theorem execAbort_goes (ag : Agent) (hk : Kept H qs s) : Goes H qs (execAbort ag s) := by
  cases ag with
  | lane l => exact kept_onLane_sameMem hk fun n => rfl
  | unit u => exact kept_ifRuns hk fun s hs => State.setUnit_kept s _ _ hs

theorem execForce_goes (h : Holder) (src : Nat) (hk : Kept H qs s) : Goes H qs (execForce h src s) := by
  cases h with
  | lane l => exact kept_onLane_sameMem hk fun n => Lane.force_mem n l src
  | unit u => exact kept_ifRuns hk fun s hs => State.forceUnit_kept s _ _ hs
  | polvin => exact kept_ite (State.forcePolvin_kept _ _ hk) hk

theorem execSevereClear_goes (h : Holder) (src : Nat) (hk : Kept H qs s) : Goes H qs (execSevereClear h src s) := by
  cases h with
  | lane l => exact kept_onLane_sameMem hk fun n => rfl
  | unit u => exact kept_ifRuns hk fun s hs => State.setUnit_kept s _ _ hs
  | polvin => exact kept_ite (kept_mk hk) hk

theorem execWindowExpiry_goes (h : Holder) (src : Nat) (hk : Kept H qs s) : Goes H qs (execWindowExpiry h src s) := by
  cases h with
  | lane l => exact kept_onLane_sameMem hk fun n => rfl
  | unit u => exact kept_ifRuns hk fun s hs => State.setUnit_kept s _ _ hs
  | polvin => exact kept_ite (kept_mk hk) hk

theorem execStandstill_goes (l : LaneId) (hk : Kept H qs s) : Goes H qs (execStandstill l s) :=
  kept_ite (State.syncInhibit_kept _ (kept_sameMem hk (Lane.halt_mem _))) hk

theorem execStartupTimeout_goes (l : LaneId) (hk : Kept H qs s) : Goes H qs (execStartupTimeout l s) :=
  kept_ite (State.syncInhibit_kept _ (kept_sameMem hk ((Lane.halt_mem _).trans (Lane.startsAnew_mem _ _)))) hk

theorem execSessionOpen_goes (msgs : SessionMsgs) (hk : Kept H qs s) : Goes H qs (execSessionOpen msgs s) := by
  have drawn := State.draw_kept _ (State.draw_kept s hk)
  refine kept_ite (kept_ite (kept_sameMem hk (Lane.event_mem _ _ _ _)) (kept_ite (State.benchHolder_kept _ _ ?_) ?_)) hk
  · exact kept_mk (State.draw_kept _ drawn)
  · exact kept_mk (kept_sameMem drawn (Lane.event_mem _ _ _ _))

/-! ### A lane's start, boot and retirement (R37, R84-R101, R377, R378) -/

theorem execSuppliesGood_goes (l : LaneId) (hk : Kept H qs s) : Goes H qs (execSuppliesGood l s) := by
  refine kept_ite (kept_ite (State.laneDown_kept _ _ _ _ hk) (State.readRecord_kept _ _ (State.bootImage_kept _ _ (kept_noMem ?_ rfl)))) hk
  split
  · exact State.takeCommit_kept _ _ _ hk
  · exact hk

theorem execSignatureVerdict_goes (l : LaneId) (hk : Kept H qs s) : Goes H qs (execSignatureVerdict l s) := by
  refine kept_ite ?_ hk
  split
  · exact kept_sameMem hk ((Lane.leaveBoot_mem _).trans (Lane.onLoader_mem _ _))
  · exact State.refuseImage_kept _ _ _ hk

theorem execPolvinTimeout_goes (l : LaneId) (hk : Kept H qs s) : Goes H qs (execPolvinTimeout l s) :=
  have told := State.laneEvent_kept s l 19 hk
  kept_ite (State.refuseImage_kept _ _ _ told) (kept_ite (State.refuseCheck_kept _ _ _ told) hk)

theorem execTranslationDone_goes (l : LaneId) (cached kept : Option Bytes) (hk : Kept H qs s) :
    Goes H qs (execTranslationDone l cached kept s) := by
  refine kept_ite (State.loadSteps_kept _ _ _ hk) (kept_ite (kept_ite ?_ (State.reloadRetained_kept _ _ hk))
    (kept_ite (State.checkSteps_kept _ _ _ hk) hk))
  have translating : Kept H qs (s.setLane l { s.lanes.get l with
      state := .translate, loader := { (s.lanes.get l).loader with retained := false } }) := kept_sameMem hk rfl
  split
  · exact State.refuseImage_kept _ _ _ translating
  · exact kept_ite (State.resumed_kept _ _ translating) (State.loaded_kept _ _ translating)

theorem execCheckDone_goes (l : LaneId) (code : Option Bytes) (hk : Kept H qs s) : Goes H qs (execCheckDone l code s) :=
  kept_ite (State.checkVectors_kept _ _ (kept_ite (State.checkSteps_kept _ _ _ hk) hk)) hk

theorem execRetryingEntry_goes (l : LaneId) (hk : Kept H qs s) : Goes H qs (execRetryingEntry l s) := by
  show Kept H qs _
  split
  · exact kept_ite (kept_ite (State.retire_kept _ _ _ hk) (State.syncInhibit_kept _ (kept_noMem hk (Lane.enterRetrying_mem _ _)))) hk
  · exact hk

theorem execRestartDone_goes (rd : CodeRead) (hk : Kept H qs s) : Goes H qs (execRestartDone rd s) :=
  kept_onLane_sameMem hk fun n => by dsimp only; (repeat' split) <;> simp

theorem execRestartTimeout_goes (l : LaneId) (hk : Kept H qs s) : Goes H qs (execRestartTimeout l s) :=
  kept_ite (State.retire_kept _ _ _ hk) hk

theorem execRetirementRecordWrite_goes (l : LaneId) (answered : Bool) (hk : Kept H qs s) :
    Goes H qs (execRetirementRecordWrite l answered s) := by
  refine kept_ite (kept_ite (State.clearWaiting_kept _ (kept_setLane (State.logEvent_kept _ _ _ _ _ (kept_mk hk)) fun hH => ?_))
    (State.laneEvent_kept _ _ _ hk)) hk
  exact hk.mem hH l

theorem execCommitTarget_goes (l : LaneId) (hk : Kept H qs s) : Goes H qs (execCommitTarget l s) := by
  show Kept H qs _
  dsimp only
  split
  · exact kept_ite (State.readRecord_kept _ _ (State.bootImage_kept _ _ (State.syncInhibit_kept _
      (kept_noMem (State.takeCommit_kept _ _ _ hk) rfl)))) hk
  · exact hk

/-! ### Power and sleep (R385-R400) -/

theorem execLaneShed_goes (l : LaneId) (mv : Nat) (hk : Kept H qs s) : Goes H qs (execLaneShed l mv s) :=
  have shed {f : PwrRegs → PwrRegs} : Kept H qs (s.setLane l (((s.lanes.get l).measure mv).onPwr f)) :=
    kept_sameMem hk ((Lane.onPwr_mem _ _).trans (Lane.measure_mem _ _))
  kept_ite (kept_ite (State.sessionDown_kept _ shed) shed) hk

theorem execDropOut_goes (l : LaneId) (hk : Kept H qs s) : Goes H qs (execDropOut l s) := by
  refine kept_ite (State.laneSleeps_kept _ _ _ (State.lastBlocks_kept _ _ (kept_sameMem hk ?_))) (kept_ite (kept_sameMem hk (Lane.onPwr_mem _ _)) hk)
  split
  · exact Lane.withdrawAll_mem _ _
  · rfl

theorem execAlwaysOnOff_goes (l : LaneId) (hk : Kept H qs s) : Goes H qs (execAlwaysOnOff l s) :=
  kept_sameMem (State.laneDown_kept _ _ _ _ hk) rfl

theorem execSleepAck_goes (l : LaneId) (hk : Kept H qs s) : Goes H qs (execSleepAck l s) :=
  kept_ite (kept_ite (State.planeDown_kept _ _ hk) (State.cancelSleep_kept _ hk)) hk

theorem execSleepRefusal_goes (h : Holder) (hk : Kept H qs s) : Goes H qs (execSleepRefusal h s) := by
  cases h with
  | lane l => exact kept_ite (State.refuseSleep_kept _ _ _ _ hk) hk
  | unit u => exact kept_ite (State.refuseSleep_kept _ _ _ _ hk) hk
  | polvin => exact kept_ite (State.refuseSleep_kept _ _ _ _ hk) hk

theorem execRetentionReturn_goes (l : LaneId) (hk : Kept H qs s) : Goes H qs (execRetentionReturn l s) :=
  kept_ite (kept_ite (State.wake_kept _ _ _ hk) (State.laneReturns_kept _ _ _ hk)) hk

theorem execWakeReplay_goes (l : LaneId) (hk : Kept H qs s) : Goes H qs (execWakeReplay l s) :=
  kept_ite (State.wakeAll_kept _ _ _ (kept_sameMem hk (Lane.onPwr_mem _ _))) hk

theorem execDomainRequest_goes (d : Domain) (target : DomState) (hk : Kept H qs s) : Goes H qs (execDomainRequest d target s) := by
  cases d with
  | laneMain l => exact kept_ite (kept_sameMem hk (Lane.onPwr_mem _ _)) (State.laneRequest_kept _ _ _ hk)
  | unit u => exact kept_ite (State.setUnit_kept _ _ _ hk) (State.unitRequest_kept _ _ _ hk)
  | plane p => exact kept_ite (kept_sameMem hk (Lane.onPwr_mem _ _)) (State.planeRequest_kept _ _ _ hk)
  | polvin => exact kept_ite (kept_mk hk) (State.polvinRequest_kept _ _ hk)

theorem execWakeRequest_goes (d : Domain) (hk : Kept H qs s) : Goes H qs (execWakeRequest d s) := by
  cases d with
  | laneMain l => exact kept_ite hk (State.wake_kept _ _ _ hk)
  | unit u => exact kept_ite (State.unitReturns_kept _ _ hk) (kept_ite (State.setUnit_kept _ _ _ hk) hk)
  | plane p => exact hk
  | polvin => exact State.polvinWakes_kept _ hk

/-! ### The register service (R103, R404-R410) -/

theorem execServiceRequest_goes (l : LaneId) (sender : Nat) (via : Via) (req : ReqFrame) (hk : Kept H qs s) :
    Goes H qs (execServiceRequest l sender via req s) :=
  kept_ite (kept_sameMem (State.svcOps_kept _ _ _ _ _ _ _ (State.copyIn_kept _ _ _ _ hk)) (Lane.queueRequest_mem _ _)) hk

theorem execStreamFrame_goes (l : LaneId) (sender : Nat) (via : Via) (payload : Bytes) (hk : Kept H qs s) :
    Goes H qs (execStreamFrame l sender via payload s) :=
  kept_ite (kept_sameMem (State.streamTake_kept _ _ _ _ _ hk) (Lane.queueRequest_mem _ _)) hk

theorem execRegisterWrite_goes (m : LaneErr) (hk : Kept H qs s) : Goes H qs (execRegisterWrite m s) := by
  refine kept_ite (State.finishReqs_kept _ _ (State.syncInhibit_kept _ (kept_sameMem (State.serveReqs_kept _ _ _
    (State.applyDue_kept _ _ (State.lapseDue_kept _ _ (kept_ite (State.badInterface_kept _ _ hk) hk)))) ?_))) hk
  rfl

theorem execServiceReply_goes (l : LaneId) (via : Via) (hk : Kept H qs s) : Goes H qs (execServiceReply l via s) := by
  have finished := State.finishReqs_kept s l hk
  refine kept_ite ?_ hk
  cases via with
  | port => exact kept_ite (State.portReply_kept _ _ finished) finished
  | plane p =>
    refine kept_ite ?_ finished
    split
    · exact kept_sameMem finished (Lane.sendReply_mem _ _ _)
    · exact finished

/-! ### All rows -/

/-- Every command answers a next state, with its queue as it was and every lane's bus memory canonical where it was. -/
theorem exec_goes (c : Instr) (hk : Kept H qs s) : Goes H qs (exec c s) := by
  cases c with
  | tickBoundary smp => exact execTickBoundary_goes smp hk
  | tickMarkArrival u l rx arrival => exact execTickMarkArrival_goes u l rx arrival hk
  | roundBoundary ag turned => exact execRoundBoundary_goes ag turned hk
  | measurementBlock l u rx late stale => exact execMeasurementBlock_goes l u rx late stale hk
  | commandBlock u l rx stale => exact execCommandBlock_goes u l rx stale hk
  | registerSymbol u l rx => exact execRegisterSymbol_goes u l rx hk
  | eventSymbol l u rx crc => exact execEventSymbol_goes l u rx crc hk
  | commandDeadline u => exact execCommandDeadline_goes u hk
  | voterSelfTest u ok => exact kept_ifRuns hk fun s hs => State.setUnit_kept s _ _ hs
  | missingWithdrawal u => exact execMissingWithdrawal_goes u hk
  | tickWorkStart l upsets => exact execTickWorkStart_goes l upsets hk
  | postingDeadline l miss => exact execPostingDeadline_goes l miss hk
  | roundOverrun l => exact kept_onLane_sameMem hk fun n => Lane.retryEvent_mem n l 131
  | verdictCheck l finds => exact execVerdictCheck_goes l finds hk
  | engineTest failed => exact execEngineTest_goes failed hk
  | readbackCrc read => exact execReadbackCrc_goes read hk
  | tightropeLimit l => exact kept_onLane_sameMem hk fun n => Lane.onMode_mem n _
  | standstill l => exact execStandstill_goes l hk
  | backstop j | desat j leg high | slp j leg high | comparatorTest j responded | ov1 j | ov1Release j | ov2 j | ov2Release j
  | busUv j | busUvRelease j | hot j energy | regenTrip j | regenTripEnd j | speedCrossing j rpm | islandClockLoss j
  | rearmRequest j => exact kept_onIsland hk
  | startupTimeout l => exact execStartupTimeout_goes l hk
  | suppliesGood l => exact execSuppliesGood_goes l hk
  | laneReset l => exact State.laneDown_kept _ _ _ _ hk
  | clockSwitch l => exact kept_onLane_sameMem hk fun n => (Lane.leaveBoot_mem _).trans (Lane.onPwr_mem n _)
  | signatureVerdict l => exact execSignatureVerdict_goes l hk
  | polvinTimeout l => exact execPolvinTimeout_goes l hk
  | translationDone l cached kept => exact execTranslationDone_goes l cached kept hk
  | retryingEntry l => exact execRetryingEntry_goes l hk
  | restartDone rd => exact execRestartDone_goes rd hk
  | restartTimeout l => exact execRestartTimeout_goes l hk
  | retirementRecordWrite l answered => exact execRetirementRecordWrite_goes l answered hk
  | commitTarget l => exact execCommitTarget_goes l hk
  | serviceRequest l sender via req => exact execServiceRequest_goes l sender via req hk
  | streamFrame l sender via payload => exact execStreamFrame_goes l sender via payload hk
  | serviceReply l via => exact execServiceReply_goes l via hk
  | registerWrite m => exact execRegisterWrite_goes m hk
  | go ag => exact execGo_goes ag hk
  | abort ag => exact execAbort_goes ag hk
  | start l | check l | loadAbort l => exact State.cnvDo_kept _ _ _ hk fun _ hn => hn
  | slotErased l => exact kept_onLane_sameMem hk fun n => Lane.onLoader_mem n _
  | cnvWinWrite l offset value => exact kept_ite (State.cnvDo_kept _ _ _ hk fun _ hn => hn) hk
  | checkDone l code => exact execCheckDone_goes l code hk
  | cnvCmt l hash delay logOk => exact execCnvCmt_goes l hash delay logOk hk
  | svcreq l sender => exact kept_ite (State.svcreq_kept _ _ _ hk) hk
  | svcexit l sender => exact kept_ite (State.svcexit_kept _ _ _ hk) hk
  | spclaim l | sprel l succ => exact kept_onLane_sameMem hk fun n => Lane.onOffice_mem n _
  | sketch l sender => exact kept_ite (State.sketch_kept _ _ _ hk) hk
  | newchal w | enrol w | rotate w | passwd w | unlock w | lock w | varnish w | strip w | cert w | bkey w =>
    exact State.secAsked_kept _ _ _ hk
  | lockoutEnd => exact kept_ite (kept_mk hk) hk
  | unlockExpiry | challengeExpiry => exact kept_mk hk
  | ceremonyDone logOk => exact execCeremonyDone_goes logOk hk
  | unretire w mask => exact kept_ite (State.retireClear_kept _ _ _ hk) hk
  | attestationRequest index value => exact kept_ite (State.nonceWrite_kept _ _ _ _ hk) hk
  | reportReady => exact execReportReady_goes hk
  | clrbf j | clrlatch j => exact State.onIslandService_kept _ _ _ hk
  | clrcf j => exact kept_ite (State.clearChopper_kept _ _ hk) hk
  | supplyRestart x p => exact State.restartSupply_kept _ _ _ hk
  | compareArm f c e ctl => exact kept_ite (kept_onChan hk) hk
  | comparePositionWrite f c e p | quadEdge f c up offset | indexPulse f c | converterUpdate f c u | reacq f c offset | sentFrame f c rx
  | comparePulseEnd f c | zero f c => exact kept_onChan hk
  | ringStart l r | ringStop l r | ringClr l r => exact kept_onLane_sameMem hk fun n => Lane.onRing_mem n r _
  | requestLine l line => exact kept_onLane_sameMem hk fun n => Lane.raiseLine_mem n l line
  | mark l m => exact execMark_goes l m hk
  | descriptorFetch l r => exact kept_onLane_sameMem hk fun n => Lane.ringFetch_mem n l r
  | burst l r => exact execBurst_goes l r hk
  | dmaEnd l r => exact execDmaEnd_goes l r hk
  | buserr l r addr => exact execBuserr_goes l r addr hk
  | force h src => exact execForce_goes h src hk
  | severeClear h src => exact execSevereClear_goes h src hk
  | clrce l => exact kept_onLane_sameMem hk fun n => Lane.onMem_mem n _
  | windowExpiry h src => exact execWindowExpiry_goes h src hk
  | frameReceive l f => exact execFrameReceive_goes l f hk
  | beaconReceive l f => exact kept_ite (State.beacon_kept _ _ _ hk) hk
  | listenExpiry l => exact kept_onLane_sameMem hk fun n => Lane.onNet_mem n _
  | beaconLost l | cyclePoint l k => exact kept_onLane_sameMem hk fun n => (Lane.event_mem _ _ _ _).trans (Lane.onNet_mem n _)
  | slotTransmit l slot depart => exact execSlotTransmit_goes l slot depart hk
  | joinMsg1 l f | joinMsg3 l f => exact kept_ite (State.joinFrame_kept _ _ _ hk) hk
  | joinMsg2 l peer => exact execJoinMsg2_goes l peer hk
  | joinMsg4 l peer => exact execJoinMsg4_goes l peer hk
  | keyEpochAdvance => exact execKeyEpochAdvance_goes hk
  | acceptanceWindowClose l slot => exact execAcceptanceWindowClose_goes l slot hk
  | trunkLink l medium up => exact kept_onLane_sameMem hk fun n => Lane.onNet_mem n _
  | rmVacant l => exact kept_onLane_sameMem hk fun n => by simp
  | sessionOpen msgs => exact execSessionOpen_goes msgs hk
  | sessionEnd => exact kept_ite (State.sessionDown_kept _ hk) hk
  | guidanceSystemCommand l sa data | fdFrame l ident data => exact kept_onLane_sameMem hk fun n => n.canFrame_sameMem l data _
  | addressClaim m => exact execAddressClaim_goes m hk
  | addressClaimLost l => exact execAddressClaimLost_goes l hk
  | requestForAddressClaimed m => exact execRequestForAddressClaimed_goes m hk
  | canBusoff l => exact kept_onLane_sameMem hk fun n => Lane.busOff_mem n l
  | chopperFault j => exact execChopperFault_goes j hk
  | chopperTestPulse j current => exact execChopperTestPulse_goes j current hk
  | chopperLimit b on => exact execChopperLimit_goes b on hk
  | testPulseOff x p | testPulseOn x p | xsClear x j | psupOc x p | pgood x p | oredFeedLow x | oredFeedReturn x => exact kept_onSio hk
  | laneShed l mv => exact execLaneShed_goes l mv hk
  | shedRelease l mv => exact kept_onLane_sameMem hk fun n => (Lane.onPwr_mem _ _).trans (Lane.measure_mem n mv)
  | dropOut l => exact execDropOut_goes l hk
  | mainOff l => exact kept_ite hk (State.laneDown_kept _ _ _ _ hk)
  | alwaysOnOff l => exact execAlwaysOnOff_goes l hk
  | alwaysOnPowerUp l => exact kept_onLane_sameMem hk fun n => rfl
  | retentionReturn l => exact execRetentionReturn_goes l hk
  | sleep u => exact execSleep_goes u hk
  | sleepAck l => exact execSleepAck_goes l hk
  | cancel l => exact kept_ite (State.cancelSleep_kept _ hk) hk
  | sleepRefusal h => exact execSleepRefusal_goes h hk
  | wake l src => exact State.wake_kept _ _ _ hk
  | wakeReplay l => exact execWakeReplay_goes l hk
  | domainRequest d target => exact execDomainRequest_goes d target hk
  | wakeRequest d => exact execWakeRequest_goes d hk
  | linkTraining l u delay => exact execLinkTraining_goes l u delay hk
  | linkDown l u => exact execLinkDown_goes l u hk
  | deviceKeyGeneration => exact execDeviceKeyGeneration_goes hk
  | polvinPowerUp => exact execPolvinPowerUp_goes hk
  | unitPowerUp u => exact execUnitPowerUp_goes u hk
  | unitRetentionLimit u => exact execUnitRetentionLimit_goes u hk

/-- A row that goes on answers a next state, and that state is kept. -/
theorem Goes.next {o : Host.Outcome State Fault Refusal} (h : Goes H qs o) : ∃ t, o = .next t ∧ Kept H qs t := by
  cases o with
  | next t => exact ⟨t, rfl, h⟩
  | fault r => exact h.elim
  | refused r => exact h.elim

end rows

/-- A state whose memories are canonical keeps them so with any queue. -/
theorem kept_of_memCanonical {s : State} (h : memCanonical s) (q : List Instr) : Kept True q { s with pending := q } := ⟨rfl, fun _ => h⟩

/-- Settles O3: no lane's memory lists a byte after reset. -/
theorem resetMemoryCanonical : Obligations.ResetMemoryCanonical := fun l => by rw [State.reset_lane]; rfl

/-- Settles O4: the step idles or runs the row of the front command, and every row keeps the canonical form. -/
theorem stepKeepsMemoryCanonical : Obligations.StepKeepsMemoryCanonical := by
  intro s t canonical stepped
  unfold step at stepped
  split at stepped
  · cases stepped; exact canonical
  next c rest _ =>
    obtain ⟨u, ran, kept⟩ := (exec_goes c (kept_of_memCanonical canonical rest)).next
    cases ran.symm.trans stepped
    exact kept.mem trivial

/-- The byte read after one was written. -/
theorem memGet_memPut {m : List Host.Cell} (wf : memWf m = true) (a x : Nat) (b : Byte) :
    memGet (memPut m a b) x = if x = a then b else memGet m x := by
  split
  next same => subst same; exact memGet_memPut_same m x b 0 wf
  next other => exact memGet_memPut_other m a x b 0 wf other

/-- Settles O5: what is read at the address written, and at any other. -/
theorem memoryReadAfterWrite : Obligations.MemoryReadAfterWrite := fun _ a x b wf => memGet_memPut wf a x b

end Sys2Proof.Machine

namespace Sys2Proof.Machine
open Sys2Proof

/-! ## The rings of a lane (R284, R287, R292) -/

@[simp] theorem ringOf_setLane (s : State) (l : LaneId) (n : Lane) (r : Nat) : ringOf (s.setLane l n) l r = n.ring r := by
  simp [ringOf, Lane.ring]

@[simp] theorem Lane.onRing_rings_length (n : Lane) (r : Nat) (f : Ring → Ring) :
    (n.onRing r f).main.dma.rings.length = n.main.dma.rings.length := by
  simp [Lane.onRing, updAt_eq_modify]

theorem Lane.onRing_ring_same {n : Lane} {r : Nat} (h : r < n.main.dma.rings.length) (f : Ring → Ring) : (n.onRing r f).ring r = f (n.ring r) :=
  updAt_getD_same h f {}

theorem Lane.onRing_ring_other (n : Lane) {r k : Nat} (h : k ≠ r) (f : Ring → Ring) : (n.onRing r f).ring k = n.ring k :=
  updAt_getD_other _ h f {}

/-- A change that leaves a ring as it is leaves the lane as it is. -/
theorem Lane.onRing_same {n : Lane} {r : Nat} {f : Ring → Ring} (h : r < n.main.dma.rings.length) (hf : f (n.ring r) = n.ring r) :
    n.onRing r f = n := by
  have same : updAt n.main.dma.rings r f = n.main.dma.rings := by
    refine List.ext_getElem? fun k => ?_
    rw [updAt_eq_modify, List.getElem?_modify]
    split
    next at_r =>
      subst at_r
      simpa [Lane.ring, h] using hf
    next => simp
  simp only [Lane.onRing, Lane.onDma, Lane.onMain, same]

/-- A ring changed in a lane changes no other part and no other ring. -/
theorem onlyRing_onRing (s : State) (l : LaneId) (r : Nat) (f : Ring → Ring) : onlyRing l r s (s.setLane l ((s.lanes.get l).onRing r f)) := by
  refine ⟨?_, fun k hk => ?_⟩
  · rw [State.setLane_lanes, Tri.get_set_same]; rfl
  · rw [ringOf_setLane, Lane.onRing_ring_other _ hk]; rfl

/-- Lanes A and B with their main domain running have data movers (R284). -/
theorem hasDma_awake {l : LaneId} {n : Lane} (hl : l ≠ .c) (awake : n.awake = true) : hasDma l n = true := by simp [hasDma, procLane, hl, awake]

/-- The sources of the data movers in lanes A and B (R365). -/
theorem evtDefault_dma {l : LaneId} (hl : l ≠ .c) {k : Nat} (h : 132 ≤ k) (h' : k ≤ 135) : (evtDefault (laneKind l) k).isSome = true := by
  have kind : laneKind l = .laneP := by
    cases l with
    | a => rfl
    | b => rfl
    | c => exact absurd rfl hl
  rw [kind]
  interval_cases k <;> rfl

/-! ## A request line (R291, R292) -/

/-- A ring once a line was raised: in FETCH or ACTIVE and with the line its own it counts the request up to 15, and drops it beyond (R292). -/
def Ring.requested (line : Nat) (g : Ring) : Ring :=
  if (g.state = 1 ∨ g.state = 2) ∧ g.req = line then
    if g.pend < 15 then { g with pend := g.pend + 1 } else { g with ovrqn := g.ovrqn.add 1 }
  else g

/-- A request writes the count of requests and that of those dropped. -/
theorem Ring.requested_rest (line : Nat) (g : Ring) :
    g.requested line = { g with pend := (g.requested line).pend, ovrqn := (g.requested line).ovrqn } := by
  unfold Ring.requested
  (repeat' split) <;> rfl

/-- A ring drops a request (R292). -/
def Ring.drops (line : Nat) (g : Ring) : Prop := (g.state = 1 ∨ g.state = 2) ∧ g.req = line ∧ 15 ≤ g.pend

section requestRing
variable (l : LaneId) (line : Nat) (n : Lane)

@[simp] theorem Lane.requestRing_rings_length (r : Nat) : (n.requestRing l line r).main.dma.rings.length = n.main.dma.rings.length := by
  simp only [Lane.requestRing]
  (repeat' split)
  · exact Lane.onRing_rings_length _ _ _
  · exact Lane.onRing_rings_length _ _ _
  · rfl

theorem Lane.requestRing_ring_same {r : Nat} (h : r < n.main.dma.rings.length) : (n.requestRing l line r).ring r = (n.ring r).requested line := by
  simp only [Lane.requestRing, Ring.requested]
  (repeat' split)
  · exact Lane.onRing_ring_same h _
  · exact Lane.onRing_ring_same h _
  · rfl

theorem Lane.requestRing_ring_other {r k : Nat} (h : k ≠ r) : (n.requestRing l line r).ring k = n.ring k := by
  simp only [Lane.requestRing]
  (repeat' split)
  · exact Lane.onRing_ring_other n h _
  · exact Lane.onRing_ring_other n h _
  · rfl

theorem Lane.requestRing_status_kept (r : Nat) {j : Nat} (h : n.main.evt.status.testBit j = true) :
    (n.requestRing l line r).main.evt.status.testBit j = true := by
  simp only [Lane.requestRing]
  (repeat' split)
  · exact h
  · exact Lane.event_status_kept _ _ _ h
  · exact h

/-- A request dropped raises DMA_OVRQ (R292). -/
theorem Lane.requestRing_overrun (hl : l ≠ .c) {r : Nat} (h : (n.ring r).drops line) : (n.requestRing l line r).main.evt.status.testBit 133 = true := by
  obtain ⟨runs, own, full⟩ := h
  simp only [Lane.requestRing, runs, own, and_self, if_true, Nat.not_lt.mpr full, if_false]
  exact Lane.event_status_set _ _ _ (evtDefault_dma hl (by decide) (by decide))

/-- Requests at several rings. -/
theorem Lane.requestRings_ring (rs : List Nat) (once : rs.Nodup) (inside : ∀ r ∈ rs, r < n.main.dma.rings.length) (k : Nat) :
    (rs.foldl (Lane.requestRing l line) n).ring k = if k ∈ rs then (n.ring k).requested line else n.ring k := by
  induction rs generalizing n with
  | nil => rfl
  | cons r rs ih =>
    obtain ⟨notIn, once⟩ := List.nodup_cons.mp once
    obtain ⟨first, rest⟩ := List.forall_mem_cons.mp inside
    rw [List.foldl_cons, ih _ once (by simpa using rest)]
    by_cases same : k = r
    · subst same
      rw [if_neg notIn, if_pos List.mem_cons_self, Lane.requestRing_ring_same l line n first]
    · simp only [List.mem_cons, same, false_or, Lane.requestRing_ring_other l line n same]

theorem Lane.requestRings_status_kept (rs : List Nat) {j : Nat} (h : n.main.evt.status.testBit j = true) :
    (rs.foldl (Lane.requestRing l line) n).main.evt.status.testBit j = true :=
  rs.foldlRecOn (motive := fun m : Lane => m.main.evt.status.testBit j = true) _ h fun m hm r _ => Lane.requestRing_status_kept l line m r hm

theorem Lane.requestRings_overrun (hl : l ≠ .c) (rs : List Nat) (once : rs.Nodup) {r : Nat} (hr : r ∈ rs) (h : (n.ring r).drops line) :
    (rs.foldl (Lane.requestRing l line) n).main.evt.status.testBit 133 = true := by
  induction rs generalizing n with
  | nil => exact absurd hr List.not_mem_nil
  | cons k rs ih =>
    rw [List.foldl_cons]
    obtain ⟨notIn, once⟩ := List.nodup_cons.mp once
    rcases List.mem_cons.mp hr with same | later
    · subst same
      exact Lane.requestRings_status_kept l line _ rs (Lane.requestRing_overrun l line n hl h)
    · have other : r ≠ k := fun same => notIn (same ▸ later)
      exact ih _ once later (by rwa [Lane.requestRing_ring_other l line n other])

end requestRing

/-- The lines raised by what they stand for (R291): all below 96 but 13 to 15 and 68 to 71. -/
def lineUsed (line : Nat) : Prop := line < 96 ∧ ¬ (13 ≤ line ∧ line ≤ 15) ∧ ¬ (68 ≤ line ∧ line ≤ 71)

/-- A line raised in lane A or B: every ring counts its request (R292). -/
theorem lineRaised_raiseLine {s : State} {l : LaneId} {line : Nat} (hl : l ≠ .c) (len : (s.lanes.get l).main.dma.rings.length = 32)
    (used : lineUsed line) : lineRaised l line s (s.setLane l ((s.lanes.get l).raiseLine l line)) := by
  have raised : (s.lanes.get l).raiseLine l line = (List.range 32).foldl (Lane.requestRing l line) (s.lanes.get l) :=
    if_pos ⟨by simp [procLane, hl], used⟩
  have ring (r : Nat) (hr : r < 32) :
      ringOf (s.setLane l ((s.lanes.get l).raiseLine l line)) l r = (ringOf s l r).requested line := by
    rw [ringOf_setLane, raised, Lane.requestRings_ring l line _ _ List.nodup_range (by simp [len]), if_pos (List.mem_range.mpr hr)]
    rfl
  refine ⟨onlyLane_setLane _ _ _, fun r hr => ?_⟩
  rw [ring r hr]
  refine ⟨fun runs own room => ?_, fun runs own full => ⟨?_, ?_⟩, fun idle notRun => ?_, fun other => ?_⟩
  · simp [Ring.requested, runs, own, room]
  · simp [Ring.requested, runs, own, Nat.not_lt.mpr full]
  · rw [State.setLane_lanes, Tri.get_set_same, raised]
    exact Lane.requestRings_overrun l line _ hl _ List.nodup_range (List.mem_range.mpr hr) ⟨runs, own, full⟩
  · simp [Ring.requested, idle, notRun]
  · simp [Ring.requested, other]

/-- The lines of the FIFOs are 64 to 67 (R291). -/
theorem Mover.fifoLine_range {d : Mover} {line : Nat} (h : d.fifoLine line = true) : 64 ≤ line ∧ line ≤ 67 := by
  simp only [Mover.fifoLine, Bool.or_eq_true, Bool.and_eq_true, decide_eq_true_eq] at h
  omega

/-- Settles O58: a line raised reaches every ring it names, and a request of a line that stands for something else does nothing. -/
theorem ringsCountRequests : Obligations.RingsCountRequests := by
  intro s l line hl awake len
  have dma := hasDma_awake hl awake
  refine ⟨fun due => ⟨_, exec_acts rfl ?_ rfl, lineRaised_raiseLine hl len ?_⟩, fun outside idle => exec_idle rfl ?_⟩
  · simpa [dma, Lane.lineDue] using due
  · rcases due with task | fifo
    · unfold lineUsed; omega
    · have := Mover.fifoLine_range fifo
      unfold lineUsed; omega
  · have noTask : ¬ (32 ≤ line ∧ line < 64) := by omega
    simp [Lane.lineDue, noTask, idle]

/-! ## The control of a ring (R285, R298, R299) -/

theorem ringStart_runs {g : Ring} (h : g.state = 1 ∨ g.state = 2) : ringStart g = g := if_pos h
theorem ringStart_stands {g : Ring} (h : ¬ (g.state = 1 ∨ g.state = 2)) :
    ringStart g = { g with state := 1, code := 0, next := g.desc, req := 0x7F, srcs := [], dsts := [], hold := [], moved := 0 } := if_neg h
theorem ringStop_runs {g : Ring} (h : g.state = 1 ∨ g.state = 2) : ringStop g = { g with state := 3, code := 1, hold := [], bank := none } := if_pos h
theorem ringStop_stands {g : Ring} (h : ¬ (g.state = 1 ∨ g.state = 2)) : ringStop g = g := if_neg h

/-- A ring control that leaves the ring as it is changes nothing. -/
theorem State.setLane_onRing_same {s : State} {l : LaneId} {r : Nat} {f : Ring → Ring} (h : r < (s.lanes.get l).main.dma.rings.length)
    (hf : f (ringOf s l r) = ringOf s l r) : s.setLane l ((s.lanes.get l).onRing r f) = s := by
  rw [Lane.onRing_same h hf, State.setLane_self]

/-- Settles O45: START, STOP and CLR of a ring in every state, and the marks. -/
theorem ringControlAndMarks : Obligations.RingControlAndMarks := by
  intro s l hl awake
  have dma := hasDma_awake hl awake
  refine ⟨fun r hr => ⟨fun owned => ?_, fun free => ?_, ?_, ?_⟩, fun m hm len => ⟨fun on due => ?_, fun off => ?_⟩⟩
  · exact exec_idle rfl (by simp [Lane.sysRing, Option.isSome_iff_ne_none.mpr owned])
  · refine ⟨_, exec_acts rfl (by simp [dma, Lane.sysRing, free]) rfl, onlyRing_onRing s l r _, fun runs => ?_, fun stands => ?_⟩
    · exact State.setLane_onRing_same hr (ringStart_runs runs)
    · rw [(ringOf_setLane ..).trans ((Lane.onRing_ring_same hr _).trans (ringStart_stands stands))]
      exact ⟨rfl, rfl, rfl, rfl⟩
  · refine ⟨_, exec_acts rfl dma rfl, onlyRing_onRing s l r _, fun stands => ?_, fun runs => ?_⟩
    · exact State.setLane_onRing_same hr (ringStop_stands stands)
    · rw [(ringOf_setLane ..).trans ((Lane.onRing_ring_same hr _).trans (ringStop_runs runs))]
      exact ⟨rfl, rfl, rfl⟩
  · refine ⟨_, exec_acts rfl dma rfl, onlyRing_onRing s l r _, ?_⟩
    rw [ringOf_setLane, Lane.onRing_ring_same hr]
    rfl
  · exact ⟨_, exec_acts rfl dma (if_pos ⟨on, due⟩), lineRaised_raiseLine hl len (by unfold lineUsed; omega)⟩
  · refine (exec_acts rfl dma (if_neg ?_)).trans (by rw [State.setLane_self])
    rintro ⟨on, due⟩
    rcases off with off | ⟨off, other⟩
    · exact Bool.false_ne_true (off.symm.trans on)
    · exact due.elim (fun every => Bool.false_ne_true (off.symm.trans every)) other

end Sys2Proof.Machine

namespace Sys2Proof.Machine
open Sys2Proof

/-! ## Bytes written in a run (R286) -/

section memory
variable {m : List Host.Cell} (wf : memWf m = true)
include wf

/-- The byte read after a run was written: that of the run inside it, the one before outside. -/
theorem memGet_memPutAll (a x : Nat) (bs : Bytes) :
    memGet (memPutAll m a bs) x = if a ≤ x ∧ x < a + bs.length then bs.getD (x - a) 0 else memGet m x := by
  induction bs generalizing m a with
  | nil => rw [if_neg (by simp)]; rfl
  | cons b bs ih =>
    have rest : memGet (memPutAll m a (b :: bs)) x = _ := ih (memWf_memPut m a b wf) (a + 1)
    rw [rest, memGet_memPut wf]
    rcases Nat.lt_trichotomy x a with below | same | above
    · rw [if_neg (by omega), if_neg (by omega), if_neg (by omega)]
    · subst same
      simp
    · obtain ⟨k, rfl⟩ : ∃ k, x = a + 1 + k := ⟨x - (a + 1), by omega⟩
      rw [if_neg (by omega : a + 1 + k ≠ a), show a + 1 + k - a = k + 1 by omega, show a + 1 + k - (a + 1) = k by omega, List.getD_cons_succ,
        List.length_cons]
      simp only [show (a + 1 ≤ a + 1 + k ∧ a + 1 + k < a + 1 + bs.length ↔ a ≤ a + 1 + k ∧ a + 1 + k < a + (bs.length + 1)) by omega]

theorem memGet_memPutAll_outside {a x : Nat} {bs : Bytes} (h : x < a ∨ a + bs.length ≤ x) : memGet (memPutAll m a bs) x = memGet m x := by
  rw [memGet_memPutAll wf, if_neg (by omega)]

/-- A run reads back as written. -/
theorem memBytes_memPutAll (a : Nat) (bs : Bytes) : (List.range bs.length).map (fun i => memGet (memPutAll m a bs) (a + i)) = bs := by
  refine List.ext_getElem (by simp) fun i hi hj => ?_
  simp [memGet_memPutAll wf, hj]

/-- A little-endian number of four bytes reads back as written. -/
theorem leNat_memPutAll (a v : Nat) :
    leNat ((List.range 4).map fun i => memGet (memPutAll m a (leBytes 4 v)) (a + i)) = v % 4294967296 := by
  have read := memBytes_memPutAll wf a (leBytes 4 v)
  rw [leBytes_length] at read
  rw [read]
  exact leNat_leBytes 4 v

end memory

/-! ## The bytes of a burst (R289, R293) -/

section busBytes
variable (l : LaneId) (bank : List RxEntry)

/-- A byte taken from the lane bus leaves the rings alone. -/
theorem Lane.busTake_rings (n : Lane) (a : Nat) : (n.busTake l bank a).1.main.dma.rings = n.main.dma.rings := by
  unfold Lane.busTake
  split <;> rfl

/-- A byte taken from SRAM leaves the lane as it is; what it reads holds the lane's copies of stored states (R303). -/
theorem Lane.busTake_sram (n : Lane) {a : Nat} (h : busRange a = some .sram) :
    n.busTake l bank a = (n, (n.stateByte l (a - 0x20000000)).getD (memGet n.main.mem a)) := by
  simp [Lane.busTake, Lane.busRead, h]

theorem Lane.takeBytes_rings (n : Lane) (srcs : List Nat) : (n.takeBytes l bank srcs).1.main.dma.rings = n.main.dma.rings := by
  induction srcs generalizing n with
  | nil => rfl
  | cons a srcs ih => exact (ih _).trans (n.busTake_rings l bank a)

@[simp] theorem Lane.takeBytes_length (n : Lane) (srcs : List Nat) : (n.takeBytes l bank srcs).2.length = srcs.length := by
  induction srcs generalizing n with
  | nil => rfl
  | cons a srcs ih => exact congrArg Nat.succ (ih _)

theorem Lane.takeBytes_sram (n : Lane) (srcs : List Nat) (h : ∀ a ∈ srcs, busRange a = some .sram) :
    n.takeBytes l bank srcs = (n, srcs.map fun a => (n.stateByte l (a - 0x20000000)).getD (memGet n.main.mem a)) := by
  induction srcs with
  | nil => rfl
  | cons a srcs ih =>
    obtain ⟨first, rest⟩ := List.forall_mem_cons.mp h
    simp only [Lane.takeBytes, n.busTake_sram l bank first, ih rest, List.map_cons]

end busBytes

section busPut
variable (n : Lane)

/-- A byte put on the lane bus is written in the bus memory, or leaves it alone; the rings it leaves alone. -/
theorem Lane.busPut_mem (a : Nat) (b : Byte) : (n.busPut a b).main.mem = n.main.mem ∨ (n.busPut a b).main.mem = memPut n.main.mem a b := by
  unfold Lane.busPut
  split
  · exact .inl (Lane.postBytes_mem ..)
  · dsimp only
    split
    · split
      · exact .inl (Lane.postWord_mem ..)
      · exact .inl rfl
    · exact .inl rfl
  · exact .inl rfl
  · exact .inl rfl
  · exact .inr rfl

theorem Lane.busPut_sram {a : Nat} (h : busRange a = some .sram) (b : Byte) : (n.busPut a b).main.mem = memPut n.main.mem a b := by
  simp [Lane.busPut, h]

theorem Lane.busPut_rings (a : Nat) (b : Byte) : (n.busPut a b).main.dma.rings = n.main.dma.rings := by
  simp only [Lane.busPut]
  (repeat' split) <;> rfl

theorem Lane.mirrorPut_rings (l : LaneId) (a : Nat) (b : Byte) : (n.mirrorPut l a b).main.dma.rings = n.main.dma.rings := by
  simp only [Lane.mirrorPut]
  (repeat' split) <;> rfl

theorem Lane.putAll_rings (out : List (Nat × Byte)) : (n.putAll out).main.dma.rings = n.main.dma.rings := by
  induction out generalizing n with
  | nil => rfl
  | cons e out ih => exact (ih _).trans (n.busPut_rings _ _)

theorem Lane.mirrorAll_rings (l : LaneId) (out : List (Nat × Byte)) : (n.mirrorAll l out).main.dma.rings = n.main.dma.rings := by
  induction out generalizing n with
  | nil => rfl
  | cons e out ih => exact (ih _).trans (n.mirrorPut_rings l _ _)

variable (wf : memWf n.main.mem = true)
include wf

theorem Lane.busPut_other {a x : Nat} (h : x ≠ a) (b : Byte) : memGet (n.busPut a b).main.mem x = memGet n.main.mem x := by
  rcases n.busPut_mem a b with same | put
  · rw [same]
  · rw [put, memGet_memPut wf, if_neg h]

/-- Bytes put on the lane bus leave every other byte of its memory alone. -/
theorem Lane.putAll_other (dsts : List Nat) (bs : Bytes) {x : Nat} (h : x ∉ dsts) :
    memGet (n.putAll (dsts.zip bs)).main.mem x = memGet n.main.mem x := by
  induction dsts generalizing n bs with
  | nil => rfl
  | cons d dsts ih =>
    cases bs with
    | nil => rfl
    | cons b bs =>
      obtain ⟨first, rest⟩ := not_or.mp (List.mem_cons.not.mp h)
      exact (ih (n.busPut d b) (n.busPut_wf d b wf) bs rest).trans (n.busPut_other wf first b)

/-- Bytes put into SRAM, each at an address of its own, stand there in order. -/
theorem Lane.putAll_sram (dsts : List Nat) (bs : Bytes) (sram : ∀ a ∈ dsts, busRange a = some .sram) (once : dsts.Nodup) {i : Nat}
    (hi : i < bs.length) (hd : i < dsts.length) :
    memGet (n.putAll (dsts.zip bs)).main.mem (dsts.getD i 0) = bs.getD i 0 := by
  induction dsts generalizing n bs i with
  | nil => exact absurd hd (Nat.not_lt_zero i)
  | cons d dsts ih =>
    obtain ⟨notIn, once⟩ := List.nodup_cons.mp once
    obtain ⟨first, rest⟩ := List.forall_mem_cons.mp sram
    cases bs with
    | nil => exact absurd hi (Nat.not_lt_zero i)
    | cons b bs =>
      have wfd := n.busPut_wf d b wf
      cases i with
      | zero =>
        refine ((n.busPut d b).putAll_other wfd dsts bs notIn).trans ?_
        rw [n.busPut_sram first, List.getD_cons_zero, memGet_memPut wf, if_pos rfl]
      | succ i => exact ih (n.busPut d b) wfd bs rest once (Nat.lt_of_succ_lt_succ hi) (Nat.lt_of_succ_lt_succ hd)

end busPut

/-! ## A FIFO's line asks for more (R291) -/

section fifoRequest
variable (l : LaneId) (n : Lane) {r : Nat}

/-- What a FIFO's line writes of a ring: its requests. -/
theorem Lane.fifoRequest_ring (h : r < n.main.dma.rings.length) : (n.fifoRequest l r).ring r =
    if n.main.dma.fifoLine (n.ring r).req then (n.ring r).requested (n.ring r).req else n.ring r := by
  unfold Lane.fifoRequest
  split
  · exact Lane.requestRing_ring_same l _ n h
  · rfl

theorem Lane.fifoRequest_rest (h : r < n.main.dma.rings.length) :
    ∃ p o, (n.fifoRequest l r).ring r = { n.ring r with pend := p, ovrqn := o } := by
  rw [n.fifoRequest_ring l h]
  split
  · exact ⟨_, _, Ring.requested_rest _ _⟩
  · exact ⟨_, _, rfl⟩

/-- A ring with another line is asked for nothing. -/
theorem Lane.fifoRequest_none (h : (n.ring r).req < 64 ∨ 67 < (n.ring r).req) : n.fifoRequest l r = n := by
  refine if_neg fun fifo => ?_
  have := Mover.fifoLine_range fifo
  omega

end fifoRequest

/-! ## A descriptor fetched (R287, R294) -/

section fetch
variable (n : Lane) (l : LaneId) (r : Nat)

/-- The descriptor a ring fetches, with the ranges of its sources and destinations, and what the checks find (R287, R288, R294). -/
def Lane.nextDesc : Desc := n.desc (n.ring r).next
def Lane.nextSrcs : List (Nat × Nat) := (List.range (n.nextDesc r).nsrc).map (n.sglEntry (n.nextDesc r))
def Lane.nextDsts : List (Nat × Nat) := (List.range (n.nextDesc r).ndst).map fun k => n.sglEntry (n.nextDesc r) ((n.nextDesc r).nsrc + k)
def Lane.nextCode : Option Nat := n.fetchCode l r (n.ring r).next (n.nextDesc r) (n.nextSrcs r) (n.nextDsts r)

/-- A ring made ACTIVE at the first byte of the descriptor it fetches (R294). -/
def Lane.begun (g : Ring) : Ring :=
  let d := n.nextDesc r
  { g with
    state := 2, code := 0, cur := (n.ring r).next, next := d.next, req := d.req, burst := (d.b7 % 32 + 1) * 8
    dw := if d.mode = 0 then d.dw else d.fw, srcs := sideAddrs d true (n.nextSrcs r), dsts := sideAddrs d false (n.nextDsts r), hold := []
    moved := 0, crcKind := d.crc, crcReg := if d.crc = 1 then 0xFFFFFFFF else 0xFFFF, evt := d.b4.testBit 6, haltAfter := d.b4.testBit 7
    bank := none }

variable {n l r}
variable (inside : r < n.main.dma.rings.length)
include inside

/-- A descriptor that passes the checks makes the ring ACTIVE at its first byte (R294). -/
theorem Lane.ringFetch_passes (ok : n.nextCode l r = none) :
    ((n.ringFetch l r).ring r).cur = (n.ring r).next ∧ ((n.ringFetch l r).ring r).state = 2 ∧ ((n.ringFetch l r).ring r).code = 0 ∧
      ((n.ringFetch l r).ring r).moved = 0 ∧ ((n.ringFetch l r).ring r).next = (n.nextDesc r).next ∧
      ((n.ringFetch l r).ring r).srcs = sideAddrs (n.nextDesc r) true (n.nextSrcs r) ∧
      ((n.ringFetch l r).ring r).dsts = sideAddrs (n.nextDesc r) false (n.nextDsts r) := by
  have fetched : n.ringFetch l r = (n.onRing r (n.begun r)).fifoRequest l r := by
    simp only [Lane.ringFetch]
    split
    · rfl
    next c refused => exact nomatch refused.symm.trans ok
  obtain ⟨p, o, ring⟩ := Lane.fifoRequest_rest l _ ((n.onRing_rings_length r (n.begun r)).symm ▸ inside)
  rw [fetched, ring, Lane.onRing_ring_same inside]
  exact ⟨rfl, rfl, rfl, rfl, rfl, rfl, rfl⟩

/-- A descriptor that a check refuses stops the ring in ERROR with that check's code (R294). -/
theorem Lane.ringFetch_refused {c : Nat} (bad : n.nextCode l r = some c) :
    ((n.ringFetch l r).ring r).cur = (n.ring r).next ∧ ((n.ringFetch l r).ring r).state = 4 ∧ ((n.ringFetch l r).ring r).code = c := by
  have stopped : (n.ringFetch l r).ring r = { n.ring r with state := 4, code := c, cur := (n.ring r).next } := by
    rw [← Lane.onRing_ring_same inside fun g => { g with state := 4, code := c, cur := (n.ring r).next }]
    simp only [Lane.ringFetch]
    split
    next passed => exact nomatch passed.symm.trans bad
    next d refused =>
      cases Option.some.inj (refused.symm.trans bad)
      split <;> rfl
  rw [stopped]
  exact ⟨rfl, rfl, rfl⟩

end fetch

/-! ## A burst (R289-R291, R298) -/

section burst
variable (n : Lane) (l : LaneId) (r : Nat)

/-- The receive bank of a burst, its source bytes with the lane that gave them, the bytes held with those before, and those written of them. -/
def Lane.burstBank : List RxEntry := (n.ring r).bank.getD n.main.net.bank
def Lane.burstTaken : Lane × Bytes := n.takeBytes l (n.burstBank r) ((n.ring r).srcs.take (n.ring r).burst)
def Lane.burstHeld : Bytes := (n.ring r).hold ++ (n.burstTaken l r).2
def Lane.burstBeats : Nat := (n.burstHeld l r).length / (n.ring r).dw * (n.ring r).dw
def Lane.burstOut : List (Nat × Byte) := (n.ring r).dsts.zip ((n.burstHeld l r).take (n.burstBeats l r))

/-- The ring after a burst, before a FIFO's line asks again. -/
def Lane.burstRing : Ring :=
  let g := n.ring r
  { g with
    bank := some (n.burstBank r), srcs := g.srcs.drop g.burst, dsts := g.dsts.drop (n.burstBeats l r)
    hold := (n.burstHeld l r).drop (n.burstBeats l r), moved := g.moved + (n.burstTaken l r).2.length
    crcReg := ringCrc g.crcKind g.crcReg (n.burstTaken l r).2, pend := g.pend - 1 }

theorem Lane.ringBurst_eq : n.ringBurst l r =
    ((((n.burstTaken l r).1.putAll (n.burstOut l r)).mirrorAll l (n.burstOut l r)).onRing r fun _ => n.burstRing l r).fifoRequest l r := rfl

theorem Lane.burstTaken_length : (n.burstTaken l r).2.length = min (n.ring r).burst (n.ring r).srcs.length := by
  rw [Lane.burstTaken, Lane.takeBytes_length, List.length_take]

/-- What a burst leaves of its ring: one request is spent, unless a FIFO's line asks again (R291, R293). -/
theorem Lane.ringBurst_ring (inside : r < n.main.dma.rings.length) :
    (∃ p o, (n.ringBurst l r).ring r = { n.burstRing l r with pend := p, ovrqn := o }) ∧
      ((n.ring r).req < 64 ∨ 67 < (n.ring r).req → (n.ringBurst l r).ring r = n.burstRing l r) := by
  have there : r < (((n.burstTaken l r).1.putAll (n.burstOut l r)).mirrorAll l (n.burstOut l r)).main.dma.rings.length := by
    rwa [Lane.mirrorAll_rings, Lane.putAll_rings, Lane.burstTaken, Lane.takeBytes_rings]
  rw [n.ringBurst_eq]
  have ring := Lane.onRing_ring_same there fun _ => n.burstRing l r
  refine ⟨?_, fun other => ?_⟩
  · have asked := Lane.fifoRequest_rest l _ ((Lane.onRing_rings_length _ r fun _ => n.burstRing l r).symm ▸ there)
    rwa [ring] at asked
  · rw [Lane.fifoRequest_none l _ (by rw [ring]; exact other), ring]

/-- The bus memory after a burst. -/
theorem Lane.ringBurst_mem : (n.ringBurst l r).main.mem = ((n.burstTaken l r).1.putAll (n.burstOut l r)).main.mem := by
  rw [n.ringBurst_eq, Lane.fifoRequest_mem, Lane.onRing_mem, Lane.mirrorAll_mem]

theorem Lane.burstTaken_mem : (n.burstTaken l r).1.main.mem = n.main.mem := Lane.takeBytes_mem _ _ _ _

variable (wf : memWf n.main.mem = true)
include wf

/-- A burst leaves every byte outside its destinations alone. -/
theorem Lane.ringBurst_other {a : Nat} (h : a ∉ (n.ring r).dsts) : memGet (n.ringBurst l r).main.mem a = memGet n.main.mem a := by
  rw [n.ringBurst_mem, ← n.burstTaken_mem l r]
  exact Lane.putAll_other _ (by rwa [n.burstTaken_mem]) _ _ h

/-- A burst from SRAM to SRAM writes the bytes it holds, in order, as far as they fill whole beats (R289). -/
theorem Lane.ringBurst_sram (src : ∀ a ∈ (n.ring r).srcs, busRange a = some .sram) (dst : ∀ a ∈ (n.ring r).dsts, busRange a = some .sram)
    (once : (n.ring r).dsts.Nodup) {held : Bytes} (hheld : held = (n.ring r).hold ++ ((n.ring r).srcs.take (n.ring r).burst).map fun a =>
      (n.stateByte l (a - 0x20000000)).getD (memGet n.main.mem a)) {i : Nat} (hi : i < held.length / (n.ring r).dw * (n.ring r).dw)
    (hd : i < (n.ring r).dsts.length) : memGet (n.ringBurst l r).main.mem ((n.ring r).dsts.getD i 0) = held.getD i 0 := by
  have taken : n.burstTaken l r = _ := n.takeBytes_sram l (n.burstBank r) _ fun a ha => src a (List.mem_of_mem_take ha)
  have same : n.burstHeld l r = held := by rw [Lane.burstHeld, taken, hheld]
  have whole : held.length / (n.ring r).dw * (n.ring r).dw ≤ held.length := Nat.div_mul_le_self _ _
  have beats : n.burstBeats l r = held.length / (n.ring r).dw * (n.ring r).dw := by rw [Lane.burstBeats, same]
  rw [n.ringBurst_mem, Lane.burstOut, same, beats, taken, Lane.putAll_sram n wf _ _ dst once (by rw [List.length_take]; omega) hd]
  simp [List.getD_eq_getElem?_getD, hi]

end burst

/-! ## The end of a descriptor (R290, R294) -/

section ends
variable (n : Lane) (l : LaneId) (r : Nat)

/-- What the CRC of a descriptor is written as (R290). -/
def Ring.crcOut (g : Ring) : Nat := if g.crcKind = 1 then g.crcReg ^^^ 0xFFFFFFFF else g.crcReg

/-- The bus memory with the CRC of a descriptor, where it has one. -/
def Lane.crcWritten : List Host.Cell :=
  if (n.ring r).crcKind = 0 then n.main.mem else memPutAll n.main.mem ((n.ring r).cur + 20) (leBytes 4 (n.ring r).crcOut)

/-- The bus memory after the end of a descriptor: the CRC, then DONE (R290). -/
theorem Lane.ringEnd_mem : (n.ringEnd l r).main.mem = memPutAll (n.crcWritten r) ((n.ring r).cur + 16) (leBytes 4 (n.ring r).moved) := by
  simp only [Lane.ringEnd]
  split <;> rfl

/-- A ring whose descriptor has ended: it goes on, halts or idles (R290, R294). -/
def Ring.ended (g : Ring) : Ring := { g with
  state := if g.next = 0 then 0 else if g.haltAfter then 3 else 1, descn := satAdd 16 g.descn 1, hold := [], bank := none }

theorem Lane.ringEnd_ring (inside : r < n.main.dma.rings.length) : (n.ringEnd l r).ring r = (n.ring r).ended := by
  have rings : (n.ringEnd l r).main.dma.rings = updAt n.main.dma.rings r fun g => { g with
      state := if (n.ring r).next = 0 then 0 else if (n.ring r).haltAfter then 3 else 1, descn := satAdd 16 g.descn 1, hold := [], bank := none } := by
    simp only [Lane.ringEnd]
    split <;> rfl
  rw [Lane.ring, rings, updAt_getD_same inside]
  rfl

variable (wf : memWf n.main.mem = true)
include wf

theorem Lane.crcWritten_wf : memWf (n.crcWritten r) = true := by
  unfold Lane.crcWritten
  split
  · exact wf
  · exact memWf_memPutAll _ _ _ wf

theorem Lane.crcWritten_other {a : Nat} (h : a < (n.ring r).cur + 20 ∨ (n.ring r).cur + (if (n.ring r).crcKind = 0 then 20 else 24) ≤ a) :
    memGet (n.crcWritten r) a = memGet n.main.mem a := by
  unfold Lane.crcWritten
  split
  · rfl
  next crc =>
    rw [if_neg crc] at h
    exact memGet_memPutAll_outside wf (by rw [leBytes_length]; omega)

/-- The end of a descriptor leaves every byte outside its write-back alone (R287, R290). -/
theorem Lane.ringEnd_other {a : Nat} (h : a < (n.ring r).cur + 16 ∨ (n.ring r).cur + (if (n.ring r).crcKind = 0 then 20 else 24) ≤ a) :
    memGet (n.ringEnd l r).main.mem a = memGet n.main.mem a := by
  have past : 20 ≤ if (n.ring r).crcKind = 0 then 20 else 24 := by split <;> omega
  rw [n.ringEnd_mem, memGet_memPutAll_outside (n.crcWritten_wf r wf) (by rw [leBytes_length]; omega), n.crcWritten_other r wf (by omega)]

/-- The CRC it writes back (R290). -/
theorem Lane.ringEnd_crc (crc : (n.ring r).crcKind ≠ 0) :
    leNat ((List.range 4).map fun i => memGet (n.ringEnd l r).main.mem ((n.ring r).cur + 20 + i)) = (n.ring r).crcOut % 4294967296 := by
  have written : n.crcWritten r = memPutAll n.main.mem ((n.ring r).cur + 20) (leBytes 4 (n.ring r).crcOut) := if_neg crc
  have read (i : Nat) : memGet (n.ringEnd l r).main.mem ((n.ring r).cur + 20 + i) = memGet (n.crcWritten r) ((n.ring r).cur + 20 + i) := by
    rw [n.ringEnd_mem, memGet_memPutAll_outside (n.crcWritten_wf r wf) (by rw [leBytes_length]; omega)]
  simp only [read, written]
  exact leNat_memPutAll wf _ _

/-- The number of bytes it writes back (R290). -/
theorem Lane.ringEnd_done :
    leNat ((List.range 4).map fun i => memGet (n.ringEnd l r).main.mem ((n.ring r).cur + 16 + i)) = (n.ring r).moved % 4294967296 := by
  rw [n.ringEnd_mem]
  exact leNat_memPutAll (n.crcWritten_wf r wf) _ _

end ends

/-! ## A bus error (R297, R325) -/

/-- MEM_UE is a source of every lane (R365). -/
theorem evtDefault_memUe (l : LaneId) : (evtDefault (laneKind l) 3).isSome = true := by cases l <;> rfl

/-- A ring stopped by a bus error (R297). -/
def Ring.failed (g : Ring) : Ring := { g with state := 4, code := 6, cur := if g.state = 1 then g.next else g.cur, hold := [], bank := none }

/-- A lane with ring `r` stopped by a bus error at an address, the error counted and raised, before it shows as MEM_UE. -/
def Lane.busFailed (n : Lane) (l : LaneId) (r addr : Nat) : Lane :=
  ((((n.onRing r Ring.failed).onDma fun m => { m with faultn := satAdd 16 m.faultn 1 }).event l 135).memUeCount (memIndex addr) addr)

theorem Lane.busFailed_rings (n : Lane) (l : LaneId) (r addr : Nat) :
    (n.busFailed l r addr).main.dma.rings = updAt n.main.dma.rings r Ring.failed := rfl

/-- A lane after a bus error of ring `r`: that of a ring the translator uses or of an axis fails the self-check (R297, R325). -/
def Lane.afterBusError (n : Lane) (l : LaneId) (r addr : Nat) : Lane :=
  if (n.busFailed l r addr).sysRing l r ∨ n.ringOwner l r < 128 then (n.busFailed l r addr).failEvent l 3 else (n.busFailed l r addr).event l 3

theorem Lane.failEvent_dma (n : Lane) (l : LaneId) (k : Nat) : (n.failEvent l k).main.dma = n.main.dma := by
  rw [Lane.main_of_unchecked (n.failEvent_unchecked l k)]

/-- MEM_UE changes no data mover and leaves of the events what its occurrence does. -/
theorem Lane.afterBusError_shown (n : Lane) (l : LaneId) (r addr : Nat) : (n.afterBusError l r addr).main.dma = (n.busFailed l r addr).main.dma ∧
    (n.afterBusError l r addr).main.evt = ((n.busFailed l r addr).event l 3).main.evt := by
  unfold Lane.afterBusError
  split
  · exact ⟨Lane.failEvent_dma _ _ _, Lane.failEvent_evt _ _ _⟩
  · exact ⟨rfl, rfl⟩

/-- Settles O46: a fetch that passes or is refused, a burst, the end of a descriptor and a bus error. -/
theorem ringWork : Obligations.RingWork := by
  intro s l r hl awake inside
  have dma := hasDma_awake hl awake
  refine ⟨fun fetching => ?fetch, fun first => ?burst, fun active done => ?done, fun runs addr => ?error⟩
  case fetch =>
    refine ⟨_, exec_acts rfl (by rw [dma, Bool.true_and]; exact decide_eq_true fetching) rfl, onlyLane_setLane _ _ _, ?_⟩
    rw [ringOf_setLane, State.setLane_lanes, Tri.get_set_same]
    split
    next ok =>
      obtain ⟨cur, rest⟩ := Lane.ringFetch_passes inside ok
      exact ⟨cur, Lane.ringFetch_mem _ _ _, rest.1, rest.2⟩
    next c bad =>
      obtain ⟨cur, rest⟩ := Lane.ringFetch_refused inside bad
      exact ⟨cur, Lane.ringFetch_mem _ _ _, rest⟩
  case burst =>
    have waits : ringWaits (ringOf s l r) = true := List.find?_some (p := fun k => ringWaits (ringOf s l k)) first
    obtain ⟨⟨p, o, ring⟩, spent⟩ := (s.lanes.get l).ringBurst_ring l r inside
    refine ⟨_, exec_acts rfl (by rw [dma, Bool.true_and]; exact decide_eq_true first) rfl, onlyLane_setLane _ _ _, ?_⟩
    rw [ringOf_setLane, State.setLane_lanes, Tri.get_set_same, ring]
    refine ⟨rfl, congrArg _ ((s.lanes.get l).burstTaken_length l r), fun other => ?_, ?_, rfl,
      fun wf a outside => Lane.ringBurst_other _ l r wf outside, fun wf src dst once => ?_⟩
    · rw [← ring, spent other]; rfl
    · simp only [ringWaits, Bool.and_eq_true, decide_eq_true_eq] at waits
      exact waits.1.1
    · intro held i hi hd
      exact Lane.ringBurst_sram _ l r wf src dst once rfl hi hd
  case done =>
    refine ⟨_, exec_acts rfl (by rw [dma, Bool.true_and, Bool.and_eq_true]; exact ⟨decide_eq_true active, decide_eq_true done⟩) rfl, onlyLane_setLane _ _ _, ?_⟩
    rw [ringOf_setLane, State.setLane_lanes, Tri.get_set_same, Lane.ringEnd_ring _ l r inside]
    exact ⟨rfl, rfl, fun wf a outside => Lane.ringEnd_other _ l r wf outside, fun wf crc => Lane.ringEnd_crc _ l r wf crc,
      fun wf small => (Lane.ringEnd_done _ l r wf).trans (Nat.mod_eq_of_lt small)⟩
  case error =>
    obtain ⟨movers, events⟩ := (s.lanes.get l).afterBusError_shown l r addr
    have ring : ((s.lanes.get l).afterBusError l r addr).ring r = (ringOf s l r).failed := by
      rw [Lane.ring, movers, Lane.busFailed_rings]
      exact updAt_getD_same inside _ _
    refine ⟨s.setLane l ((s.lanes.get l).afterBusError l r addr),
      exec_acts rfl (by rw [dma, Bool.true_and]; exact decide_eq_true runs) rfl, onlyLane_setLane _ _ _, ?_⟩
    rw [ringOf_setLane, State.setLane_lanes, Tri.get_set_same, ring, movers, events]
    exact ⟨rfl, rfl, rfl, rfl, Lane.event_status_kept _ _ _ (Lane.event_status_set _ _ _ (evtDefault_dma hl (by decide) (by decide))),
      Lane.event_status_set _ _ _ (evtDefault_memUe l)⟩

end Sys2Proof.Machine

namespace Sys2Proof.Machine
open Sys2Proof

/-! ## Parts that an effect leaves as they are -/

/-- An effect on a lane that finds nothing to do there changes nothing, whether its condition holds or not. -/
theorem State.onLane_same {s : State} {l : LaneId} {p : Lane → Bool} {f : Lane → Lane} (h : f (s.lanes.get l) = s.lanes.get l) :
    s.onLane l p f = s := by
  rw [State.onLane, h, State.setLane_self]
  exact ite_self s

/-- An effect that changes nothing does so in a unit that runs and in one that does not. -/
theorem State.ifRuns_same {s : State} {u : UnitId} {f : State → State} (h : f s = s) : s.ifRuns u f = s := by
  rw [State.ifRuns, h]
  exact ite_self s

/-! ## One forced occurrence in a block (R364, R371, R372, R382) -/

/-- A forced occurrence counts once with one of the same boundary (R382). -/
theorem EvtBlock.had_forced (b : EvtBlock) (n : Nat) : b.had n true = b.now.testBit n := Bool.true_and _

/-- A reserved source does not occur (R364). -/
theorem evtOccur_reserved {k : EvKind} {n : Nat} (reserved : evtDefault k n = none) (b : EvtBlock) (forced : Bool) (tick round : Nat) :
    evtOccur k b n forced tick round = b := by simp [evtOccur, evtCfgOf, reserved]

/-- A forced occurrence of a source that the block has, and that has not occurred at this boundary (R371, R372). -/
theorem evtOccur_forced {k : EvKind} {b : EvtBlock} {n : Nat} (has : (evtDefault k n).isSome = true) (fresh : b.now.testBit n = false)
    (tick round : Nat) : forcedIn b (evtOccur k b n true tick round) n := by
  obtain ⟨d, hd⟩ := Option.isSome_iff_exists.mp has
  simp only [evtOccur, evtCfgOf, hd, EvtBlock.had_forced, fresh, Bool.false_eq_true, if_false]
  refine ⟨rfl, rfl, fun masked => if_pos masked, fun unmasked empty => ?_, fun unmasked full => ?_⟩
  · simp [unmasked, evtFirst, empty]
  · simp [unmasked, evtFirst, full]

/-- The bit of STATUS that a forced occurrence sets. -/
theorem status_of_forcedIn {b d : EvtBlock} {n : Nat} (h : forcedIn b d n) : d.status.testBit n = true := by rw [h.1, testBit_setBit_same]

/-- An occurrence clears no bit of STATUS (R371). -/
theorem evtOccur_status_kept (k : EvKind) {b : EvtBlock} {j : Nat} (h : b.status.testBit j = true) (n : Nat) (forced : Bool) (tick round : Nat) :
    (evtOccur k b n forced tick round).status.testBit j = true := by
  unfold evtOccur
  split
  · exact h
  · split
    · exact h
    · simp [testBit_setBit, h]

/-! ## FORCE in the Polvin core (R345, R367, R375) -/

section forcePolvin
variable {s : State} {n : Nat}

/-- The core acts on FORCE where it runs. -/
theorem execForce_polvin (on : s.polvin.dom = .on) (n : Nat) : exec (.force .polvin n) s = .next (s.forcePolvin n) :=
  congrArg Host.Outcome.next (if_pos on)

/-- Beside an occurrence of the same boundary a forced one does nothing (R382). -/
theorem State.forcePolvin_had (had : s.polvin.evt.now.testBit n = true) : s.forcePolvin n = s :=
  if_pos ((s.polvin.evt.had_forced n).trans had)

/-- The sources from 10 are reserved, and forcing them does nothing (R364, R367). -/
theorem State.forcePolvin_reserved (reserved : 9 < n) : s.forcePolvin n = s := by
  have none : evtDefault .polvin n = none := if_neg (Nat.not_le.mpr reserved)
  have quiet : s.polvinEvent n true = s := by rw [State.polvinEvent, evtOccur_reserved none]
  simp [State.forcePolvin, quiet, show n ≠ 0 by omega, show n ≠ 1 by omega, show n ≠ 5 by omega, show n ≠ 6 by omega]

variable (fresh : s.polvin.evt.now.testBit n = false)
include fresh

/-- Forced in the core, a source it has is an occurrence as R372 says. -/
theorem State.polvinEvent_forced (has : n ≤ 9) : forcedIn s.polvin.evt (s.polvinEvent n true).polvin.evt n :=
  evtOccur_forced (by simp [evtDefault, has]) fresh _ _

/-- Beside its event a forced source other than PASS_FAIL and TRNG_FAIL has its reaction in the core alone. -/
theorem State.forcePolvin_own (not0 : n ≠ 0) (not6 : n ≠ 6) :
    onlyPolvin s (s.forcePolvin n) ∧ (s.forcePolvin n).polvin.evt = (s.polvinEvent n true).polvin.evt := by
  simp only [State.forcePolvin, EvtBlock.had_forced, fresh, Bool.false_eq_true, if_false, not0, not6]
  split
  · exact ⟨rfl, rfl⟩
  · split
    · split <;> exact ⟨rfl, rfl⟩
    · exact ⟨rfl, rfl⟩

end forcePolvin

/-- A forced PASS_FAIL counts a failure, and a lockout it starts is an event of its own (R345). -/
theorem State.passFail_forced {s : State} (fresh : s.polvin.evt.now.testBit 0 = false) :
    onlyPolvin s (s.passFail true) ∧ (s.passFail true).polvin.evt.status.testBit 0 = true ∧
      (s.passFail true).polvin.failCount = min (s.polvin.failCount + 1) 255 := by
  have set : (s.polvinEvent 0 true).polvin.evt.status.testBit 0 = true := status_of_forcedIn (State.polvinEvent_forced fresh (Nat.zero_le 9))
  simp only [State.passFail]
  split
  · exact ⟨rfl, set, rfl⟩
  · exact ⟨rfl, evtOccur_status_kept .polvin set 1 false _ _, rfl⟩

/-- Steps that each change the lanes alone change the lanes alone. -/
theorem State.foldl_lanes {α : Type} {f : State → α → State} (step : ∀ s x, ∃ ls, f s x = { s with lanes := ls }) (xs : List α) (s : State) :
    ∃ ls, xs.foldl f s = { s with lanes := ls } := by
  induction xs generalizing s with
  | nil => exact ⟨_, rfl⟩
  | cons x xs ih =>
    obtain ⟨ms, first⟩ := step s x
    obtain ⟨ls, rest⟩ := ih (f s x)
    exact ⟨ls, by rw [List.foldl_cons, rest, first]⟩

/-- Where the random source fails the exchanges in the lanes and the command in progress change, and a NEWCHAL ends with RESULT STATE (R367). -/
theorem State.randomFailed_effect (s : State) : s.randomFailed = { s with lanes := s.randomFailed.lanes, polvin := s.randomFailed.polvin } ∧
    s.randomFailed.polvin.evt = s.polvin.evt ∧ ∀ w, s.polvin.cmd = some (0, 0, w) → s.randomFailed.polvin.cmd = some (0, 1, w) := by
  have lanesOnly := State.foldl_lanes (f := fun s l => (s.lanes.get l).msg2Peers.foldl (fun s p => s.setLane l ((s.lanes.get l).abandon l p false)) s)
    (fun s l => State.foldl_lanes (fun _ _ => ⟨_, rfl⟩) _ s) allLanes
  unfold State.randomFailed
  dsimp only
  split
  next w newchal =>
    obtain ⟨ls, after⟩ := lanesOnly { s with polvin := { s.polvin with cmd := some (0, 1, w), chal := none } }
    rw [after, newchal]
    exact ⟨rfl, rfl, fun v same => by cases same; rfl⟩
  next other =>
    obtain ⟨ls, after⟩ := lanesOnly s
    rw [after]
    exact ⟨rfl, rfl, fun w newchal => absurd newchal (other w)⟩

/-- A forced TRNG_FAIL is its event and the failure of the random source (R367, R375). -/
theorem State.forcePolvin_trng {s : State} (fresh : s.polvin.evt.now.testBit 6 = false) : s.forcePolvin 6 = (s.polvinEvent 6 true).randomFailed := by
  simp [State.forcePolvin, EvtBlock.had_forced, fresh]

/-! ## FORCE in a unit (R32, R33, R375) -/

/-- The events of a unit are those of its block. -/
theorem unitEvt_evt (u : UnitId) (c : UnitCommon) (n : Nat) (forced : Bool) :
    (unitEvt u c n forced).evt = evtOccur (unitKind u) c.evt n forced c.tick (roundNow c % 16777216) := by
  by_cases had : c.evt.had n forced = true
  · have once : evtOccur (unitKind u) c.evt n forced c.tick (roundNow c % 16777216) = c.evt := by
      unfold evtOccur
      split
      · rfl
      · exact if_pos had
    rw [once, unitEvt, if_pos had]
  · rw [unitEvt, if_neg had]
    split <;> rfl

/-- A cause raised clears no bit of EVT_STATUS. -/
theorem raiseCause_status_kept (i : IslandId) (p : IslPair) (n : Nat) {j : Nat} (h : p.1.evt.status.testBit j = true) :
    (raiseCause i p n).1.evt.status.testBit j = true := by
  simp only [raiseCause]
  split
  · rw [islEvt, unitEvt_evt]
    exact evtOccur_status_kept _ h _ _ _ _
  · exact h

/-- What stands in STATUS on both ways of a choice stands after it. -/
theorem status_ite {c : Prop} [Decidable c] {p q : IslPair} {j : Nat} (hp : p.1.evt.status.testBit j = true) (hq : q.1.evt.status.testBit j = true) :
    (if c then p else q).1.evt.status.testBit j = true := by split <;> assumption

/-- The reaction of an island to a forced occurrence raises a cause at most, or leaves its events alone (R375): the sources 0 to 14 in order. -/
theorem forceIsland_status_kept (i : IslandId) (p : IslPair) (n : Nat) {j : Nat} (h : p.1.evt.status.testBit j = true) :
    (forceIsland i p n).1.evt.status.testBit j = true := by
  have raises : ∀ (x : Island) (cause : Nat), (raiseCause i (p.1, x) cause).1.evt.status.testBit j = true :=
    fun x cause => raiseCause_status_kept i (p.1, x) cause h
  exact status_ite h <| status_ite (status_ite (raises _ _) h) <| status_ite (raises _ _) <| status_ite (raises _ _) <|
    status_ite (raises _ _) <| status_ite h <| status_ite (raises _ _) <| status_ite (raises _ _) <| status_ite (raises _ _) <|
    status_ite h <| status_ite (raises _ _) h

/-- The common part of a unit whose source `n` is forced: VOTER_FAULT, its source 0, stands in the vote (R32, R33). -/
def UnitCommon.voterForced (c : UnitCommon) (n : Nat) : UnitCommon :=
  if n = 0 then { c with vote := { c.vote with fault := true, passes := 0 } } else c

theorem State.forceVoter_eq (s : State) (u : UnitId) (n : Nat) : s.forceVoter u n = s.setUnit u ((s.ucom.get u).voterForced n) := by
  simp only [State.forceVoter, UnitCommon.voterForced]
  split
  · rfl
  · rw [State.setUnit_self]

@[simp] theorem UnitCommon.voterForced_evt (c : UnitCommon) (n : Nat) : (c.voterForced n).evt = c.evt := by
  unfold UnitCommon.voterForced
  split <;> rfl

/-- The fault line that a forced CHOPPER_FAULT of an island pulls, in another island of the bus: that is latched there with its event (R199). -/
theorem State.chopperLine_outside (s : State) (i : IslandId) (is : List IslandId) :
    let t := is.foldl (fun s j => if j = i then s else s.ifRuns (.isl j) (fun s =>
      s.putIsl j ((islEvt j (s.islPair j) 9).1, { (islEvt j (s.islPair j) 9).2 with bus := { (islEvt j (s.islPair j) 9).2.bus with cf := true } }))) s
    t.ucom.get (.isl i) = s.ucom.get (.isl i) ∧ t.lanes = s.lanes ∧ t.polvin = s.polvin := by
  refine List.foldlRecOn (motive := fun t : State => t.ucom.get (.isl i) = s.ucom.get (.isl i) ∧ t.lanes = s.lanes ∧ t.polvin = s.polvin) is _
    ⟨rfl, rfl, rfl⟩ fun t kept j _ => ?_
  obtain ⟨own, lanes, core⟩ := kept
  split
  · exact ⟨own, lanes, core⟩
  next other =>
    have apart : UnitId.isl i ≠ .isl j := fun h => other (UnitId.isl.inj h).symm
    unfold State.ifRuns
    split
    · exact ⟨by rw [State.putIsl_ucom, Ten.get_set_other _ _ _ _ apart, own], lanes, core⟩
    · exact ⟨own, lanes, core⟩

section forceUnit
variable {s : State} {n : Nat}

/-- Nothing is forced in a unit without a configuration, nor beside an occurrence of the same boundary (R375, R382). -/
theorem State.forceUnit_none {u : UnitId} (h : (s.ucom.get u).cfg.loaded = false ∨ (s.ucom.get u).evt.now.testBit n = true) :
    s.forceUnit u n = s := by
  refine if_neg fun ⟨loaded, fresh⟩ => ?_
  rcases h with unloaded | had
  · exact Bool.false_ne_true (unloaded.symm.trans loaded)
  · exact fresh ((EvtBlock.had_forced _ _).trans had)

/-- A unit that runs acts on FORCE. -/
theorem execForce_unit {u : UnitId} (runs : s.runs u = true) (n : Nat) : exec (.force (.unit u) n) s = .next (s.forceUnit u n) :=
  congrArg Host.Outcome.next (if_pos runs)

/-- Forced in a configured unit, a source it has is an occurrence as R372 says. -/
theorem unitEvt_forced {u : UnitId} {c : UnitCommon} (has : (evtDefault (unitKind u) n).isSome = true) (fresh : c.evt.now.testBit n = false) :
    forcedIn c.evt (unitEvt u c n true).evt n := by
  rw [unitEvt_evt]
  exact evtOccur_forced has fresh _ _

/-- A configured feedback unit changes by the event, and in its vote. -/
theorem State.forceUnit_fb {f : FbId} (loaded : (s.ucom.get (.fb f)).cfg.loaded = true) (fresh : (s.ucom.get (.fb f)).evt.now.testBit n = false) :
    s.forceUnit (.fb f) n = s.setUnit (.fb f) ((unitEvt (.fb f) (s.ucom.get (.fb f)) n true).voterForced n) := by
  simp [State.forceUnit, EvtBlock.had_forced, loaded, fresh, State.unitEvent, State.forceVoter_eq]

/-- A source forced in a configured unit of any kind stands in its STATUS; no lane and no part of the core changes (R371, R375). -/
theorem State.forceUnit_status {u : UnitId} (loaded : (s.ucom.get u).cfg.loaded = true) (has : (evtDefault (unitKind u) n).isSome = true)
    (fresh : (s.ucom.get u).evt.now.testBit n = false) : ((s.forceUnit u n).ucom.get u).evt.status.testBit n = true ∧
      (s.forceUnit u n).lanes = s.lanes ∧ (s.forceUnit u n).polvin = s.polvin := by
  have set : (unitEvt u (s.ucom.get u) n true).evt.status.testBit n = true := status_of_forcedIn (unitEvt_forced has fresh)
  have acts : (s.ucom.get u).cfg.loaded = true ∧ ¬ (s.ucom.get u).evt.had n true = true := by simp [EvtBlock.had_forced, loaded, fresh]
  cases u with
  | isl i =>
    have own : ∀ q : State, (q.putIsl i (forceIsland i ((s.unitEvent (.isl i) n true).islPair i) n)).ucom.get (.isl i) =
        (forceIsland i ((s.unitEvent (.isl i) n true).islPair i) n).1 := fun q => by rw [State.putIsl_ucom, Ten.get_set_same]
    have reacted : (forceIsland i ((s.unitEvent (.isl i) n true).islPair i) n).1.evt.status.testBit n = true :=
      forceIsland_status_kept i _ n (by simpa [State.unitEvent] using set)
    rw [State.forceUnit, if_pos acts]
    dsimp only
    split
    · obtain ⟨line, lanes, core⟩ := State.chopperLine_outside
        ((s.unitEvent (.isl i) n true).putIsl i (forceIsland i ((s.unitEvent (.isl i) n true).islPair i) n)) i (busIslands i.bus)
      exact ⟨by rw [line, own]; exact reacted, lanes, core⟩
    · exact ⟨by rw [own]; exact reacted, rfl, rfl⟩
  | fb f => rw [State.forceUnit_fb loaded fresh]; exact ⟨by simpa using set, rfl, rfl⟩
  | sio x =>
    rw [State.forceUnit, if_pos acts]
    dsimp only
    rw [State.forceVoter_eq]
    exact ⟨by simpa [State.unitEvent, State.putSio] using set, rfl, rfl⟩

end forceUnit

/-! ## FORCE in a lane (R363, R365, R375) -/

section forceLane
variable {n : Lane} {l : LaneId} {k : Nat}

/-- A reserved source is not forced (R364). -/
theorem Lane.force_reserved (reserved : evtDefault (laneKind l) k = none) : n.force l k = n := by rw [Lane.force, reserved]

/-- Beside an occurrence of the same boundary a forced one does nothing (R382). -/
theorem Lane.force_had (had : n.main.evt.now.testBit k = true) : n.force l k = n := by
  unfold Lane.force
  split
  · rfl
  · exact if_pos ((n.main.evt.had_forced k).trans had)

variable (has : (evtDefault (laneKind l) k).isSome = true) (fresh : n.main.evt.now.testBit k = false)
include has fresh

/-- Forced in a lane, a source it has is an occurrence as R372 says, FIRST being that of the always-on domain (R383). -/
theorem Lane.event_forced : forcedIn { n.main.evt with first := n.aon.first } (n.event l k true).main.evt k :=
  evtOccur_forced (b := { n.main.evt with first := n.aon.first }) has fresh _ _

/-- The reaction to a forced occurrence leaves the events of the lane alone. -/
theorem Lane.force_evt : (n.force l k).main.evt = (n.event l k true).main.evt := by
  obtain ⟨d, hd⟩ := Option.isSome_iff_exists.mp has
  simp only [Lane.force, hd, EvtBlock.had_forced, fresh, Bool.false_eq_true, if_false]
  split
  · exact Lane.askRetry_evt _ _
  · split
    · split
      · exact Lane.askRetry_evt _ _
      · rfl
    · split <;> rfl

end forceLane

/-- The sources 7 to 14 are reported and have no reaction (R365). -/
theorem Lane.force_reported {n : Lane} (l : LaneId) {k : Nat} (low : 7 ≤ k) (high : k ≤ 14) (fresh : n.main.evt.now.testBit k = false) :
    n.force l k = n.event l k true := by
  obtain ⟨d, hd⟩ := Option.isSome_iff_exists.mp (evtDefault_lane l k low high)
  simp only [Lane.force, hd, EvtBlock.had_forced, fresh, Bool.false_eq_true, if_false]
  rw [if_neg (by omega), if_neg (by omega), if_neg (by omega)]

/-! ## A window of one source closed (R368) -/

/-- A change of the values of an association list under their keys. -/
theorem assocGet_map {α : Type} (g : Nat → α → α) (m : List (Nat × α)) (n : Nat) :
    assocGet (m.map fun e => (e.1, g e.1 e.2)) n = (assocGet m n).map (g n) := by
  induction m with
  | nil => rfl
  | cons e r ih =>
    obtain ⟨k, v⟩ := e
    by_cases same : k = n
    · simp [assocGet, same]
    · simpa [assocGet, same] using ih

/-- The entry found under a key holds the value of that key. -/
theorem find?_key {α : Type} (m : List (Nat × α)) (n : Nat) : m.find? (fun e => e.1 = n) = (assocGet m n).map fun v => (n, v) := by
  induction m with
  | nil => rfl
  | cons e r ih =>
    obtain ⟨k, v⟩ := e
    by_cases same : k = n
    · simp [assocGet, same]
    · simpa [assocGet, same] using ih

/-- The count of a source after its window, where it has run out, is closed; a reserved source has none. -/
def windowAfter (k : EvKind) (b : EvtBlock) (round n : Nat) (o : EvtCount) : EvtCount :=
  ((evtCfgOf k b n).map fun c => o.expire c round).getD o

theorem evtCloseWindows_counts (k : EvKind) (b : EvtBlock) (round : Nat) :
    (evtCloseWindows k b round).counts = b.counts.map fun e => (e.1, windowAfter k b round e.1 e.2) :=
  List.map_congr_left fun e _ => by
    unfold windowAfter
    cases evtCfgOf k b e.1 <;> rfl

/-- Only the window of the source named is closed. -/
theorem closeWindow_counts (k : EvKind) (b : EvtBlock) (round src n : Nat) : assocGet (closeWindow k b round src).counts n =
    (assocGet b.counts n).map fun o => if n = src then windowAfter k b round n o else o := by
  have counts : (closeWindow k b round src).counts = b.counts.map fun e =>
      (e.1, if e.1 = src then ((assocGet b.counts src).map (windowAfter k b round src)).getD e.2 else e.2) := by
    refine List.map_congr_left fun e _ => ?_
    rw [find?_key, evtCloseWindows_counts, assocGet_map]
    split
    next named => cases assocGet b.counts src <;> simp [named.symm]
    next => rfl
  rw [counts, assocGet_map (fun j o => if j = src then ((assocGet b.counts src).map (windowAfter k b round src)).getD o else o)]
  by_cases named : n = src
  · subst named
    cases assocGet b.counts n <;> simp
  · simp [named]

/-- A window that has run out is closed with count 0, whatever other windows are open (R368). -/
theorem closeWindow_closed (k : EvKind) (b : EvtBlock) (round src : Nat) : windowClosed k b (closeWindow k b round src) round src := by
  refine ⟨rfl, fun j other => ?_, fun none => ?_, fun o c counted configured => ?_⟩
  · rw [closeWindow_counts]; simp [other]
  · rw [closeWindow_counts, none]; rfl
  · rw [closeWindow_counts, counted]
    simp [windowAfter, configured, EvtCount.expire]

/-- Settles O47: FORCE by the block of its holder and its reaction, SEVERE_CLEAR by what was set at the boundary, WINDOW_EXPIRY by `closeWindow`. -/
theorem eventSources : Obligations.EventSources := by
  unfold Obligations.EventSources
  intro s
  refine ⟨fun l src had => ?laneHad, fun u src had => ?unitHad, fun src had => ?coreHad, fun src on low own fresh => ?core,
    fun on fresh => ?passFail, fun on fresh => ?trngFail, fun src on reserved => ?coreReserved, fun u src runs unloaded => ?unloaded,
    fun f src runs loaded source fresh => ?feedback, fun u src runs loaded has fresh => ?unit,
    fun l src awake => ⟨fun has fresh => ?lane, fun reserved => ?laneReserved⟩, fun l src awake low high fresh => ?reported,
    fun l src had => ?laneSet, fun u src had => ?unitSet, fun src had => ?coreSet,
    fun l src awake fresh => ?laneClear, fun u src runs fresh => ?unitClear, fun src on fresh => ?coreClear,
    fun u src runs => ?unitWindow, fun l src awake => ?laneWindow, fun src on => ?coreWindow, fun l awake service => ?memory⟩
  case laneHad => exact congrArg _ (State.onLane_same (Lane.force_had had))
  case unitHad => exact congrArg _ (State.ifRuns_same (State.forceUnit_none (.inr had)))
  case coreHad =>
    refine congrArg Host.Outcome.next ?_
    rw [State.forcePolvin_had had, ite_self]
  case core =>
    simp only [List.mem_cons, List.not_mem_nil, or_false, not_or] at own
    obtain ⟨only, events⟩ := State.forcePolvin_own fresh own.1 own.2
    exact ⟨_, execForce_polvin on src, only, events ▸ State.polvinEvent_forced fresh low⟩
  case passFail =>
    have counts : s.forcePolvin 0 = s.passFail true := by simp [State.forcePolvin, EvtBlock.had_forced, fresh]
    exact ⟨_, execForce_polvin on 0, counts ▸ State.passFail_forced fresh⟩
  case trngFail =>
    obtain ⟨only, events, ends⟩ := (s.polvinEvent 6 true).randomFailed_effect
    refine ⟨_, (execForce_polvin on 6).trans (congrArg _ (State.forcePolvin_trng fresh)), only, ?_, ends⟩
    rw [events]
    exact State.polvinEvent_forced fresh (by decide)
  case coreReserved => exact (execForce_polvin on src).trans (congrArg _ (State.forcePolvin_reserved reserved))
  case unloaded => exact (execForce_unit runs src).trans (congrArg _ (State.forceUnit_none (.inl unloaded)))
  case feedback =>
    have has : (evtDefault (unitKind (.fb f)) src).isSome = true := by
      rcases source with low | rfl | rfl
      · interval_cases src <;> rfl
      · rfl
      · rfl
    refine ⟨_, (execForce_unit runs src).trans (congrArg _ (State.forceUnit_fb loaded fresh)), by simp [onlyUnit], ?_⟩
    rw [State.setUnit_ucom, Ten.get_set_same, UnitCommon.voterForced_evt]
    exact unitEvt_forced has fresh
  case unit => exact ⟨_, execForce_unit runs src, State.forceUnit_status loaded has fresh⟩
  case lane =>
    refine ⟨_, exec_acts rfl awake rfl, onlyLane_setLane _ _ _, ?_⟩
    rw [State.setLane_lanes, Tri.get_set_same, Lane.force_evt has fresh]
    exact status_of_forcedIn (Lane.event_forced has fresh)
  case laneReserved => exact congrArg _ (State.onLane_same (Lane.force_reserved reserved))
  case reported =>
    have occurs := Lane.event_forced (evtDefault_lane l src low high) fresh
    refine ⟨_, exec_acts rfl awake (Lane.force_reported l low high fresh), onlyLane_setLane _ _ _, ?_⟩
    rw [State.setLane_lanes, Tri.get_set_same]
    have set := status_of_forcedIn occurs
    obtain ⟨_, _, _, latches, _⟩ := occurs
    refine ⟨set, rfl, fun empty unmasked => ?_⟩
    obtain ⟨source, _, forced⟩ := latches unmasked empty
    exact ⟨source, forced⟩
  case laneSet => exact congrArg _ (State.onLane_same (congrArg (fun e => (s.lanes.get l).onMain fun m => { m with evt := e }) (if_pos had)))
  case unitSet =>
    refine congrArg Host.Outcome.next (State.ifRuns_same ?_)
    rw [evtW1cSevere, if_pos had]
    exact State.setUnit_self s u
  case coreSet =>
    refine congrArg Host.Outcome.next ?_
    rw [evtW1cSevere, if_pos had]
    exact ite_self s
  case laneClear => exact exec_acts rfl awake (by simp [Lane.onMain, evtW1cSevere, fresh, evtClearSevere])
  case unitClear =>
    refine congrArg Host.Outcome.next ((if_pos runs).trans ?_)
    simp [evtW1cSevere, fresh, evtClearSevere]
  case coreClear =>
    refine congrArg Host.Outcome.next ((if_pos on).trans ?_)
    simp [evtW1cSevere, fresh, evtClearSevere]
  case unitWindow => exact ⟨_, congrArg Host.Outcome.next (if_pos runs), closeWindow_closed _ _ _ _⟩
  case laneWindow => exact ⟨_, exec_acts rfl awake rfl, closeWindow_closed _ _ _ _⟩
  case coreWindow => exact ⟨_, congrArg Host.Outcome.next (if_pos on), closeWindow_closed _ _ _ _⟩
  case memory => exact exec_acts rfl (by simp [awake, service]) rfl

end Sys2Proof.Machine

namespace Sys2Proof.Machine
open Sys2Proof

/-! ## A step and the queue (R286) -/

/-- A step that finds a command at the front of the queue runs it on the rest. -/
theorem step_cons {s : State} {c : Instr} {rest : List Instr} (front : s.pending = c :: rest) : step s = exec c { s with pending := rest } := by
  rw [step, front]

/-- A step on an empty queue changes nothing. -/
theorem step_nil {s : State} (empty : s.pending = []) : step s = .next s := by rw [step, empty]

/-- Settles O1: the step by its queue. -/
theorem stepRunsFrontCommand : Obligations.StepRunsFrontCommand := ⟨fun _ _ _ => step_cons, fun _ => step_nil⟩

/-- Settles O2: every row goes on with the queue kept, whatever the memories hold. -/
theorem everyCommandExecutes : Obligations.EveryCommandExecutes := by
  intro c s
  obtain ⟨t, ran, kept⟩ := (exec_goes (H := False) c ⟨rfl, fun absurd => absurd.elim⟩).next
  exact ⟨t, ran, kept.queue⟩

end Sys2Proof.Machine

namespace Sys2Proof.Machine
open Sys2Proof

/-! ## A ceremony judged (R339, R342, R343, R345) -/

/-- What a ceremony may change of the core at its end: the keys, the password, the varnish and the certificate. -/
def Polvin.credentials (p : Polvin) : Option Bytes × Bytes × Bool × Bool × Option Bytes × Option Bytes :=
  (p.ipub, p.verifier, p.varnish, p.unlocked, p.bk, p.dcert)

theorem Polvin.credentials_of_unlogged {p q : Polvin} (h : q.unlogged = p.unlogged) : q.credentials = p.credentials :=
  (congrArg Polvin.credentials h :)

/-- `t` is `s` but for the Polvin core, in which neither a credential nor the challenge has changed. -/
structure CoreNotes (s t : State) : Prop where
  lanes : t.lanes = s.lanes
  ucom : t.ucom = s.ucom
  port : t.port = s.port
  credentials : t.polvin.credentials = s.polvin.credentials
  chal : t.polvin.chal = s.polvin.chal

theorem CoreNotes.trans {s t u : State} (h : CoreNotes s t) (h' : CoreNotes t u) : CoreNotes s u :=
  ⟨h'.lanes.trans h.lanes, h'.ucom.trans h.ucom, h'.port.trans h.port, h'.credentials.trans h.credentials, h'.chal.trans h.chal⟩

theorem coreNotes_logAs (s : State) (w : Option Writer) (action code arg : Nat) (chash : Bytes) : CoreNotes s (s.logAs w action code arg chash) := by
  have kept := s.logAs_unlogged w action code arg chash
  obtain ⟨p, logged, -⟩ := s.logAs_polvin w action code arg chash
  exact ⟨s.logAs_lanes w action code arg chash, s.logAs_ucom w action code arg chash, by rw [logged], Polvin.credentials_of_unlogged kept,
    (congrArg Polvin.chal kept :)⟩

/-- A failed proof counts, and may start a lockout and be logged (R345). -/
theorem State.passFail_notes (s : State) (forced : Bool) : CoreNotes s (s.passFail forced) := by
  simp only [State.passFail]
  split
  · exact ⟨rfl, rfl, rfl, rfl, rfl⟩
  split
  · exact ⟨rfl, rfl, rfl, rfl, rfl⟩
  · refine CoreNotes.trans ?_ (coreNotes_logAs _ _ _ _ _ _)
    exact ⟨rfl, rfl, rfl, rfl, rfl⟩

/-- The core with a command judged, which runs until it is done (R342). -/
def Polvin.judges (p : Polvin) (bit res : Nat) (w : Writer) (active : Bytes) : Polvin :=
  { p with busy := true, cmd := some (bit, res, w), cmdWin := p.win, leftSvc := false, judged := active,
           chal := if reachedChal bit res then none else p.chal }

/-- The state as a command is judged: a wrong proof has been counted. -/
def State.judges (s : State) (bit : Nat) (w : Writer) : State :=
  let t := if bit = 4 ∧ secJudge s bit w = 4 then s.passFail else s
  { t with polvin := t.polvin.judges bit (secJudge s bit w) w t.lanes.a.loader.ahash }

section judged
variable {s : State} {bit : Nat} {w : Writer}

theorem State.secCommand_judges (on : s.polvin.dom = .on) (idle : s.polvin.busy = false) (allowed : secBarred s.polvin bit = false) :
    s.secCommand bit w = if bit = 0 ∧ secJudge s bit w = 0 then
        { (s.judges bit w).draw.2 with polvin := { (s.judges bit w).polvin with
          chal := some (beBytes 32 ((s.judges bit w).draw.1.toNat / 2 ^ 256)), nsalt := beBytes 16 ((s.judges bit w).draw.1.toNat % 2 ^ 128) } }
      else s.judges bit w :=
  if_neg (by simp [on, idle, allowed])

/-- One that may not be taken changes nothing. -/
theorem State.secCommand_barred (h : s.polvin.dom ≠ .on ∨ s.polvin.busy = true ∨ secBarred s.polvin bit = true) : s.secCommand bit w = s := if_pos h

theorem secBarred_eq_false : secBarred s.polvin bit = false ↔ s.polvin.ipub.isSome = true ∨ bit ∈ [0, 1, 9] := by
  unfold secBarred
  cases s.polvin.ipub with
  | none => simp; tauto
  | some k => simp

theorem secBarred_eq_true : secBarred s.polvin bit = true ↔ s.polvin.ipub = none ∧ bit ∉ [0, 1, 9] := by simp [secBarred]

/-- Outside SERVICE the judgement is MODE (R343). -/
theorem secJudge_mode (h : s.devMode ≠ .service) : secJudge s bit w = 7 := if_pos h

/-- A wrong proof counted leaves all but the count and the log. -/
theorem State.failed_notes (s : State) (p : Prop) [Decidable p] : CoreNotes s (if p then s.passFail else s) := by
  split
  · exact s.passFail_notes false
  · exact ⟨rfl, rfl, rfl, rfl, rfl⟩

/-- A command of SEC_CTRL runs as it was judged, and has changed no credential yet. -/
structure Judged (bit : Nat) (w : Writer) (s t : State) : Prop where
  lanes : t.lanes = s.lanes
  ucom : t.ucom = s.ucom
  port : t.port = s.port
  busy : t.polvin.busy = true
  cmd : t.polvin.cmd = some (bit, secJudge s bit w, w)
  active : t.polvin.judged = s.lanes.a.loader.ahash
  drawn : bit = 0 → secJudge s bit w = 0 → t.polvin.chal.isSome = true
  spent : bit ∈ [1, 2, 3, 4, 7] → secJudge s bit w = 0 → t.polvin.chal = none
  credentials : t.polvin.credentials = s.polvin.credentials

theorem State.secCommand_judged (on : s.polvin.dom = .on) (idle : s.polvin.busy = false) (allowed : secBarred s.polvin bit = false) :
    Judged bit w s (s.secCommand bit w) := by
  have noted := s.failed_notes (bit = 4 ∧ secJudge s bit w = 4)
  have active : (s.judges bit w).polvin.judged = s.lanes.a.loader.ahash := congrArg (fun ls : Tri Lane => ls.a.loader.ahash) noted.lanes
  rw [State.secCommand_judges on idle allowed]
  split
  case isTrue h =>
    exact ⟨noted.lanes, noted.ucom, noted.port, rfl, rfl, active, fun _ _ => rfl, fun spends => by simp [h.1] at spends, noted.credentials⟩
  case isFalse h =>
    refine ⟨noted.lanes, noted.ucom, noted.port, rfl, rfl, active, fun zero ok => (h ⟨zero, ok⟩).elim, fun spends ok => if_pos ?_, noted.credentials⟩
    simpa [reachedChal, usesChal, ok] using spends

/-- The rows of the ceremonies write one bit of SEC_CTRL each. -/
theorem exec_ceremony {c : Instr} (h : (c, bit) ∈ [(Instr.newchal w, 0), (.enrol w, 1), (.rotate w, 2), (.passwd w, 3), (.unlock w, 4), (.lock w, 5),
    (.varnish w, 6), (.strip w, 7), (.cert w, 8), (.bkey w, 9)]) : exec c s = .next (s.secAsked bit w) := by
  simp only [List.mem_cons, List.not_mem_nil, or_false, Prod.mk.injEq] at h
  rcases h with ⟨rfl, rfl⟩ | ⟨rfl, rfl⟩ | ⟨rfl, rfl⟩ | ⟨rfl, rfl⟩ | ⟨rfl, rfl⟩ | ⟨rfl, rfl⟩ | ⟨rfl, rfl⟩ | ⟨rfl, rfl⟩ | ⟨rfl, rfl⟩ | ⟨rfl, rfl⟩ <;> rfl

end judged

/-- Settles O41: every row asks for its bit; a writer with the right has it judged where the core is free, and no other write does anything. -/
theorem ceremoniesJudged : Obligations.CeremoniesJudged := by
  unfold Obligations.CeremoniesJudged
  intro s w c bit row
  refine ⟨fun on idle may allowed => ?taken, fun refused => ?refused⟩
  case taken =>
    have judged := State.secCommand_judged (w := w) on idle (secBarred_eq_false.mpr allowed)
    have kept := judged.credentials
    simp only [Polvin.credentials, Prod.mk.injEq] at kept
    obtain ⟨ipub, verifier, varnish, unlocked, bk, dcert⟩ := kept
    exact ⟨s.secCommand bit w, (exec_ceremony row).trans (congrArg _ (if_pos may)), judged.lanes, judged.ucom, judged.port, judged.busy, judged.cmd,
      secJudge_mode, judged.active, judged.drawn, judged.spent, ipub, verifier, varnish, unlocked, bk, dcert⟩
  case refused =>
    rw [exec_ceremony row, State.secAsked]
    split
    case isTrue may =>
      rw [State.secCommand_barred]
      rcases refused with off | busy | cannot | unowned
      · exact .inl off
      · exact .inr (.inl busy)
      · simp [cannot] at may
      · exact .inr (.inr (secBarred_eq_true.mpr unowned))
    case isFalse => rfl

/-! ## A ceremony done (R342, R345, R346, R353, R355) -/

/-- The core with its command at an end. -/
def Polvin.ended (p : Polvin) (result : Nat) : Polvin := { p with busy := false, cmd := none, result := result, win := zeros 256 }

section done
variable {s : State} {bit : Nat} {w : Writer}

/-- The commands without a log entry (R354). -/
theorem secAction_eq_zero (known : bit ≤ 9) : secAction bit = 0 ↔ bit = 0 ∨ bit = 5 := by interval_cases bit <;> simp [secAction]

/-- A command judged OK that has no entry takes effect, whatever the log does. -/
theorem State.secDone_unlogged (cmd : s.polvin.cmd = some (bit, 0, w)) (none : secAction bit = 0) (logOk : Bool) :
    s.secDone logOk = { s with polvin := (secEffect s bit).ended 0 } := by
  rw [State.secDone, cmd]
  exact if_pos ⟨rfl, none⟩

/-- One whose entry is written takes effect with it. -/
theorem State.secDone_logged (cmd : s.polvin.cmd = some (bit, 0, w)) (entry : secAction bit ≠ 0) :
    s.secDone true = { s with polvin :=
      { ((secEffect s bit).append w.id (chanOf w) (secAction bit) 0 (secArg s.polvin bit) s.devHash).ended 0 with logBad := false } } := by
  rw [State.secDone, cmd]
  exact (if_neg fun h => entry h.2).trans ((if_neg (by simp)).trans (if_neg (by simp)))

/-- One whose entry is not written has none (R355). -/
theorem State.secDone_failed (cmd : s.polvin.cmd = some (bit, 0, w)) (entry : secAction bit ≠ 0) :
    s.secDone false = { s with polvin := { s.polvin.ended 11 with logBad := true } } := by
  rw [State.secDone, cmd]
  exact (if_neg fun h => entry h.2).trans (if_pos (by simp))

/-- An entry appended changes the log alone, and counts. -/
theorem Polvin.append_log (p : Polvin) (actor chan action code arg : Nat) (chash : Bytes) : ∃ log cpSeq cpHash,
    p.append actor chan action code arg chash = { p with log := log, logSeq := p.logSeq + 1, cpSeq := cpSeq, cpHash := cpHash } := by
  have folded : ∃ log cpSeq cpHash, p.fold = { p with log := log, cpSeq := cpSeq, cpHash := cpHash } := by
    unfold Polvin.fold
    split <;> exact ⟨_, _, _, rfl⟩
  obtain ⟨log, cpSeq, cpHash, folded⟩ := folded
  rw [Polvin.append, folded]
  exact ⟨_, _, _, rfl⟩

/-- A command judged OK that is done: its effect, its entry counted where it has one, and nothing outside the core. -/
theorem State.secDone_ok (known : bit ≤ 9) (cmd : s.polvin.cmd = some (bit, 0, w)) : ∃ log cpSeq cpHash bad,
    s.secDone true = { s with polvin := { (secEffect s bit).ended 0 with
      log := log, logSeq := (secEffect s bit).logSeq + (if bit = 0 ∨ bit = 5 then 0 else 1), cpSeq := cpSeq, cpHash := cpHash, logBad := bad } } := by
  by_cases silent : bit = 0 ∨ bit = 5
  · rw [State.secDone_unlogged cmd ((secAction_eq_zero known).mpr silent), if_pos silent]
    exact ⟨_, _, _, _, rfl⟩
  · obtain ⟨log, cpSeq, cpHash, appended⟩ := (secEffect s bit).append_log w.id (chanOf w) (secAction bit) 0 (secArg s.polvin bit) s.devHash
    rw [State.secDone_logged cmd (mt (secAction_eq_zero known).mp silent), if_neg silent, appended]
    exact ⟨_, _, _, _, rfl⟩

/-- What the effect of a command sets, field by field. -/
theorem secEffect_fields (known : bit ≤ 9) : let p := s.polvin; let q := secEffect s bit
    q.ipub = (if bit = 1 ∨ bit = 2 then some (slice p.cmdWin 0 64) else p.ipub) ∧
    q.verifier = (if bit = 1 then slice p.cmdWin 64 32 else if bit = 3 then slice p.cmdWin 0 32 else p.verifier) ∧
    q.salt = (if bit = 1 ∨ bit = 3 then p.nsalt else p.salt) ∧
    q.unlocked = (if bit = 4 then !p.leftSvc else if bit = 3 ∨ bit = 5 then false else p.unlocked) ∧
    q.failCount = (if bit = 4 then 0 else p.failCount) ∧
    q.varnish = (if bit = 6 then true else if bit = 7 then false else p.varnish) ∧
    q.vhash = (if bit = 6 then p.judged else p.vhash) ∧
    q.dcert = (if bit = 8 then some (slice p.cmdWin 0 64) else p.dcert) ∧
    q.bk = (if bit = 9 then some (slice p.cmdWin 0 16) else p.bk) ∧
    q.keyRec = (if bit = 9 then 0 else p.keyRec) ∧ q.devKey = p.devKey ∧ q.clrWait = p.clrWait ∧ q.logSeq = p.logSeq := by
  interval_cases bit <;> simp [secEffect]

theorem State.clearWaiting_none (h : s.polvin.clrWait = none) : s.clearWaiting = s := by rw [State.clearWaiting, h]

/-- Whether a new train beacon key stands as the command ends (R352). -/
def State.renewsBk (s : State) (logOk : Bool) : Bool := match s.polvin.cmd with | some (9, 0, _) => logOk | _ => false

theorem State.renewsBk_failed (s : State) : s.renewsBk false = false := by
  unfold State.renewsBk
  split <;> rfl

/-- A row that ends a command, with no SEC_RETIRE.CLR to wait for it: besides, a new train beacon key reaches the lanes. -/
theorem execCeremonyDone_alone (on : s.polvin.dom = .on) {logOk : Bool} (alone : (s.secDone logOk).polvin.clrWait = none) :
    ∃ lanes, exec (.ceremonyDone logOk) s = .next { s.secDone logOk with lanes := lanes } ∧ (logOk = false → lanes = (s.secDone logOk).lanes) := by
  have ran : exec (.ceremonyDone logOk) s =
      .next (if s.renewsBk logOk = true then (s.secDone logOk).shareBk else s.secDone logOk).clearWaiting := congrArg Host.Outcome.next (if_pos on)
  by_cases renewed : s.renewsBk logOk = true
  · rw [if_pos renewed, State.clearWaiting_none (s := (s.secDone logOk).shareBk) alone] at ran
    exact ⟨_, ran, fun failed => by simp [failed, s.renewsBk_failed] at renewed⟩
  · rw [if_neg renewed, State.clearWaiting_none alone] at ran
    exact ⟨_, ran, fun _ => rfl⟩

end done

/-- Settles O42: with the entry written the core is its effect and the end of the command, and with none to wait for nothing follows; without it the
core ends the command alone. -/
theorem ceremonyEffects : Obligations.CeremonyEffects := by
  unfold Obligations.CeremonyEffects
  intro s w bit on cmd alone
  refine ⟨fun known => ?done, fun low known silent => ?failed⟩
  case done =>
    obtain ⟨log, cpSeq, cpHash, bad, ended⟩ := State.secDone_ok known cmd
    obtain ⟨ipub, verifier, salt, unlocked, failCount, varnish, vhash, dcert, bk, keyRec, devKey, clrWait, logSeq⟩ := secEffect_fields (s := s) known
    obtain ⟨lanes, ran, -⟩ := execCeremonyDone_alone (logOk := true) on (by rw [ended]; exact clrWait.trans alone)
    rw [ended] at ran
    exact ⟨_, ran, rfl, rfl, rfl, ipub, verifier, salt, unlocked, failCount, varnish, vhash, dcert, bk, keyRec, rfl, devKey,
      congrArg (· + _) logSeq, rfl⟩
  case failed =>
    have entry : secAction bit ≠ 0 := fun none => by
      rcases (secAction_eq_zero known).mp none with zero | five
      · omega
      · exact silent five
    have ended := State.secDone_failed cmd entry
    obtain ⟨lanes, ran, kept⟩ := execCeremonyDone_alone (logOk := false) on (by rw [ended]; exact alone)
    rw [ran, kept rfl, ended]
    rfl

end Sys2Proof.Machine

namespace Sys2Proof.Machine
open Sys2Proof

/-! ## Retirements cleared (R339, R359, R379, R382) -/

theorem mem_maskLanes {mask : Nat} {l : LaneId} : l ∈ maskLanes mask ↔ mask.testBit l.idx = true := by
  have all : l ∈ allLanes := by cases l <;> decide
  simp [maskLanes, all]

/-- The lanes a mask names whose retirement stands (R359). -/
theorem mem_retiredLanes {s : State} {mask : Nat} {l : LaneId} : l ∈ (maskLanes mask).filter s.isRetired ↔
    mask.testBit l.idx = true ∧ (s.polvin.retired.testBit l.idx = true ∨ (s.lanes.get l).aon.retired = true) := by
  simp [mem_maskLanes, State.isRetired]

/-- A SEC_RETIRE.CLR waits while a command runs or a record of a lane it names is being written (R382). -/
theorem clearWaits_iff {s : State} {mask : Nat} : s.clearWaits mask = true ↔
    s.polvin.busy = true ∨ ∃ l : LaneId, mask.testBit l.idx = true ∧ (s.lanes.get l).aon.pendrec = true := by
  simp [State.clearWaits, mem_maskLanes]

/-- What a retirement is made of, for one lane: the core's record, the state and the always-on domain. -/
def State.retirement (s : State) (l : LaneId) : Bool × LState × Aon :=
  (s.polvin.retired.testBit l.idx, (s.lanes.get l).state, (s.lanes.get l).aon)

section clearOne
variable (s : State) (l : LaneId)

/-- The state as the lane of a cleared record is reset to OFF. -/
def State.unretired : State :=
  let t := { s with polvin := { s.polvin with retired := clearBit s.polvin.retired l.idx } }
  if (s.lanes.get l).state = .retired then t.laneDown l .off .off else t

theorem State.clearOne_eq : s.clearOne l = (s.unretired l).setLane l (((s.unretired l).lanes.get l).onAon fun a =>
    { a with retired := false, restarts := [], pendrec := false, causeSrc := 0, causeMs := 0 }) := rfl

theorem State.unretired_polvin : (s.unretired l).polvin = { s.polvin with retired := clearBit s.polvin.retired l.idx } := by
  simp only [State.unretired]
  split
  · rw [State.laneDown_polvin]
  · rfl

theorem State.unretired_state : (s.lanes.get l).state = .retired → ((s.unretired l).lanes.get l).state = .off := by
  intro retired
  rw [State.unretired, if_pos retired, State.laneDown_own]
  rfl

theorem State.unretired_other {k : LaneId} (hk : k ≠ l) : ((s.unretired l).lanes.get k).state = (s.lanes.get k).state ∧
    ((s.unretired l).lanes.get k).aon = (s.lanes.get k).aon := by
  simp only [State.unretired]
  split
  · obtain ⟨p, told⟩ := State.laneDown_other { s with polvin := { s.polvin with retired := clearBit s.polvin.retired l.idx } } l .off .off hk
    rw [told]; exact ⟨rfl, rfl⟩
  · exact ⟨rfl, rfl⟩

/-- Clearing one lane leaves the retirement of every other as it was. -/
theorem State.clearOne_other {k : LaneId} (hk : k ≠ l) : (s.clearOne l).retirement k = s.retirement k := by
  obtain ⟨state, aon⟩ := s.unretired_other l hk
  have idx : k.idx ≠ l.idx := fun h => hk (by cases k <;> cases l <;> simp_all [LaneId.idx])
  rw [State.clearOne_eq, State.retirement, State.setLane_polvin, s.unretired_polvin, State.setLane_lanes, Tri.get_set_other _ _ _ _ hk, state, aon]
  simp [State.retirement, testBit_clearBit, idx]

end clearOne

/-- A retirement that has been cleared: no record, no flag, no restart history, and the lane that was RETIRED is OFF. -/
def cleared (before after : Bool × LState × Aon) : Prop :=
  after.1 = false ∧ after.2.2.retired = false ∧ after.2.2.restarts = [] ∧ (before.2.1 = .retired → after.2.1 = .off)

theorem State.clearOne_cleared (s : State) (l : LaneId) : cleared (s.retirement l) ((s.clearOne l).retirement l) := by
  refine ⟨?_, ?_, ?_, fun retired => ?_⟩ <;> simp only [State.clearOne_eq, State.retirement, State.setLane_polvin, State.setLane_lanes, Tri.get_set_same]
  · rw [s.unretired_polvin]; simp
  · rfl
  · rfl
  · exact s.unretired_state l retired

section clearRetired
variable {s : State} {ls : List LaneId}

/-- One lane after another cleared: each of them, and no other. -/
theorem foldl_clearOne (once : ls.Nodup) (l : LaneId) : (l ∈ ls → cleared (s.retirement l) ((ls.foldl State.clearOne s).retirement l)) ∧
    (l ∉ ls → (ls.foldl State.clearOne s).retirement l = s.retirement l) := by
  refine ⟨fun named => ?_, fun other => ?_⟩
  · obtain ⟨t, before, after⟩ := foldl_visits (fun t : State => t.retirement l) named once (fun t k hk => t.clearOne_other k (Ne.symm hk)) s
    rw [after, ← before]
    exact t.clearOne_cleared l
  · refine ls.foldlRecOn (motive := fun t : State => t.retirement l = s.retirement l) _ rfl fun t same k hk => ?_
    rw [t.clearOne_other k (fun h => other (by rwa [h])), same]

theorem foldl_clearOne_logSeq : (ls.foldl State.clearOne s).polvin.logSeq = s.polvin.logSeq :=
  ls.foldlRecOn (motive := fun t : State => t.polvin.logSeq = s.polvin.logSeq) _ rfl fun t same k _ => by
    rw [t.clearOne_eq, State.setLane_polvin, t.unretired_polvin, ← same]

/-- A log entry leaves every retirement as it was. -/
theorem State.logAs_retirement (w : Option Writer) (action code arg : Nat) (chash : Bytes) (l : LaneId) :
    (s.logAs w action code arg chash).retirement l = s.retirement l := by simp [State.retirement]

theorem State.clearRetired_none {mask : Nat} {w : Writer} (h : ∀ l, l ∉ (maskLanes mask).filter s.isRetired) : s.clearRetired mask w = s :=
  if_pos (List.eq_nil_iff_forall_not_mem.mpr h)

/-- The lanes named are cleared, no other, and the entry counts where the log takes it (R355, R359). -/
theorem State.clearRetired_some {mask : Nat} {w : Writer} {k : LaneId} (hk : k ∈ (maskLanes mask).filter s.isRetired) :
    (s.polvin.dom = .on → s.polvin.logBad = false → (s.clearRetired mask w).polvin.logSeq = s.polvin.logSeq + 1) ∧
    ∀ l, (l ∈ (maskLanes mask).filter s.isRetired → cleared (s.retirement l) ((s.clearRetired mask w).retirement l)) ∧
      (l ∉ (maskLanes mask).filter s.isRetired → (s.clearRetired mask w).retirement l = s.retirement l) := by
  have once : ((maskLanes mask).filter s.isRetired).Nodup := (List.Nodup.filter _ (by decide : allLanes.Nodup)).filter _
  rw [State.clearRetired]
  rw [if_neg (List.ne_nil_of_mem hk)]
  refine ⟨fun on good => ?_, fun l => ?_⟩
  · rw [foldl_clearOne_logSeq, State.logAs_seq _ _ _ _ _ _ on good]
  · rw [← s.logAs_retirement (some w) 0x11 0 _ _ l]
    exact foldl_clearOne once l

end clearRetired

/-- Settles O43: the expiries change one flag; a clearing is refused, waits, or clears the lanes it names. -/
theorem expiriesAndUnretire : Obligations.ExpiriesAndUnretire := by
  unfold Obligations.ExpiriesAndUnretire
  intro s
  refine ⟨fun locked passed => congrArg Host.Outcome.next (if_pos ⟨locked, passed⟩), fun runs => congrArg Host.Outcome.next (if_neg fun h => by omega), rfl, rfl,
    fun w mask on service owned may free => ?taken, fun w mask refused => ?refused⟩
  case taken =>
    have asked : exec (.unretire w mask) s = .next (s.retireClear mask w) := congrArg Host.Outcome.next (if_pos ⟨may, by simpa using free⟩)
    have ran : s.retireClear mask w = _ := if_pos ⟨on, service, owned⟩
    refine ⟨fun waits => asked.trans (congrArg _ (ran.trans (if_pos (clearWaits_iff.mpr waits)))), fun idle written => ?_⟩
    have acts : s.retireClear mask w = s.clearRetired mask w := ran.trans (if_neg fun h => by
      rcases clearWaits_iff.mp h with busy | ⟨l, named, due⟩
      · simp [idle] at busy
      · simp [written l named] at due)
    intro named
    refine ⟨s.clearRetired mask w, asked.trans (congrArg _ acts), ?_⟩
    by_cases some : ∃ k, named k
    · obtain ⟨k, hk⟩ := some
      obtain ⟨counted, lanes⟩ := State.clearRetired_some (w := w) (mem_retiredLanes.mpr hk)
      refine ⟨fun _ => counted on, fun none => (none ⟨k, hk⟩).elim, fun l => ⟨fun hl => (lanes l).1 (mem_retiredLanes.mpr hl), fun hl => ?_⟩⟩
      have same := (lanes l).2 fun h => hl (mem_retiredLanes.mp h)
      simpa [State.retirement] using same
    · have none : s.clearRetired mask w = s := State.clearRetired_none fun l hl => some ⟨l, mem_retiredLanes.mp hl⟩
      rw [none]
      exact ⟨fun h => (some h).elim, fun _ => rfl, fun l => ⟨fun h => (some ⟨l, h⟩).elim, fun _ => ⟨rfl, rfl, rfl⟩⟩⟩
  case refused =>
    refine congrArg Host.Outcome.next ?_
    split
    case isTrue asked =>
      obtain ⟨may, free⟩ := asked
      refine if_neg ?_
      rintro ⟨on, service, owned⟩
      rcases refused with h | h | h | h | ⟨varnish, locked⟩
      · exact h on
      · exact h service
      · simp [h] at owned
      · simp [h] at may
      · simp [varnish, locked] at free
    case isFalse => rfl

end Sys2Proof.Machine

namespace Sys2Proof.Machine
open Sys2Proof

/-! ## The key epoch (R253, R351, R353) -/

theorem u16At_append (pre rest : Bytes) (i : Nat) : u16At (pre ++ rest) (pre.length + i) = u16At rest i := by
  simp only [u16At, Nat.add_assoc, byteAt_append]

/-- A 16-bit number is read as it was written. -/
theorem u16At_leBytes {v : Nat} (rest : Bytes) (h : v < 65536) : u16At (leBytes 2 v ++ rest) 0 = v := by
  simp [u16At, byteAt, leBytes]
  omega

/-- What stands before KEYEP in a frame: the Ethernet header, and the header's FLAGS, PLANE, CYCLE, SLOT, SENDER and LEN (R250, R251). -/
def frameBeforeKeyep (etype plane sender dest flags hplane cycle slot hsender len : Nat) : Bytes :=
  beBytes 6 (if dest = 4095 then groupMac plane else macOf plane dest) ++ beBytes 6 (macOf plane sender) ++ beBytes 2 etype ++
    ([BitVec.ofNat 8 (1 + 16 * flags), BitVec.ofNat 8 hplane] ++ leBytes 3 cycle ++ leBytes 3 (slot + 4096 * hsender) ++ leBytes 2 len)

/-- A frame carries the epoch its header was formed with. -/
theorem frKeyep_frameOf (etype plane sender dest flags hplane cycle slot hsender len hdest : Nat) {keyep : Nat} (payload : Bytes)
    (key : Option (BitVec 128)) (h : keyep < 65536) :
    frKeyep (frameOf etype plane sender dest (headerOf flags hplane cycle slot hsender len keyep hdest) payload key) = keyep := by
  have before : (frameBeforeKeyep etype plane sender dest flags hplane cycle slot hsender len).length = 24 := by
    simp [frameBeforeKeyep, beBytes]
  have keyepNext : ∀ tag pad : Bytes, u16At (beBytes 6 (if dest = 4095 then groupMac plane else macOf plane dest) ++ beBytes 6 (macOf plane sender) ++
      beBytes 2 etype ++ headerOf flags hplane cycle slot hsender len keyep hdest ++ payload ++ tag ++ pad) 24 = keyep := fun tag pad => by
    refine (Eq.trans ?_ (u16At_append (frameBeforeKeyep etype plane sender dest flags hplane cycle slot hsender len)
      (leBytes 2 keyep ++ (leBytes 2 hdest ++ (zeros 2 ++ (payload ++ (tag ++ pad))))) 0)).trans (u16At_leBytes _ h)
    rw [before]
    simp only [headerOf, frameBeforeKeyep, List.append_assoc]
  exact keyepNext _ _

/-- A lane as the cycle of the advance begins, or as any other does. -/
def Lane.epochTurns (n : Lane) : Lane := if n.awake ∧ n.main.time.round = 0xFFFF00 then n.advanceKeys else n

/-- The advance changes the lanes, each by itself, and the Polvin core. -/
theorem execKeyEpochAdvance_runs (s : State) : ∃ p : Polvin,
    exec .keyEpochAdvance s = .next { s with lanes := s.lanes.map Lane.epochTurns, polvin := p } := by
  have noted : ∀ (t : State) (e : Nat), ∃ p, t.noteEpoch e = { t with polvin := p } := fun t e => by
    unfold State.noteEpoch
    split
    · exact ⟨_, rfl⟩
    · exact ⟨t.polvin, rfl⟩
  show ∃ p : Polvin, execKeyEpochAdvance s = _
  unfold execKeyEpochAdvance
  dsimp only
  split
  · split
    · next l _ _ =>
      obtain ⟨p, core⟩ := noted { s with lanes := s.lanes.map Lane.epochTurns, polvin := s.polvin.advanceKeys }
        ((s.lanes.map Lane.epochTurns).get l).main.net.epoch
      exact ⟨p, congrArg _ core⟩
    · exact ⟨s.polvin, rfl⟩
  · exact ⟨s.polvin, rfl⟩

theorem Lane.epochTurns_idle {n : Lane} (h : n.awake = false ∨ n.main.time.round ≠ 0xFFFF00) : n.epochTurns = n :=
  if_neg fun ⟨awake, cycle⟩ => by
    rcases h with asleep | other
    · simp [asleep] at awake
    · exact other cycle

theorem Lane.epochTurns_net {n : Lane} (awake : n.awake = true) (cycle : n.main.time.round = 0xFFFF00) : n.epochTurns = n.advanceKeys :=
  if_pos ⟨awake, cycle⟩

/-- The network state of a lane with every key at the next epoch, the former ones kept until a round (R351). -/
def Net.nextEpoch (m : Net) (til : Nat) (joins : List (Nat × Join)) : Net :=
  { m with oldKeys := m.keys, oldGk := m.gk, oldUntil := some til, epoch := m.epoch + 1, joins := joins
           keys := m.keys.map (fun e => (e.1, nextKey e.2)), gk := m.gk.map (fun e => (e.1, nextKey e.2)) }

/-- The network state of a lane that has no further epoch (R353). -/
def Net.lastEpoch (m : Net) : Net :=
  { m with role := if m.role = 1 then 0 else m.role, listening := m.listening || decide (m.role = 1), startBeacon := false, mcapOff := true }

theorem Lane.advanceKeys_next {n : Lane} (more : n.main.net.epoch ≠ 0xFFFF) : ∃ joins,
    n.advanceKeys = n.onNet fun m => m.nextEpoch ((n.main.time.round + 16) % 16777216) joins :=
  ⟨_, congrArg (fun m => n.onNet fun _ => m) (if_neg more)⟩

theorem Lane.advanceKeys_last {n : Lane} (last : n.main.net.epoch = 0xFFFF) : n.advanceKeys = n.onNet Net.lastEpoch :=
  congrArg (fun m => n.onNet fun _ => m) (if_pos last)

/-- Settles O50: a frame that stands as sent is formed with the lane's epoch; the advance turns each running lane of the cycle by `advanceKeys`. -/
theorem keyEpochAdvances : Obligations.KeyEpochAdvances := by
  unfold Obligations.KeyEpochAdvances
  refine ⟨fun s t l slot depart k fl b opened entry small ran sent => ?sent, fun s => ?advances⟩
  case sent =>
    obtain ⟨e, flags, dest, pay, key, frame⟩ := execSlotTransmit_forms opened entry ran sent
    simp only [frameSent, Option.some.injEq, Prod.mk.injEq] at frame
    obtain ⟨-, -, rfl⟩ := frame
    exact frKeyep_frameOf _ _ _ _ _ _ _ _ _ _ _ pay key small
  case advances =>
    obtain ⟨p, ran⟩ := execKeyEpochAdvance_runs s
    refine ⟨_, ran, rfl, fun l => ?_⟩
    extract_lets n m
    rw [Tri.get_map]
    refine ⟨Lane.epochTurns_idle, fun awake cycle more => ?next, fun awake cycle last => ?last⟩
    case next =>
      obtain ⟨joins, turned⟩ := Lane.advanceKeys_next more
      rw [Lane.epochTurns_net awake cycle, turned, cycle]
      rfl
    case last =>
      rw [Lane.epochTurns_net awake cycle, Lane.advanceKeys_last last]
      refine ⟨rfl, rfl, ?_, rfl, rfl⟩
      show (if n.main.net.role = 1 then 0 else n.main.net.role) ≠ 1
      split
      · decide
      · assumption

end Sys2Proof.Machine

namespace Sys2Proof.Machine
open Sys2Proof

/-! ## The office falls vacant (R332, R334) -/

/-- A lane whose office has changed hands at its round, for a cause (R361). -/
def Lane.heldBy (n : Lane) (h : Option Nat) (cause : Nat) : Lane :=
  n.onOffice fun o => { o with holder := h, away := 0, round := n.main.time.round, cause := cause, changes := o.changes.add 1 }

section vacant
variable (n : Lane) (l : LaneId)

theorem Lane.setHolder_some (h cause : Nat) : n.setHolder l (some h) cause = n.heldBy (some h) cause := rfl

/-- The best claimant of the cycle (R332). -/
def Lane.bestClaimant : Option Nat := winner ((n.judged.filter (fun e => e.2.claim)).map (fun e => e.1))

/-- A vacant office goes to the best claimant, and stays vacant where there is none. -/
theorem Lane.elect_vacant (vacant : n.main.office.holder = none) :
    n.elect l = if n.bestClaimant = none then n else n.heldBy n.bestClaimant 0 := by
  rw [Lane.elect, if_pos vacant]
  show (match n.bestClaimant with | some w => n.setHolder l (some w) 0 | none => n) = _
  cases n.bestClaimant <;> rfl

/-- What the making of the view leaves of the office and of the lane (R335). -/
theorem Lane.makeView_rest : ∃ v, n.makeView = n.onOffice fun o => { o with view := v } := ⟨_, rfl⟩

/-- A vacancy with its election: the best claimant, if any, holds the office, and RM_VACANT is raised. -/
theorem Lane.vacated_office : let m := ((n.setHolder l none 3).elect l).makeView
    m.main.office.holder = n.bestClaimant ∧ m.main.office.cause = (if n.bestClaimant = none then 3 else 0) ∧
    m.main.office.round = n.main.time.round ∧ m.main.evt.status.testBit 14 = true ∧ m.main.mode = n.main.mode := by
  have raised := (n.heldBy none 3).event_status_set l 14 (evtDefault_lane l 14 (by decide) (by decide))
  obtain ⟨v, view⟩ := ((n.setHolder l none 3).elect l).makeView_rest
  have same : (n.setHolder l none 3).bestClaimant = n.bestClaimant := rfl
  extract_lets m
  simp only [m, view, Lane.elect_vacant (n.setHolder l none 3) l rfl, same]
  split
  case isTrue none => exact ⟨none.symm, rfl, rfl, raised, rfl⟩
  case isFalse some => exact ⟨rfl, rfl, rfl, raised, rfl⟩

end vacant

/-! ## The service-port session (R338, R339) -/

/-- Each lane changed once where it holds a condition. -/
theorem foldl_onLane (p : Lane → Bool) (f : LaneId → Lane → Lane) (s : State) :
    ∃ lanes, allLanes.foldl (fun s l => s.onLane l p (f l)) s = { s with lanes := lanes } ∧
      ∀ l, lanes.get l = if p (s.lanes.get l) = true then f l (s.lanes.get l) else s.lanes.get l := by
  have step : ∀ (t : State) l, t.onLane l p (f l) = { t with lanes := t.lanes.set l (if p (t.lanes.get l) then f l (t.lanes.get l) else t.lanes.get l) } := by
    intro t l
    unfold State.onLane
    split
    · rfl
    · rw [Tri.set_get_self]
  simp only [allLanes, List.foldl_cons, List.foldl_nil, step]
  exact ⟨_, rfl, fun l => by cases l <;> rfl⟩

/-- The peer of a session of an UNOWNED controller holds the office of every running lane for the session (R339). -/
theorem State.benchHolder_lanes (s : State) (peer : Nat) : ∃ lanes, s.benchHolder peer = { s with lanes := lanes } ∧
    ∀ l, lanes.get l = if s.polvin.ipub = none ∧ (s.lanes.get l).awake = true then (s.lanes.get l).heldBy (some peer) 0 else s.lanes.get l := by
  by_cases unowned : s.polvin.ipub = none
  · obtain ⟨lanes, folded, each⟩ := foldl_onLane Lane.awake (fun l n => n.setHolder l (some peer) 0) s
    refine ⟨lanes, ((if_pos (by simp [unowned])).trans folded : s.benchHolder peer = _), fun l => ?_⟩
    simp only [each l, Lane.setHolder_some, unowned, true_and]
  · exact ⟨s.lanes, (if_neg (by simpa using unowned) : s.benchHolder peer = _), fun l => by simp [unowned]⟩

theorem Tri.mem_toList {α : Type} {t : Tri α} {x : α} : x ∈ t.toList ↔ ∃ l : LaneId, t.get l = x := by
  simp only [Tri.toList, List.mem_cons, List.not_mem_nil, or_false]
  exact ⟨fun h => by rcases h with h | h | h <;> [exact ⟨.a, h.symm⟩; exact ⟨.b, h.symm⟩; exact ⟨.c, h.symm⟩],
    fun ⟨l, h⟩ => by cases l <;> [exact .inl h.symm; exact .inr (.inl h.symm); exact .inr (.inr h.symm)]⟩

/-- What ends a session (R338): 10 s without a valid frame, a counter at its end, or a port that is not live. -/
def State.sessionOver (s : State) : Prop :=
  200000 ≤ s.port.idle ∨ (∃ l : LaneId, 0xFFFFFF ≤ s.port.txCtr.get l) ∨ (∃ l : LaneId, s.port.rxCtr.get l = some 0xFFFFFF) ∨ s.portLive = false

/-- The opening of a session by the peer's messages (R338): the exchange, whose MSG2 stands on the port, and what it proves. -/
def State.sessionExchange (s : State) (msg1 : Bytes) : Bytes × Bytes × BitVec 256 :=
  msg2Of s.polvin msg1 s.draw.1 s.draw.2.draw.1 0 s.lanes.a.main.canvas.net.self
def State.sessionProved (s : State) (peer : Nat) (msg1 msg3 : Bytes) : Bool :=
  (s.polvin.ipub.isNone || s.lanes.a.main.canvas.cmdrs.any (fun c => c.id = peer && c.svcok)) &&
    joinAuth s.polvin s.polvin.ipub.isSome msg1 (s.sessionExchange msg1).2.1 msg3 peer

section session
variable {s : State} {peer : Nat} {msg1 msg3 : Bytes}

theorem execSessionEnd_over (up : s.port.up = true) (ended : s.sessionOver) : exec .sessionEnd s = .next s.sessionDown := by
  refine congrArg Host.Outcome.next (if_pos ⟨up, ?_⟩)
  simpa [Tri.mem_toList, State.sessionOver] using ended

theorem execSessionEnd_stays (h : ¬ s.sessionOver) : exec .sessionEnd s = .next s := by
  refine congrArg Host.Outcome.next (if_neg fun ⟨_, ended⟩ => h ?_)
  simpa [Tri.mem_toList, State.sessionOver] using ended

/-- A session that ends tells its peer to every lane. -/
theorem State.sessionDown_up (up : s.port.up = true) (l : LaneId) : s.sessionDown.lanes.get l = (s.lanes.get l).told s.port.peer := by
  simp only [State.sessionDown, Tri.get_map, up, if_true]
  rfl

/-- The messages of the length that the exchange gives, on a port that is free (R338, R347). -/
def State.sessionAsked (s : State) (msg1 msg3 : Bytes) : Prop :=
  s.portLive = true ∧ s.port.up = false ∧ msg1.length = 196 ∧ msg3.length = 64

theorem execSessionOpen_refused (h : s.port.up = true ∨ s.portLive = false) : exec (.sessionOpen ⟨peer, msg1, msg3⟩) s = .next s :=
  congrArg Host.Outcome.next (if_neg fun ⟨live, free, _⟩ => by rcases h with h | h <;> simp_all)

theorem execSessionOpen_lost (asked : s.sessionAsked msg1 msg3) (lost : s.polvin.dom ≠ .on) :
    exec (.sessionOpen ⟨peer, msg1, msg3⟩) s = .next (s.setLane .a (s.lanes.a.event .a 19)) := by
  obtain ⟨live, free, len1, len3⟩ := asked
  exact congrArg Host.Outcome.next ((if_pos ⟨live, by simp [free], len1, len3⟩).trans (if_pos lost))

/-- The session as it opens, with MSG2 and MSG4 on the port; what stands for a group key that lane A does not hold is drawn (log entry 100). -/
def State.sessionOpened (s : State) (peer : Nat) (msg1 : Bytes) : Session :=
  let x := s.sessionExchange msg1
  let k := joinKeys x.2.1 x.2.2 0
  let g := (assocGet s.lanes.a.main.net.gk 0).getD (BitVec.ofNat 128 s.draw.2.draw.2.draw.1.toNat)
  { up := true, peer := some peer, key := k.1, rxCtr := Tri.all none, txCtr := Tri.all 0, idle := 0
    out := [s.openFrame peer 2 x.1, s.openFrame peer 4 (msg4Of s.lanes.a.main.net.epoch k.2 x.2.1 g)] }

theorem execSessionOpen_proved (asked : s.sessionAsked msg1 msg3) (on : s.polvin.dom = .on) (right : s.sessionProved peer msg1 msg3 = true) :
    exec (.sessionOpen ⟨peer, msg1, msg3⟩) s =
      .next ({ s.draw.2.draw.2.draw.2 with port := s.sessionOpened peer msg1 }.benchHolder peer) := by
  obtain ⟨live, free, len1, len3⟩ := asked
  exact congrArg Host.Outcome.next ((if_pos ⟨live, by simp [free], len1, len3⟩).trans ((if_neg (not_not_intro on)).trans (if_pos right)))

theorem execSessionOpen_disproved (asked : s.sessionAsked msg1 msg3) (on : s.polvin.dom = .on) (wrong : s.sessionProved peer msg1 msg3 ≠ true) :
    exec (.sessionOpen ⟨peer, msg1, msg3⟩) s = .next { s.draw.2.draw.2.setLane .a (s.lanes.a.event .a 13) with
      port := { s.port with out := [s.openFrame peer 2 (s.sessionExchange msg1).1] } } := by
  obtain ⟨live, free, len1, len3⟩ := asked
  exact congrArg Host.Outcome.next ((if_pos ⟨live, by simp [free], len1, len3⟩).trans ((if_neg (not_not_intro on)).trans (if_neg wrong)))

end session

/-- Settles O54: a vacancy is `vacated_office`; a session opens, or is refused, by what its messages prove, and ends by `sessionOver`. -/
theorem officeAndSession : Obligations.OfficeAndSession := by
  unfold Obligations.OfficeAndSession
  refine ⟨fun s l computes => ?office, fun s peer msg1 msg3 => ⟨fun live free len1 len3 => ⟨fun on => ?opens, fun lost => ?lost⟩,
    fun h => execSessionOpen_refused h⟩, fun s up => ⟨fun ended => ?ends, fun busy tx rx live => execSessionEnd_stays ?stays⟩⟩
  case office =>
    intro n put best
    refine ⟨fun gone => ?vacant, fun stands => exec_idle rfl (by simp [n, computes, stands]), fun up => ?port, fun down => ?noPort⟩
    case vacant =>
      obtain ⟨holder, cause, round, raised, mode⟩ := n.vacated_office l
      refine ⟨_, exec_acts rfl (by simp [n, computes, gone]) rfl, onlyLane_setLane _ _ _, ?_⟩
      rw [State.setLane_lanes, Tri.get_set_same]
      exact ⟨holder, cause, round, raised, mode⟩
    case port => exact ⟨exec_acts rfl (by simp [computes, up]) rfl, fun succ => exec_acts rfl (by simp [computes, up]) rfl⟩
    case noPort => exact ⟨exec_idle rfl (by simp [down]), fun succ => exec_idle rfl (by simp [down])⟩
  case opens =>
    intro x known
    by_cases right : s.sessionProved peer msg1 msg3 = true
    · obtain ⟨lanes, seated, each⟩ := State.benchHolder_lanes { s.draw.2.draw.2.draw.2 with port := s.sessionOpened peer msg1 } peer
      refine ⟨_, (execSessionOpen_proved ⟨live, free, len1, len3⟩ on right).trans (congrArg _ seated), (if_pos right).mpr ?_⟩
      exact ⟨rfl, each, rfl, rfl, rfl, rfl, fun l => ⟨Tri.get_all _ l, Tri.get_all _ l⟩, _, rfl, fun k held => by rw [held]; rfl⟩
    · refine ⟨_, execSessionOpen_disproved ⟨live, free, len1, len3⟩ on right, (if_neg right).mpr ⟨rfl, ?_⟩⟩
      exact Lane.event_status_set s.lanes.a .a 13 (evtDefault_lane .a 13 (by decide) (by decide))
  case lost =>
    exact ⟨_, execSessionOpen_lost ⟨live, free, len1, len3⟩ lost, onlyLane_setLane _ _ _,
      Lane.event_status_set s.lanes.a .a 19 (evtDefault_polvinLost .a), rfl⟩
  case ends =>
    exact ⟨_, execSessionEnd_over up ended, rfl, fun l => State.sessionDown_up up l⟩
  case stays =>
    rintro (h | ⟨l, h⟩ | ⟨l, h⟩ | h)
    · omega
    · exact absurd (tx l) (by omega)
    · exact rx l h
    · simp [live] at h

end Sys2Proof.Machine

namespace Sys2Proof.Machine
open Sys2Proof

/-! ## A lane that loses its input (R385, R387, R389, R390) -/

section input
variable (s : State) (l : LaneId)

/-- The end of a session leaves the state and the always-on domain of every lane. -/
theorem State.sessionDown_standing (k : LaneId) : (s.sessionDown.lanes.get k).state = (s.lanes.get k).state ∧
    (s.sessionDown.lanes.get k).aon = (s.lanes.get k).aon := by
  obtain ⟨p, told⟩ := s.sessionDown_lane k
  rw [told]; exact ⟨rfl, rfl⟩

/-- The steps an input below their thresholds brings into force, and its measurement (R387). -/
def PwrRegs.shed (p : PwrRegs) (mv : Nat) : PwrRegs :=
  { p with vl := mv / 10, vlmin := min p.vlmin (mv / 10), step1 := p.step1 || decide (mv < 9000), step2 := p.step2 || decide (mv < 8000)
           step4 := p.step4 || decide (mv < 7200) }

theorem execLaneShed_runs (on : (s.lanes.get l).aon.on = true) (mv : Nat) : exec (.laneShed l mv) s = .next
    (if l = .a ∧ mv < 9000 then (s.setLane l ((s.lanes.get l).onPwr fun p => p.shed mv)).sessionDown
     else s.setLane l ((s.lanes.get l).onPwr fun p => p.shed mv)) := congrArg Host.Outcome.next (if_pos on)

/-- A unit that takes in a block changes nothing of the lanes and the core (R93). -/
theorem State.receiveBlock_outside (u : UnitId) (bs : Bytes) (stale : Nat) :
    (s.receiveBlock u l bs stale).lanes = s.lanes ∧ (s.receiveBlock u l bs stale).polvin = s.polvin := by
  unfold State.receiveBlock State.loadUnit
  split
  · exact ⟨rfl, rfl⟩
  · cases u <;> exact ⟨rfl, rfl⟩

/-- Nor do the blocks still on their links as they arrive. -/
theorem State.lastBlocks_outside : (s.lastBlocks l).lanes = s.lanes ∧ (s.lastBlocks l).polvin = s.polvin := by
  refine List.foldlRecOn (motive := fun t : State => t.lanes = s.lanes ∧ t.polvin = s.polvin) _ _ ⟨rfl, rfl⟩ fun t same u _ => ?_
  split
  · next bs _ =>
    obtain ⟨lanes, core⟩ := t.receiveBlock_outside l u bs 0
    unfold State.ifRuns
    split
    · exact ⟨lanes.trans same.1, core.trans same.2⟩
    · exact same
  · exact same

/-- A lane that withdraws in every block of the tick: its posts and its check, no more (R99, R389). -/
theorem Lane.withdrawAll_rest (n : Lane) : SameBut (n.onCheck fun c => { c with withdraw := true }) (n.withdrawAll l) := by
  refine List.foldlRecOn (motive := SameBut (n.onCheck fun c => { c with withdraw := true })) _ _ (SameBut.refl _) fun m same u _ => ?_
  exact same.trans rfl

/-- The other lanes, and the core, as a lane enters RETENTION. -/
theorem State.laneSleeps_told (slept : Bool) {k : LaneId} (hk : k ≠ l) : ∃ p, (s.laneSleeps l slept).lanes.get k = (s.lanes.get k).told p := by
  obtain ⟨p, told⟩ := State.planeDown_other (s.linksDown l) hk
  rw [State.linksDown_lanes] at told
  refine ⟨p, ?_⟩
  simp only [State.laneSleeps, State.syncInhibit_lanes, State.setLane_lanes, Tri.get_set_other _ _ _ _ hk, told]

theorem State.laneSleeps_polvin (slept : Bool) : (s.laneSleeps l slept).polvin = s.polvin := by simp [State.laneSleeps]

/-- A lane as its input drops out: a computing one withdraws (R389). -/
def Lane.dropping (n : Lane) : Lane := if n.computing then n.withdrawAll l else n

/-- What becomes of a lane that drops out is what becomes of it as it sleeps, but that it computes no more: its canvas, time and check stand. -/
theorem Lane.dropping_rest (n : Lane) : (n.dropping l).main.canvas = n.main.canvas ∧ (n.dropping l).main.time = n.main.time ∧
    (n.dropping l).aon = n.aon ∧ (n.computing = true → (n.dropping l).main.check.withdraw = true) := by
  have same : n.withdrawAll l = _ := Lane.withdrawAll_rest l n
  unfold Lane.dropping
  split
  · rw [same]; exact ⟨rfl, rfl, rfl, fun _ => rfl⟩
  · next idle => exact ⟨rfl, rfl, rfl, fun computes => (idle computes).elim⟩

theorem execDropOut_awake (awake : (s.lanes.get l).awake = true) :
    exec (.dropOut l) s = .next (((s.setLane l ((s.lanes.get l).dropping l)).lastBlocks l).laneSleeps l false) :=
  congrArg Host.Outcome.next (if_pos awake)

/-- A lane that drops out: in RETENTION, withdrawn, its registers kept, its plane off and its timer started (R385, R387, R389). -/
theorem execDropOut_awake_lane : let t := ((s.setLane l ((s.lanes.get l).dropping l)).lastBlocks l).laneSleeps l false
    let n := s.lanes.get l
    let m := t.lanes.get l
    m.state = .off ∧ m.dom = .retention ∧ m.aon.pwr.phy = .off ∧ m.aon.pwr.pll = false ∧ m.aon.pwr.timerLeft = 1000 * n.aon.pwr.timer ∧
      (n.computing = true → m.main.check.withdraw = true) ∧ m.main.canvas = n.main.canvas ∧ m.main.time = n.main.time := by
  obtain ⟨lanes, -⟩ := (s.setLane l ((s.lanes.get l).dropping l)).lastBlocks_outside l
  obtain ⟨m, p, same, slept⟩ := ((s.setLane l ((s.lanes.get l).dropping l)).lastBlocks l).laneSleeps_lane l false
  rw [lanes, State.setLane_lanes, Tri.get_set_same] at same
  obtain ⟨canvas, time, aon, withdrawn⟩ := Lane.dropping_rest l (s.lanes.get l)
  have kept : m.main.canvas = ((s.lanes.get l).dropping l).main.canvas := (congrArg (fun x : Lane => x.main.canvas) same :)
  have counts : m.main.time = ((s.lanes.get l).dropping l).main.time := (congrArg (fun x : Lane => x.main.time) same :)
  have check : m.main.check = ((s.lanes.get l).dropping l).main.check := (congrArg (fun x : Lane => x.main.check) same :)
  have timer : m.aon.pwr.timer = ((s.lanes.get l).dropping l).aon.pwr.timer := (congrArg (fun x : Lane => x.aon.pwr.timer) same :)
  have phy : m.aon.pwr.phy = .off := (congrArg (fun x : Lane => x.aon.pwr.phy) same :)
  rw [aon] at timer
  dsimp only
  rw [slept]
  refine ⟨rfl, rfl, phy, rfl, congrArg (1000 * ·) timer, fun computes => ?_, kept.trans canvas, counts.trans time⟩
  exact (congrArg CheckState.withdraw check).trans (withdrawn computes)

/-- A lane that returns has its ten links to train again (R67). -/
theorem State.laneReturns_links (src : Nat) (u : UnitId) : (((s.laneReturns l src).ucom.get u).links.get l).up = false := by
  rw [UnitCommon.link_of_quiet (s.laneReturns_quiet l src u)]
  simp [UnitCommon.setLink, lostLink]

/-- To a lane that sleeps the return of its input is a wake; one that dropped out returns (R390). -/
theorem execRetentionReturn_slept (retains : (s.lanes.get l).dom = .retention) (on : (s.lanes.get l).aon.on = true)
    (slept : (s.lanes.get l).aon.pwr.slept = true) : exec (.retentionReturn l) s = .next (s.wake l .supply) :=
  congrArg Host.Outcome.next ((if_pos ⟨retains, on⟩).trans (if_pos slept))
theorem execRetentionReturn_out (retains : (s.lanes.get l).dom = .retention) (on : (s.lanes.get l).aon.on = true)
    (out : (s.lanes.get l).aon.pwr.slept = false) : exec (.retentionReturn l) s = .next (s.laneReturns l 4) :=
  congrArg Host.Outcome.next ((if_pos ⟨retains, on⟩).trans (if_neg (by simp [out])))

/-- A main domain that goes OFF, and an always-on domain, whose restart history and retirement record stand in its cells (R379, R385). -/
theorem execMainOff_down (up : (s.lanes.get l).dom ≠ .off ∨ (s.lanes.get l).state ≠ .off) : exec (.mainOff l) s = .next (s.laneDown l .off .off) :=
  congrArg Host.Outcome.next (if_neg fun ⟨down, idle⟩ => up.elim (· down) (· idle))
theorem execMainOff_idle (down : (s.lanes.get l).dom = .off) (idle : (s.lanes.get l).state = .off) : exec (.mainOff l) s = .next s :=
  congrArg Host.Outcome.next (if_pos ⟨down, idle⟩)

theorem execAlwaysOnOff_runs : exec (.alwaysOnOff l) s = .next ((s.laneDown l .off .off).setLane l
    { (s.laneDown l .off .off).lanes.get l with aon := { ((s.laneDown l .off .off).lanes.get l).aon.lasting with on := false } }) := rfl

/-- A lane that is down stays so, whatever its always-on domain then holds. -/
theorem laneDownIn_aon {s t : State} {l : LaneId} {st : LState} {dom : DomState} (isDown : laneDownIn l st dom s t) (a : Aon) :
    laneDownIn l st dom s (t.setLane l { t.lanes.get l with aon := a }) := by
  obtain ⟨state, domain, main, links, others, core⟩ := isDown
  have own : (t.setLane l { t.lanes.get l with aon := a }).lanes.get l = { t.lanes.get l with aon := a } := Tri.get_set_same _ _ _
  refine ⟨by rw [own]; exact state, by rw [own]; exact domain, by rw [own]; exact main, links, fun k hk => ?_, core⟩
  rw [State.setLane_lanes, Tri.get_set_other _ _ _ _ hk]
  exact others k hk

/-- A lane that returns, by its supply here (R386, R390, R393). -/
theorem State.laneReturns_lane (src : Nat) : let n := s.lanes.get l
    let m := (s.laneReturns l src).lanes.get l
    m.state = .boot ∧ m.dom = .on ∧ m.loader.retained = true ∧ m.aon.pwr.src = setBit n.aon.pwr.src src ∧ m.main.canvas = n.main.canvas ∧
      m.main.time.tick = n.main.time.tick := by
  have own := s.laneReturns_own l src
  exact ⟨(congrArg (fun x : Lane => x.state) own :), (congrArg (fun x : Lane => x.dom) own :), (congrArg (fun x : Lane => x.loader.retained) own :),
    (congrArg (fun x : Lane => x.aon.pwr.src) own :), (congrArg (fun x : Lane => x.main.canvas) own :),
    (congrArg (fun x : Lane => x.main.time.tick) own :)⟩

end input

/-- Settles O55: each threshold of a lane's input by what its row makes of the lane, and of no other. -/
theorem inputSteps : Obligations.InputSteps := by
  unfold Obligations.InputSteps
  intro s l
  refine ⟨fun on => ⟨fun mv => ?shed, fun mv => exec_acts rfl on rfl, exec_idle rfl (by simp [on])⟩, fun on up stays => ?dropsOut,
    fun retains => ?out, fun up => ⟨_, execMainOff_down s l up, laneDownIn_laneDown s l .off .off⟩, execMainOff_idle s l, ?lost,
    fun off => exec_acts rfl (by simp [off]) rfl, execRetentionReturn_slept s l, fun retains on out => ?returns⟩
  case shed =>
    refine ⟨_, execLaneShed_runs s l on mv, ?_⟩
    split
    case isTrue closes =>
      have standing := (s.setLane l ((s.lanes.get l).onPwr fun p => p.shed mv)).sessionDown_standing
      obtain ⟨state, aon⟩ := standing l
      rw [State.setLane_lanes, Tri.get_set_same] at state aon
      refine ⟨aon, state, rfl, rfl, rfl, rfl, fun k hk => ?_⟩
      obtain ⟨state, aon⟩ := standing k
      rw [State.setLane_lanes, Tri.get_set_other _ _ _ _ hk] at state aon
      exact ⟨aon, state⟩
    case isFalse opens =>
      rw [State.setLane_lanes, Tri.get_set_same]
      exact ⟨rfl, rfl, rfl, rfl, rfl, rfl, fun k hk => by rw [Tri.get_set_other _ _ _ _ hk]; exact ⟨rfl, rfl⟩⟩
  case dropsOut =>
    have awake : (s.lanes.get l).awake = true := by simp [Lane.awake, on, up, stays]
    obtain ⟨lanes, core⟩ := (s.setLane l ((s.lanes.get l).dropping l)).lastBlocks_outside l
    obtain ⟨state, dom, phy, pll, timer, withdrawn, canvas, time⟩ := execDropOut_awake_lane s l
    refine ⟨_, execDropOut_awake s l awake, state, dom, phy, pll, timer, withdrawn, canvas, time, fun k hk => ?_, ?_⟩
    · obtain ⟨p, told⟩ := ((s.setLane l ((s.lanes.get l).dropping l)).lastBlocks l).laneSleeps_told l false hk
      rw [told, lanes, State.setLane_lanes, Tri.get_set_other _ _ _ _ hk]
      exact ⟨rfl, rfl⟩
    · rw [State.laneSleeps_polvin, core]; rfl
  case out =>
    have still : (s.lanes.get l).awake = false := by simp [Lane.awake, retains]
    exact congrArg Host.Outcome.next ((if_neg (by simp [still])).trans (if_pos retains))
  case lost =>
    refine ⟨_, execAlwaysOnOff_runs s l, laneDownIn_aon (laneDownIn_laneDown s l .off .off) _, ?_⟩
    rw [State.setLane_lanes, Tri.get_set_same, State.laneDown_own]; rfl
  case returns =>
    obtain ⟨state, dom, retained, src, canvas, tick⟩ := s.laneReturns_lane l 4
    refine ⟨s.laneReturns l 4, execRetentionReturn_out s l retains on out, state, dom, retained, src, canvas, tick, s.laneReturns_links l 4,
      fun k hk => ?_, s.laneReturns_polvin l 4⟩
    obtain ⟨first, noted⟩ := s.laneReturns_other l 4 hk
    rw [noted]; rfl

end Sys2Proof.Machine

namespace Sys2Proof.Machine
open Sys2Proof

/-! ## The units as an entry ends (R395, R396, R398) -/

/-- Its state, domain and power registers stand where no more than a lane's views changed. -/
theorem SameBut.standing {n m : Lane} (same : SameBut n m) : m.aon = n.aon ∧ m.state = n.state ∧ m.dom = n.dom := by
  obtain ⟨units, rfl⟩ : ∃ units, m = { n with main := { n.main with units := units } } := ⟨_, same⟩
  exact ⟨rfl, rfl, rfl⟩

/-- A lane that might sleep may still, where no more than its views of the units changed and the park brake shows applied (R394). -/
theorem Lane.maySleep_of_parked {n m : Lane} (same : SameBut n m) (park : n.parkApplied = true → m.parkApplied = true)
    (may : n.maySleep = true) : m.maySleep = true := by
  obtain ⟨units, rfl⟩ : ∃ units, m = { n with main := { n.main with units := units } } := ⟨_, same⟩
  simp only [Lane.maySleep, Bool.and_eq_true] at may ⊢
  obtain ⟨⟨⟨⟨⟨before, parked⟩, mode⟩, erasing⟩, commit⟩, free⟩ := may
  exact ⟨⟨⟨⟨⟨before, park parked⟩, mode⟩, erasing⟩, commit⟩, free⟩

section unitStays
variable (s : State) (u : UnitId)

/-- A unit that is ON at the end of the entry runs on, and what waited for it acts (R395, R398). -/
def State.unitStays : State :=
  if (s.ucom.get u).dom = .on then (s.setUnit u { s.ucom.get u with slp := {} }).unitSlot u (s.ucom.get u).slp.slot else s

theorem State.unitStays_idle (h : (s.ucom.get u).dom ≠ .on) : s.unitStays u = s := if_neg h

/-- A unit that no request takes out of ON runs on as it was. -/
theorem State.unitStays_stays (on : (s.ucom.get u).dom = .on) (stays : (s.ucom.get u).slp.slot = none ∨ (s.ucom.get u).slp.slot = some .on) :
    s.unitStays u = s.setUnit u { s.ucom.get u with slp := {} } := by
  rw [State.unitStays, if_pos on]
  obtain slot | slot := stays <;> rw [slot, State.unitSlot]
  rw [State.unitRequest, if_neg (by simp [on])]

/-- One that a request takes out of ON has its link ends reset in the lanes (R67, R398). -/
theorem State.unitStays_leaves (leaves : leavesOn (s.ucom.get u)) : slotActed (s.ucom.get u).slp.slot (s.unitStays u) u ∧
    (∀ k, (s.unitStays u).lanes.get k = (s.lanes.get k).onUnit u UnitView.linkReset) ∧ OnlyUnit u s (s.unitStays u) := by
  obtain ⟨on, slot⟩ := leaves
  have start : OnlyUnit u s (s.setUnit u { s.ucom.get u with slp := {} }) :=
    ⟨fun k => .refl _, rfl, fun v hv => Ten.get_set_other _ _ _ _ hv⟩
  have runs : ((s.setUnit u { s.ucom.get u with slp := {} }).ucom.get u).dom = .on := by rw [State.setUnit_ucom, Ten.get_set_same]; exact on
  rw [State.unitStays, if_pos on]
  obtain slot | slot := slot <;> rw [slot, State.unitSlot]
  · obtain ⟨units, lanes, -⟩ := (s.setUnit u { s.ucom.get u with slp := {} }).unitSleeps_rest u
    rw [State.unitRequest, if_pos runs]
    refine ⟨?_, lanes, start.trans (State.unitSleeps_only _ u)⟩
    simp [slotActed, units]
  · obtain ⟨units, lanes, -⟩ := (s.setUnit u { s.ucom.get u with slp := {} }).unitRequest_off u
    refine ⟨?_, lanes, start.trans (State.unitRequest_only _ u _)⟩
    simp [slotActed, units]

theorem leavesOn_or (c : UnitCommon) (on : c.dom = .on) : leavesOn c ∨ c.slp.slot = none ∨ c.slp.slot = some .on := by
  unfold leavesOn
  rcases c.slp.slot with _ | target
  · exact .inr (.inl rfl)
  · cases target <;> simp [on]

/-- What the end of one unit's entry does: to the unit, its link ends in the lanes, and no more. -/
theorem State.unitStays_only : OnlyUnit u s (s.unitStays u) := by
  by_cases on : (s.ucom.get u).dom = .on
  · obtain leaves | stays := leavesOn_or _ on
    · exact (s.unitStays_leaves u leaves).2.2
    · rw [s.unitStays_stays u on stays]
      exact ⟨fun k => .refl _, rfl, fun v hv => Ten.get_set_other _ _ _ _ hv⟩
  · rw [s.unitStays_idle u on]; exact .refl u s

theorem State.unitStays_acted (on : (s.ucom.get u).dom = .on) : slotActed (s.ucom.get u).slp.slot (s.unitStays u) u := by
  obtain leaves | stays := leavesOn_or _ on
  · exact (s.unitStays_leaves u leaves).1
  · obtain slot | slot := stays <;> simp [slot, slotActed]

theorem State.unitStays_views (k : LaneId) (v : UnitId) :
    (v = u ∧ leavesOn (s.ucom.get u) → ((s.unitStays u).lanes.get k).main.units.get v = ((s.lanes.get k).main.units.get v).linkReset) ∧
    (¬ (v = u ∧ leavesOn (s.ucom.get u)) → ((s.unitStays u).lanes.get k).main.units.get v = (s.lanes.get k).main.units.get v) := by
  by_cases leaves : leavesOn (s.ucom.get u)
  · obtain ⟨-, lanes, -⟩ := s.unitStays_leaves u leaves
    rw [lanes, Lane.onUnit_view]
    exact ⟨fun h => if_pos h.1, fun h => if_neg fun same => h ⟨same, leaves⟩⟩
  · have lanes : (s.unitStays u).lanes = s.lanes := by
      by_cases on : (s.ucom.get u).dom = .on
      · rw [s.unitStays_stays u on ((leavesOn_or _ on).resolve_left leaves)]; rfl
      · rw [s.unitStays_idle u on]
    exact ⟨fun h => (leaves h.2).elim, fun _ => by rw [lanes]⟩

end unitStays

section unitsStay
variable (s : State)

/-- Each unit's entry ends by itself. -/
theorem State.unitsStay_unit (u : UnitId) : ∃ t : State, t.ucom.get u = s.ucom.get u ∧ s.unitsStay.ucom.get u = (t.unitStays u).ucom.get u :=
  foldl_visits (fun t : State => t.ucom.get u) (mem_allUnits u) (by decide : allUnits.Nodup)
    (fun t v hv => (t.unitStays_only v).2.2 u (Ne.symm hv)) s

theorem State.unitsStay_polvin : s.unitsStay.polvin = s.polvin :=
  List.foldlRecOn (motive := fun t : State => t.polvin = s.polvin) _ _ rfl fun t same u _ => (t.unitStays_only u).2.1.trans same

theorem State.unitsStay_acted {u : UnitId} (on : (s.ucom.get u).dom = .on) : slotActed (s.ucom.get u).slp.slot s.unitsStay u := by
  obtain ⟨t, same, ended⟩ := s.unitsStay_unit u
  have acted := t.unitStays_acted u (by rw [same]; exact on)
  rw [same] at acted
  unfold slotActed at *
  rwa [ended]

theorem State.unitsStay_stays {u : UnitId} (on : (s.ucom.get u).dom = .on)
    (stays : (s.ucom.get u).slp.slot = none ∨ (s.ucom.get u).slp.slot = some .on) : s.unitsStay.ucom.get u = { s.ucom.get u with slp := {} } := by
  obtain ⟨t, same, ended⟩ := s.unitsStay_unit u
  rw [ended, t.unitStays_stays u (by rw [same]; exact on) (by rw [same]; exact stays), State.setUnit_ucom, Ten.get_set_same, same]

theorem State.unitsStay_idle {u : UnitId} (down : (s.ucom.get u).dom ≠ .on) : s.unitsStay.ucom.get u = s.ucom.get u := by
  obtain ⟨t, same, ended⟩ := s.unitsStay_unit u
  rw [ended, t.unitStays_idle u (by rw [same]; exact down), same]

/-- The ends in the lanes of the links of the units that left ON are reset (R67). -/
theorem State.unitsStay_links (k : LaneId) : linkEnds (fun u => leavesOn (s.ucom.get u)) (s.lanes.get k).main (s.unitsStay.lanes.get k).main := by
  refine ⟨(congrArg (fun n : Lane => n.main) (s.unitsStay_lane k) :), fun u => ?_⟩
  obtain ⟨t, same, ended⟩ := foldl_visits (fun t : State => (t.ucom.get u, (t.lanes.get k).main.units.get u)) (f := State.unitStays) (mem_allUnits u)
    (by decide : allUnits.Nodup) (fun t v hv => by
      rw [(t.unitStays_views v k u).2 fun h => hv h.1.symm, (t.unitStays_only v).2.2 u (Ne.symm hv)]) s
  obtain ⟨common, view⟩ := Prod.ext_iff.mp same
  obtain ⟨reset, kept⟩ := t.unitStays_views u k u
  have now : (s.unitsStay.lanes.get k).main.units.get u = ((t.unitStays u).lanes.get k).main.units.get u := congrArg Prod.snd ended
  dsimp only at common view
  rw [common, view, ← now] at reset kept
  exact ⟨fun leaves => reset ⟨rfl, leaves⟩, fun stays => kept fun h => stays h.2⟩

/-- So a lane that might sleep may still (R394): it sees no park brake in a unit that left ON. -/
theorem State.unitsStay_maySleep {k : LaneId} (may : (s.lanes.get k).maySleep = true) : (s.unitsStay.lanes.get k).maySleep = true := by
  obtain ⟨-, views⟩ := s.unitsStay_links k
  have park : (s.lanes.get k).parkApplied = true → (s.unitsStay.lanes.get k).parkApplied = true := by
    simp only [Lane.parkApplied, List.all_eq_true]
    intro applied i hi
    obtain ⟨reset, kept⟩ := views (.isl i)
    by_cases leaves : leavesOn (s.ucom.get (.isl i))
    · rw [reset leaves]; rfl
    · rw [kept leaves]; exact applied i hi
  exact Lane.maySleep_of_parked (s.unitsStay_lane k) park may

end unitsStay

/-! ## The lanes as an entry ends (R395, R396, R398) -/

/-- What the requests that wait as an entry ends turn on, in a lane (R394, R398). -/
structure Waiting where
  sleepAt : Option Nat
  slot : Option DomState
  pslot : Option DomState
  awake : Bool
  maySleep : Bool
  dom : DomState

def Lane.wait (n : Lane) : Waiting :=
  { sleepAt := n.aon.pwr.sleepAt, slot := n.aon.pwr.slot, pslot := n.aon.pwr.pslot, awake := n.awake, maySleep := n.maySleep, dom := n.dom }

section laneStays
variable (s : State) {l k : LaneId}

theorem State.planeDown_wait (l k : LaneId) : ((s.planeDown l).lanes.get k).wait = (s.lanes.get k).wait := by
  by_cases hk : k = l
  · subst hk
    obtain ⟨p, own⟩ := s.planeDown_own k
    exact (congrArg Lane.wait own :)
  · obtain ⟨p, other⟩ := s.planeDown_other hk
    exact (congrArg Lane.wait other :)

/-- A request for a plane touches no main domain and nothing that waits for one. -/
theorem State.planeRequest_wait (l k : LaneId) (target : DomState) : ((s.planeRequest l target).lanes.get k).wait = (s.lanes.get k).wait := by
  cases target with
  | on =>
    dsimp only [State.planeRequest]
    split
    · by_cases hk : k = l
      · subst hk; rw [State.setLane_lanes, Tri.get_set_same]; rfl
      · rw [State.setLane_lanes, Tri.get_set_other _ _ _ _ hk]
    · rfl
  | retention => rfl
  | off => exact s.planeDown_wait l k

/-- A request for another lane's main domain is no matter of this one. -/
theorem State.laneRequest_wait (hk : k ≠ l) (target : DomState) : ((s.laneRequest l target).lanes.get k).wait = (s.lanes.get k).wait := by
  cases target with
  | on =>
    dsimp only [State.laneRequest]
    split
    · obtain ⟨f, other⟩ := s.laneReturns_other l 3 hk
      rw [other]; rfl
    · rfl
  | retention =>
    dsimp only [State.laneRequest]
    split
    · obtain ⟨p, other⟩ := s.laneSleeps_told l true hk
      rw [other]; rfl
    · rfl
  | off =>
    dsimp only [State.laneRequest]
    split
    · rfl
    · obtain ⟨p, other⟩ := s.laneDown_other l .off .off hk
      rw [other]; rfl

/-- A request for a lane's main domain that acts (R398): the lane then is where it asks for, and nothing more waits. -/
theorem State.laneRequest_acts (target : DomState) : let n := (s.lanes.get l).wait
    let m := ((s.laneRequest l target).lanes.get l).wait
    (n.sleepAt = none → m.sleepAt = none) ∧ (n.slot = none → m.slot = none) ∧ (n.pslot = none → m.pslot = none) ∧
      (target = .off → m.dom = .off) ∧ (target = .retention → n.awake = true → n.maySleep = true → m.dom = .retention) := by
  cases target with
  | on =>
    dsimp only [State.laneRequest]
    split
    · rw [s.laneReturns_own l 3]
      exact ⟨id, id, id, nofun, nofun⟩
    · exact ⟨id, id, id, nofun, nofun⟩
  | retention =>
    dsimp only [State.laneRequest]
    split
    · obtain ⟨n, p, views, own⟩ := s.laneSleeps_lane l true
      have slot : n.aon.pwr.slot = (s.lanes.get l).aon.pwr.slot := (congrArg (fun x : Lane => x.aon.pwr.slot) views :)
      rw [own]
      exact ⟨fun _ => rfl, fun none => slot.trans none, fun _ => rfl, nofun, fun _ _ _ => rfl⟩
    · next stays => exact ⟨id, id, id, nofun, fun _ awake may => (stays ⟨awake, may⟩).elim⟩
  | off =>
    dsimp only [State.laneRequest]
    split
    · next down => exact ⟨id, id, id, fun _ => down, nofun⟩
    · rw [State.laneDown_own]
      exact ⟨fun _ => rfl, fun _ => rfl, fun _ => rfl, fun _ => rfl, nofun⟩

theorem State.laneSlot_wait (hk : k ≠ l) : ((s.laneSlot l).lanes.get k).wait = (s.lanes.get k).wait := by
  unfold State.laneSlot
  extract_lets p woken s₀ s₁
  have plane : (s₁.lanes.get k).wait = (s.lanes.get k).wait := by
    have start : s₀.lanes.get k = s.lanes.get k := Tri.get_set_other _ _ _ _ hk
    unfold s₁
    split
    · rw [State.planeRequest_wait, start]
    · rw [start]
  split
  · rw [State.laneRequest_wait _ hk, plane]
  · exact plane

/-- Another lane that stays ON leaves a lane what it waits for. -/
theorem State.laneStays_wait (hk : k ≠ l) : ((s.laneStays l).lanes.get k).wait = (s.lanes.get k).wait := by
  rw [State.laneStays, State.laneSlot_wait _ hk, State.setLane_lanes, Tri.get_set_other _ _ _ _ hk]

/-- What the end of the entry makes of a lane that waited (R395, R398): nothing waits any more, and a request to leave ON has acted. -/
def entryEnded (n m : Waiting) : Prop :=
  m.sleepAt = none ∧ m.slot = none ∧ m.pslot = none ∧ (n.slot = some .off → m.dom = .off) ∧
    (n.slot = some .retention → n.awake = true → n.maySleep = true → m.dom = .retention)

theorem entryEnded_wait (n m : Lane) : entryEnded n.wait m.wait ↔ m.aon.pwr.sleepAt = none ∧ m.aon.pwr.slot = none ∧ m.aon.pwr.pslot = none ∧
    (n.aon.pwr.slot = some .off → m.dom = .off) ∧
    (n.aon.pwr.slot = some .retention → n.awake = true → n.maySleep = true → m.dom = .retention) := Iff.rfl

theorem State.laneSlot_entryEnded (none : (s.lanes.get l).aon.pwr.sleepAt = none) : entryEnded (s.lanes.get l).wait ((s.laneSlot l).lanes.get l).wait := by
  unfold State.laneSlot
  extract_lets p woken s₀ s₁
  have plane : (s₁.lanes.get l).wait = { (s.lanes.get l).wait with slot := .none, pslot := .none } := by
    have start : (s₀.lanes.get l).wait = { (s.lanes.get l).wait with slot := .none, pslot := .none } := (congrArg Lane.wait (Tri.get_set_same _ _ _) :)
    unfold s₁
    split
    · rw [State.planeRequest_wait, start]
    · exact start
  split
  case h_1 target slot =>
    obtain ⟨sleepAt, noSlot, noPlane, off, sleeps⟩ := s₁.laneRequest_acts (l := l) target
    rw [plane] at sleepAt noSlot noPlane sleeps
    have asked : (s.lanes.get l).wait.slot = some target := slot
    refine ⟨sleepAt none, noSlot rfl, noPlane rfl, fun h => off ?_, fun h => sleeps ?_⟩
    · exact Option.some.inj (asked.symm.trans h)
    · exact Option.some.inj (asked.symm.trans h)
  case h_2 idle =>
    rw [plane]
    have free : (s.lanes.get l).wait.slot = .none := idle
    exact ⟨none, rfl, rfl, fun h => by simp [free] at h, fun h => by simp [free] at h⟩

theorem State.laneStays_entryEnded : entryEnded (s.lanes.get l).wait ((s.laneStays l).lanes.get l).wait := by
  unfold State.laneStays
  extract_lets n
  have own : ((s.setLane l (n.onPwr fun p => { p with
      cancelling := false, sleepAt := none, acks := 0, phy := if n.computing then .on else p.phy })).lanes.get l) = _ := Tri.get_set_same _ _ _
  have acts := State.laneSlot_entryEnded _ (congrArg (fun m : Lane => m.aon.pwr.sleepAt) own)
  rw [own] at acts
  exact acts

/-- The requests of the lanes leave every unit's domain, and the core. -/
theorem State.planeRequest_rest (target : DomState) : (s.planeRequest l target).ucom = s.ucom ∧ (s.planeRequest l target).polvin = s.polvin := by
  cases target with
  | on => dsimp only [State.planeRequest]; split <;> exact ⟨rfl, rfl⟩
  | retention => exact ⟨rfl, rfl⟩
  | off => exact ⟨s.planeDown_ucom l, s.planeDown_polvin l⟩

theorem State.laneSleeps_dom (slept : Bool) (u : UnitId) : ((s.laneSleeps l slept).ucom.get u).dom = (s.ucom.get u).dom := by
  unfold State.laneSleeps
  refine (UnitCommon.dom_of_quiet (State.syncInhibit_quiet _ u)).trans ?_
  rw [State.setLane_ucom, State.planeDown_ucom, State.linksDown_unit]
  rfl

theorem State.laneRequest_rest (target : DomState) : (∀ u, ((s.laneRequest l target).ucom.get u).dom = (s.ucom.get u).dom) ∧
    (s.laneRequest l target).polvin = s.polvin := by
  cases target with
  | on =>
    dsimp only [State.laneRequest]
    split
    · exact ⟨fun u => (s.laneReturns_unit l 3 u).1, s.laneReturns_polvin l 3⟩
    · exact ⟨fun _ => rfl, rfl⟩
  | retention =>
    dsimp only [State.laneRequest]
    split
    · exact ⟨s.laneSleeps_dom true, s.laneSleeps_polvin l true⟩
    · exact ⟨fun _ => rfl, rfl⟩
  | off =>
    dsimp only [State.laneRequest]
    split
    · exact ⟨fun _ => rfl, rfl⟩
    · exact ⟨fun u => (UnitCommon.dom_of_quiet (s.laneDown_quiet l .off .off u)).trans rfl, s.laneDown_polvin l .off .off⟩

theorem State.laneStays_rest (l : LaneId) : (∀ u, ((s.laneStays l).ucom.get u).dom = (s.ucom.get u).dom) ∧ (s.laneStays l).polvin = s.polvin := by
  unfold State.laneStays State.laneSlot
  extract_lets n p woken s₁ s₂
  have plane : s₂.ucom = s.ucom ∧ s₂.polvin = s.polvin := by
    unfold s₂
    split
    · exact s₁.planeRequest_rest _
    · exact ⟨rfl, rfl⟩
  obtain ⟨units, core⟩ := plane
  split
  · obtain ⟨doms, same⟩ := s₂.laneRequest_rest (l := l) _
    exact ⟨fun u => (doms u).trans (by rw [units]), same.trans core⟩
  · exact ⟨fun u => by rw [units], core⟩

end laneStays


/-! ## Cancellation (R395, R398) -/

/-- Two folds over the same list whose steps agree where an invariant of both holds. -/
theorem foldl_agree {α β : Type} {f g : β → α → β} {I : β → Prop} (agree : ∀ b x, I b → f b x = g b x) (keeps : ∀ b x, I b → I (g b x))
    (xs : List α) {b : β} (hb : I b) : xs.foldl f b = xs.foldl g b := by
  induction xs generalizing b with
  | nil => rfl
  | cons x xs ih => rw [List.foldl_cons, List.foldl_cons, agree b x hb, ih (keeps b x hb)]

/-- A lane that runs on at the end of the entry (R395). -/
def Lane.staying (n : Lane) : Lane := { n with aon := { n.aon with pwr := stayed n } }

/-- No lane that enters sleep has a request waiting that takes it or its plane out of ON. -/
def restful (s : State) : Prop :=
  ∀ k, (s.lanes.get k).aon.pwr.sleepAt.isSome = true → (s.lanes.get k).dom ≠ .retention ∧ (s.lanes.get k).aon.pwr.pslot = none ∧
    ((s.lanes.get k).aon.pwr.slot = none ∨ (s.lanes.get k).aon.pwr.slot = some .on)

/-- The requests that waited are taken up; to a lane that is awake one for ON is met (R398). -/
theorem State.laneSlot_rests (s : State) (l : LaneId) (awake : (s.lanes.get l).dom ≠ .retention) (plane : (s.lanes.get l).aon.pwr.pslot = none)
    (slot : (s.lanes.get l).aon.pwr.slot = none ∨ (s.lanes.get l).aon.pwr.slot = some .on) : s.laneSlot l = s.setLane l
      ((s.lanes.get l).unslotted (decide ((s.lanes.get l).aon.pwr.slot = some .on ∧ (s.lanes.get l).aon.pwr.replay ≠ 0))) := by
  unfold State.laneSlot
  extract_lets p woken s₀ s₁
  have idle : s₁ = s₀ := by
    have none : p.pslot = .none := plane
    unfold s₁
    rw [none]
  have same : s₀ = s.setLane l ((s.lanes.get l).unslotted woken) := rfl
  have dom : (s₀.lanes.get l).dom ≠ .retention := by
    rw [same, State.setLane_lanes, Tri.get_set_same]; exact awake
  rw [idle]
  refine Eq.trans ?_ same
  obtain slot | slot := slot
  · have none : p.slot = .none := slot
    rw [none]
  · have on : p.slot = some .on := slot
    rw [on]
    exact if_neg fun ⟨down, _⟩ => dom down

theorem State.laneStays_staying (s : State) (l : LaneId) (awake : (s.lanes.get l).dom ≠ .retention) (plane : (s.lanes.get l).aon.pwr.pslot = none)
    (slot : (s.lanes.get l).aon.pwr.slot = none ∨ (s.lanes.get l).aon.pwr.slot = some .on) :
    s.laneStays l = s.setLane l (s.lanes.get l).staying := by
  unfold State.laneStays
  extract_lets n
  rw [State.laneSlot_rests] <;> rw [State.setLane_lanes, Tri.get_set_same]
  · rw [State.setLane_setLane]; rfl
  · exact awake
  · exact plane
  · exact slot

/-- A lane whose views of the units alone have changed, as it is and as it runs on. -/
theorem SameBut.main_only {n m : Lane} (same : SameBut n m) : m = { n with main := m.main } := by
  obtain ⟨units, rfl⟩ : ∃ units, m = { n with main := { n.main with units := units } } := ⟨_, same⟩
  rfl
theorem SameBut.staying {n m : Lane} (same : SameBut n m) : m.staying = { n with main := m.staying.main, aon := { n.aon with pwr := stayed n } } := by
  obtain ⟨units, rfl⟩ : ∃ units, m = { n with main := { n.main with units := units } } := ⟨_, same⟩
  rfl

/-- The entry of every lane as a fold over the lanes. -/
def State.lanesStay (s : State) : State :=
  allLanes.foldl (fun t l => if (t.lanes.get l).aon.pwr.sleepAt.isSome then t.laneStays l else t) s

theorem State.cancelSleep_eq (s : State) : s.cancelSleep = s.unitsStay.lanesStay := rfl

theorem State.lanesStay_rest (s : State) : (∀ u, (s.lanesStay.ucom.get u).dom = (s.ucom.get u).dom) ∧ s.lanesStay.polvin = s.polvin := by
  refine List.foldlRecOn (motive := fun t : State => (∀ u, (t.ucom.get u).dom = (s.ucom.get u).dom) ∧ t.polvin = s.polvin) _ _
    ⟨fun _ => rfl, rfl⟩ fun t ⟨units, core⟩ l _ => ?_
  split
  · obtain ⟨doms, same⟩ := t.laneStays_rest l
    exact ⟨fun u => (doms u).trans (units u), same.trans core⟩
  · exact ⟨units, core⟩

theorem State.lanesStay_entryEnded (s : State) {k : LaneId} (enters : (s.lanes.get k).aon.pwr.sleepAt.isSome = true) :
    entryEnded (s.lanes.get k).wait (s.lanesStay.lanes.get k).wait := by
  obtain ⟨t, same, after⟩ := foldl_visits (fun t : State => (t.lanes.get k).wait)
    (f := fun (t : State) l => if (t.lanes.get l).aon.pwr.sleepAt.isSome then t.laneStays l else t) (mem_allLanes k) (by decide : allLanes.Nodup)
    (fun t l hl => by
      split
      · exact t.laneStays_wait (Ne.symm hl)
      · rfl) s
  have still : (t.lanes.get k).aon.pwr.sleepAt.isSome = true := (congrArg (fun w : Waiting => w.sleepAt.isSome) same).trans enters
  rw [if_pos still] at after
  rw [State.lanesStay, after, ← same]
  exact t.laneStays_entryEnded

/-- Where no request waits that would take one out of ON, every lane that enters runs on, and nothing else changes. -/
theorem State.lanesStay_restful (s : State) (rest : restful s) : s.lanesStay.ucom = s.ucom ∧
    ∀ k, s.lanesStay.lanes.get k = if (s.lanes.get k).aon.pwr.sleepAt.isSome = true then (s.lanes.get k).staying else s.lanes.get k := by
  obtain ⟨lanes, folded, each⟩ := foldl_onLane (fun n => n.aon.pwr.sleepAt.isSome) (fun _ => Lane.staying) s
  suffices same : s.lanesStay = { s with lanes := lanes } by rw [same]; exact ⟨rfl, each⟩
  refine Eq.trans (foldl_agree (I := restful) (fun t l quiet => ?_) (fun t l quiet k => ?_) _ rest) folded
  · by_cases enters : (t.lanes.get l).aon.pwr.sleepAt.isSome = true
    · obtain ⟨awake, plane, slot⟩ := quiet l enters
      exact (if_pos enters).trans ((t.laneStays_staying l awake plane slot).trans (if_pos enters).symm)
    · exact (if_neg enters).trans (if_neg enters).symm
  · unfold State.onLane
    split
    · by_cases hk : k = l
      · subst hk
        rw [State.setLane_lanes, Tri.get_set_same]
        exact nofun
      · rw [State.setLane_lanes, Tri.get_set_other _ _ _ _ hk]
        exact quiet k
    · exact quiet k

/-- A cancellation ends the entry of all (R395, R398). -/
theorem sleepCancelled_cancelSleep (s : State) : sleepCancelled s s.cancelSleep := by
  have power (k : LaneId) : (s.unitsStay.lanes.get k).aon = (s.lanes.get k).aon := (s.unitsStay_lane k).standing.1
  have state (k : LaneId) : (s.unitsStay.lanes.get k).state = (s.lanes.get k).state := (s.unitsStay_lane k).standing.2.1
  have domain (k : LaneId) : (s.unitsStay.lanes.get k).dom = (s.lanes.get k).dom := (s.unitsStay_lane k).standing.2.2
  have awake (k : LaneId) : (s.unitsStay.lanes.get k).awake = (s.lanes.get k).awake := by rw [Lane.awake, Lane.awake, state, domain]
  obtain ⟨units, core⟩ := s.unitsStay.lanesStay_rest
  rw [State.cancelSleep_eq]
  refine ⟨fun k enters => ?_, fun u on => ?_, core.trans s.unitsStay_polvin, fun quiet => ?_⟩
  case refine_1 =>
    have after := (entryEnded_wait _ _).mp (s.unitsStay.lanesStay_entryEnded (k := k) (by rw [power]; exact enters))
    rw [power, awake] at after
    obtain ⟨sleepAt, slot, pslot, off, sleeps⟩ := after
    exact ⟨sleepAt, slot, pslot, off, fun waits up may => sleeps waits up (s.unitsStay_maySleep may)⟩
  case refine_2 =>
    obtain ⟨sleeps, off⟩ := s.unitsStay_acted on
    exact ⟨fun h => (units u).trans (sleeps h), fun h => (units u).trans (off h)⟩
  case refine_3 =>
    obtain ⟨common, each⟩ := s.unitsStay.lanesStay_restful (fun k => by rw [power, domain]; exact quiet k)
    rw [common]
    refine ⟨fun k => ?_, fun u => ⟨s.unitsStay_stays, s.unitsStay_idle⟩⟩
    dsimp only
    rw [each, power]
    split
    · refine ⟨?_, s.unitsStay_links k⟩
      exact (s.unitsStay_lane k).staying
    · exact ⟨(s.unitsStay_lane k).main_only, s.unitsStay_links k⟩


/-! ## Refusal (R396, R400, R401) -/

section unitReturning
variable (s : State) (u : UnitId)

/-- A unit as the entry is refused: one that it had stopped is to return (R396). -/
def State.unitReturning : State :=
  if (s.ucom.get u).dom = .retention then s.setUnit u { s.ucom.get u with slp := { returning := true, slot := (s.ucom.get u).slp.slot } }
  else (s.setUnit u { s.ucom.get u with slp := {} }).unitSlot u (s.ucom.get u).slp.slot

theorem OnlyUnit.setUnit (c : UnitCommon) : OnlyUnit u s (s.setUnit u c) := ⟨fun _ => .refl _, rfl, fun _ hv => Ten.get_set_other _ _ _ _ hv⟩

theorem State.unitSlot_only (waiting : Option DomState) : OnlyUnit u s (s.unitSlot u waiting) := by
  cases waiting with
  | none => exact .refl u s
  | some target => exact s.unitRequest_only u target

theorem State.unitReturning_only : OnlyUnit u s (s.unitReturning u) := by
  unfold State.unitReturning
  split
  · exact .setUnit s u _
  · exact (OnlyUnit.setUnit s u _).trans (State.unitSlot_only _ u _)

theorem State.unitReturning_stopped (stopped : (s.ucom.get u).dom = .retention) : ((s.unitReturning u).ucom.get u).dom = .retention ∧
    ((s.unitReturning u).ucom.get u).slp.returning = true := by
  rw [State.unitReturning, if_pos stopped, State.setUnit_ucom, Ten.get_set_same]
  exact ⟨stopped, rfl⟩

theorem State.unitReturning_runs (on : (s.ucom.get u).dom = .on) (free : (s.ucom.get u).slp.slot = none) :
    ((s.unitReturning u).ucom.get u).dom = .on ∧ ((s.unitReturning u).ucom.get u).slp = {} := by
  rw [State.unitReturning, if_neg (by simp [on]), free, State.unitSlot, State.setUnit_ucom, Ten.get_set_same]
  exact ⟨on, rfl⟩

end unitReturning

section refuse
variable (s : State) (d cause step : Nat)

theorem State.unitsReturn_unit (u : UnitId) : ∃ t : State, t.ucom.get u = s.ucom.get u ∧ s.unitsReturn.ucom.get u = (t.unitReturning u).ucom.get u :=
  foldl_visits (fun t : State => t.ucom.get u) (mem_allUnits u) (by decide : allUnits.Nodup)
    (fun t v hv => (t.unitReturning_only v).2.2 u (Ne.symm hv)) s

theorem State.unitsReturn_rest : (∀ k, SameBut (s.lanes.get k) (s.unitsReturn.lanes.get k)) ∧ s.unitsReturn.polvin = s.polvin := by
  refine List.foldlRecOn (motive := fun t : State => (∀ k, SameBut (s.lanes.get k) (t.lanes.get k)) ∧ t.polvin = s.polvin) _ _
    ⟨fun _ => .refl _, rfl⟩ fun t ⟨lanes, core⟩ u _ => ?_
  obtain ⟨lanes', core', -⟩ := t.unitReturning_only u
  exact ⟨fun k => (lanes k).trans (lanes' k), core'.trans core⟩

theorem State.unitsReturn_stopped {u : UnitId} (stopped : (s.ucom.get u).dom = .retention) :
    (s.unitsReturn.ucom.get u).dom = .retention ∧ (s.unitsReturn.ucom.get u).slp.returning = true := by
  obtain ⟨t, same, ended⟩ := s.unitsReturn_unit u
  rw [ended]
  exact t.unitReturning_stopped u (by rw [same]; exact stopped)

theorem State.unitsReturn_runs {u : UnitId} (on : (s.ucom.get u).dom = .on) (free : (s.ucom.get u).slp.slot = none) :
    (s.unitsReturn.ucom.get u).dom = .on ∧ (s.unitsReturn.ucom.get u).slp = {} := by
  obtain ⟨t, same, ended⟩ := s.unitsReturn_unit u
  rw [ended]
  exact t.unitReturning_runs u (by rw [same]; exact on) (by rw [same]; exact free)

/-- The refusal recorded in every lane (R401). -/
def State.lanesRefuse : State := allLanes.foldl (fun t l => t.setLane l ((t.lanes.get l).onPwr fun p => p.refuse d cause step)) s

theorem State.lanesRefuse_rest : (s.lanesRefuse d cause step).ucom = s.ucom ∧ (s.lanesRefuse d cause step).polvin = s.polvin ∧
    ∀ k, (s.lanesRefuse d cause step).lanes.get k = (s.lanes.get k).onPwr fun p => p.refuse d cause step := by
  obtain ⟨lanes, folded, each⟩ := foldl_onLane (fun _ => true) (fun _ n => n.onPwr fun p => p.refuse d cause step) s
  have same : s.lanesRefuse d cause step = { s with lanes := lanes } := folded
  rw [same]
  exact ⟨rfl, rfl, each⟩

/-- The lanes of those given that sleep return (R396, R400). -/
def State.lanesReturn (asleep : LaneId → Bool) : State :=
  allLanes.foldl (fun t l => if asleep l = true ∧ (t.lanes.get l).aon.on = true then t.laneReturns l 3 else t) s

theorem State.lanesReturn_rest (asleep : LaneId → Bool) : (s.lanesReturn asleep).polvin = s.polvin ∧
    ∀ u, ((s.lanesReturn asleep).ucom.get u).dom = (s.ucom.get u).dom ∧ ((s.lanesReturn asleep).ucom.get u).slp = (s.ucom.get u).slp := by
  refine List.foldlRecOn (motive := fun t : State => t.polvin = s.polvin ∧
    ∀ u, (t.ucom.get u).dom = (s.ucom.get u).dom ∧ (t.ucom.get u).slp = (s.ucom.get u).slp) _ _
    ⟨rfl, fun _ => ⟨rfl, rfl⟩⟩ fun t ⟨core, units⟩ l _ => ?_
  split
  · refine ⟨(t.laneReturns_polvin l 3).trans core, fun u => ?_⟩
    obtain ⟨dom, slp⟩ := t.laneReturns_unit l 3 u
    exact ⟨dom.trans (units u).1, slp.trans (units u).2⟩
  · exact ⟨core, units⟩

/-- The record of a refusal in a lane (R401). -/
structure Refused where
  dom : Nat
  cause : Nat
  step : Nat
  holdoff : Nat
  sleepAt : Option Nat
  count : Nat

def Lane.refused (n : Lane) : Refused :=
  { dom := n.aon.pwr.refDom, cause := n.aon.pwr.refCause, step := n.aon.pwr.refStep, holdoff := n.aon.pwr.holdoff
    sleepAt := n.aon.pwr.sleepAt, count := n.aon.pwr.refCount }

/-- Each lane returns by itself; what another's return leaves of it is all this family's statements speak of. -/
theorem State.lanesReturn_lane (asleep : LaneId → Bool) (k : LaneId) :
    ((s.lanesReturn asleep).lanes.get k).refused = (s.lanes.get k).refused ∧
    (asleep k = true → (s.lanes.get k).aon.on = true →
      ((s.lanesReturn asleep).lanes.get k).dom = .on ∧ ((s.lanesReturn asleep).lanes.get k).state = .boot) ∧
    (asleep k = false → ((s.lanesReturn asleep).lanes.get k).dom = (s.lanes.get k).dom) := by
  obtain ⟨t, same, after⟩ := foldl_visits (fun t : State => ((t.lanes.get k).refused, (t.lanes.get k).dom, (t.lanes.get k).state, (t.lanes.get k).aon.on))
    (f := fun (t : State) l => if asleep l = true ∧ (t.lanes.get l).aon.on = true then t.laneReturns l 3 else t) (mem_allLanes k)
    (by decide : allLanes.Nodup) (fun t l hl => by
      split
      · obtain ⟨f, other⟩ := t.laneReturns_other l 3 (Ne.symm hl)
        rw [other]; rfl
      · rfl) s
  simp only [Prod.mk.injEq] at same
  obtain ⟨record, dom, state, on⟩ := same
  have folded : (s.lanesReturn asleep) = allLanes.foldl (fun t l => if asleep l = true ∧ (t.lanes.get l).aon.on = true then t.laneReturns l 3 else t) s := rfl
  rw [← folded, Prod.mk.injEq, Prod.mk.injEq, Prod.mk.injEq] at after
  obtain ⟨record', dom', state', -⟩ := after
  rw [record', dom', state']
  by_cases returns : asleep k = true ∧ (t.lanes.get k).aon.on = true
  · rw [if_pos returns, t.laneReturns_own k 3]
    exact ⟨record, fun _ _ => ⟨rfl, rfl⟩, fun awake => by simp [awake] at returns⟩
  · rw [if_neg returns]
    exact ⟨record, fun sleeps powered => (returns ⟨sleeps, on.trans powered⟩).elim, fun _ => dom⟩

theorem State.refuseSleep_eq : s.refuseSleep d cause step = ((s.unitsReturn.lanesRefuse d cause step).lanesReturn
    fun l => decide ((s.lanes.get l).dom = .retention) && (s.lanes.get l).aon.pwr.slept).polvinWakes := rfl

/-- A refusal is recorded, and brings back what the entry had stopped (R396, R400). -/
theorem sleepRefused_refuseSleep : sleepRefused d cause step s (s.refuseSleep d cause step) := by
  rw [State.refuseSleep_eq]
  obtain ⟨lanes, stopped⟩ := s.unitsReturn_rest
  obtain ⟨units, core, refused⟩ := s.unitsReturn.lanesRefuse_rest d cause step
  generalize hasleep : (fun l => decide ((s.lanes.get l).dom = .retention) && (s.lanes.get l).aon.pwr.slept) = asleep
  obtain ⟨same, common⟩ := (s.unitsReturn.lanesRefuse d cause step).lanesReturn_rest asleep
  have each := (s.unitsReturn.lanesRefuse d cause step).lanesReturn_lane asleep
  have aon (k : LaneId) : (s.unitsReturn.lanes.get k).aon = (s.lanes.get k).aon := (lanes k).standing.1
  have dom (k : LaneId) : (s.unitsReturn.lanes.get k).dom = (s.lanes.get k).dom := (lanes k).standing.2.2
  refine ⟨fun k => ?recorded, fun k sleeps on slept => ?returns, fun k sleeps out => ?stays, fun u sleeps => ?unit, fun u on free => ?runs, ?core⟩
  case recorded =>
    obtain ⟨record, -⟩ := each k
    rw [refused k] at record
    exact ⟨congrArg Refused.dom record, congrArg Refused.cause record, congrArg Refused.step record, congrArg Refused.holdoff record,
      congrArg Refused.sleepAt record, (congrArg Refused.count record).trans (congrArg (fun a : Aon => satAdd 16 a.pwr.refCount 1) (aon k))⟩
  case returns =>
    obtain ⟨-, back, -⟩ := each k
    refine back (by simp [← hasleep, sleeps, slept]) ?_
    rw [refused k]
    exact (congrArg (fun a : Aon => a.on) (aon k)).trans on
  case stays =>
    obtain ⟨-, -, still⟩ := each k
    have now := still (by simp [← hasleep, out])
    rw [refused k] at now
    exact now.trans ((dom k).trans sleeps)
  case unit =>
    obtain ⟨dom, slp⟩ := common u
    obtain ⟨retained, returning⟩ := s.unitsReturn_stopped sleeps
    rw [units] at dom slp
    exact ⟨dom.trans retained, (congrArg UnitSleep.returning slp).trans returning⟩
  case runs =>
    obtain ⟨dom, slp⟩ := common u
    obtain ⟨runs, clear⟩ := s.unitsReturn_runs on free
    rw [units] at dom slp
    exact ⟨dom.trans runs, slp.trans clear⟩
  case core => rw [State.polvinWakes, same, core, stopped]

end refuse

/-! ## Acknowledgement (R395) -/

/-- A lane with the acknowledgement of a unit. -/
def Lane.acked (n : Lane) (u : UnitId) : Lane := n.onPwr fun p => { p with acks := setBit p.acks u.idx }

/-- SLEEP_ACK of a unit on those of its links that are up. -/
theorem execSleep_acks {s : State} {u : UnitId} (runs : s.runs u = true) (since : (s.ucom.get u).slp.since = some 1)
    (admits : (s.ucom.get u).admitted ≠ []) (heard : ∀ l ∈ (s.ucom.get u).admitted, (s.ucom.get u).slp.heard.testBit l.idx = true) :
    ∃ lanes, exec (.sleep u) s = .next { s.setUnit u { s.ucom.get u with slp := { (s.ucom.get u).slp with ack := true } } with lanes := lanes } ∧
      ∀ l, lanes.get l = if ((s.ucom.get u).links.get l).up = true then
        (s.lanes.get l).acked u else s.lanes.get l := by
  have all : (s.ucom.get u).admitted.all (fun l => (s.ucom.get u).slp.heard.testBit l.idx) = true := List.all_eq_true.mpr heard
  obtain ⟨lanes, folded, each⟩ := foldl_onLane (fun _ => true) (fun l n => if ((s.ucom.get u).links.get l).up = true then n.acked u else n)
    (s.setUnit u { s.ucom.get u with slp := { (s.ucom.get u).slp with ack := true } })
  refine ⟨lanes, congrArg Host.Outcome.next ((if_pos runs).trans ((if_pos ⟨since, admits, all⟩).trans (Eq.trans ?_ folded))), each⟩
  refine foldl_agree (I := fun _ => True) (fun t l _ => ?_) (fun _ _ _ => trivial) _ trivial
  by_cases up : ((s.ucom.get u).links.get l).up = true
  · rw [if_pos up, State.onLane_pos rfl]
    exact congrArg (t.setLane l) (if_pos up).symm
  · rw [if_neg up]
    refine (State.onLane_same ?_).symm
    exact if_neg up

/-- The plane of a lane with every acknowledgement is off (R395). -/
theorem State.planeDown_acked (s : State) (l : LaneId) :
    ((s.planeDown l).lanes.get l).aon = { (s.lanes.get l).aon with pwr := { (s.lanes.get l).aon.pwr with phy := .off } } ∧
    ((s.planeDown l).lanes.get l).state = (s.lanes.get l).state := by
  obtain ⟨p, own⟩ := s.planeDown_own l
  exact ⟨(congrArg (fun n : Lane => n.aon) own :), (congrArg (fun n : Lane => n.state) own :)⟩

theorem State.allAcked_iff (s : State) (l : LaneId) : s.allAcked l = true ↔
    ∀ u, ((s.ucom.get u).links.get l).up = true → (s.lanes.get l).aon.pwr.acks.testBit u.idx = true := by
  simp only [State.allAcked, List.all_eq_true, Bool.or_eq_true, Bool.not_eq_true']
  refine ⟨fun acked u up => (acked u (mem_allUnits u)).resolve_left (by simp [up]), fun acked u _ => ?_⟩
  by_cases up : ((s.ucom.get u).links.get l).up = true
  · exact .inr (acked u up)
  · exact .inl (by simpa using up)

/-- Settles O56: the entry's acknowledgement, its cancellation of all, and the refusal of each kind of member. -/
theorem sleepEntry : Obligations.SleepEntry := by
  unfold Obligations.SleepEntry
  intro s step
  refine ⟨fun u runs since admits heard => ?sleeps, fun l entry => ⟨fun acked => ?acked, fun ⟨u, up, silent⟩ => ?silent⟩,
    fun l => ⟨fun enters => ⟨_, congrArg Host.Outcome.next (if_pos enters), sleepCancelled_cancelSleep s⟩,
      fun idle => congrArg Host.Outcome.next (if_neg (by simp [idle]))⟩,
    fun l enters busy => ⟨_, congrArg Host.Outcome.next (if_pos ⟨enters, busy⟩), sleepRefused_refuseSleep s _ _ _⟩,
    fun u enters busy => ⟨_, congrArg Host.Outcome.next (if_pos ⟨enters, busy⟩), sleepRefused_refuseSleep s _ _ _⟩, fun on busy asleep => ?core⟩
  case sleeps =>
    obtain ⟨lanes, acks, each⟩ := execSleep_acks runs since admits heard
    exact ⟨_, acks, rfl, rfl, each⟩
  case acked =>
    obtain ⟨aon, state⟩ := s.planeDown_acked l
    exact ⟨s.planeDown l, congrArg Host.Outcome.next ((if_pos entry).trans (if_pos ((s.allAcked_iff l).mpr acked))), aon, s.planeDown_ucom l, state⟩
  case silent =>
    have missing : ¬ s.allAcked l = true := fun acked => by simp [(s.allAcked_iff l).mp acked u up] at silent
    exact ⟨s.cancelSleep, congrArg Host.Outcome.next ((if_pos entry).trans (if_neg missing)), sleepCancelled_cancelSleep s⟩
  case core =>
    have cause : s.polvinCause = 6 := if_pos busy
    have down : allLanes.all (fun l => decide ((s.lanes.get l).dom ≠ .on)) = true := List.all_eq_true.mpr fun l _ => decide_eq_true (asleep l)
    refine ⟨s.refuseSleep 14 s.polvinCause 5, congrArg Host.Outcome.next (if_pos ⟨on, by simp [cause], down⟩), ?_⟩
    rw [cause]
    exact sleepRefused_refuseSleep s 14 6 5

end Sys2Proof.Machine
